-- ==== Sys2Proof/Word.lean ====
section
/-! DEFINITION. The word types of the part and nothing else.
A register is 32 bits (R443), a store word 64 bits with its check byte (R24, R396), a bus position 64 bits (R90). -/

namespace Sys2Proof

/-- A register of a page (R443). -/
abbrev Word := BitVec 32
/-- The data of a store word (R4, R396). -/
abbrev DWord := BitVec 64
/-- A store word with its check byte: check in bits 71:64, data in bits 63:0 (R396). -/
abbrev CWord := BitVec 72
/-- A byte. -/
abbrev Byte := BitVec 8

end Sys2Proof
end

