-- ==== Sys2Proof/Config.lean ====
section
/-! DEFINITION. What the spec leaves open: constants with no body, so that nothing can be proved of their values. -/

namespace Sys2Proof

/-- The free values: the value numbered by a counter of the state (assumption 4). -/
opaque Config.freeValue (w : Nat) : Nat → BitVec w

/-- AES-128-CMAC of a byte string under a key, full tag (R245, R537). The manual names the standard and does not restate it. -/
opaque Config.cmac (key : BitVec 128) (msg : List Byte) : BitVec 128

/-- Ed25519 verification of a signature over a message by a public key (R483). The manual names the standard. -/
opaque Config.ed25519 (pub : BitVec 256) (msg : List Byte) (sig : BitVec 512) : Bool

/-- The n-th random challenge of the debug port (R537). -/
opaque Config.challenge (n : Nat) : BitVec 128

/-- Coefficient `tap` of half-band stage `stage` (1-10), in units of 2^-halfBandBits; the tap counts from the nearer end, as the
response is symmetric (R169, R170, assumption 8). The manual gives no coefficients. -/
opaque Config.halfBand (stage tap : Nat) : Int

/-- The fraction bits of the half-band coefficients (R170). -/
opaque Config.halfBandBits : Nat

/-- The servo's quotient where the interval between two Sync messages is 0 ns (R285 divides by it). -/
opaque Config.servoQuot (offset : Int) : Int

/-- A tile's fill where its work budget TBUD is 0 (R59 divides by it), by its load. -/
opaque Config.fillNoBudget : Nat → Nat

end Sys2Proof
end

