-- ==== Sys2Proof/Machine/Bits.lean ====
section
/-! DEFINITION. Bit fields, saturation and two's complement over the words of the part (R2, R4). -/

namespace Sys2Proof.Machine

/-- Field of `n` bits at bit `lo` of a number. -/
def natField (x lo n : Nat) : Nat := (x >>> lo) % 2 ^ n

/-- Field of `n` bits at bit `lo` of a register. -/
def field (v : Word) (lo n : Nat) : Nat := natField v.toNat lo n

/-- Bit `i` of a register. -/
def bitOf (v : Word) (i : Nat) : Bool := v.getLsbD i

/-- The register with `n` bits at bit `lo` replaced by `x` modulo `2 ^ n`. -/
def putField (v : Word) (lo n x : Nat) : Word :=
  let m : Word := BitVec.ofNat 32 ((2 ^ n - 1) <<< lo)
  (v &&& ~~~ m) ||| (BitVec.ofNat 32 ((x % 2 ^ n) <<< lo))

/-- The register with bit `i` made `b`. -/
def putBit (v : Word) (i : Nat) (b : Bool) : Word := putField v i 1 (if b then 1 else 0)

/-- A register from a number, modulo 2^32. -/
def w32 (x : Nat) : Word := BitVec.ofNat 32 x

/-- The low half of a 64-bit number as a register. -/
def lo32 (x : Nat) : Word := BitVec.ofNat 32 x

/-- The high half of a 64-bit number as a register. -/
def hi32 (x : Nat) : Word := BitVec.ofNat 32 (x >>> 32)

/-- A 64-bit number from its two registers. -/
def join64 (lo hi : Word) : Nat := hi.toNat * 2 ^ 32 + lo.toNat

/-- One bit as a number. -/
def b2n (b : Bool) : Nat := if b then 1 else 0

/-- The signed reading of the low `n` bits of a number (two's complement). -/
def sintOf (x n : Nat) : Int :=
  let y := x % 2 ^ n
  if y < 2 ^ (n - 1) then (y : Int) else (y : Int) - (2 ^ n : Nat)

/-- The signed field of `n` bits at `lo`. -/
def sfield (v : Word) (lo n : Nat) : Int := sintOf (field v lo n) n

/-- The low `n` bits of a signed number, two's complement. -/
def natOf (x : Int) (n : Nat) : Nat := (x % (2 ^ n : Nat)).toNat

/-- `x` held to `lo .. hi`. -/
def clampNat (lo hi x : Nat) : Nat := if x < lo then lo else if hi < x then hi else x

/-- `x` held to `lo .. hi`. -/
def clampInt (lo hi x : Int) : Int := if x < lo then lo else if hi < x then hi else x

/-- Floor division of a signed number by a positive one. -/
def floorDiv (x : Int) (d : Nat) : Int := x.fdiv d

/-- Ceiling division. -/
def ceilDiv (x d : Nat) : Nat := (x + d - 1) / d

/-- Round half away from zero of a signed number over a positive one. -/
def roundDiv (x : Int) (d : Nat) : Int :=
  if 0 ≤ x then ((x.toNat * 2 + d) / (2 * d) : Nat) else - (((-x).toNat * 2 + d) / (2 * d) : Nat)

/-- The modular difference `a - b` read as a signed number of `n` bits. -/
def sdiffMod (a b n : Nat) : Int := sintOf (a + 2 ^ n - b % 2 ^ n) n

/-- The bytes of a number, least significant first (R457). -/
def bytesOf : Nat → Nat → List Byte
  | 0, _ => []
  | n + 1, x => BitVec.ofNat 8 x :: bytesOf n (x >>> 8)

/-- The number of a list of bytes, least significant first (R457). -/
def ofBytes : List Byte → Nat
  | [] => 0
  | b :: bs => b.toNat + 256 * ofBytes bs

/-- The set bits of a number below `n`, ascending. -/
def bitsBelow (x n : Nat) : List Nat := (List.range n).filter (fun i => x.testBit i)

end Sys2Proof.Machine
end

