-- ==== Sys2Proof/Machine/RegMap.lean ====
section
/-! DEFINITION. The register map of the part: one row for every register table line of the chapters (R443, R445, R546),
made by a script from the spec's tables (offset, stride, count, access code, reset value, implemented bits, whether it
counts under R315), and the name of every register as its byte address (page x 1,024 + offset, R443). A reset value the
spec does not give (a dash, "From image", "From journal", "From fuses") is 0 here, DEV.STEP 0x4201: DESIGN CHOICE,
assumption 1. -/

namespace Sys2Proof.Machine

/-- The access codes (R450). -/
inductive Access where
  | ro | rw | rw1c | wo | rwl
  deriving DecidableEq, Repr

/-- One register table line: `count` registers from offset `off`, `stride` apart. -/
structure RegRow where
  off : Nat
  stride : Nat
  count : Nat
  access : Access
  reset : Word
  mask : Word
  counter : Bool
  deriving DecidableEq, Repr

/-- The kinds of page (R546). -/
inductive PageClass where
  | hop
  | hoplim0
  | hoplim1
  | whl
  | mrc
  | mrg
  | cnv
  | exc
  | fil
  | fcoe
  | weir
  | pls
  | trip
  | seg
  | node
  | ptp
  | ptpp
  | upl
  | talg
  | strm
  | alq
  | leat
  | leatc
  | tile
  | clu
  | flc
  | jrn
  | ecc
  | hpt
  | dev
  | boot
  | mon
  | pwr
  | gpio
  | dbgc
  deriving DecidableEq, Repr

/-- The listed pages (R546): first page, number of pages, kind, block type code. -/
def pageRanges : List (Nat × Nat × PageClass × Nat) := [
  (0x0000, 1, .dev, 0x0001),
  (0x0001, 1, .hpt, 0x0002),
  (0x0002, 1, .boot, 0x0003),
  (0x0003, 1, .mon, 0x0004),
  (0x0004, 1, .pwr, 0x0005),
  (0x0005, 1, .dbgc, 0x0006),
  (0x0006, 1, .gpio, 0x0007),
  (0x0008, 4, .whl, 0x0010),
  (0x0010, 8, .mrc, 0x0011),
  (0x0018, 1, .mrg, 0x0012),
  (0x0020, 1, .hop, 0x0018),
  (0x0022, 1, .hoplim0, 0x0019),
  (0x0023, 1, .hoplim1, 0x0019),
  (0x0030, 1, .leat, 0x0020),
  (0x0031, 4, .leatc, 0x0021),
  (0x0040, 8, .cnv, 0x0028),
  (0x0048, 1, .exc, 0x0029),
  (0x004A, 2, .fil, 0x002A),
  (0x0050, 6, .fcoe, 0x002B),
  (0x0060, 2, .weir, 0x0030),
  (0x0068, 1, .pls, 0x0031),
  (0x0069, 1, .trip, 0x0032),
  (0x0080, 16, .seg, 0x0038),
  (0x00A0, 16, .node, 0x0039),
  (0x00B0, 1, .ptp, 0x003A),
  (0x00B1, 1, .ptpp, 0x003B),
  (0x00B8, 2, .upl, 0x003C),
  (0x00C0, 1, .talg, 0x0040),
  (0x00C8, 1, .strm, 0x0041),
  (0x00C9, 1, .alq, 0x0042),
  (0x00D0, 1, .flc, 0x0048),
  (0x00D1, 1, .jrn, 0x0049),
  (0x00D2, 1, .ecc, 0x004A),
  (0x0100, 128, .tile, 0x0050),
  (0x0180, 8, .clu, 0x0051)]

/-- The kind of a page and its instance in its range, or none for an unlisted page (R444, R547). -/
def pageKind? (page : Nat) : Option (PageClass × Nat) :=
  (pageRanges.find? (fun r => r.1 ≤ page && page < r.1 + r.2.1)).map (fun r => (r.2.2.1, page - r.1))

/-- The common header of every listed page (R445). -/
def headerRows : List RegRow := [
  ⟨0x000, 0, 1, .ro, 0x0, 0xFFFFFFFF, false⟩ /- PGID -/,
  ⟨0x004, 0, 1, .ro, 0x0, 0xFFFFFFFF, false⟩ /- PGCAP -/,
  ⟨0x008, 0, 1, .rw, 0x1, 0xFFFFFFFF, false⟩ /- PGCTL -/,
  ⟨0x00C, 0, 1, .ro, 0x1, 0xFFFFFFFF, false⟩ /- PGSTA -/,
  ⟨0x010, 0, 1, .rw1c, 0x0, 0xFFFFFFFF, false⟩ /- IRAW -/,
  ⟨0x014, 0, 1, .rw, 0x0, 0xFFFFFFFF, false⟩ /- IENA -/,
  ⟨0x018, 0, 1, .ro, 0x0, 0xFFFFFFFF, false⟩ /- IOUT -/,
  ⟨0x01C, 0, 1, .wo, 0x0, 0xFFFFFFFF, false⟩ /- ISET -/,
  ⟨0x020, 0, 1, .rw, 0x0, 0xFFFFFFFF, false⟩ /- EVSEL -/,
  ⟨0x024, 0, 1, .rw, 0x0, 0xFFFFFFFF, false⟩ /- EVIN -/,
  ⟨0x028, 0, 1, .ro, 0x0, 0xFFFFFFFF, true⟩ /- ERRCNT -/,
  ⟨0x02C, 0, 1, .ro, 0x0, 0xFFFFFFFF, false⟩ /- ERRLOG -/,
  ⟨0x030, 0, 1, .wo, 0x0, 0xFFFFFFFF, false⟩ /- SNAP -/,
  ⟨0x034, 0, 1, .ro, 0x0, 0xFFFFFFFF, false⟩ /- SNAPSTA -/]

/-- The block registers of a kind of page, in the order of its chapter's table. -/
def blockRows : PageClass → List RegRow
  | .hop => [
    ⟨0x040, 0, 1, .rw, 0x0, 0x1F, false⟩ /- HCTL -/,
    ⟨0x044, 0, 1, .rw, 0x3E8, 0xFFFFF, false⟩ /- EVAL -/,
    ⟨0x048, 0, 1, .rw, 0x8201004, 0xFFFFFFFF, false⟩ /- WEIGHT -/,
    ⟨0x04C, 0, 1, .rw, 0x695540CD, 0xFFFFFFFF, false⟩ /- TARGET -/,
    ⟨0x050, 0, 1, .rw, 0x5, 0xFF, false⟩ /- THERM -/,
    ⟨0x054, 0, 1, .rw, 0x4E20, 0xFFFFF, false⟩ /- MIGMIN -/,
    ⟨0x058, 0, 1, .rw, 0x10, 0xFF, false⟩ /- PINWAIT -/,
    ⟨0x05C, 4, 4, .rw, 0x0, 0xFFFFFFFF, false⟩ /- FORBID -/,
    ⟨0x06C, 0, 1, .wo, 0x0, 0x80003FFF, false⟩ /- MOVE0 -/,
    ⟨0x070, 0, 1, .wo, 0x0, 0xFF7FFF, false⟩ /- MOVE1 -/,
    ⟨0x074, 0, 1, .ro, 0x0, 0xFFFFFF3F, false⟩ /- MVSTA -/,
    ⟨0x078, 0, 1, .ro, 0x0, 0xFF0F3FFF, false⟩ /- MVDONE0 -/,
    ⟨0x07C, 0, 1, .ro, 0x0, 0xFFFFFFFF, false⟩ /- MVDONE1 -/,
    ⟨0x080, 0, 1, .rw, 0x0, 0xFF0FFFFF, false⟩ /- PRDPT -/,
    ⟨0x084, 0, 1, .ro, 0x0, 0xFF000007, false⟩ /- PRDSTA -/,
    ⟨0x088, 4, 8, .ro, 0x0, 0xFFFFFFFF, false⟩ /- PRDW -/,
    ⟨0x0A8, 0, 1, .rw, 0x0, 0x3FFF, false⟩ /- MAPIDX -/,
    ⟨0x0AC, 0, 1, .rw, 0x0, 0xFFFF, false⟩ /- MAPDAT -/,
    ⟨0x0B0, 0, 1, .wo, 0x0, 0x3FFF, false⟩ /- PINCLR -/,
    ⟨0x0B4, 0, 1, .ro, 0x0, 0xFFFFFFFF, false⟩ /- PINCNT -/,
    ⟨0x0B8, 0, 1, .ro, 0x0, 0xFFFFFFFF, true⟩ /- MIGCNT -/,
    ⟨0x0BC, 0, 1, .ro, 0x0, 0xFFFFFFFF, true⟩ /- LATECNT -/,
    ⟨0x0C0, 0, 1, .ro, 0x0, 0xFF7F, false⟩ /- HSTA -/]
  | .hoplim0 => [
    ⟨0x040, 4, 128, .rwl, 0x1312D00, 0xFFFFFFFF, false⟩ /- TBUD -/]
  | .hoplim1 => [
    ⟨0x040, 4, 8, .rwl, 0x10, 0x1F, false⟩ /- CTMAX -/,
    ⟨0x060, 4, 8, .rwl, 0x1312D000, 0xFFFFFFFF, false⟩ /- CBUD -/,
    ⟨0x080, 4, 4, .rw1c, 0x0, 0xFFFFFFFF, false⟩ /- RETIRE -/,
    ⟨0x090, 4, 4, .ro, 0x0, 0xFFFFFFFF, false⟩ /- RETPEND -/,
    ⟨0x0A0, 4, 32, .ro, 0x0, 0xFFFFFFFF, false⟩ /- TLCNT -/,
    ⟨0x120, 4, 128, .ro, 0x0, 0xFFFFFFFF, false⟩ /- TLOAD -/]
  | .whl => [
    ⟨0x040, 0, 1, .rw, 0x4, 0x3F, false⟩ /- CFG -/,
    ⟨0x044, 0, 1, .ro, 0x0, 0xFFFFFFFF, false⟩ /- POSL -/,
    ⟨0x048, 0, 1, .ro, 0x1, 0xFFFFFFFF, false⟩ /- POSH -/,
    ⟨0x04C, 0, 1, .ro, 0x0, 0xFFFFFFFF, false⟩ /- HIGHL -/,
    ⟨0x050, 0, 1, .ro, 0x1, 0xFFFFFFFF, false⟩ /- HIGHH -/,
    ⟨0x054, 0, 1, .ro, 0x0, 0xFFFFFFFF, false⟩ /- RATE -/,
    ⟨0x058, 0, 1, .rw, 0xFFFFFFFF, 0xFFFFFFFF, false⟩ /- RATECAP -/,
    ⟨0x05C, 0, 1, .rw, 0x3FF, 0xFFFF, false⟩ /- LINES -/,
    ⟨0x060, 0, 1, .rw, 0x8, 0xFF, false⟩ /- EDGEF -/,
    ⟨0x064, 0, 1, .rw, 0x186A0, 0xFFFFF, false⟩ /- TSTOP -/,
    ⟨0x068, 0, 1, .rw, 0x0, 0xFFFFFFFF, false⟩ /- MOFFS -/,
    ⟨0x06C, 0, 1, .rw, 0x3E81E19, 0xFFFF3F1F, false⟩ /- MLOOP -/,
    ⟨0x070, 0, 1, .ro, 0x1312D00, 0xFFFFFFFF, false⟩ /- MPER -/,
    ⟨0x074, 0, 1, .ro, 0x0, 0xFFFFFFFF, false⟩ /- MERR -/,
    ⟨0x078, 0, 1, .rw, 0x0, 0xFFFFFFFF, false⟩ /- SDIV -/,
    ⟨0x07C, 0, 1, .rw, 0x1, 0xFFFFFFFF, false⟩ /- STEPINC -/,
    ⟨0x080, 0, 1, .wo, 0x0, 0xFFFFFFFF, false⟩ /- STEP -/,
    ⟨0x084, 0, 1, .wo, 0x0, 0xFFFFFFFF, false⟩ /- REBASE -/,
    ⟨0x088, 0, 1, .ro, 0x0, 0x7FF, false⟩ /- STA -/,
    ⟨0x08C, 0, 1, .ro, 0x0, 0xFFFFFFFF, true⟩ /- IDXERR -/,
    ⟨0x090, 0, 1, .ro, 0x0, 0xFFFFFFFF, true⟩ /- SWEPT -/,
    ⟨0x094, 0, 1, .ro, 0x0, 0xFFFFFFFF, true⟩ /- REVCNT -/,
    ⟨0x098, 0, 1, .ro, 0x0, 0xFFFFFFFF, true⟩ /- OVSCNT -/]
  | .mrc => [
    ⟨0x040, 0, 1, .rw, 0x1, 0x1, false⟩ /- MCTL -/,
    ⟨0x044, 0, 1, .ro, 0x0, 0x7FFFF, false⟩ /- DUEH -/,
    ⟨0x048, 0, 1, .ro, 0x0, 0xFFFFFFFF, false⟩ /- DUEPL -/,
    ⟨0x04C, 0, 1, .ro, 0x0, 0xFFFFFFFF, false⟩ /- DUEPH -/,
    ⟨0x050, 0, 1, .rw, 0x3E8, 0xFFFFF, false⟩ /- LATETOL -/,
    ⟨0x054, 0, 1, .rw, 0xFA0, 0xFFFF, false⟩ /- ARMAHD -/,
    ⟨0x058, 0, 1, .ro, 0x0, 0xFFFF, false⟩ /- LANES -/,
    ⟨0x05C, 0, 1, .ro, 0x0, 0x1FFFF, false⟩ /- TICKETS -/,
    ⟨0x060, 0, 1, .ro, 0x0, 0xFFFFFFFF, true⟩ /- DISPCNT -/,
    ⟨0x064, 0, 1, .ro, 0x0, 0xFFFFFFFF, true⟩ /- ACTCNT -/,
    ⟨0x068, 0, 1, .ro, 0x0, 0xFFFFFFFF, true⟩ /- LATECNT -/,
    ⟨0x06C, 0, 1, .ro, 0x0, 0xFFFFFFFF, true⟩ /- SKIPCNT -/,
    ⟨0x070, 0, 1, .ro, 0x0, 0xFFFFFFFF, true⟩ /- MISSCNT -/,
    ⟨0x074, 0, 1, .ro, 0x0, 0xFFFFFFFF, true⟩ /- WLATE -/,
    ⟨0x078, 0, 1, .ro, 0x0, 0xFFFFFFFF, true⟩ /- WAKECNT -/,
    ⟨0x07C, 0, 1, .ro, 0x0, 0xFFFFFFFF, true⟩ /- ARMFULL -/,
    ⟨0x080, 0, 1, .ro, 0x0, 0xFFFF, false⟩ /- WAITQ -/]
  | .mrg => [
    ⟨0x040, 0, 1, .rw, 0x0, 0x3FFFF, false⟩ /- CALIDX -/,
    ⟨0x044, 4, 8, .rw, 0x0, 0xFFFFFFFF, false⟩ /- CALD -/,
    ⟨0x064, 0, 1, .wo, 0x0, 0x3, false⟩ /- CALCMD -/,
    ⟨0x068, 0, 1, .ro, 0x0, 0x7, false⟩ /- CALSTA -/,
    ⟨0x06C, 0, 1, .ro, 0x0, 0xFFFFFFFF, true⟩ /- LSLOTW -/,
    ⟨0x070, 0, 1, .ro, 0x0, 0xFFFFFFFF, true⟩ /- TSLOTW -/,
    ⟨0x074, 0, 1, .ro, 0x0, 0x1FFFF, false⟩ /- TKTLIVE -/]
  | .cnv => [
    ⟨0x040, 0, 1, .rw, 0x0, 0x7FF, false⟩ /- CCTL -/,
    ⟨0x044, 0, 1, .rw, 0x0, 0x3, false⟩ /- INSEL -/,
    ⟨0x048, 0, 1, .rw, 0x0, 0x7777, false⟩ /- IMODE -/,
    ⟨0x04C, 0, 1, .rw, 0x4000401, 0xFFFF077F, false⟩ /- RNG -/,
    ⟨0x050, 0, 1, .rw, 0x0, 0xFFFF, false⟩ /- MUXSET -/,
    ⟨0x054, 0, 1, .rw, 0x0, 0xFFFF, false⟩ /- SCANL -/,
    ⟨0x058, 0, 1, .rw, 0x0, 0x1FF07, false⟩ /- SCANCTL -/,
    ⟨0x05C, 0, 1, .rw, 0x0, 0xFF, false⟩ /- BURN -/,
    ⟨0x060, 0, 1, .wo, 0x0, 0x1, false⟩ /- SCANGO -/,
    ⟨0x064, 4, 5, .rw, 0x0, 0xFFFFFF, false⟩ /- GTRIM -/,
    ⟨0x078, 4, 5, .rw, 0x0, 0xFFFFFF, false⟩ /- OTRIM -/,
    ⟨0x08C, 0, 1, .ro, 0x0, 0x1FFF7, false⟩ /- STA -/,
    ⟨0x090, 0, 1, .ro, 0x0, 0x7777, false⟩ /- LASTR -/,
    ⟨0x094, 0, 1, .ro, 0x0, 0xFFFFFFFF, true⟩ /- RCHGCNT -/,
    ⟨0x098, 0, 1, .ro, 0x0, 0xFFFFFFFF, true⟩ /- OVRCNT -/,
    ⟨0x09C, 0, 1, .ro, 0x0, 0xFFFFFFFF, true⟩ /- SYNCCNT -/,
    ⟨0x0A0, 0, 1, .ro, 0x0, 0xFFFFFFFF, true⟩ /- SYNCBUSY -/,
    ⟨0x0A4, 0, 1, .ro, 0x0, 0xFFFFFFFF, true⟩ /- SUPCNT -/]
  | .exc => [
    ⟨0x040, 0, 1, .rw, 0x0, 0x1, false⟩ /- XCTL -/,
    ⟨0x044, 4, 16, .rw, 0x0, 0x3FFF7, false⟩ /- EXCP -/,
    ⟨0x084, 4, 8, .rw, 0x0, 0xF, false⟩ /- CHSEL -/,
    ⟨0x0A4, 4, 8, .rw, 0x0, 0xFF, false⟩ /- XCONV -/,
    ⟨0x0C4, 4, 8, .rw, 0x800, 0xFFFF, false⟩ /- XSET -/,
    ⟨0x0E4, 4, 8, .rwl, 0x1E3E80, 0x1F3FFF, false⟩ /- XLIM -/,
    ⟨0x104, 0, 1, .ro, 0x0, 0x1FFFFFF, false⟩ /- XSTA -/,
    ⟨0x108, 0, 1, .wo, 0x0, 0x1, false⟩ /- XREARM -/,
    ⟨0x10C, 0, 1, .ro, 0x0, 0xFFFFFFFF, true⟩ /- CHGCNT -/]
  | .fil => [
    ⟨0x040, 4, 4, .rw, 0x4, 0xFFFFFF, false⟩ /- PATH -/,
    ⟨0x050, 0, 1, .rw, 0x0, 0x1FFFFF, false⟩ /- BANKA -/,
    ⟨0x054, 0, 1, .rw, 0x0, 0x1FFFFF, false⟩ /- BANKB -/,
    ⟨0x058, 0, 1, .ro, 0x0, 0x1F, false⟩ /- STA -/,
    ⟨0x05C, 0, 1, .ro, 0x0, 0xFFFFFFFF, false⟩ /- MACLOAD -/,
    ⟨0x060, 4, 4, .ro, 0x0, 0xFFFFFFFF, false⟩ /- HEAD -/,
    ⟨0x070, 0, 1, .rw, 0x0, 0x3FF, false⟩ /- RRSEL -/,
    ⟨0x074, 4, 4, .ro, 0x0, 0xFFFFFFFF, false⟩ /- RRD -/,
    ⟨0x084, 0, 1, .ro, 0x0, 0xFFFFFFFF, true⟩ /- SATCNT -/,
    ⟨0x088, 0, 1, .ro, 0x0, 0xFFFFFFFF, true⟩ /- DROPCNT -/,
    ⟨0x08C, 0, 1, .ro, 0x0, 0xFFFFFFFF, true⟩ /- RESTCNT -/,
    ⟨0x100, 4, 64, .ro, 0x0, 0xFFFFFFFF, false⟩ /- NEW -/]
  | .fcoe => [
    ⟨0x040, 4, 240, .rw, 0x0, 0xFFFFFFFF, false⟩ /- COEF -/]
  | .weir => [
    ⟨0x040, 32, 8, .rwl, 0x0, 0x7FFF, false⟩ /- WCFG -/,
    ⟨0x044, 32, 8, .rwl, 0x3FF0C00, 0xFFF0FFF, false⟩ /- WTHR -/,
    ⟨0x048, 32, 8, .rwl, 0x8, 0xFF, false⟩ /- WHYS -/,
    ⟨0x04C, 32, 8, .rw, 0x0, 0x7FFFFFF, false⟩ /- WEV -/,
    ⟨0x050, 32, 8, .ro, 0x0, 0xFFFFFFFF, true⟩ /- WCNT -/,
    ⟨0x054, 32, 8, .wo, 0x0, 0x3, false⟩ /- PTEST -/,
    ⟨0x058, 32, 8, .ro, 0x0, 0xFF7F, false⟩ /- PTRES -/,
    ⟨0x140, 0, 1, .ro, 0x0, 0xFFFFFF, false⟩ /- WSTA -/,
    ⟨0x144, 0, 1, .rwl, 0x1F, 0x3FF, false⟩ /- SAMPDIV -/,
    ⟨0x148, 0, 1, .rwl, 0x0, 0x1F, false⟩ /- HIBSEL -/]
  | .pls => [
    ⟨0x040, 32, 16, .rwl, 0x0, 0x1F, false⟩ /- PCFG -/,
    ⟨0x044, 32, 16, .rwl, 0x3E8, 0xFFFFFF, false⟩ /- MAXW -/,
    ⟨0x048, 32, 16, .rwl, 0x3E8, 0xFFFFFF, false⟩ /- MINOFF -/,
    ⟨0x04C, 32, 16, .rwl, 0x3E8080, 0xFFFFF1FF, false⟩ /- DUTY -/,
    ⟨0x050, 32, 16, .rw, 0x0, 0x3FFFF, false⟩ /- PLEV -/,
    ⟨0x054, 32, 16, .ro, 0x4, 0xFFFFF007, false⟩ /- PSTA -/,
    ⟨0x058, 32, 16, .ro, 0x0, 0xFFFFFFFF, true⟩ /- LIMCNT -/,
    ⟨0x05C, 32, 16, .ro, 0x0, 0xFFFFFFFF, true⟩ /- EDGCNT -/,
    ⟨0x240, 0, 1, .ro, 0x0, 0xFFFFFFFF, false⟩ /- PLVL -/]
  | .trip => [
    ⟨0x040, 4, 16, .rwl, 0x0, 0x1FFFFF, false⟩ /- TSRC -/,
    ⟨0x080, 0, 1, .rwl, 0x0, 0x3F3F03, false⟩ /- TINCFG -/,
    ⟨0x084, 0, 1, .rwl, 0x0, 0xFFFF, false⟩ /- LTMASK -/,
    ⟨0x088, 0, 1, .wo, 0x0, 0xFFFF, false⟩ /- SWTRIP -/,
    ⟨0x08C, 0, 1, .wo, 0x0, 0xFFFF, false⟩ /- REARM -/,
    ⟨0x090, 0, 1, .ro, 0xFFFF, 0xFFFF, false⟩ /- TRIPPED -/,
    ⟨0x094, 0, 1, .ro, 0x0, 0x7FFFF, false⟩ /- SRCNOW -/,
    ⟨0x098, 4, 16, .ro, 0x4000015, 0x7FFFFFF, false⟩ /- CAUSE -/,
    ⟨0x0D8, 4, 16, .ro, 0x0, 0xFFFFFFFF, false⟩ /- CSTMP -/,
    ⟨0x118, 0, 1, .ro, 0x0, 0xFFFFFFFF, true⟩ /- TRIPCNT -/,
    ⟨0x11C, 0, 1, .ro, 0x0, 0xFFFFFFFF, true⟩ /- RJCNT -/]
  | .seg => [
    ⟨0x040, 0, 1, .rw, 0x0, 0x7, false⟩ /- SCTL -/,
    ⟨0x044, 0, 1, .rw, 0x400002, 0x7F3F03, false⟩ /- PLCACFG -/,
    ⟨0x048, 0, 1, .rw, 0x800020, 0xFFFFFF, false⟩ /- PLCATMR -/,
    ⟨0x04C, 0, 1, .rw, 0x3F2710, 0x3FFFFF, false⟩ /- PLCAFB -/,
    ⟨0x050, 0, 1, .rw, 0x88B5, 0xFFFF, false⟩ /- ETYPE -/,
    ⟨0x054, 0, 1, .rw, 0x0, 0xFFFFFFFF, false⟩ /- SMACL -/,
    ⟨0x058, 0, 1, .rw, 0x0, 0xFFFF, false⟩ /- SMACH -/,
    ⟨0x05C, 0, 1, .rw, 0x50504803, 0xFFFFFFFF, false⟩ /- MCASTL -/,
    ⟨0x060, 0, 1, .rw, 0x100, 0xFFFF, false⟩ /- MCASTH -/,
    ⟨0x064, 0, 1, .rw, 0x4, 0x1F, false⟩ /- AUTHCFG -/,
    ⟨0x068, 0, 1, .rw, 0x0, 0xFFF, false⟩ /- ALPRIO -/,
    ⟨0x06C, 0, 1, .ro, 0x0, 0x3F1F, false⟩ /- STA -/,
    ⟨0x070, 0, 1, .wo, 0x0, 0xFFFFF, false⟩ /- TXCMD -/,
    ⟨0x074, 0, 1, .ro, 0x0, 0x7, false⟩ /- TXSTA -/,
    ⟨0x078, 0, 1, .ro, 0x0, 0x7F, false⟩ /- MBXSTA -/,
    ⟨0x07C, 0, 1, .ro, 0x0, 0x3FFF3F, false⟩ /- MBXHDR -/,
    ⟨0x080, 0, 1, .wo, 0x0, 0x1, false⟩ /- MBXPOP -/,
    ⟨0x084, 0, 1, .ro, 0x0, 0xFFFFF, false⟩ /- BURSTNO -/,
    ⟨0x088, 0, 1, .ro, 0x0, 0xFFFFFFFF, false⟩ /- POLLTX -/,
    ⟨0x08C, 0, 1, .ro, 0x0, 0xFFFFFFFF, true⟩ /- RXFRM -/,
    ⟨0x090, 0, 1, .ro, 0x0, 0xFFFFFFFF, true⟩ /- TXFRM -/,
    ⟨0x094, 0, 1, .ro, 0x0, 0xFFFFFFFF, true⟩ /- COLCNT -/,
    ⟨0x098, 0, 1, .ro, 0x0, 0xFFFFFFFF, true⟩ /- COLDROP -/,
    ⟨0x09C, 0, 1, .ro, 0x0, 0xFFFFFFFF, true⟩ /- STRCNT -/,
    ⟨0x0A0, 0, 1, .ro, 0x0, 0xFFFFFFFF, true⟩ /- REPLCNT -/,
    ⟨0x0A4, 0, 1, .ro, 0x0, 0xFFFFFFFF, true⟩ /- AUTHFAIL -/,
    ⟨0x0A8, 0, 1, .ro, 0x0, 0xFFFFFFFF, true⟩ /- REPLAY -/,
    ⟨0x0AC, 0, 1, .ro, 0x0, 0xFFFFFFFF, true⟩ /- BADFRM -/,
    ⟨0x0B0, 0, 1, .ro, 0x0, 0xFFFFFFFF, true⟩ /- DROPBUF -/,
    ⟨0x0B4, 0, 1, .ro, 0x0, 0xFFFFFFFF, true⟩ /- POLLBUSY -/,
    ⟨0x0B8, 0, 1, .ro, 0x0, 0xFFFFFFFF, true⟩ /- BADPOLL -/,
    ⟨0x0BC, 0, 1, .ro, 0x0, 0xFFFFFFFF, true⟩ /- LATEREP -/,
    ⟨0x0C0, 0, 1, .ro, 0x0, 0xFFFFFFFF, true⟩ /- OLDREP -/,
    ⟨0x0C4, 0, 1, .ro, 0x0, 0xFFFFFFFF, true⟩ /- CHBAD -/,
    ⟨0x0C8, 0, 1, .ro, 0x0, 0xFFFFFFFF, true⟩ /- MISSCNT -/,
    ⟨0x0CC, 0, 1, .ro, 0x0, 0xFFFFFFFF, true⟩ /- OTHER -/,
    ⟨0x0D0, 0, 1, .ro, 0x0, 0xFFFFFFFF, true⟩ /- IDMOVE -/,
    ⟨0x0D4, 0, 1, .ro, 0x0, 0xFFFFFFFF, true⟩ /- BURSTFAIL -/,
    ⟨0x0D8, 0, 1, .ro, 0x0, 0xFFFFFFFF, true⟩ /- BLKDROP -/,
    ⟨0x0DC, 0, 1, .ro, 0x0, 0xFFFFFFFF, true⟩ /- SLPDROP -/,
    ⟨0x0E0, 0, 1, .ro, 0x0, 0xF, false⟩ /- SLOGWP -/,
    ⟨0x100, 16, 16, .rw, 0x0, 0xFFFFFFFF, false⟩ /- MASKL -/,
    ⟨0x104, 16, 16, .rw, 0x0, 0xFFFFFFFF, false⟩ /- MASKH -/,
    ⟨0x108, 16, 16, .rw, 0x0, 0x1FFFF, false⟩ /- BCTL -/,
    ⟨0x10C, 16, 16, .rw, 0x7D0, 0xFFFFF, false⟩ /- BTMO -/,
    ⟨0x200, 16, 16, .ro, 0x0, 0xFFFFFFFF, false⟩ /- SLIDL -/,
    ⟨0x204, 16, 16, .ro, 0x0, 0xFFFFFFFF, false⟩ /- SLIDH -/,
    ⟨0x208, 16, 16, .ro, 0x0, 0x3F3F, false⟩ /- SLINFO -/,
    ⟨0x20C, 16, 16, .ro, 0x0, 0xFFFFFFFF, false⟩ /- SLSTAMP -/,
    ⟨0x300, 4, 32, .ro, 0x0, 0xFFFFFFFF, false⟩ /- MBXRX -/,
    ⟨0x380, 4, 32, .rw, 0x0, 0xFFFFFFFF, false⟩ /- MBXTX -/]
  | .node => [
    ⟨0x040, 0, 1, .rw, 0x0, 0x3F, false⟩ /- NIDX -/,
    ⟨0x044, 4, 8, .rw, 0x0, 0xFFFFFFFF, false⟩ /- ND -/,
    ⟨0x064, 0, 1, .wo, 0x0, 0x3, false⟩ /- NCMD -/,
    ⟨0x068, 0, 1, .ro, 0x0, 0x3, false⟩ /- NSTA -/,
    ⟨0x06C, 0, 1, .rw, 0x0, 0x7F, false⟩ /- KIDX -/,
    ⟨0x070, 4, 4, .wo, 0x0, 0xFFFFFFFF, false⟩ /- KEY -/,
    ⟨0x080, 0, 1, .wo, 0x0, 0x3, false⟩ /- KCMD -/,
    ⟨0x084, 0, 1, .ro, 0x0, 0xFFFFFFFF, false⟩ /- KVAL0 -/,
    ⟨0x088, 0, 1, .ro, 0x0, 0xFFFFFFFF, false⟩ /- KVAL1 -/,
    ⟨0x08C, 0, 1, .ro, 0x0, 0x1, false⟩ /- KVAL2 -/,
    ⟨0x090, 0, 1, .rw, 0x0, 0x3FF, false⟩ /- CIDX -/,
    ⟨0x094, 4, 4, .ro, 0x0, 0xFFFFFFFF, false⟩ /- CD -/,
    ⟨0x0A4, 0, 1, .ro, 0x0, 0xFFFFFFFF, false⟩ /- LIVE0 -/,
    ⟨0x0A8, 0, 1, .ro, 0x0, 0xFFFFFFFF, false⟩ /- LIVE1 -/]
  | .ptp => [
    ⟨0x040, 0, 1, .rw, 0x3, 0x7F03, false⟩ /- CTL -/,
    ⟨0x044, 0, 1, .ro, 0x0, 0xFFFFFFFF, false⟩ /- CLKIDL -/,
    ⟨0x048, 0, 1, .ro, 0x0, 0xFFFFFFFF, false⟩ /- CLKIDH -/,
    ⟨0x04C, 0, 1, .rw, 0x401, 0x1F1F, false⟩ /- SERVO -/,
    ⟨0x050, 0, 1, .rw, 0xF4240, 0xFFFFFFFF, false⟩ /- STEPTHR -/,
    ⟨0x054, 0, 1, .rw, 0x1F4, 0x7FF, false⟩ /- SLEWMAX -/,
    ⟨0x058, 0, 1, .rw, 0x64, 0xFFFFFFFF, false⟩ /- LOCKTHR -/,
    ⟨0x05C, 0, 1, .rw, 0x5B8D8, 0xFFFFFF, false⟩ /- LOSSTMO -/,
    ⟨0x060, 0, 1, .ro, 0x0, 0xFFFFFFFF, false⟩ /- ADJ -/,
    ⟨0x064, 0, 1, .rw, 0x0, 0xFFFFFFFF, false⟩ /- FINT -/,
    ⟨0x068, 0, 1, .ro, 0x0, 0xFFFFFFFF, false⟩ /- OFFSET -/,
    ⟨0x06C, 0, 1, .ro, 0x0, 0xFFFFFFFF, false⟩ /- MPD -/,
    ⟨0x070, 0, 1, .ro, 0x0, 0x3FF, false⟩ /- STA -/,
    ⟨0x074, 0, 1, .ro, 0x0, 0xFFFFFFFF, false⟩ /- TIMEL -/,
    ⟨0x078, 0, 1, .ro, 0x0, 0xFFFFFFFF, false⟩ /- TIMEH -/,
    ⟨0x07C, 0, 1, .ro, 0x0, 0xFFFFFFFF, false⟩ /- SECL -/,
    ⟨0x080, 0, 1, .ro, 0x0, 0xFFFFFFFF, false⟩ /- SECH -/,
    ⟨0x084, 0, 1, .ro, 0x0, 0xFFFFFFFF, false⟩ /- NSEC -/,
    ⟨0x088, 0, 1, .ro, 0x0, 0xFFFFFFFF, false⟩ /- EPOCHW -/,
    ⟨0x08C, 0, 1, .ro, 0x0, 0xFFFFFFFF, false⟩ /- EPOCHS -/,
    ⟨0x090, 0, 1, .ro, 0x0, 0xFFFFFFFF, false⟩ /- EPOCHSH -/,
    ⟨0x094, 0, 1, .ro, 0x0, 0xFFFFFFFF, false⟩ /- EPOCHNS -/,
    ⟨0x098, 0, 1, .ro, 0x0, 0xFFFFFFFF, false⟩ /- CAPL -/,
    ⟨0x09C, 0, 1, .ro, 0x0, 0xFFFFFFFF, false⟩ /- CAPH -/,
    ⟨0x0A0, 0, 1, .ro, 0x0, 0xFFFFFFFF, true⟩ /- STEPCNT -/,
    ⟨0x0A4, 0, 1, .ro, 0x0, 0xFFFFFFFF, true⟩ /- SYNCRX -/,
    ⟨0x0A8, 0, 1, .rw, 0x3B9ACA00, 0xFFFFFFFF, false⟩ /- BACKMAX -/,
    ⟨0x0AC, 0, 1, .ro, 0x0, 0xFF, false⟩ /- PMBXSTA -/,
    ⟨0x0B0, 0, 1, .ro, 0x0, 0xFFFF1FFF, false⟩ /- PMBXHDR -/,
    ⟨0x0B4, 0, 1, .wo, 0x0, 0x1, false⟩ /- PMBXPOP -/,
    ⟨0x0B8, 0, 1, .wo, 0x0, 0x1FFF, false⟩ /- PTXCMD -/,
    ⟨0x200, 4, 64, .ro, 0x0, 0xFFFFFFFF, false⟩ /- PMBXRX -/,
    ⟨0x300, 4, 64, .rw, 0x0, 0xFFFFFFFF, false⟩ /- PMBXTX -/]
  | .ptpp => [
    ⟨0x040, 32, 18, .rw, 0xFD0, 0x1FFFFF, false⟩ /- PCFG -/,
    ⟨0x044, 32, 18, .rw, 0x0, 0xFFFF, false⟩ /- TXLAT -/,
    ⟨0x048, 32, 18, .rw, 0x0, 0xFFFF, false⟩ /- RXLAT -/,
    ⟨0x04C, 32, 18, .rw, 0x0, 0xFFFFFFFF, false⟩ /- ASYM -/,
    ⟨0x050, 32, 18, .ro, 0x0, 0xFFFFFFFF, false⟩ /- LTXS -/,
    ⟨0x054, 32, 18, .ro, 0x0, 0xFFFFFFFF, false⟩ /- LRXS -/,
    ⟨0x058, 32, 18, .ro, 0x0, 0xFFFF0003, false⟩ /- PSTA -/,
    ⟨0x05C, 32, 18, .ro, 0x0, 0xFFFFFFFF, false⟩ /- PMPD -/,
    ⟨0x280, 0, 1, .ro, 0x0, 0xFFFFFFFF, true⟩ /- PTPDROP -/,
    ⟨0x284, 0, 1, .ro, 0x0, 0xFFFFFFFF, true⟩ /- DOMDROP -/,
    ⟨0x288, 0, 1, .ro, 0x0, 0xFFFFFFFF, true⟩ /- TXPOIS -/]
  | .upl => [
    ⟨0x040, 0, 1, .rw, 0x0, 0xF, false⟩ /- UCTL -/,
    ⟨0x044, 0, 1, .rw, 0x0, 0xFFFFFFFF, false⟩ /- SMACL -/,
    ⟨0x048, 0, 1, .rw, 0x0, 0xFFFF, false⟩ /- SMACH -/,
    ⟨0x04C, 0, 1, .rw, 0x50504803, 0xFFFFFFFF, false⟩ /- MCASTL -/,
    ⟨0x050, 0, 1, .rw, 0x100, 0xFFFF, false⟩ /- MCASTH -/,
    ⟨0x054, 0, 1, .rw, 0x88B6, 0xFFFF, false⟩ /- BETYPE -/,
    ⟨0x058, 0, 1, .rw, 0x0, 0xFFFFFFFF, false⟩ /- BDMACL -/,
    ⟨0x05C, 0, 1, .rw, 0x0, 0xFFFF, false⟩ /- BDMACH -/,
    ⟨0x060, 0, 1, .ro, 0x0, 0xF, false⟩ /- USTA -/,
    ⟨0x064, 0, 1, .rw, 0x0, 0x3F, false⟩ /- SIDX -/,
    ⟨0x068, 4, 8, .rw, 0x0, 0xFFFFFFFF, false⟩ /- SD -/,
    ⟨0x088, 0, 1, .wo, 0x0, 0x3, false⟩ /- SCMD -/,
    ⟨0x08C, 0, 1, .ro, 0x0, 0x3, false⟩ /- SSTA -/,
    ⟨0x090, 0, 1, .rw, 0x0, 0x7F, false⟩ /- KIDX -/,
    ⟨0x094, 4, 4, .wo, 0x0, 0xFFFFFFFF, false⟩ /- KEY -/,
    ⟨0x0A4, 0, 1, .wo, 0x0, 0x3, false⟩ /- KCMD -/,
    ⟨0x0A8, 0, 1, .ro, 0x0, 0xFFFFFFFF, false⟩ /- KVAL0 -/,
    ⟨0x0AC, 0, 1, .ro, 0x0, 0xFFFFFFFF, false⟩ /- KVAL1 -/,
    ⟨0x0B0, 0, 1, .rw, 0x0, 0x3FF, false⟩ /- CIDX -/,
    ⟨0x0B4, 4, 4, .ro, 0x0, 0xFFFFFFFF, false⟩ /- CD -/,
    ⟨0x0C4, 0, 1, .wo, 0x0, 0x3F7FFF, false⟩ /- TXCMD -/,
    ⟨0x0C8, 0, 1, .rw, 0x0, 0xFFFFFFFF, false⟩ /- DMACL -/,
    ⟨0x0CC, 0, 1, .rw, 0x0, 0xFFFF, false⟩ /- DMACH -/,
    ⟨0x0D0, 0, 1, .ro, 0x0, 0x7, false⟩ /- TXSTA -/,
    ⟨0x0D4, 0, 1, .ro, 0x0, 0x7F, false⟩ /- MBXSTA -/,
    ⟨0x0D8, 0, 1, .ro, 0x0, 0x1FFF3F, false⟩ /- MBXHDR -/,
    ⟨0x0DC, 0, 1, .wo, 0x0, 0x1, false⟩ /- MBXPOP -/,
    ⟨0x0E0, 0, 1, .ro, 0x0, 0xFFFFFFFF, true⟩ /- RXFRM -/,
    ⟨0x0E4, 0, 1, .ro, 0x0, 0xFFFFFFFF, true⟩ /- TXFRM -/,
    ⟨0x0E8, 0, 1, .ro, 0x0, 0xFFFFFFFF, true⟩ /- CRCERR -/,
    ⟨0x0EC, 0, 1, .ro, 0x0, 0xFFFFFFFF, true⟩ /- BADFRM -/,
    ⟨0x0F0, 0, 1, .ro, 0x0, 0xFFFFFFFF, true⟩ /- STRCNT -/,
    ⟨0x0F4, 0, 1, .ro, 0x0, 0xFFFFFFFF, true⟩ /- AUTHFAIL -/,
    ⟨0x0F8, 0, 1, .ro, 0x0, 0xFFFFFFFF, true⟩ /- BATFRM -/,
    ⟨0x0FC, 0, 1, .ro, 0x0, 0xFFFFFFFF, true⟩ /- DROPBUF -/,
    ⟨0x100, 0, 1, .ro, 0x0, 0xFFFFFFFF, true⟩ /- LINKCNT -/,
    ⟨0x104, 0, 1, .ro, 0x0, 0xFFFFFFFF, false⟩ /- HIDL -/,
    ⟨0x108, 0, 1, .ro, 0x0, 0xFFFFFFFF, false⟩ /- HIDH -/,
    ⟨0x180, 4, 32, .ro, 0x0, 0xFFFFFFFF, false⟩ /- MBXRX -/,
    ⟨0x200, 4, 128, .rw, 0x0, 0xFFFFFFFF, false⟩ /- MBXTX -/]
  | .talg => [
    ⟨0x040, 32, 16, .rw, 0x4E200, 0xFFFFF3, false⟩ /- GCFG -/,
    ⟨0x044, 32, 16, .ro, 0x0, 0xFFFFFFFF, false⟩ /- BPOSL -/,
    ⟨0x048, 32, 16, .ro, 0x0, 0xFFFFFFFF, false⟩ /- BPOSH -/,
    ⟨0x04C, 32, 16, .ro, 0x0, 0xFFFFFFFF, false⟩ /- BW0L -/,
    ⟨0x050, 32, 16, .ro, 0x0, 0xFFFFFFFF, false⟩ /- BW0H -/,
    ⟨0x054, 32, 16, .ro, 0x0, 0xFFFFFFFF, true⟩ /- BSEQ -/,
    ⟨0x058, 32, 16, .ro, 0x0, 0xFFFFFFFF, true⟩ /- LATEDROP -/,
    ⟨0x240, 0, 1, .rw, 0x0, 0xFFFF, false⟩ /- GSCFG -/,
    ⟨0x244, 0, 1, .rw, 0x4E20, 0xFFFFF, false⟩ /- GSGRACE -/,
    ⟨0x248, 0, 1, .ro, 0x0, 0xFFFFFFFF, false⟩ /- GSL -/,
    ⟨0x24C, 0, 1, .ro, 0x0, 0xFFFFFFFF, false⟩ /- GSH -/,
    ⟨0x250, 0, 1, .ro, 0x0, 0xFFFFFFFF, true⟩ /- GSSEQ -/,
    ⟨0x254, 0, 1, .ro, 0x0, 0xFFFFFFFF, true⟩ /- GSBUSY -/,
    ⟨0x258, 0, 1, .ro, 0x0, 0xFFFFFFFF, true⟩ /- GSSKIP -/,
    ⟨0x25C, 0, 1, .ro, 0x0, 0xFFFFFFFF, true⟩ /- EARLYCNT -/,
    ⟨0x260, 0, 1, .ro, 0x0, 0xFFFFFFFF, true⟩ /- FULLCNT -/,
    ⟨0x264, 0, 1, .ro, 0x0, 0xFFFFFFFF, true⟩ /- BADBND -/,
    ⟨0x268, 0, 1, .ro, 0x0, 0xFFFFFFFF, true⟩ /- TWAITCNT -/]
  | .strm => [
    ⟨0x040, 64, 4, .rw, 0x0, 0x1F, false⟩ /- SCFG -/,
    ⟨0x044, 64, 4, .rw, 0x3E8, 0xFFFFFF, false⟩ /- SPILLTMO -/,
    ⟨0x048, 64, 4, .rw, 0x0, 0xFFFFFFFF, false⟩ /- DBAND -/,
    ⟨0x04C, 64, 4, .wo, 0x0, 0x1, false⟩ /- CLOSE -/,
    ⟨0x050, 64, 4, .ro, 0x0, 0x7FFFFF, false⟩ /- SSTA -/,
    ⟨0x054, 64, 4, .ro, 0x0, 0x3FFFFF, false⟩ /- BSEQ -/,
    ⟨0x058, 64, 4, .ro, 0x0, 0xFFFFFFFF, true⟩ /- APPCNT -/,
    ⟨0x05C, 64, 4, .ro, 0x0, 0xFFFFFFFF, true⟩ /- DROP -/,
    ⟨0x060, 64, 4, .ro, 0x0, 0xFFFFFFFF, true⟩ /- EMPTYCL -/,
    ⟨0x064, 64, 4, .ro, 0x0, 0xFFFFFFFF, true⟩ /- SPILLCNT -/,
    ⟨0x068, 64, 4, .ro, 0x0, 0xFFFFFFFF, true⟩ /- SPILLERR -/,
    ⟨0x140, 0, 1, .rw, 0x0, 0xF, false⟩ /- ALPRIO -/]
  | .alq => [
    ⟨0x040, 0, 1, .rw, 0x0, 0xFFFFF, false⟩ /- ACTL -/,
    ⟨0x044, 0, 1, .wo, 0x0, 0xFFFFFFFF, false⟩ /- POSTL -/,
    ⟨0x048, 0, 1, .wo, 0x0, 0xFFFFFFFF, false⟩ /- POSTH -/,
    ⟨0x04C, 0, 1, .ro, 0x0, 0xFFFFFFFF, false⟩ /- POPL -/,
    ⟨0x050, 0, 1, .ro, 0x0, 0xFFFFFFFF, false⟩ /- POPH -/,
    ⟨0x054, 0, 1, .ro, 0x0, 0xFFFFFFFF, false⟩ /- PEEKL -/,
    ⟨0x058, 0, 1, .ro, 0x0, 0xFFFFFFFF, false⟩ /- PEEKH -/,
    ⟨0x05C, 0, 1, .ro, 0x0, 0xFFF, false⟩ /- COUNT -/,
    ⟨0x060, 4, 8, .ro, 0x0, 0xFFF0FFF, false⟩ /- LVL -/,
    ⟨0x080, 0, 1, .ro, 0x0, 0x3, false⟩ /- STA -/,
    ⟨0x084, 0, 1, .ro, 0x0, 0xFFFFFFFF, true⟩ /- DROP -/,
    ⟨0x088, 0, 1, .ro, 0x0, 0xFFFFFFFF, true⟩ /- DISCNT -/]
  | .leat => [
    ⟨0x040, 0, 1, .rw, 0x10, 0xFF, false⟩ /- LCTL -/,
    ⟨0x044, 0, 1, .wo, 0x0, 0xFF, false⟩ /- FIRE -/,
    ⟨0x048, 4, 8, .wo, 0x0, 0xFFFFFFFF, false⟩ /- FIREM -/,
    ⟨0x068, 4, 8, .rw1c, 0x0, 0xFFFFFFFF, false⟩ /- STORM -/,
    ⟨0x088, 0, 1, .ro, 0x0, 0xFFFFFF, false⟩ /- CYCLOG -/,
    ⟨0x08C, 0, 1, .ro, 0x0, 0xFFFFFFFF, true⟩ /- REJCNT -/,
    ⟨0x090, 0, 1, .ro, 0x0, 0xFFFFFFFF, true⟩ /- OFFDROP -/,
    ⟨0x094, 0, 1, .ro, 0x0, 0xFFFFFFFF, true⟩ /- BNDBUSY -/,
    ⟨0x098, 0, 1, .ro, 0x0, 0xFFFFFFFF, false⟩ /- BPOSL -/,
    ⟨0x09C, 0, 1, .ro, 0x0, 0xFFFFFFFF, false⟩ /- BPOSH -/,
    ⟨0x100, 16, 16, .rw, 0x4002, 0x7FFF, false⟩ /- CCFG -/,
    ⟨0x104, 16, 16, .ro, 0x0, 0xFFFFFFFF, true⟩ /- FIRECNT -/,
    ⟨0x108, 16, 16, .ro, 0x0, 0xFFFFFFFF, true⟩ /- COAL -/,
    ⟨0x10C, 16, 16, .ro, 0x0, 0xFFFFFF07, false⟩ /- CSTA -/]
  | .leatc => [
    ⟨0x040, 16, 60, .rw, 0x4002, 0x7FFF, false⟩ /- CCFG -/,
    ⟨0x044, 16, 60, .ro, 0x0, 0xFFFFFFFF, true⟩ /- FIRECNT -/,
    ⟨0x048, 16, 60, .ro, 0x0, 0xFFFFFFFF, true⟩ /- COAL -/,
    ⟨0x04C, 16, 60, .ro, 0x0, 0xFFFFFF07, false⟩ /- CSTA -/]
  | .tile => [
    ⟨0x180, 0, 1, .rw, 0x0, 0x7FF8, false⟩ /- SNBASE -/,
    ⟨0x184, 0, 1, .rw, 0x10, 0x1F, false⟩ /- SNCNT -/,
    ⟨0x188, 0, 1, .ro, 0x0, 0x1F, false⟩ /- SNWR -/,
    ⟨0x18C, 0, 1, .rw, 0x0, 0x1F, false⟩ /- SNRD -/,
    ⟨0x190, 0, 1, .ro, 0x0, 0xFF7F, false⟩ /- SNSTA -/,
    ⟨0x040, 0, 1, .rw, 0x0, 0x3, false⟩ /- CCTL0 -/,
    ⟨0x044, 0, 1, .rw, 0x0, 0x3, false⟩ /- CCTL1 -/,
    ⟨0x048, 0, 1, .ro, 0x0, 0x1FFF3F, false⟩ /- CSTA0 -/,
    ⟨0x04C, 0, 1, .ro, 0x0, 0x1FFF3F, false⟩ /- CSTA1 -/,
    ⟨0x050, 0, 1, .rw, 0x0, 0x1FFF, false⟩ /- ENTRY0 -/,
    ⟨0x054, 0, 1, .rw, 0x0, 0x1FFF, false⟩ /- ENTRY1 -/,
    ⟨0x058, 0, 1, .rw, 0x0, 0xFFFF, false⟩ /- DMAX0 -/,
    ⟨0x05C, 0, 1, .rw, 0x0, 0xFFFF, false⟩ /- DMAX1 -/,
    ⟨0x060, 0, 1, .rw, 0x0, 0xFFF, false⟩ /- PTIDX -/,
    ⟨0x064, 0, 1, .rw, 0x0, 0x7FFF, false⟩ /- PTDAT -/,
    ⟨0x068, 0, 1, .rw, 0x0, 0x11FFF, false⟩ /- IMADDR -/,
    ⟨0x06C, 0, 1, .rw, 0x0, 0xFFFFFF, false⟩ /- IMDATA -/,
    ⟨0x070, 0, 1, .ro, 0x0, 0xFF, false⟩ /- DQCNT -/,
    ⟨0x074, 0, 1, .ro, 0x0, 0xFFFFFFFF, true⟩ /- DISPN0 -/,
    ⟨0x078, 0, 1, .ro, 0x0, 0xFFFFFFFF, true⟩ /- DISPN1 -/,
    ⟨0x07C, 0, 1, .ro, 0x0, 0xFFFFFFFF, true⟩ /- BUSYC0 -/,
    ⟨0x080, 0, 1, .ro, 0x0, 0xFFFFFFFF, true⟩ /- BUSYC1 -/,
    ⟨0x084, 0, 1, .ro, 0x0, 0xFFFFFFFF, true⟩ /- TRAPCNT -/,
    ⟨0x088, 0, 1, .ro, 0x0, 0xFFFFFFFF, true⟩ /- COMMITS -/,
    ⟨0x08C, 0, 1, .ro, 0x0, 0xFFFFFFFF, true⟩ /- NOPROG -/,
    ⟨0x090, 0, 1, .ro, 0x0, 0xFF, false⟩ /- LANECNT -/]
  | .clu => [
    ⟨0x040, 0, 1, .ro, 0x3FFFF, 0x3FFFF, false⟩ /- GSTA -/,
    ⟨0x044, 0, 1, .rw, 0x0, 0x1FFFF, false⟩ /- KEEPON -/,
    ⟨0x048, 0, 1, .ro, 0x0, 0xFFFFFFFF, true⟩ /- TWAKE -/,
    ⟨0x04C, 0, 1, .ro, 0x0, 0xFFFFFFFF, true⟩ /- CWAKE -/,
    ⟨0x050, 0, 1, .ro, 0x0, 0xFFFFFFFF, true⟩ /- GATEUS -/,
    ⟨0x054, 0, 1, .ro, 0x0, 0xFFFFFFFF, true⟩ /- RTWORDS -/,
    ⟨0x058, 0, 1, .ro, 0x0, 0xFFFFFFFF, true⟩ /- RTWAIT -/]
  | .flc => [
    ⟨0x040, 0, 1, .rw, 0x103, 0xFF3, false⟩ /- FCTL -/,
    ⟨0x044, 0, 1, .rw, 0x0, 0x13FFFFF, false⟩ /- FCMD0 -/,
    ⟨0x048, 0, 1, .rw, 0x0, 0x1FFFFF, false⟩ /- FCMD1 -/,
    ⟨0x04C, 0, 1, .rw, 0xFFFF, 0xFFFFFFFF, false⟩ /- FCMD2 -/,
    ⟨0x050, 0, 1, .wo, 0x0, 0xFF07FF, false⟩ /- FCMD3 -/,
    ⟨0x054, 0, 1, .ro, 0x0, 0xFFFFFFFF, false⟩ /- FSTA -/,
    ⟨0x058, 0, 1, .ro, 0x0, 0xFFFF3FFF, false⟩ /- FDONE0 -/,
    ⟨0x05C, 0, 1, .ro, 0x0, 0x37FFFFF, false⟩ /- FDONE1 -/,
    ⟨0x060, 0, 1, .rwl, 0x10, 0xFF, false⟩ /- ERATE -/,
    ⟨0x064, 0, 1, .rw, 0x0, 0x1F, false⟩ /- HCFG -/,
    ⟨0x068, 0, 1, .rw, 0x0, 0x3FFF3FFF, false⟩ /- HBLK -/,
    ⟨0x06C, 0, 1, .ro, 0x0, 0x3FFFFF, false⟩ /- HWPTR -/,
    ⟨0x070, 0, 1, .ro, 0x0, 0x3FFF, false⟩ /- HOLD -/,
    ⟨0x074, 0, 1, .ro, 0x0, 0x3FFFFF, false⟩ /- HDUR -/,
    ⟨0x078, 0, 1, .rw, 0x0, 0x3FFF3FFF, false⟩ /- CKBLK -/,
    ⟨0x07C, 0, 1, .ro, 0x0, 0x80003FFF, false⟩ /- BRBLK -/,
    ⟨0x080, 0, 1, .ro, 0x0, 0x3FFF, false⟩ /- BRRES -/,
    ⟨0x084, 0, 1, .ro, 0x0, 0xFFFFFFFF, false⟩ /- REERASE -/,
    ⟨0x088, 0, 1, .ro, 0x0, 0xFFFFFFFF, true⟩ /- ERASES -/,
    ⟨0x08C, 0, 1, .ro, 0x0, 0xFFFFFFFF, true⟩ /- PROGS -/,
    ⟨0x090, 0, 1, .ro, 0x0, 0xFFFFFFFF, true⟩ /- READS -/,
    ⟨0x094, 0, 1, .ro, 0x0, 0xFFFFFFFF, true⟩ /- SUSPCNT -/,
    ⟨0x098, 0, 1, .ro, 0x0, 0xFFFFFFFF, true⟩ /- SUSPBLK -/,
    ⟨0x09C, 0, 1, .ro, 0x0, 0x3FFF, false⟩ /- GROWNBAD -/,
    ⟨0x0A0, 0, 1, .ro, 0x0, 0xFFFFFFFF, true⟩ /- HLOST -/,
    ⟨0x0A4, 0, 1, .ro, 0x0, 0xFFFFFFFF, true⟩ /- SPREJ -/,
    ⟨0x0A8, 0, 1, .ro, 0x0, 0xFFFFFFFF, true⟩ /- RATEW -/,
    ⟨0x0AC, 0, 1, .ro, 0x0, 0xFFFF, false⟩ /- ECNTMAX -/]
  | .jrn => [
    ⟨0x040, 0, 1, .rw, 0x0, 0x3, false⟩ /- JCTL -/,
    ⟨0x044, 0, 1, .rw, 0x0, 0x7FFFF, false⟩ /- JADDR -/,
    ⟨0x048, 0, 1, .rw, 0x0, 0xFFFFFFFF, false⟩ /- JDATL -/,
    ⟨0x04C, 0, 1, .rw, 0x0, 0xFFFFFFFF, false⟩ /- JDATH -/,
    ⟨0x050, 0, 1, .ro, 0x0, 0x7, false⟩ /- JSTA -/,
    ⟨0x054, 0, 1, .ro, 0x0, 0xFFFFFFFF, true⟩ /- JWRCNT -/]
  | .ecc => [
    ⟨0x040, 0, 1, .rw, 0xE100001, 0xFFFF0001, false⟩ /- SCRUB -/,
    ⟨0x044, 0, 1, .ro, 0x0, 0xFFFF0001, false⟩ /- SCRSTA -/,
    ⟨0x048, 0, 1, .ro, 0x0, 0xFFFFFFFF, true⟩ /- SCRCOR -/,
    ⟨0x04C, 0, 1, .ro, 0x0, 0xFFFFFFFF, true⟩ /- SCRSKIP -/,
    ⟨0x050, 0, 1, .ro, 0x0, 0xFFFFFFFF, true⟩ /- UECNT -/,
    ⟨0x054, 0, 1, .ro, 0x0, 0xFFFFFFFF, true⟩ /- PREADCNT -/,
    ⟨0x058, 0, 1, .wo, 0x0, 0x3FFF, false⟩ /- ELCLR -/,
    ⟨0x05C, 0, 1, .ro, 0x0, 0xF, false⟩ /- ELWP -/,
    ⟨0x060, 0, 1, .rw, 0x0, 0x1FFFFF, false⟩ /- EINJ0 -/,
    ⟨0x064, 0, 1, .rw, 0x0, 0x7F7F, false⟩ /- EINJ1 -/,
    ⟨0x068, 0, 1, .rw, 0x0, 0x17F, false⟩ /- MBIST -/,
    ⟨0x06C, 0, 1, .ro, 0x0, 0xFFFF0007, false⟩ /- MBSTA -/,
    ⟨0x100, 16, 16, .ro, 0x0, 0x7FFFF, false⟩ /- ELA -/,
    ⟨0x104, 16, 16, .ro, 0x0, 0x3FFFFFF, false⟩ /- ELW -/,
    ⟨0x108, 16, 16, .ro, 0x0, 0xFFFFFFFF, false⟩ /- ELSTMP -/]
  | .hpt => [
    ⟨0x040, 0, 1, .rw, 0x10, 0xFF, false⟩ /- HCFG -/,
    ⟨0x044, 0, 1, .rw1c, 0x0, 0x3FFF, false⟩ /- HSTA -/,
    ⟨0x048, 0, 1, .ro, 0x0, 0xFFFFFFFF, true⟩ /- REJCNT -/,
    ⟨0x04C, 0, 1, .ro, 0x0, 0xFFFFFFFF, true⟩ /- FRMCNT -/,
    ⟨0x050, 0, 1, .ro, 0x0, 0xFFFFFFF, false⟩ /- LASTREJ -/,
    ⟨0x054, 0, 1, .ro, 0x80000000, 0x80003FFF, false⟩ /- IPAGE -/,
    ⟨0x058, 0, 1, .ro, 0x0, 0xFFFFFFFF, true⟩ /- CRCERR -/,
    ⟨0x05C, 0, 1, .ro, 0x0, 0xFFFFFFFF, true⟩ /- RDWORDS -/,
    ⟨0x060, 0, 1, .rw, 0x0, 0xFFFFFFFF, false⟩ /- SCRATCH -/]
  | .dev => [
    ⟨0x040, 0, 1, .ro, 0x48592100, 0xFFFFFFFF, false⟩ /- PARTID -/,
    ⟨0x044, 0, 1, .ro, 0x4201, 0xFFFF, false⟩ /- STEP -/,
    ⟨0x048, 0, 1, .ro, 0x0, 0xFFFFFFFF, false⟩ /- UIDL -/,
    ⟨0x04C, 0, 1, .ro, 0x0, 0xFFFFFFFF, false⟩ /- UIDH -/,
    ⟨0x050, 0, 1, .ro, 0x0, 0xF, false⟩ /- PSTATE -/,
    ⟨0x054, 0, 1, .ro, 0x1, 0x1FF, false⟩ /- RSTCAUSE -/,
    ⟨0x058, 0, 1, .rw1c, 0x1, 0x1FF, false⟩ /- RSTHIST -/,
    ⟨0x05C, 0, 1, .wo, 0x0, 0xFFFF, false⟩ /- RSTCMD -/,
    ⟨0x060, 0, 1, .rwl, 0x3E8, 0x1FFFF, false⟩ /- WDCTL -/,
    ⟨0x064, 0, 1, .wo, 0x0, 0xFFFF, false⟩ /- WDKICK -/,
    ⟨0x068, 0, 1, .ro, 0x3E8, 0xFFFF, false⟩ /- WDCNT -/]
  | .boot => [
    ⟨0x040, 0, 1, .ro, 0x1, 0x7FF, false⟩ /- BSTA -/,
    ⟨0x044, 0, 1, .ro, 0x0, 0xFFF, false⟩ /- BDIAG -/,
    ⟨0x048, 0, 1, .wo, 0x0, 0x1, false⟩ /- BCMD -/,
    ⟨0x04C, 0, 1, .ro, 0x0, 0xFFFFFF, false⟩ /- CGEN -/,
    ⟨0x050, 0, 1, .ro, 0x0, 0xFFFFFFFF, false⟩ /- CLEN -/,
    ⟨0x054, 0, 1, .ro, 0x0, 0xFF, false⟩ /- MINGEN -/,
    ⟨0x058, 0, 1, .ro, 0x0, 0x3, false⟩ /- KEYREV -/,
    ⟨0x05C, 0, 1, .ro, 0x0, 0xFFFFFFFF, false⟩ /- CFGLEN -/,
    ⟨0x060, 0, 1, .ro, 0x0, 0xFFFFFFFF, false⟩ /- CFGCRC -/,
    ⟨0x064, 0, 1, .ro, 0x0, 0xFFFFFFFF, false⟩ /- CFGREJ -/,
    ⟨0x068, 0, 1, .ro, 0x0, 0x80FFFFFF, false⟩ /- CFGFIRST -/,
    ⟨0x06C, 0, 1, .ro, 0x0, 0xFFFFFFFF, false⟩ /- BOOTUS -/]
  | .mon => [
    ⟨0x040, 4, 9, .ro, 0x0, 0x7FF, false⟩ /- TEMP -/,
    ⟨0x064, 0, 1, .rwl, 0x37D7364, 0xFFFFFFFF, false⟩ /- TLIM -/,
    ⟨0x068, 0, 1, .ro, 0x0, 0x103FFFF, false⟩ /- TSTA -/,
    ⟨0x06C, 0, 1, .wo, 0x0, 0x1, false⟩ /- THCLR -/,
    ⟨0x070, 0, 1, .ro, 0x0, 0xFFFF, false⟩ /- THRLVL -/,
    ⟨0x074, 0, 1, .ro, 0x0, 0xFFFFFFFF, true⟩ /- THRCNT -/,
    ⟨0x078, 4, 8, .ro, 0x0, 0xFFFF, false⟩ /- VMON -/,
    ⟨0x098, 0, 1, .ro, 0x0, 0xFFFF, false⟩ /- VSTA -/,
    ⟨0x09C, 0, 1, .ro, 0x0, 0xFFFFFFFF, true⟩ /- VFCNT -/,
    ⟨0x0A0, 4, 8, .ro, 0x0, 0xFFFF, false⟩ /- PROC -/,
    ⟨0x0C0, 0, 1, .rw, 0x0, 0xFFFF, false⟩ /- PROCMIN -/]
  | .pwr => [
    ⟨0x040, 0, 1, .rw, 0x0, 0x3, false⟩ /- PSREQ -/,
    ⟨0x044, 0, 1, .ro, 0x0, 0x1F7, false⟩ /- PSSTA -/,
    ⟨0x048, 0, 1, .rw, 0x3E8, 0xFFFFF, false⟩ /- SLPTMO -/,
    ⟨0x04C, 0, 1, .rw, 0x0, 0xF01FF, false⟩ /- WAKECFG -/,
    ⟨0x050, 0, 1, .rw1c, 0x0, 0x3F, false⟩ /- WAKESRC -/,
    ⟨0x054, 0, 1, .rw, 0x0, 0xFFFFFFFF, false⟩ /- RTCSL -/,
    ⟨0x058, 0, 1, .rw, 0x0, 0xFFFF, false⟩ /- RTCSH -/,
    ⟨0x05C, 0, 1, .wo, 0x0, 0x3, false⟩ /- RTCCMD -/,
    ⟨0x060, 0, 1, .ro, 0x0, 0xFFFFFFFF, false⟩ /- RTCL -/,
    ⟨0x064, 0, 1, .ro, 0x0, 0x8000FFFF, false⟩ /- RTCH -/,
    ⟨0x068, 0, 1, .ro, 0x0, 0x7FFF, false⟩ /- RTCSUB -/,
    ⟨0x06C, 0, 1, .rw, 0x0, 0xFFFFFFFF, false⟩ /- ALML -/,
    ⟨0x070, 0, 1, .rw, 0x0, 0x8000FFFF, false⟩ /- ALMH -/,
    ⟨0x074, 0, 1, .ro, 0x0, 0xFFFFFF0F, false⟩ /- CKSTA -/,
    ⟨0x078, 0, 1, .ro, 0x0, 0xFFFFFFFF, false⟩ /- CKGEN -/,
    ⟨0x07C, 0, 1, .rw, 0x0, 0x1, false⟩ /- RCFG -/,
    ⟨0x080, 0, 1, .ro, 0x0, 0xFFFFFFFF, true⟩ /- RSTLATE -/,
    ⟨0x084, 0, 1, .ro, 0x0, 0xFFFFFFFF, true⟩ /- LOSTBANK -/,
    ⟨0x088, 0, 1, .ro, 0x0, 0xFFFFFFFF, true⟩ /- HIBCNT -/]
  | .gpio => [
    ⟨0x040, 0, 1, .rw, 0x0, 0xFFF, false⟩ /- GDIR -/,
    ⟨0x044, 0, 1, .rw, 0x0, 0xFFF, false⟩ /- GOUT -/,
    ⟨0x048, 0, 1, .wo, 0x0, 0xFFF, false⟩ /- GSET -/,
    ⟨0x04C, 0, 1, .wo, 0x0, 0xFFF, false⟩ /- GCLR -/,
    ⟨0x050, 0, 1, .ro, 0x0, 0xFFF, false⟩ /- GIN -/,
    ⟨0x054, 0, 1, .rw, 0x0, 0xFFF0FFF, false⟩ /- GPULL -/,
    ⟨0x058, 4, 12, .rw, 0x0, 0x1FFF, false⟩ /- GEV -/,
    ⟨0x088, 0, 1, .ro, 0x0, 0xFFFFFFFF, true⟩ /- GEDGCNT -/]
  | .dbgc => [
    ⟨0x040, 0, 1, .ro, 0x0, 0x1F, false⟩ /- DLSTA -/,
    ⟨0x044, 0, 1, .rwl, 0x0, 0xF, false⟩ /- DLCTL -/,
    ⟨0x048, 0, 1, .ro, 0x0, 0xFFFFFFFF, true⟩ /- UFAIL -/,
    ⟨0x04C, 0, 1, .ro, 0x0, 0xFFFFFFFF, true⟩ /- BADPKT -/,
    ⟨0x050, 0, 1, .ro, 0x0, 0xFFFFFFFF, true⟩ /- DCRCERR -/,
    ⟨0x054, 0, 1, .ro, 0x0, 0xFFFFFFFF, true⟩ /- PKTCNT -/,
    ⟨0x058, 0, 1, .ro, 0x0, 0xFFFF07FF, false⟩ /- LASTHALT -/,
    ⟨0x05C, 4, 8, .ro, 0x0, 0xFFFFFFFF, false⟩ /- HALTED -/]

/-- The implemented bits of a kind of page's IRAW (the interrupt table of its chapter). -/
def irawMask : PageClass → Word
  | .hop => 0x1FF
  | .whl => 0x1FFF
  | .mrc => 0x7F
  | .cnv => 0x7F
  | .exc => 0xF
  | .fil => 0x3F
  | .weir => 0x1FFFFFF
  | .pls => 0x1F
  | .trip => 0x7
  | .seg => 0x7FFF
  | .node => 0x1
  | .ptp => 0x1FF
  | .upl => 0xFFF
  | .talg => 0x3F
  | .strm => 0xFFFFF
  | .alq => 0x7
  | .leat => 0xF
  | .tile => 0x1FF
  | .clu => 0x3
  | .flc => 0x7F
  | .jrn => 0x1
  | .ecc => 0xF
  | .hpt => 0x1F
  | .dev => 0x1
  | .mon => 0xFF
  | .pwr => 0x3F
  | .gpio => 0xFFF0FFF
  | .dbgc => 0xF
  | .hoplim0 => 0
  | .hoplim1 => 0
  | .mrg => 0
  | .fcoe => 0
  | .ptpp => 0
  | .leatc => 0
  | .boot => 0

/-- The row that names the offset, and the index in it. -/
def rowAt (rows : List RegRow) (off : Nat) : Option (RegRow × Nat) :=
  match rows with
  | [] => none
  | r :: rs =>
    if r.count = 1 then (if off = r.off then some (r, 0) else rowAt rs off)
    else if r.off ≤ off ∧ (off - r.off) % r.stride = 0 ∧ (off - r.off) / r.stride < r.count then
      some (r, (off - r.off) / r.stride)
    else rowAt rs off

/-- The row of a register by its byte address: header or block (R443, R444, R445). -/
def regRow? (addr : Nat) : Option (RegRow × Nat) :=
  match pageKind? (addr / 1024) with
  | none => none
  | some (c, _) => if addr % 1024 < 0x40 then rowAt headerRows (addr % 1024) else rowAt (blockRows c) (addr % 1024)

/-- What a stored register reads as before anything has written it: its reset value (R448). -/
def regReset (addr : Nat) : Word :=
  match regRow? addr with
  | none => 0
  | some (r, _) => r.reset

/-! Register names as byte addresses (R443). -/

abbrev Reg.hopHctl : Nat := 0x8040
abbrev Reg.hopEval : Nat := 0x8044
abbrev Reg.hopWeight : Nat := 0x8048
abbrev Reg.hopTarget : Nat := 0x804C
abbrev Reg.hopTherm : Nat := 0x8050
abbrev Reg.hopMigmin : Nat := 0x8054
abbrev Reg.hopPinwait : Nat := 0x8058
abbrev Reg.hopForbid (i : Nat) : Nat := 0x805C + 4 * i
abbrev Reg.hopMove0 : Nat := 0x806C
abbrev Reg.hopMove1 : Nat := 0x8070
abbrev Reg.hopMvsta : Nat := 0x8074
abbrev Reg.hopMvdone0 : Nat := 0x8078
abbrev Reg.hopMvdone1 : Nat := 0x807C
abbrev Reg.hopPrdpt : Nat := 0x8080
abbrev Reg.hopPrdsta : Nat := 0x8084
abbrev Reg.hopPrdw (i : Nat) : Nat := 0x8088 + 4 * i
abbrev Reg.hopMapidx : Nat := 0x80A8
abbrev Reg.hopMapdat : Nat := 0x80AC
abbrev Reg.hopPinclr : Nat := 0x80B0
abbrev Reg.hopPincnt : Nat := 0x80B4
abbrev Reg.hopMigcnt : Nat := 0x80B8
abbrev Reg.hopLatecnt : Nat := 0x80BC
abbrev Reg.hopHsta : Nat := 0x80C0
abbrev Reg.hoplim0Tbud (i : Nat) : Nat := 0x8840 + 4 * i
abbrev Reg.hoplim1Ctmax (i : Nat) : Nat := 0x8C40 + 4 * i
abbrev Reg.hoplim1Cbud (i : Nat) : Nat := 0x8C60 + 4 * i
abbrev Reg.hoplim1Retire (i : Nat) : Nat := 0x8C80 + 4 * i
abbrev Reg.hoplim1Retpend (i : Nat) : Nat := 0x8C90 + 4 * i
abbrev Reg.hoplim1Tlcnt (i : Nat) : Nat := 0x8CA0 + 4 * i
abbrev Reg.hoplim1Tload (i : Nat) : Nat := 0x8D20 + 4 * i
abbrev Reg.whlCfg (p : Nat) : Nat := 0x2040 + 1024 * p
abbrev Reg.whlPosl (p : Nat) : Nat := 0x2044 + 1024 * p
abbrev Reg.whlPosh (p : Nat) : Nat := 0x2048 + 1024 * p
abbrev Reg.whlHighl (p : Nat) : Nat := 0x204C + 1024 * p
abbrev Reg.whlHighh (p : Nat) : Nat := 0x2050 + 1024 * p
abbrev Reg.whlRate (p : Nat) : Nat := 0x2054 + 1024 * p
abbrev Reg.whlRatecap (p : Nat) : Nat := 0x2058 + 1024 * p
abbrev Reg.whlLines (p : Nat) : Nat := 0x205C + 1024 * p
abbrev Reg.whlEdgef (p : Nat) : Nat := 0x2060 + 1024 * p
abbrev Reg.whlTstop (p : Nat) : Nat := 0x2064 + 1024 * p
abbrev Reg.whlMoffs (p : Nat) : Nat := 0x2068 + 1024 * p
abbrev Reg.whlMloop (p : Nat) : Nat := 0x206C + 1024 * p
abbrev Reg.whlMper (p : Nat) : Nat := 0x2070 + 1024 * p
abbrev Reg.whlMerr (p : Nat) : Nat := 0x2074 + 1024 * p
abbrev Reg.whlSdiv (p : Nat) : Nat := 0x2078 + 1024 * p
abbrev Reg.whlStepinc (p : Nat) : Nat := 0x207C + 1024 * p
abbrev Reg.whlStep (p : Nat) : Nat := 0x2080 + 1024 * p
abbrev Reg.whlRebase (p : Nat) : Nat := 0x2084 + 1024 * p
abbrev Reg.whlSta (p : Nat) : Nat := 0x2088 + 1024 * p
abbrev Reg.whlIdxerr (p : Nat) : Nat := 0x208C + 1024 * p
abbrev Reg.whlSwept (p : Nat) : Nat := 0x2090 + 1024 * p
abbrev Reg.whlRevcnt (p : Nat) : Nat := 0x2094 + 1024 * p
abbrev Reg.whlOvscnt (p : Nat) : Nat := 0x2098 + 1024 * p
abbrev Reg.mrcMctl (p : Nat) : Nat := 0x4040 + 1024 * p
abbrev Reg.mrcDueh (p : Nat) : Nat := 0x4044 + 1024 * p
abbrev Reg.mrcDuepl (p : Nat) : Nat := 0x4048 + 1024 * p
abbrev Reg.mrcDueph (p : Nat) : Nat := 0x404C + 1024 * p
abbrev Reg.mrcLatetol (p : Nat) : Nat := 0x4050 + 1024 * p
abbrev Reg.mrcArmahd (p : Nat) : Nat := 0x4054 + 1024 * p
abbrev Reg.mrcLanes (p : Nat) : Nat := 0x4058 + 1024 * p
abbrev Reg.mrcTickets (p : Nat) : Nat := 0x405C + 1024 * p
abbrev Reg.mrcDispcnt (p : Nat) : Nat := 0x4060 + 1024 * p
abbrev Reg.mrcActcnt (p : Nat) : Nat := 0x4064 + 1024 * p
abbrev Reg.mrcLatecnt (p : Nat) : Nat := 0x4068 + 1024 * p
abbrev Reg.mrcSkipcnt (p : Nat) : Nat := 0x406C + 1024 * p
abbrev Reg.mrcMisscnt (p : Nat) : Nat := 0x4070 + 1024 * p
abbrev Reg.mrcWlate (p : Nat) : Nat := 0x4074 + 1024 * p
abbrev Reg.mrcWakecnt (p : Nat) : Nat := 0x4078 + 1024 * p
abbrev Reg.mrcArmfull (p : Nat) : Nat := 0x407C + 1024 * p
abbrev Reg.mrcWaitq (p : Nat) : Nat := 0x4080 + 1024 * p
abbrev Reg.mrgCalidx : Nat := 0x6040
abbrev Reg.mrgCald (i : Nat) : Nat := 0x6044 + 4 * i
abbrev Reg.mrgCalcmd : Nat := 0x6064
abbrev Reg.mrgCalsta : Nat := 0x6068
abbrev Reg.mrgLslotw : Nat := 0x606C
abbrev Reg.mrgTslotw : Nat := 0x6070
abbrev Reg.mrgTktlive : Nat := 0x6074
abbrev Reg.cnvCctl (p : Nat) : Nat := 0x10040 + 1024 * p
abbrev Reg.cnvInsel (p : Nat) : Nat := 0x10044 + 1024 * p
abbrev Reg.cnvImode (p : Nat) : Nat := 0x10048 + 1024 * p
abbrev Reg.cnvRng (p : Nat) : Nat := 0x1004C + 1024 * p
abbrev Reg.cnvMuxset (p : Nat) : Nat := 0x10050 + 1024 * p
abbrev Reg.cnvScanl (p : Nat) : Nat := 0x10054 + 1024 * p
abbrev Reg.cnvScanctl (p : Nat) : Nat := 0x10058 + 1024 * p
abbrev Reg.cnvBurn (p : Nat) : Nat := 0x1005C + 1024 * p
abbrev Reg.cnvScango (p : Nat) : Nat := 0x10060 + 1024 * p
abbrev Reg.cnvGtrim (p : Nat) (i : Nat) : Nat := 0x10064 + 1024 * p + 4 * i
abbrev Reg.cnvOtrim (p : Nat) (i : Nat) : Nat := 0x10078 + 1024 * p + 4 * i
abbrev Reg.cnvSta (p : Nat) : Nat := 0x1008C + 1024 * p
abbrev Reg.cnvLastr (p : Nat) : Nat := 0x10090 + 1024 * p
abbrev Reg.cnvRchgcnt (p : Nat) : Nat := 0x10094 + 1024 * p
abbrev Reg.cnvOvrcnt (p : Nat) : Nat := 0x10098 + 1024 * p
abbrev Reg.cnvSynccnt (p : Nat) : Nat := 0x1009C + 1024 * p
abbrev Reg.cnvSyncbusy (p : Nat) : Nat := 0x100A0 + 1024 * p
abbrev Reg.cnvSupcnt (p : Nat) : Nat := 0x100A4 + 1024 * p
abbrev Reg.excXctl : Nat := 0x12040
abbrev Reg.excExcp (i : Nat) : Nat := 0x12044 + 4 * i
abbrev Reg.excChsel (i : Nat) : Nat := 0x12084 + 4 * i
abbrev Reg.excXconv (i : Nat) : Nat := 0x120A4 + 4 * i
abbrev Reg.excXset (i : Nat) : Nat := 0x120C4 + 4 * i
abbrev Reg.excXlim (i : Nat) : Nat := 0x120E4 + 4 * i
abbrev Reg.excXsta : Nat := 0x12104
abbrev Reg.excXrearm : Nat := 0x12108
abbrev Reg.excChgcnt : Nat := 0x1210C
abbrev Reg.filPath (p : Nat) (i : Nat) : Nat := 0x12840 + 1024 * p + 4 * i
abbrev Reg.filBanka (p : Nat) : Nat := 0x12850 + 1024 * p
abbrev Reg.filBankb (p : Nat) : Nat := 0x12854 + 1024 * p
abbrev Reg.filSta (p : Nat) : Nat := 0x12858 + 1024 * p
abbrev Reg.filMacload (p : Nat) : Nat := 0x1285C + 1024 * p
abbrev Reg.filHead (p : Nat) (i : Nat) : Nat := 0x12860 + 1024 * p + 4 * i
abbrev Reg.filRrsel (p : Nat) : Nat := 0x12870 + 1024 * p
abbrev Reg.filRrd (p : Nat) (i : Nat) : Nat := 0x12874 + 1024 * p + 4 * i
abbrev Reg.filSatcnt (p : Nat) : Nat := 0x12884 + 1024 * p
abbrev Reg.filDropcnt (p : Nat) : Nat := 0x12888 + 1024 * p
abbrev Reg.filRestcnt (p : Nat) : Nat := 0x1288C + 1024 * p
abbrev Reg.filNew (p : Nat) (i : Nat) : Nat := 0x12900 + 1024 * p + 4 * i
abbrev Reg.fcoeCoef (p : Nat) (i : Nat) : Nat := 0x14040 + 1024 * p + 4 * i
abbrev Reg.fcoeCoefa (p : Nat) (i : Nat) : Nat := 0x14040 + 1024 * p + 4 * i
abbrev Reg.fcoeCoefb (p : Nat) (i : Nat) : Nat := 0x14100 + 1024 * p + 4 * i
abbrev Reg.weirWcfg (p : Nat) (i : Nat) : Nat := 0x18040 + 1024 * p + 32 * i
abbrev Reg.weirWthr (p : Nat) (i : Nat) : Nat := 0x18044 + 1024 * p + 32 * i
abbrev Reg.weirWhys (p : Nat) (i : Nat) : Nat := 0x18048 + 1024 * p + 32 * i
abbrev Reg.weirWev (p : Nat) (i : Nat) : Nat := 0x1804C + 1024 * p + 32 * i
abbrev Reg.weirWcnt (p : Nat) (i : Nat) : Nat := 0x18050 + 1024 * p + 32 * i
abbrev Reg.weirPtest (p : Nat) (i : Nat) : Nat := 0x18054 + 1024 * p + 32 * i
abbrev Reg.weirPtres (p : Nat) (i : Nat) : Nat := 0x18058 + 1024 * p + 32 * i
abbrev Reg.weirWsta (p : Nat) : Nat := 0x18140 + 1024 * p
abbrev Reg.weirSampdiv (p : Nat) : Nat := 0x18144 + 1024 * p
abbrev Reg.weirHibsel (p : Nat) : Nat := 0x18148 + 1024 * p
abbrev Reg.plsPcfg (i : Nat) : Nat := 0x1A040 + 32 * i
abbrev Reg.plsMaxw (i : Nat) : Nat := 0x1A044 + 32 * i
abbrev Reg.plsMinoff (i : Nat) : Nat := 0x1A048 + 32 * i
abbrev Reg.plsDuty (i : Nat) : Nat := 0x1A04C + 32 * i
abbrev Reg.plsPlev (i : Nat) : Nat := 0x1A050 + 32 * i
abbrev Reg.plsPsta (i : Nat) : Nat := 0x1A054 + 32 * i
abbrev Reg.plsLimcnt (i : Nat) : Nat := 0x1A058 + 32 * i
abbrev Reg.plsEdgcnt (i : Nat) : Nat := 0x1A05C + 32 * i
abbrev Reg.plsPlvl : Nat := 0x1A240
abbrev Reg.tripTsrc (i : Nat) : Nat := 0x1A440 + 4 * i
abbrev Reg.tripTincfg : Nat := 0x1A480
abbrev Reg.tripLtmask : Nat := 0x1A484
abbrev Reg.tripSwtrip : Nat := 0x1A488
abbrev Reg.tripRearm : Nat := 0x1A48C
abbrev Reg.tripTripped : Nat := 0x1A490
abbrev Reg.tripSrcnow : Nat := 0x1A494
abbrev Reg.tripCause (i : Nat) : Nat := 0x1A498 + 4 * i
abbrev Reg.tripCstmp (i : Nat) : Nat := 0x1A4D8 + 4 * i
abbrev Reg.tripTripcnt : Nat := 0x1A518
abbrev Reg.tripRjcnt : Nat := 0x1A51C
abbrev Reg.segSctl (p : Nat) : Nat := 0x20040 + 1024 * p
abbrev Reg.segPlcacfg (p : Nat) : Nat := 0x20044 + 1024 * p
abbrev Reg.segPlcatmr (p : Nat) : Nat := 0x20048 + 1024 * p
abbrev Reg.segPlcafb (p : Nat) : Nat := 0x2004C + 1024 * p
abbrev Reg.segEtype (p : Nat) : Nat := 0x20050 + 1024 * p
abbrev Reg.segSmacl (p : Nat) : Nat := 0x20054 + 1024 * p
abbrev Reg.segSmach (p : Nat) : Nat := 0x20058 + 1024 * p
abbrev Reg.segMcastl (p : Nat) : Nat := 0x2005C + 1024 * p
abbrev Reg.segMcasth (p : Nat) : Nat := 0x20060 + 1024 * p
abbrev Reg.segAuthcfg (p : Nat) : Nat := 0x20064 + 1024 * p
abbrev Reg.segAlprio (p : Nat) : Nat := 0x20068 + 1024 * p
abbrev Reg.segSta (p : Nat) : Nat := 0x2006C + 1024 * p
abbrev Reg.segTxcmd (p : Nat) : Nat := 0x20070 + 1024 * p
abbrev Reg.segTxsta (p : Nat) : Nat := 0x20074 + 1024 * p
abbrev Reg.segMbxsta (p : Nat) : Nat := 0x20078 + 1024 * p
abbrev Reg.segMbxhdr (p : Nat) : Nat := 0x2007C + 1024 * p
abbrev Reg.segMbxpop (p : Nat) : Nat := 0x20080 + 1024 * p
abbrev Reg.segBurstno (p : Nat) : Nat := 0x20084 + 1024 * p
abbrev Reg.segPolltx (p : Nat) : Nat := 0x20088 + 1024 * p
abbrev Reg.segRxfrm (p : Nat) : Nat := 0x2008C + 1024 * p
abbrev Reg.segTxfrm (p : Nat) : Nat := 0x20090 + 1024 * p
abbrev Reg.segColcnt (p : Nat) : Nat := 0x20094 + 1024 * p
abbrev Reg.segColdrop (p : Nat) : Nat := 0x20098 + 1024 * p
abbrev Reg.segStrcnt (p : Nat) : Nat := 0x2009C + 1024 * p
abbrev Reg.segReplcnt (p : Nat) : Nat := 0x200A0 + 1024 * p
abbrev Reg.segAuthfail (p : Nat) : Nat := 0x200A4 + 1024 * p
abbrev Reg.segReplay (p : Nat) : Nat := 0x200A8 + 1024 * p
abbrev Reg.segBadfrm (p : Nat) : Nat := 0x200AC + 1024 * p
abbrev Reg.segDropbuf (p : Nat) : Nat := 0x200B0 + 1024 * p
abbrev Reg.segPollbusy (p : Nat) : Nat := 0x200B4 + 1024 * p
abbrev Reg.segBadpoll (p : Nat) : Nat := 0x200B8 + 1024 * p
abbrev Reg.segLaterep (p : Nat) : Nat := 0x200BC + 1024 * p
abbrev Reg.segOldrep (p : Nat) : Nat := 0x200C0 + 1024 * p
abbrev Reg.segChbad (p : Nat) : Nat := 0x200C4 + 1024 * p
abbrev Reg.segMisscnt (p : Nat) : Nat := 0x200C8 + 1024 * p
abbrev Reg.segOther (p : Nat) : Nat := 0x200CC + 1024 * p
abbrev Reg.segIdmove (p : Nat) : Nat := 0x200D0 + 1024 * p
abbrev Reg.segBurstfail (p : Nat) : Nat := 0x200D4 + 1024 * p
abbrev Reg.segBlkdrop (p : Nat) : Nat := 0x200D8 + 1024 * p
abbrev Reg.segSlpdrop (p : Nat) : Nat := 0x200DC + 1024 * p
abbrev Reg.segSlogwp (p : Nat) : Nat := 0x200E0 + 1024 * p
abbrev Reg.segMaskl (p : Nat) (i : Nat) : Nat := 0x20100 + 1024 * p + 16 * i
abbrev Reg.segMaskh (p : Nat) (i : Nat) : Nat := 0x20104 + 1024 * p + 16 * i
abbrev Reg.segBctl (p : Nat) (i : Nat) : Nat := 0x20108 + 1024 * p + 16 * i
abbrev Reg.segBtmo (p : Nat) (i : Nat) : Nat := 0x2010C + 1024 * p + 16 * i
abbrev Reg.segSlidl (p : Nat) (i : Nat) : Nat := 0x20200 + 1024 * p + 16 * i
abbrev Reg.segSlidh (p : Nat) (i : Nat) : Nat := 0x20204 + 1024 * p + 16 * i
abbrev Reg.segSlinfo (p : Nat) (i : Nat) : Nat := 0x20208 + 1024 * p + 16 * i
abbrev Reg.segSlstamp (p : Nat) (i : Nat) : Nat := 0x2020C + 1024 * p + 16 * i
abbrev Reg.segMbxrx (p : Nat) (i : Nat) : Nat := 0x20300 + 1024 * p + 4 * i
abbrev Reg.segMbxtx (p : Nat) (i : Nat) : Nat := 0x20380 + 1024 * p + 4 * i
abbrev Reg.nodeNidx (p : Nat) : Nat := 0x28040 + 1024 * p
abbrev Reg.nodeNd (p : Nat) (i : Nat) : Nat := 0x28044 + 1024 * p + 4 * i
abbrev Reg.nodeNcmd (p : Nat) : Nat := 0x28064 + 1024 * p
abbrev Reg.nodeNsta (p : Nat) : Nat := 0x28068 + 1024 * p
abbrev Reg.nodeKidx (p : Nat) : Nat := 0x2806C + 1024 * p
abbrev Reg.nodeKey (p : Nat) (i : Nat) : Nat := 0x28070 + 1024 * p + 4 * i
abbrev Reg.nodeKcmd (p : Nat) : Nat := 0x28080 + 1024 * p
abbrev Reg.nodeKval0 (p : Nat) : Nat := 0x28084 + 1024 * p
abbrev Reg.nodeKval1 (p : Nat) : Nat := 0x28088 + 1024 * p
abbrev Reg.nodeKval2 (p : Nat) : Nat := 0x2808C + 1024 * p
abbrev Reg.nodeCidx (p : Nat) : Nat := 0x28090 + 1024 * p
abbrev Reg.nodeCd (p : Nat) (i : Nat) : Nat := 0x28094 + 1024 * p + 4 * i
abbrev Reg.nodeLive0 (p : Nat) : Nat := 0x280A4 + 1024 * p
abbrev Reg.nodeLive1 (p : Nat) : Nat := 0x280A8 + 1024 * p
abbrev Reg.ptpCtl : Nat := 0x2C040
abbrev Reg.ptpClkidl : Nat := 0x2C044
abbrev Reg.ptpClkidh : Nat := 0x2C048
abbrev Reg.ptpServo : Nat := 0x2C04C
abbrev Reg.ptpStepthr : Nat := 0x2C050
abbrev Reg.ptpSlewmax : Nat := 0x2C054
abbrev Reg.ptpLockthr : Nat := 0x2C058
abbrev Reg.ptpLosstmo : Nat := 0x2C05C
abbrev Reg.ptpAdj : Nat := 0x2C060
abbrev Reg.ptpFint : Nat := 0x2C064
abbrev Reg.ptpOffset : Nat := 0x2C068
abbrev Reg.ptpMpd : Nat := 0x2C06C
abbrev Reg.ptpSta : Nat := 0x2C070
abbrev Reg.ptpTimel : Nat := 0x2C074
abbrev Reg.ptpTimeh : Nat := 0x2C078
abbrev Reg.ptpSecl : Nat := 0x2C07C
abbrev Reg.ptpSech : Nat := 0x2C080
abbrev Reg.ptpNsec : Nat := 0x2C084
abbrev Reg.ptpEpochw : Nat := 0x2C088
abbrev Reg.ptpEpochs : Nat := 0x2C08C
abbrev Reg.ptpEpochsh : Nat := 0x2C090
abbrev Reg.ptpEpochns : Nat := 0x2C094
abbrev Reg.ptpCapl : Nat := 0x2C098
abbrev Reg.ptpCaph : Nat := 0x2C09C
abbrev Reg.ptpStepcnt : Nat := 0x2C0A0
abbrev Reg.ptpSyncrx : Nat := 0x2C0A4
abbrev Reg.ptpBackmax : Nat := 0x2C0A8
abbrev Reg.ptpPmbxsta : Nat := 0x2C0AC
abbrev Reg.ptpPmbxhdr : Nat := 0x2C0B0
abbrev Reg.ptpPmbxpop : Nat := 0x2C0B4
abbrev Reg.ptpPtxcmd : Nat := 0x2C0B8
abbrev Reg.ptpPmbxrx (i : Nat) : Nat := 0x2C200 + 4 * i
abbrev Reg.ptpPmbxtx (i : Nat) : Nat := 0x2C300 + 4 * i
abbrev Reg.ptppPcfg (i : Nat) : Nat := 0x2C440 + 32 * i
abbrev Reg.ptppTxlat (i : Nat) : Nat := 0x2C444 + 32 * i
abbrev Reg.ptppRxlat (i : Nat) : Nat := 0x2C448 + 32 * i
abbrev Reg.ptppAsym (i : Nat) : Nat := 0x2C44C + 32 * i
abbrev Reg.ptppLtxs (i : Nat) : Nat := 0x2C450 + 32 * i
abbrev Reg.ptppLrxs (i : Nat) : Nat := 0x2C454 + 32 * i
abbrev Reg.ptppPsta (i : Nat) : Nat := 0x2C458 + 32 * i
abbrev Reg.ptppPmpd (i : Nat) : Nat := 0x2C45C + 32 * i
abbrev Reg.ptppPtpdrop : Nat := 0x2C680
abbrev Reg.ptppDomdrop : Nat := 0x2C684
abbrev Reg.ptppTxpois : Nat := 0x2C688
abbrev Reg.uplUctl (p : Nat) : Nat := 0x2E040 + 1024 * p
abbrev Reg.uplSmacl (p : Nat) : Nat := 0x2E044 + 1024 * p
abbrev Reg.uplSmach (p : Nat) : Nat := 0x2E048 + 1024 * p
abbrev Reg.uplMcastl (p : Nat) : Nat := 0x2E04C + 1024 * p
abbrev Reg.uplMcasth (p : Nat) : Nat := 0x2E050 + 1024 * p
abbrev Reg.uplBetype (p : Nat) : Nat := 0x2E054 + 1024 * p
abbrev Reg.uplBdmacl (p : Nat) : Nat := 0x2E058 + 1024 * p
abbrev Reg.uplBdmach (p : Nat) : Nat := 0x2E05C + 1024 * p
abbrev Reg.uplUsta (p : Nat) : Nat := 0x2E060 + 1024 * p
abbrev Reg.uplSidx (p : Nat) : Nat := 0x2E064 + 1024 * p
abbrev Reg.uplSd (p : Nat) (i : Nat) : Nat := 0x2E068 + 1024 * p + 4 * i
abbrev Reg.uplScmd (p : Nat) : Nat := 0x2E088 + 1024 * p
abbrev Reg.uplSsta (p : Nat) : Nat := 0x2E08C + 1024 * p
abbrev Reg.uplKidx (p : Nat) : Nat := 0x2E090 + 1024 * p
abbrev Reg.uplKey (p : Nat) (i : Nat) : Nat := 0x2E094 + 1024 * p + 4 * i
abbrev Reg.uplKcmd (p : Nat) : Nat := 0x2E0A4 + 1024 * p
abbrev Reg.uplKval0 (p : Nat) : Nat := 0x2E0A8 + 1024 * p
abbrev Reg.uplKval1 (p : Nat) : Nat := 0x2E0AC + 1024 * p
abbrev Reg.uplCidx (p : Nat) : Nat := 0x2E0B0 + 1024 * p
abbrev Reg.uplCd (p : Nat) (i : Nat) : Nat := 0x2E0B4 + 1024 * p + 4 * i
abbrev Reg.uplTxcmd (p : Nat) : Nat := 0x2E0C4 + 1024 * p
abbrev Reg.uplDmacl (p : Nat) : Nat := 0x2E0C8 + 1024 * p
abbrev Reg.uplDmach (p : Nat) : Nat := 0x2E0CC + 1024 * p
abbrev Reg.uplTxsta (p : Nat) : Nat := 0x2E0D0 + 1024 * p
abbrev Reg.uplMbxsta (p : Nat) : Nat := 0x2E0D4 + 1024 * p
abbrev Reg.uplMbxhdr (p : Nat) : Nat := 0x2E0D8 + 1024 * p
abbrev Reg.uplMbxpop (p : Nat) : Nat := 0x2E0DC + 1024 * p
abbrev Reg.uplRxfrm (p : Nat) : Nat := 0x2E0E0 + 1024 * p
abbrev Reg.uplTxfrm (p : Nat) : Nat := 0x2E0E4 + 1024 * p
abbrev Reg.uplCrcerr (p : Nat) : Nat := 0x2E0E8 + 1024 * p
abbrev Reg.uplBadfrm (p : Nat) : Nat := 0x2E0EC + 1024 * p
abbrev Reg.uplStrcnt (p : Nat) : Nat := 0x2E0F0 + 1024 * p
abbrev Reg.uplAuthfail (p : Nat) : Nat := 0x2E0F4 + 1024 * p
abbrev Reg.uplBatfrm (p : Nat) : Nat := 0x2E0F8 + 1024 * p
abbrev Reg.uplDropbuf (p : Nat) : Nat := 0x2E0FC + 1024 * p
abbrev Reg.uplLinkcnt (p : Nat) : Nat := 0x2E100 + 1024 * p
abbrev Reg.uplHidl (p : Nat) : Nat := 0x2E104 + 1024 * p
abbrev Reg.uplHidh (p : Nat) : Nat := 0x2E108 + 1024 * p
abbrev Reg.uplMbxrx (p : Nat) (i : Nat) : Nat := 0x2E180 + 1024 * p + 4 * i
abbrev Reg.uplMbxtx (p : Nat) (i : Nat) : Nat := 0x2E200 + 1024 * p + 4 * i
abbrev Reg.tileSnbase (p : Nat) : Nat := 0x40180 + 1024 * p
abbrev Reg.tileSncnt (p : Nat) : Nat := 0x40184 + 1024 * p
abbrev Reg.tileSnwr (p : Nat) : Nat := 0x40188 + 1024 * p
abbrev Reg.tileSnrd (p : Nat) : Nat := 0x4018C + 1024 * p
abbrev Reg.tileSnsta (p : Nat) : Nat := 0x40190 + 1024 * p
abbrev Reg.talgGcfg (i : Nat) : Nat := 0x30040 + 32 * i
abbrev Reg.talgBposl (i : Nat) : Nat := 0x30044 + 32 * i
abbrev Reg.talgBposh (i : Nat) : Nat := 0x30048 + 32 * i
abbrev Reg.talgBw0l (i : Nat) : Nat := 0x3004C + 32 * i
abbrev Reg.talgBw0h (i : Nat) : Nat := 0x30050 + 32 * i
abbrev Reg.talgBseq (i : Nat) : Nat := 0x30054 + 32 * i
abbrev Reg.talgLatedrop (i : Nat) : Nat := 0x30058 + 32 * i
abbrev Reg.talgGscfg : Nat := 0x30240
abbrev Reg.talgGsgrace : Nat := 0x30244
abbrev Reg.talgGsl : Nat := 0x30248
abbrev Reg.talgGsh : Nat := 0x3024C
abbrev Reg.talgGsseq : Nat := 0x30250
abbrev Reg.talgGsbusy : Nat := 0x30254
abbrev Reg.talgGsskip : Nat := 0x30258
abbrev Reg.talgEarlycnt : Nat := 0x3025C
abbrev Reg.talgFullcnt : Nat := 0x30260
abbrev Reg.talgBadbnd : Nat := 0x30264
abbrev Reg.talgTwaitcnt : Nat := 0x30268
abbrev Reg.strmScfg (i : Nat) : Nat := 0x32040 + 64 * i
abbrev Reg.strmSpilltmo (i : Nat) : Nat := 0x32044 + 64 * i
abbrev Reg.strmDband (i : Nat) : Nat := 0x32048 + 64 * i
abbrev Reg.strmClose (i : Nat) : Nat := 0x3204C + 64 * i
abbrev Reg.strmSsta (i : Nat) : Nat := 0x32050 + 64 * i
abbrev Reg.strmBseq (i : Nat) : Nat := 0x32054 + 64 * i
abbrev Reg.strmAppcnt (i : Nat) : Nat := 0x32058 + 64 * i
abbrev Reg.strmDrop (i : Nat) : Nat := 0x3205C + 64 * i
abbrev Reg.strmEmptycl (i : Nat) : Nat := 0x32060 + 64 * i
abbrev Reg.strmSpillcnt (i : Nat) : Nat := 0x32064 + 64 * i
abbrev Reg.strmSpillerr (i : Nat) : Nat := 0x32068 + 64 * i
abbrev Reg.strmAlprio : Nat := 0x32140
abbrev Reg.alqActl : Nat := 0x32440
abbrev Reg.alqPostl : Nat := 0x32444
abbrev Reg.alqPosth : Nat := 0x32448
abbrev Reg.alqPopl : Nat := 0x3244C
abbrev Reg.alqPoph : Nat := 0x32450
abbrev Reg.alqPeekl : Nat := 0x32454
abbrev Reg.alqPeekh : Nat := 0x32458
abbrev Reg.alqCount : Nat := 0x3245C
abbrev Reg.alqLvl (i : Nat) : Nat := 0x32460 + 4 * i
abbrev Reg.alqSta : Nat := 0x32480
abbrev Reg.alqDrop : Nat := 0x32484
abbrev Reg.alqDiscnt : Nat := 0x32488
abbrev Reg.leatLctl : Nat := 0xC040
abbrev Reg.leatFire : Nat := 0xC044
abbrev Reg.leatFirem (i : Nat) : Nat := 0xC048 + 4 * i
abbrev Reg.leatStorm (i : Nat) : Nat := 0xC068 + 4 * i
abbrev Reg.leatCyclog : Nat := 0xC088
abbrev Reg.leatRejcnt : Nat := 0xC08C
abbrev Reg.leatOffdrop : Nat := 0xC090
abbrev Reg.leatBndbusy : Nat := 0xC094
abbrev Reg.leatBposl : Nat := 0xC098
abbrev Reg.leatBposh : Nat := 0xC09C
abbrev Reg.leatcCcfg (p : Nat) (i : Nat) : Nat := 0xC440 + 1024 * p + 16 * i
abbrev Reg.leatcFirecnt (p : Nat) (i : Nat) : Nat := 0xC444 + 1024 * p + 16 * i
abbrev Reg.leatcCoal (p : Nat) (i : Nat) : Nat := 0xC448 + 1024 * p + 16 * i
abbrev Reg.leatcCsta (p : Nat) (i : Nat) : Nat := 0xC44C + 1024 * p + 16 * i
abbrev Reg.tileCctl0 (p : Nat) : Nat := 0x40040 + 1024 * p
abbrev Reg.tileCctl1 (p : Nat) : Nat := 0x40044 + 1024 * p
abbrev Reg.tileCsta0 (p : Nat) : Nat := 0x40048 + 1024 * p
abbrev Reg.tileCsta1 (p : Nat) : Nat := 0x4004C + 1024 * p
abbrev Reg.tileEntry0 (p : Nat) : Nat := 0x40050 + 1024 * p
abbrev Reg.tileEntry1 (p : Nat) : Nat := 0x40054 + 1024 * p
abbrev Reg.tileDmax0 (p : Nat) : Nat := 0x40058 + 1024 * p
abbrev Reg.tileDmax1 (p : Nat) : Nat := 0x4005C + 1024 * p
abbrev Reg.tilePtidx (p : Nat) : Nat := 0x40060 + 1024 * p
abbrev Reg.tilePtdat (p : Nat) : Nat := 0x40064 + 1024 * p
abbrev Reg.tileImaddr (p : Nat) : Nat := 0x40068 + 1024 * p
abbrev Reg.tileImdata (p : Nat) : Nat := 0x4006C + 1024 * p
abbrev Reg.tileDqcnt (p : Nat) : Nat := 0x40070 + 1024 * p
abbrev Reg.tileDispn0 (p : Nat) : Nat := 0x40074 + 1024 * p
abbrev Reg.tileDispn1 (p : Nat) : Nat := 0x40078 + 1024 * p
abbrev Reg.tileBusyc0 (p : Nat) : Nat := 0x4007C + 1024 * p
abbrev Reg.tileBusyc1 (p : Nat) : Nat := 0x40080 + 1024 * p
abbrev Reg.tileTrapcnt (p : Nat) : Nat := 0x40084 + 1024 * p
abbrev Reg.tileCommits (p : Nat) : Nat := 0x40088 + 1024 * p
abbrev Reg.tileNoprog (p : Nat) : Nat := 0x4008C + 1024 * p
abbrev Reg.tileLanecnt (p : Nat) : Nat := 0x40090 + 1024 * p
abbrev Reg.cluGsta (p : Nat) : Nat := 0x60040 + 1024 * p
abbrev Reg.cluKeepon (p : Nat) : Nat := 0x60044 + 1024 * p
abbrev Reg.cluTwake (p : Nat) : Nat := 0x60048 + 1024 * p
abbrev Reg.cluCwake (p : Nat) : Nat := 0x6004C + 1024 * p
abbrev Reg.cluGateus (p : Nat) : Nat := 0x60050 + 1024 * p
abbrev Reg.cluRtwords (p : Nat) : Nat := 0x60054 + 1024 * p
abbrev Reg.cluRtwait (p : Nat) : Nat := 0x60058 + 1024 * p
abbrev Reg.flcFctl : Nat := 0x34040
abbrev Reg.flcFcmd0 : Nat := 0x34044
abbrev Reg.flcFcmd1 : Nat := 0x34048
abbrev Reg.flcFcmd2 : Nat := 0x3404C
abbrev Reg.flcFcmd3 : Nat := 0x34050
abbrev Reg.flcFsta : Nat := 0x34054
abbrev Reg.flcFdone0 : Nat := 0x34058
abbrev Reg.flcFdone1 : Nat := 0x3405C
abbrev Reg.flcErate : Nat := 0x34060
abbrev Reg.flcHcfg : Nat := 0x34064
abbrev Reg.flcHblk : Nat := 0x34068
abbrev Reg.flcHwptr : Nat := 0x3406C
abbrev Reg.flcHold : Nat := 0x34070
abbrev Reg.flcHdur : Nat := 0x34074
abbrev Reg.flcCkblk : Nat := 0x34078
abbrev Reg.flcBrblk : Nat := 0x3407C
abbrev Reg.flcBrres : Nat := 0x34080
abbrev Reg.flcReerase : Nat := 0x34084
abbrev Reg.flcErases : Nat := 0x34088
abbrev Reg.flcProgs : Nat := 0x3408C
abbrev Reg.flcReads : Nat := 0x34090
abbrev Reg.flcSuspcnt : Nat := 0x34094
abbrev Reg.flcSuspblk : Nat := 0x34098
abbrev Reg.flcGrownbad : Nat := 0x3409C
abbrev Reg.flcHlost : Nat := 0x340A0
abbrev Reg.flcSprej : Nat := 0x340A4
abbrev Reg.flcRatew : Nat := 0x340A8
abbrev Reg.flcEcntmax : Nat := 0x340AC
abbrev Reg.jrnJctl : Nat := 0x34440
abbrev Reg.jrnJaddr : Nat := 0x34444
abbrev Reg.jrnJdatl : Nat := 0x34448
abbrev Reg.jrnJdath : Nat := 0x3444C
abbrev Reg.jrnJsta : Nat := 0x34450
abbrev Reg.jrnJwrcnt : Nat := 0x34454
abbrev Reg.eccScrub : Nat := 0x34840
abbrev Reg.eccScrsta : Nat := 0x34844
abbrev Reg.eccScrcor : Nat := 0x34848
abbrev Reg.eccScrskip : Nat := 0x3484C
abbrev Reg.eccUecnt : Nat := 0x34850
abbrev Reg.eccPreadcnt : Nat := 0x34854
abbrev Reg.eccElclr : Nat := 0x34858
abbrev Reg.eccElwp : Nat := 0x3485C
abbrev Reg.eccEinj0 : Nat := 0x34860
abbrev Reg.eccEinj1 : Nat := 0x34864
abbrev Reg.eccMbist : Nat := 0x34868
abbrev Reg.eccMbsta : Nat := 0x3486C
abbrev Reg.eccEla (i : Nat) : Nat := 0x34900 + 16 * i
abbrev Reg.eccElw (i : Nat) : Nat := 0x34904 + 16 * i
abbrev Reg.eccElstmp (i : Nat) : Nat := 0x34908 + 16 * i
/-- PGID of a page's common header (R445). -/
abbrev Reg.hdrPgid (page : Nat) : Nat := page * 1024 + 0x000
/-- PGCAP of a page's common header (R445). -/
abbrev Reg.hdrPgcap (page : Nat) : Nat := page * 1024 + 0x004
/-- PGCTL of a page's common header (R445). -/
abbrev Reg.hdrPgctl (page : Nat) : Nat := page * 1024 + 0x008
/-- PGSTA of a page's common header (R445). -/
abbrev Reg.hdrPgsta (page : Nat) : Nat := page * 1024 + 0x00C
/-- IRAW of a page's common header (R445). -/
abbrev Reg.hdrIraw (page : Nat) : Nat := page * 1024 + 0x010
/-- IENA of a page's common header (R445). -/
abbrev Reg.hdrIena (page : Nat) : Nat := page * 1024 + 0x014
/-- IOUT of a page's common header (R445). -/
abbrev Reg.hdrIout (page : Nat) : Nat := page * 1024 + 0x018
/-- ISET of a page's common header (R445). -/
abbrev Reg.hdrIset (page : Nat) : Nat := page * 1024 + 0x01C
/-- EVSEL of a page's common header (R445). -/
abbrev Reg.hdrEvsel (page : Nat) : Nat := page * 1024 + 0x020
/-- EVIN of a page's common header (R445). -/
abbrev Reg.hdrEvin (page : Nat) : Nat := page * 1024 + 0x024
/-- ERRCNT of a page's common header (R445). -/
abbrev Reg.hdrErrcnt (page : Nat) : Nat := page * 1024 + 0x028
/-- ERRLOG of a page's common header (R445). -/
abbrev Reg.hdrErrlog (page : Nat) : Nat := page * 1024 + 0x02C
/-- SNAP of a page's common header (R445). -/
abbrev Reg.hdrSnap (page : Nat) : Nat := page * 1024 + 0x030
/-- SNAPSTA of a page's common header (R445). -/
abbrev Reg.hdrSnapsta (page : Nat) : Nat := page * 1024 + 0x034
abbrev Reg.hptHcfg : Nat := 0x440
abbrev Reg.hptHsta : Nat := 0x444
abbrev Reg.hptRejcnt : Nat := 0x448
abbrev Reg.hptFrmcnt : Nat := 0x44C
abbrev Reg.hptLastrej : Nat := 0x450
abbrev Reg.hptIpage : Nat := 0x454
abbrev Reg.hptCrcerr : Nat := 0x458
abbrev Reg.hptRdwords : Nat := 0x45C
abbrev Reg.hptScratch : Nat := 0x460
abbrev Reg.devPartid : Nat := 0x40
abbrev Reg.devStep : Nat := 0x44
abbrev Reg.devUidl : Nat := 0x48
abbrev Reg.devUidh : Nat := 0x4C
abbrev Reg.devPstate : Nat := 0x50
abbrev Reg.devRstcause : Nat := 0x54
abbrev Reg.devRsthist : Nat := 0x58
abbrev Reg.devRstcmd : Nat := 0x5C
abbrev Reg.devWdctl : Nat := 0x60
abbrev Reg.devWdkick : Nat := 0x64
abbrev Reg.devWdcnt : Nat := 0x68
abbrev Reg.bootBsta : Nat := 0x840
abbrev Reg.bootBdiag : Nat := 0x844
abbrev Reg.bootBcmd : Nat := 0x848
abbrev Reg.bootCgen : Nat := 0x84C
abbrev Reg.bootClen : Nat := 0x850
abbrev Reg.bootMingen : Nat := 0x854
abbrev Reg.bootKeyrev : Nat := 0x858
abbrev Reg.bootCfglen : Nat := 0x85C
abbrev Reg.bootCfgcrc : Nat := 0x860
abbrev Reg.bootCfgrej : Nat := 0x864
abbrev Reg.bootCfgfirst : Nat := 0x868
abbrev Reg.bootBootus : Nat := 0x86C
abbrev Reg.monTemp (i : Nat) : Nat := 0xC40 + 4 * i
abbrev Reg.monTlim : Nat := 0xC64
abbrev Reg.monTsta : Nat := 0xC68
abbrev Reg.monThclr : Nat := 0xC6C
abbrev Reg.monThrlvl : Nat := 0xC70
abbrev Reg.monThrcnt : Nat := 0xC74
abbrev Reg.monVmon (i : Nat) : Nat := 0xC78 + 4 * i
abbrev Reg.monVsta : Nat := 0xC98
abbrev Reg.monVfcnt : Nat := 0xC9C
abbrev Reg.monProc (i : Nat) : Nat := 0xCA0 + 4 * i
abbrev Reg.monProcmin : Nat := 0xCC0
abbrev Reg.pwrPsreq : Nat := 0x1040
abbrev Reg.pwrPssta : Nat := 0x1044
abbrev Reg.pwrSlptmo : Nat := 0x1048
abbrev Reg.pwrWakecfg : Nat := 0x104C
abbrev Reg.pwrWakesrc : Nat := 0x1050
abbrev Reg.pwrRtcsl : Nat := 0x1054
abbrev Reg.pwrRtcsh : Nat := 0x1058
abbrev Reg.pwrRtccmd : Nat := 0x105C
abbrev Reg.pwrRtcl : Nat := 0x1060
abbrev Reg.pwrRtch : Nat := 0x1064
abbrev Reg.pwrRtcsub : Nat := 0x1068
abbrev Reg.pwrAlml : Nat := 0x106C
abbrev Reg.pwrAlmh : Nat := 0x1070
abbrev Reg.pwrCksta : Nat := 0x1074
abbrev Reg.pwrCkgen : Nat := 0x1078
abbrev Reg.pwrRcfg : Nat := 0x107C
abbrev Reg.pwrRstlate : Nat := 0x1080
abbrev Reg.pwrLostbank : Nat := 0x1084
abbrev Reg.pwrHibcnt : Nat := 0x1088
abbrev Reg.gpioGdir : Nat := 0x1840
abbrev Reg.gpioGout : Nat := 0x1844
abbrev Reg.gpioGset : Nat := 0x1848
abbrev Reg.gpioGclr : Nat := 0x184C
abbrev Reg.gpioGin : Nat := 0x1850
abbrev Reg.gpioGpull : Nat := 0x1854
abbrev Reg.gpioGev (i : Nat) : Nat := 0x1858 + 4 * i
abbrev Reg.gpioGedgcnt : Nat := 0x1888
abbrev Reg.dbgcDlsta : Nat := 0x1440
abbrev Reg.dbgcDlctl : Nat := 0x1444
abbrev Reg.dbgcUfail : Nat := 0x1448
abbrev Reg.dbgcBadpkt : Nat := 0x144C
abbrev Reg.dbgcDcrcerr : Nat := 0x1450
abbrev Reg.dbgcPktcnt : Nat := 0x1454
abbrev Reg.dbgcLasthalt : Nat := 0x1458
abbrev Reg.dbgcHalted (i : Nat) : Nat := 0x145C + 4 * i
abbrev Reg.leatCcfg (i : Nat) : Nat := 0xC100 + 16 * i
abbrev Reg.leatFirecnt (i : Nat) : Nat := 0xC104 + 16 * i
abbrev Reg.leatCoal (i : Nat) : Nat := 0xC108 + 16 * i
abbrev Reg.leatCsta (i : Nat) : Nat := 0xC10C + 16 * i

/-! Page numbers (R546). -/

abbrev Page.dev : Nat := 0x0
abbrev Page.hpt : Nat := 0x1
abbrev Page.boot : Nat := 0x2
abbrev Page.mon : Nat := 0x3
abbrev Page.pwr : Nat := 0x4
abbrev Page.dbgc : Nat := 0x5
abbrev Page.gpio : Nat := 0x6
abbrev Page.whl (p : Nat) : Nat := 0x8 + p
abbrev Page.mrc (p : Nat) : Nat := 0x10 + p
abbrev Page.mrg : Nat := 0x18
abbrev Page.hop : Nat := 0x20
abbrev Page.hoplim0 : Nat := 0x22
abbrev Page.hoplim1 : Nat := 0x23
abbrev Page.leat : Nat := 0x30
abbrev Page.leatc (p : Nat) : Nat := 0x31 + p
abbrev Page.cnv (p : Nat) : Nat := 0x40 + p
abbrev Page.exc : Nat := 0x48
abbrev Page.fil (p : Nat) : Nat := 0x4A + p
abbrev Page.fcoe (p : Nat) : Nat := 0x50 + p
abbrev Page.weir (p : Nat) : Nat := 0x60 + p
abbrev Page.pls : Nat := 0x68
abbrev Page.trip : Nat := 0x69
abbrev Page.seg (p : Nat) : Nat := 0x80 + p
abbrev Page.node (p : Nat) : Nat := 0xA0 + p
abbrev Page.ptp : Nat := 0xB0
abbrev Page.ptpp : Nat := 0xB1
abbrev Page.upl (p : Nat) : Nat := 0xB8 + p
abbrev Page.talg : Nat := 0xC0
abbrev Page.strm : Nat := 0xC8
abbrev Page.alq : Nat := 0xC9
abbrev Page.flc : Nat := 0xD0
abbrev Page.jrn : Nat := 0xD1
abbrev Page.ecc : Nat := 0xD2
abbrev Page.tile (p : Nat) : Nat := 0x100 + p
abbrev Page.clu (p : Nat) : Nat := 0x180 + p

end Sys2Proof.Machine
end

