-- ==== Sys2Proof/Machine/Sparse.lean ====
section
/-! DEFINITION. A table of values by number, held as a list of pairs in ONE canonical form: keys strictly rising, and
no entry equal to what an unlisted key reads as. Registers, store words and the repeated units of the part are such
tables. Laws: Sys2Proof/Laws/Sparse.lean. -/

namespace Sys2Proof.Machine

/-- What key `k` reads as in table `m` whose unlisted keys read as `d k`. -/
def Sparse.get {α : Type} (d : Nat → α) : List (Nat × α) → Nat → α
  | [], k => d k
  | (j, v) :: rest, k => if k = j then v else Sparse.get d rest k

/-- `m` without key `k`. -/
def Sparse.drop {α : Type} (m : List (Nat × α)) (k : Nat) : List (Nat × α) := m.filter (fun e => e.1 != k)

/-- `m` with an entry of key `k` put before the first larger key. -/
def Sparse.put {α : Type} (k : Nat) (v : α) : List (Nat × α) → List (Nat × α)
  | [] => [(k, v)]
  | (j, w) :: rest => if k < j then (k, v) :: (j, w) :: rest else (j, w) :: Sparse.put k v rest

/-- `m` with key `k` at value `v`, in canonical form. -/
def Sparse.set {α : Type} [DecidableEq α] (d : Nat → α) (m : List (Nat × α)) (k : Nat) (v : α) : List (Nat × α) :=
  if v = d k then Sparse.drop m k else Sparse.put k v (Sparse.drop m k)

/-- Every key of the table is above `b`. -/
def Sparse.above {α : Type} (b : Nat) : List (Nat × α) → Bool
  | [] => true
  | (j, _) :: rest => decide (b < j) && Sparse.above b rest

/-- The canonical form: keys strictly rising, no entry at its default. -/
def Sparse.wf {α : Type} [DecidableEq α] (d : Nat → α) : List (Nat × α) → Bool
  | [] => true
  | (j, v) :: rest => decide (v ≠ d j) && Sparse.above j rest && Sparse.wf d rest

end Sys2Proof.Machine
end

