-- ==== Sys2Proof/Syntax.lean ====
section
/-! DEFINITION. The commands of the block: one constructor for every row of the table of operations and events, with the
operands that fix what happens (the table gives its rows no bits; the operands are the model's, assumption 6). -/

namespace Sys2Proof

/-- Who reads or writes registers and holds shadows of its own (R452, R453): a core (2 x (16c + t) + k), the debug
port or the host port. -/
inductive Req where
  | core (k : Fin 256)
  | dbg
  | host
  deriving DecidableEq, Repr

/-- The requester's index (R452). -/
def Req.index : Req → Nat
  | .core k => k.val
  | .dbg => 256
  | .host => 257

/-- The source of a fabric write that is acknowledged (R17): a core's oldest posted page write, or a migration's copy. -/
inductive FabricSrc where
  | core (k : Fin 256)
  | migration (lane : Fin 16384)
  deriving DecidableEq, Repr

/-- A frame received whole with a good FCS (R256, R292): address byte b in bits 8b, EtherType, VLAN tag, the bytes after
the EtherType, W0 at the receive stamp point before RXLAT (R275), and whether the receive ring had no room (R238). -/
structure Frame where
  dst : BitVec 48
  ethertype : BitVec 16
  vlan : Bool
  payload : List (BitVec 8)
  stamp : BitVec 64
  ringFull : Bool
  deriving DecidableEq, Repr

/-- A PTP message received (R270-R283): its destination address with byte 0 in bits 7:0, whether it finds the receive ring full
(R238), its domain, sequenceId, two-step flag, correctionField in 2^-16 ns, the timestamp
it carries in ns, W0 at its receive stamp point before RXLAT, the requesting port identity, and, for a general message,
its bytes from the PTP header on. -/
structure PtpMsg where
  dst : BitVec 48
  ringFull : Bool
  domain : BitVec 8
  seqId : BitVec 16
  twoStep : Bool
  correction : BitVec 64
  time : BitVec 64
  stamp : BitVec 64
  requester : BitVec 80
  bytes : List (BitVec 8)
  deriving DecidableEq, Repr

/-- What the Hopper gates: a tile or a cluster (R353). -/
inductive GateUnit where
  | tile (t : Fin 128)
  | cluster (c : Fin 8)
  deriving DecidableEq, Repr

/-- The reads of the TALG page that latch (R453): BPOSL or BW0L of a group, or GSL. -/
inductive TalgLatch where
  | bposl (g : Fin 16)
  | bw0l (g : Fin 16)
  | gsl
  deriving DecidableEq, Repr

/-- A modulator sample: the modulator's output in units of 2^-31 of the full scale of its range, and whether the input
exceeds that full scale (R136, R137). -/
structure Sample where
  raw : Int
  ovl : Bool
  deriving DecidableEq, Repr


/-- The commands, in the table's order. -/
inductive Instr where
  /-- FABRIC_WRITE_ACK (R17): A fabric write takes effect at its destination and is acknowledged to the port that issued it. -/
  | fabricWriteAck (src : FabricSrc)
  /-- EVALUATION (R61): The Hopper's regular evaluation timer expires and the placement duties run in order. -/
  | evaluation
  /-- OUT_OF_TURN_EVALUATION (R57): The Hopper evaluates out of turn after a tile has entered retire-pending. -/
  | outOfTurnEvaluation
  /-- MOVE1_POST (R72): A write to HOP.MOVE1 posts a firmware move to the move queue, or counts it as dropped when the queue is full. -/
  | move1Post (req : Req) (v : Word)
  /-- MIGRATION_START (R75): The migration engine starts a queued move once the lane and tiles are free, re-testing it and waking the tiles. -/
  | migrationStart
  /-- MIGRATION_HOLD (R79): The lane is found idle with a sufficient gap, or the move is forced, and the lane is held and its copy begins. -/
  | migrationHold (lane : Fin 16384)
  /-- PINNED (R79): PINWAIT evaluation periods pass without a gap, so the lane is pinned and the move ends PINNED. -/
  | pinned (lane : Fin 16384)
  /-- MIGRATION_COPY_DONE (R79): The copy ends; W2 and W3 are recopied after a boundary, or the move aborts if the destination became retire-pending. -/
  | migrationCopyDone (lane : Fin 16384)
  /-- MAP_FLIP (R79): After the destination acknowledges the copy, the map entry flips, the lane is released with its held dispatches and marks, and the move ends DONE. -/
  | mapFlip (lane : Fin 16384)
  /-- MAP_JOURNAL_WRITE (R55): The Hopper writes a flipped map entry to the journal log, copying a base after 2,048 appends. -/
  | mapJournalWrite
  /-- MVDONE0_READ (R77): A read of MVDONE0 pops a completion entry and latches MVDONE1, or sets UNDR when the queue is empty. -/
  | mvdone0Read (req : Req)
  /-- PRDPT_WRITE (R88): A write of PRDPT sets BUSY and starts a point read through the map. -/
  | prdptWrite (req : Req) (v : Word)
  /-- POINT_READ_DONE (R88): The point read port copies the whole record into PRDW0L–PRDW3H, clears BUSY and copies the TAG. -/
  | pointReadDone
  /-- MAPDAT_WRITE (R56): A MAPDAT write sets a map entry, or is refused with MAPREJ. -/
  | mapdatWrite (req : Req) (v : Word)
  /-- PINCLR_WRITE (R85): A write of PINCLR clears the PIN bit of the named lane. -/
  | pinclrWrite (req : Req) (v : Word)
  /-- TILE_RETIRE_PENDING (R86): An uncorrectable tile SRAM error puts the tile into retire-pending. -/
  | tileRetirePending (t : Fin 128)
  /-- RETIRED_MAP_JOURNAL_WRITE (R86): The Hopper's write of the retired-tile map to the journal completes. -/
  | retiredMapJournalWrite
  /-- RETIRE_CLEAR (R87): A write of 1 to a RETIRE bit while HOPLIM1 is unlocked clears it and journals the change. -/
  | retireClear (req : Req) (n : Fin 4) (v : Word)
  /-- TILE_GATE (R353): The Hopper gates an idle tile or cluster whose cores permit gating. -/
  | tileGate (unit : GateUnit)
  /-- WAKE_GUARD (R123): HIGH reaches the due position less the guard, and the dispatcher starts the wake of a gated tile or cluster. -/
  | wakeGuard (t : Fin 128)
  /-- TILE_WAKE_DONE (R353): A tile wake ends, and the accesses and dispatches waiting for it proceed. -/
  | tileWakeDone (t : Fin 128)
  /-- CLUSTER_WAKE_DONE (R123): A cluster wake ends. -/
  | clusterWakeDone (c : Fin 8)
  /-- QUADRATURE_EDGE (R96): An edge on WHA or WHB passes the glitch filter and moves the SHAFT subcount forward or in reverse. -/
  | quadratureEdge (b : Bool) (level : Bool)
  /-- INDEX_EVENT (R98): A rising WHZ edge after a forward edge indexes the SHAFT wheel or corrects its position. -/
  | indexEvent
  /-- STOPPED (R100): TSTOP µs pass without a counted edge, so the wheel sets STOPPED and RATE reads 0. -/
  | stopped (n : Fin 4)
  /-- MAINS_EDGE (R102): An accepted rising MSYNC edge runs the MAINS loop or makes a forward jump. -/
  | mainsEdge
  /-- MLOSS (R104): No MSYNC edge is accepted within 1.5 × MPER, so the wheel sets MLOSS, clears LOCK and holds INC. -/
  | mloss (n : Fin 4)
  /-- STEP_WRITE (R106): A write to WHLn.STEP adds the written value to a STEP wheel. -/
  | stepWrite (req : Req) (n : Fin 4) (v : Word)
  /-- SOURCE_SWITCH (R108): A CFG write that changes SRC switches the wheel's source from its current position and HIGH. -/
  | sourceSwitch (req : Req) (n : Fin 4) (v : Word)
  /-- SDIV_WRITE (R105): An SDIV write re-takes SBASE and SORG so that the SCALED wheel does not jump. -/
  | sdivWrite (req : Req) (n : Fin 4) (v : Word)
  /-- LINES_WRITE (R554): A LINES write that changes the value under SHAFT re-derives the subcount and clears INDEXED. -/
  | linesWrite (req : Req) (n : Fin 4) (v : Word)
  /-- TSTOP_WRITE (R100): A TSTOP write takes effect measured from the last counted edge. -/
  | tstopWrite (req : Req) (n : Fin 4) (v : Word)
  /-- REBASE (R109): A REBASE write reduces the position, HIGH and every due position on the wheel by K turns. -/
  | rebase (req : Req) (n : Fin 4) (v : Word)
  /-- REBASED (R109): The background rewrite of a rebase finishes and IRAW.REBASED is set. -/
  | rebased (n : Fin 4)
  /-- POSL_READ (R90): A read of WHLn.POSL returns the position's low word and latches POSH. -/
  | poslRead (req : Req) (n : Fin 4)
  /-- HIGHL_READ (R91): A read of WHLn.HIGHL returns HIGH's low word and latches HIGHH. -/
  | highlRead (req : Req) (n : Fin 4)
  /-- TICKET_SLOT (R117): A ticket slot is granted to a dispatcher, which arms, skips or fails to arm one hardware occurrence. -/
  | ticketSlot
  /-- LANE_SLOT (R118): A lane-dispatch slot is granted and the dispatcher sends a due dispatch to the lane's seat. -/
  | laneSlot
  /-- OVRUN (R121): An occurrence falls due while the lane's previous dispatch still runs, which increments OVRUN. -/
  | ovrun (lane : Fin 16384)
  /-- CALCMD_READ (R128): A CALCMD READ fills CALD0–CALD7 from a lane entry, ticket or period table entry. -/
  | calcmdRead (req : Req)
  /-- CALCMD_WRITE (R128): A CALCMD WRITE replaces a lane entry, ticket or period entry under R122, or is refused whole. -/
  | calcmdWrite (req : Req)
  /-- DUEH_READ (R550): A read of DUEH reports the next lane dispatch and latches DUEPL and DUEPH. -/
  | duehRead (req : Req) (c : Fin 8)
  /-- CSYNC_LANDING (R148): A CSYNC occurrence lands at a converter, realigning the continuous output phase or triggering a scan. -/
  | csyncLanding (g : Fin 8)
  /-- EXCSW_LANDING (R154): An EXCSW occurrence lands and applies the named preset to the channel. -/
  | excswLanding (ch : Fin 8)
  /-- PEDGE_LANDING (R214): A PEDGE occurrence lands as an edge request on a pulse channel. -/
  | pedgeLanding (ch : Fin 16)
  /-- POLL_LANDING (R260): A POLL occurrence lands and queues a POLL for the named burst descriptor, or is counted busy or bad. -/
  | pollLanding (n : Fin 16)
  /-- TBOUND_LANDING (R304): A TBOUND occurrence lands as a boundary of its tally group, making the group's lanes pending. -/
  | tboundLanding (g : Fin 16)
  /-- LFIRE_LANDING (R331): An LFIRE occurrence lands and fires the named leat channel. -/
  | lfireLanding
  /-- BCLOSE_LANDING (R320): A BCLOSE occurrence lands and closes the stream's filling bank as TICKET. -/
  | bcloseLanding (n : Fin 4)
  /-- RANGE_DETECT (R139): A block of 8 modulator samples completes and the auto-ranging detector decides on a range change. -/
  | rangeDetect (g : Fin 8) (xs : List Sample)
  /-- RANGE_SWITCH (R143): A range switch takes effect at a modulator sample and opens a 9-sample blanking transition. -/
  | rangeSwitch (g : Fin 8)
  /-- BLANK_END (R143): The 9 blanked samples after a range switch end. -/
  | blankEnd (g : Fin 8)
  /-- SETTLE_END (R147): The settling window closes and the filter restarts, or the scan probe opens. -/
  | settleEnd (g : Fin 8)
  /-- PROBE_END (R151): The 32-sample probe closes and the PGA switches to the probed tag. -/
  | probeEnd (g : Fin 8) (xs : List Sample)
  /-- SCAN_ENTRY_END (R150): A scan entry delivers its last output; the next entry switches, or the scan ends with SCANDONE. -/
  | scanEntryEnd (g : Fin 8)
  /-- SCANGO (R149): A write of 1 to SCANGO starts a scan, or counts in SYNCBUSY while one runs. -/
  | scango (req : Req) (g : Fin 8)
  /-- CCTL_WRITE (R147): A CNV CCTL write that changes EN, MODE or other controls reconfigures the converter, switching the multiplexer when EN rises. -/
  | cctlWrite (req : Req) (g : Fin 8) (v : Word)
  /-- INSEL_WRITE (R147): A change of INSEL in continuous mode switches the multiplexer. -/
  | inselWrite (req : Req) (g : Fin 8) (v : Word)
  /-- IMODE_WRITE (R131): A change of the selected input's mode takes effect at the next sample and counts as a multiplexer switch. -/
  | imodeWrite (req : Req) (g : Fin 8) (v : Word)
  /-- RNG_WRITE (R142): A RNG write takes effect at the next block or is refused with RNGREJ. -/
  | rngWrite (req : Req) (g : Fin 8) (v : Word)
  /-- TRIM_WRITE (R138): A write of GTRIMt or OTRIMt takes effect at the next sample, as a transition if t is in effect. -/
  | trimWrite (req : Req) (g : Fin 8) (t : Fin 5) (offset : Bool) (v : Word)
  /-- REFLOW (R134): An external reference falls below 0.45 V, which sets REFLOW and marks samples overloaded. -/
  | reflow (g : Fin 8)
  /-- REFLOW_END (R134): The reference has stayed at 0.5 V or above for 64 samples, and overload marking stops. -/
  | reflowEnd (g : Fin 8)
  /-- OPEN_SET (R165): 16 consecutive open-sensor tests above 2.4 V set the input's OPEN bit. -/
  | openSet (g : Fin 8) (j : Fin 4)
  /-- OPEN_CLEAR (R165): 16 consecutive tests below 2.4 V clear the input's OPEN bit. -/
  | openClear (g : Fin 8) (j : Fin 4)
  /-- BURN_WRITE (R156): A change of an input's burnout current opens a 256-sample change interval. -/
  | burnWrite (req : Req) (g : Fin 8) (v : Word)
  /-- CHSEL_WRITE (R154): A CHSELk write applies a preset to channel k as an excitation change. -/
  | chselWrite (req : Req) (k : Fin 8) (v : Word)
  /-- EXCP_WRITE (R154): A write to a preset in use changes the outputs of the channels that apply it. -/
  | excpWrite (req : Req) (p : Fin 16) (v : Word)
  /-- XCTL_WRITE (R154): A change of EXC.XCTL.EN switches every channel and is an excitation change on each. -/
  | xctlWrite (req : Req) (v : Word)
  /-- XREARM (R163): A write to XREARM re-applies every channel's preset after EXCOFF, or is ignored while the cause persists. -/
  | xrearm (req : Req)
  /-- COMPL (R161): A CURRENT-mode output leaves its compliance span and sets XSTA.COMPL. -/
  | compl (k : Fin 8)
  /-- ILIMIT (R160): A VOLTAGE-mode load demands more than ILIM and is held there with ILIMIT set. -/
  | ilimit (k : Fin 8)
  /-- FILTER_OUTPUT (R195): A main-path output is delivered into its slot's result ring and NEW block with its flags final. -/
  | filterOutput (g : Fin 8) (xs : List Sample)
  /-- FIR_OUTPUT (R176): A FIR-path output, or a cross-fade output, is computed and delivered. -/
  | firOutput (g : Fin 8) (xs : List Sample)
  /-- FIRDROP (R194): A FIR output is not complete before the next falls due and is dropped. -/
  | firdrop (g : Fin 8) (xs : List Sample)
  /-- PATH_WRITE (R193): A PATHk write restarts the slot's filter, starts a cross-fade, or is refused. -/
  | pathWrite (req : Req) (g : Fin 8) (v : Word)
  /-- BANK_WRITE (R180): A BANKA, BANKB or coefficient write changes an unused bank or is refused with COEREJ. -/
  | bankWrite (req : Req) (addr : BitVec 24) (v : Word)
  /-- NEW_W0L_READ (R196): A read of a NEW block's W0L latches the rest of that record into the block's shadows. -/
  | newW0lRead (req : Req) (e : Fin 2) (k : Fin 4) (j : Fin 4)
  /-- RRD0_READ (R196): A read of RRD0 reads the ring record at RRSEL and latches RRD1–RRD3. -/
  | rrd0Read (req : Req) (e : Fin 2)
  /-- WEIR_CROSSING (R200): A weir's input crosses a threshold and its state changes, driving its trip signal and leat outputs. -/
  | weirCrossing (w : Fin 16) (x : Int)
  /-- WEIR_VALID (R201): A weir's enable time ends and it takes its first state by direct comparison. -/
  | weirValid (w : Fin 16) (x : Int)
  /-- WEIR_SAMPLE (R206): A sample tick powers a SAMPLED weir, which evaluates once after 4 µs. -/
  | weirSample (w : Fin 16) (x : Int)
  /-- WCFG_WRITE (R201): A WCFG write that changes the input, tag or mode makes the weir not VALID, or is refused. -/
  | wcfgWrite (req : Req) (w : Fin 16) (v : Word)
  /-- WTHR_WRITE (R202): A WTHR or WHYS write holds the weir's outputs while the DACs settle, or is refused with CFGREJ. -/
  | wthrWrite (req : Req) (w : Fin 16) (hys : Bool) (v : Word)
  /-- THRESHOLD_HOLD_END (R202): The tDAC hold ends and the weir resumes with the new thresholds. -/
  | thresholdHoldEnd (w : Fin 16) (x : Int)
  /-- SWAP (R209): A PTEST write with SWAP starts a proof test with the pins exchanged. -/
  | swap (req : Req) (w : Fin 16) (tie : Bool)
  /-- TIE (R209): A PTEST write with TIE starts the TIE-B, TIE-I and TIE-A proof steps. -/
  | tie (req : Req) (w : Fin 16)
  /-- PROOF_STEP_END (R209): A proof step's dwell time ends and its state is recorded. -/
  | proofStepEnd (w : Fin 16) (obs : Fin 3)
  /-- PROOF_TEST_DONE (R211): The restore step ends, PTRES reports the result, and the weir resumes. -/
  | proofTestDone (w : Fin 16) (x : Int)
  /-- WCLIP (R215): A pulse reaches MAXW and the channel ends it. -/
  | wclip (ch : Fin 16)
  /-- DEFERRED_EDGE_ADMIT (R216): A deferred active edge is admitted once MINOFF and credit tests pass. -/
  | deferredEdgeAdmit (ch : Fin 16)
  /-- DCLIP (R217): A channel's duty credit reaches 0 while active, and the pulse is ended. -/
  | dclip (ch : Fin 16)
  /-- PCFG_WRITE (R213): A PCFG write that clears EN ends a pulse and cancels a deferred edge. -/
  | pcfgWrite (req : Req) (ch : Fin 16) (v : Word)
  /-- TRIP_BALL (R227): TRIP0 or TRIP1 holds its active or inactive level through its filter, asserting or releasing the source. -/
  | tripBall (b : Fin 2) (level : Bool)
  /-- SWTRIP (R222): A write to SWTRIP trips the named channels that enable SW. -/
  | swtrip (req : Req) (v : Word)
  /-- REARM (R225): A write to REARM rearms a tripped channel, or is refused while a source is asserted. -/
  | rearm (req : Req) (v : Word)
  /-- PLCA_BEACON (R232): A coordinator port sends the beacon that opens a PLCA cycle. -/
  | plcaBeacon (n : Fin 16)
  /-- BEACON_RECEIVE (R235): A port hears a beacon; a follower leaves fallback, a coordinator hearing a foreign beacon becomes a follower. -/
  | beaconReceive (n : Fin 16)
  /-- FALLBACK (R235): A follower hears no beacon for BCNLOSS µs and falls back to CSMA/CD. -/
  | fallback (n : Fin 16)
  /-- COLLISION (R234): A collision aborts the port's transmission, which is retried or dropped after 16 attempts. -/
  | collision (n : Fin 16)
  /-- FRAME_RECEIVE (R256): A frame with good FCS that is not a valid HPP message is passed to PTP, counted as other, or counted as malformed. -/
  | frameReceive (p : Fin 18) (f : Frame)
  /-- ANNOUNCE (R256): An ANNOUNCE is received and checked against the node table, reaching the mailbox or replacing a node. -/
  | announce (n : Fin 16) (f : Frame)
  /-- REPLY (R256): A REPLY is received, authenticated and written to the value cache, and credited to the open burst or counted late. -/
  | reply (n : Fin 16) (f : Frame)
  /-- PUBLISH (R256): A PUBLISH is received on a segment or uplink, authenticated and written to the value cache. -/
  | publish (p : Fin 18) (f : Frame)
  /-- ACK (R256): An ACK is received, authenticated and placed in the receive mailbox. -/
  | ack (p : Fin 18) (f : Frame)
  /-- NACK (R256): A NACK is received, authenticated and placed in the receive mailbox. -/
  | nack (p : Fin 18) (f : Frame)
  /-- WRITE (R294): A WRITE from a peer hub is received on an uplink and placed in its receive mailbox. -/
  | write (u : Fin 2) (f : Frame)
  /-- PUBTMO_EXPIRY (R252): PUBTMO ms pass without an accepted PUBLISH, counting one miss. -/
  | pubtmoExpiry (p : Fin 18) (k : Fin 64)
  /-- POLL_SENT (R261): The POLL goes out in the port's opportunity, its stamp is recorded and the burst window opens. -/
  | pollSent (n : Fin 16) (stamp : BitVec 64)
  /-- BURST_WINDOW_CLOSE (R262): A burst window closes, counting a miss for each unanswering node and setting BURSTEND. -/
  | burstWindowClose (n : Fin 16)
  /-- NCMD_READ (R248): An NCMD READ fills ND0–ND7 from a node record. -/
  | ncmdRead (req : Req) (n : Fin 16)
  /-- NCMD_WRITE (R248): An NCMD WRITE sets words 0 and 1 of a node record and clears words 2 and 3, or is refused. -/
  | ncmdWrite (req : Req) (n : Fin 16)
  /-- KCMD_LOAD (R246): A KCMD LOAD writes a key into the slot KIDX. -/
  | kcmdLoad (req : Req) (p : Fin 18)
  /-- KCMD_ERASE (R246): A KCMD ERASE invalidates the key slot KIDX. -/
  | kcmdErase (req : Req) (p : Fin 18)
  /-- DISCOVER (R265): A TXCMD of type DISCOVER builds and queues a DISCOVER frame. -/
  | discover (req : Req) (n : Fin 16) (v : Word)
  /-- BIND (R265): A TXCMD of type BIND builds and queues a BIND frame. -/
  | bind (req : Req) (n : Fin 16) (v : Word)
  /-- TXCMD_WRITE (R265): A TXCMD of type WRITE builds and queues a WRITE frame. -/
  | txcmdWrite (req : Req) (p : Fin 18) (v : Word)
  /-- TXCMD_ACK (R265): A TXCMD of type ACK builds and queues an ACK frame. -/
  | txcmdAck (req : Req) (p : Fin 18) (v : Word)
  /-- TXCMD_NACK (R265): A TXCMD of type NACK builds and queues a NACK frame. -/
  | txcmdNack (req : Req) (p : Fin 18) (v : Word)
  /-- TXCMD_PUBLISH (R296): An uplink TXCMD of type PUBLISH builds and queues a PUBLISH frame. -/
  | txcmdPublish (req : Req) (u : Fin 2) (v : Word)
  /-- TXDONE (R265): A mailbox frame has been sent or dropped, BUSY clears and TXDONE is set. -/
  | txdone (p : Fin 18) (dropped : Bool)
  /-- MBXPOP (R266): A write to MBXPOP discards the oldest mailbox frame, or sets UNDR when empty. -/
  | mbxpop (req : Req) (p : Fin 18)
  /-- CD0_READ (R253): A read of CD0 returns a value cache entry word and latches CD1–CD3 for the reader. -/
  | cd0Read (req : Req) (p : Fin 18)
  /-- PLCACFG_WRITE (R232): A PLCACFG write sets the PLCA role and clears COORD2, or is refused with CFGREJ. -/
  | plcacfgWrite (req : Req) (n : Fin 16) (v : Word)
  /-- SYNC (R283): A Sync is accepted on the SLAVE port, the offset is taken and the servo steps or slews W0. -/
  | sync (p : Fin 18) (m : PtpMsg)
  /-- FOLLOW_UP (R282): A Follow_Up supplies the master time of a two-step Sync. -/
  | followUp (p : Fin 18) (m : PtpMsg)
  /-- DELAY_REQ (R272): A Delay_Req is received by a MASTER port and answered with Delay_Resp. -/
  | delayReq (p : Fin 18) (m : PtpMsg)
  /-- DELAY_RESP (R282): A Delay_Resp updates the mean path delay under E2E. -/
  | delayResp (p : Fin 18) (m : PtpMsg)
  /-- PDELAY_REQ (R279): A Pdelay_Req is received and answered with Pdelay_Resp. -/
  | pdelayReq (p : Fin 18) (m : PtpMsg)
  /-- PDELAY_RESP (R282): A Pdelay_Resp or its follow-up updates the peer delay of an uplink. -/
  | pdelayResp (p : Fin 18) (m : PtpMsg) (fu : Bool)
  /-- PTP_GENERAL_RECEIVE (R274): A general PTP message enters the PTP mailbox, or sets OVR when it is full. -/
  | ptpGeneralReceive (p : Fin 18) (m : PtpMsg)
  /-- SYNC_SEND (R272): A MASTER port's Sync interval expires and a Sync is queued. -/
  | syncSend (p : Fin 18)
  /-- DELAY_REQ_SEND (R272): A SLAVE port's Delay_Req interval expires under E2E and a Delay_Req is queued. -/
  | delayReqSend (p : Fin 18)
  /-- PDELAY_REQ_SEND (R273): An uplink's peer delay interval expires and a Pdelay_Req is queued. -/
  | pdelayReqSend (u : Fin 2)
  /-- EVENT_MESSAGE_SENT (R281): A PTP event message goes out whole, is stamped with one-step insertion, and any follow-up is queued. -/
  | eventMessageSent (p : Fin 18) (stamp : BitVec 64)
  /-- HOLD (R286): No Sync is accepted for LOSSTMO µs, so the servo enters holdover. -/
  | hold
  /-- EPOCH_WRAP (R289): W0[31:0] wraps and EPOCHW, EPOCHS, EPOCHSH and EPOCHNS latch together. -/
  | epochWrap
  /-- PTP_SECOND (R336): PTP time passes a whole second and the PTP block fires its leat event. -/
  | ptpSecond
  /-- PTXCMD (R274): A PTXCMD sends the PMBXTX bytes from the named port, or is refused. -/
  | ptxcmd (req : Req) (v : Word)
  /-- PMBXPOP (R274): A write to PMBXPOP discards the oldest PTP mailbox message. -/
  | pmbxpop (req : Req)
  /-- PCFG_PTP_WRITE (R272): A PTPP PCFG write sets a port state, or is refused when it would make a second SLAVE. -/
  | pcfgPtpWrite (req : Req) (p : Fin 18) (v : Word)
  /-- FINT_WRITE (R288): A write to FINT seeds the servo's integral path and free-running frequency. -/
  | fintWrite (req : Req) (v : Word)
  /-- TIMEL_READ (R268): A read of TIMEL latches TIMEH, SECL, SECH and NSEC of the same instant. -/
  | timelRead (req : Req)
  /-- EPOCHW_READ (R289): A read of EPOCHW latches EPOCHS, EPOCHSH and EPOCHNS. -/
  | epochwRead (req : Req)
  /-- CAPL_READ (R336): A read of CAPL latches CAPH. -/
  | caplRead (req : Req)
  /-- LINKUP (R291): An uplink's SGMII link comes up. -/
  | linkup (u : Fin 2)
  /-- LINKDN (R298): An uplink loses link; batch banks stay undrained and transmissions are discarded. -/
  | linkdn (u : Fin 2)
  /-- SPDERR (R291): A link partner signals a speed or duplex other than 1,000 Mb/s full duplex, holding the link down. -/
  | spderr (u : Fin 2)
  /-- PAUSE_RECEIVE (R292): A PAUSE frame is received and obeyed while PAUSEEN = 1. -/
  | pauseReceive (u : Fin 2) (t : BitVec 16)
  /-- BATCH_FRAGMENT_SENT (R297): A batch fragment goes out; after the last the bank is drained and BANKSENT set. -/
  | batchFragmentSent (u : Fin 2)
  /-- SCMD_READ (R294): An SCMD READ fills SD0–SD7 from a subscription record. -/
  | scmdRead (req : Req) (u : Fin 2)
  /-- SCMD_WRITE (R294): An SCMD WRITE sets a subscription record, or is refused with SREJ. -/
  | scmdWrite (req : Req) (u : Fin 2)
  /-- LANE_COPY (R306): The tally unit copies a pending lane's tally into a snapshot entry and restarts it. -/
  | laneCopy (t : Fin 128)
  /-- ENTRY_SEAL (R310): GRACE passes after BW0 and the entry is sealed, raising the snapshot-ready event. -/
  | entrySeal (t : Fin 128)
  /-- GLOBAL_SNAPSHOT (R315): W0 reaches S and every page latches its counters and chosen groups take KIND 1 entries. -/
  | globalSnapshot
  /-- SNAP_LATCH (R316): A write of 1 to SNAP[0] latches the page's counters alone. -/
  | snapLatch (req : Req) (page : Fin 16384)
  /-- SNAP_RELEASE (R316): A write of 1 to SNAP[1] releases the page's held counters. -/
  | snapRelease (req : Req) (page : Fin 16384)
  /-- SNRD_WRITE (R313): A write of SNRD consumes a sealed entry and raises SNFREE, or is refused with SNREJ. -/
  | snrdWrite (req : Req) (t : Fin 128) (v : Word)
  /-- SNBASE_WRITE (R313): A write of SNBASE or SNCNT resets the ring, or is refused with SNREJ. -/
  | snbaseWrite (req : Req) (t : Fin 128) (cnt : Bool) (v : Word)
  /-- APPEND (R319): An APCMD appends a record to a stream's filling bank, or is refused or dropped. -/
  | append (n : Fin 4) (ks : List (Fin 256))
  /-- CLOSE (R320): A write to CLOSE closes the filling bank as EXPLICIT. -/
  | close (req : Req) (n : Fin 4)
  /-- SPILLTMO_EXPIRY (R324): A closed bank is not drained within SPILLTMO and is spilled to flash as a history record. -/
  | spilltmoExpiry (n : Fin 4)
  /-- SPILL_ACCEPTED (R439): The flash controller accepts a spilled record whole, or refuses it and SPILLFAIL is posted. -/
  | spillAccepted (n : Fin 4)
  /-- ALARM_POST (R327): A POSTH write posts the requester's POSTL and POSTH into the alarm queue. -/
  | alarmPost (req : Req) (v : Word)
  /-- ALCMD (R393): A core's ALCMD write posts an alarm, or discards or refuses it. -/
  | alcmd (k : Fin 256)
  /-- POPL_READ (R329): A read of POPL pops the oldest entry of the lowest priority and latches POPH. -/
  | poplRead (reqs : List Req)
  /-- PEEKL_READ (R329): A read of PEEKL returns the next entry without popping and latches PEEKH. -/
  | peeklRead (req : Req)
  /-- TALG_LATCH_READ (R453): A read of BPOSL, BW0L or GSL of the TALG page latches its high word. -/
  | talgLatchRead (req : Req) (r : TalgLatch)
  /-- FIRE (R337): A write to LEAT.FIRE fires one channel. -/
  | fire (req : Req) (v : Word)
  /-- FIREM (R337): A write to FIREMn fires each channel whose bit is written as 1. -/
  | firem (req : Req) (n : Fin 8) (v : Word)
  /-- STORM_UNMASK (R343): A write of 1 to a STORMn bit unmasks the channel and restarts its storm window. -/
  | stormUnmask (req : Req) (n : Fin 8) (v : Word)
  /-- ROUTING_WRITE (R341): A write of EVSEL, EVIN, WEV, PLEV or LTMASK sets routing, or is refused as a loop or out of range. -/
  | routingWrite (req : Req) (addr : BitVec 24) (v : Word)
  /-- CCFG_WRITE (R344): A CCFG write changes a channel's mode and refractory time from the next NET cycle. -/
  | ccfgWrite (req : Req) (ch : Fin 256) (v : Word)
  /-- GLOBAL_PERIOD_BOUNDARY (R345): W0 reaches P and every enabled tally group takes a boundary. -/
  | globalPeriodBoundary
  /-- LEAT_BPOSL_READ (R345): A read of LEAT.BPOSL latches BPOSH. -/
  | leatBposlRead (req : Req)
  /-- DISPATCH_ARRIVAL (R382): A dispatch arrives at the tile's dispatch queue, or is ended at once as NOPROG. -/
  | dispatchArrival (t : Fin 128)
  /-- DISPATCH_START (R383): A free permitted core takes the oldest queued dispatch and starts the lane program. -/
  | dispatchStart (t : Fin 128)
  /-- ADD (R362): ALU ADD writes the sum of two registers. -/
  | add (k : Fin 256)
  /-- SUB (R362): ALU SUB writes the difference of two registers. -/
  | sub (k : Fin 256)
  /-- AND (R362): ALU AND writes the bitwise AND. -/
  | and_ (k : Fin 256)
  /-- OR (R362): ALU OR writes the bitwise OR. -/
  | or_ (k : Fin 256)
  /-- XOR (R362): ALU XOR writes the bitwise XOR. -/
  | xor_ (k : Fin 256)
  /-- MOV (R362): ALU MOV copies a register with its poison tag. -/
  | mov (k : Fin 256)
  /-- NOT (R362): ALU NOT writes the complement. -/
  | not_ (k : Fin 256)
  /-- NEG (R362): ALU NEG writes the negation. -/
  | neg (k : Fin 256)
  /-- SHL (R362): ALU SHL shifts left by a register. -/
  | shl (k : Fin 256)
  /-- SHR (R362): ALU SHR shifts right logically by a register. -/
  | shr (k : Fin 256)
  /-- SAR (R362): ALU SAR shifts right arithmetically by a register. -/
  | sar (k : Fin 256)
  /-- ROL (R362): ALU ROL rotates left by a register. -/
  | rol (k : Fin 256)
  /-- SHLI (R362): ALU SHLI shifts left by an immediate. -/
  | shli (k : Fin 256)
  /-- SHRI (R362): ALU SHRI shifts right logically by an immediate. -/
  | shri (k : Fin 256)
  /-- SARI (R362): ALU SARI shifts right arithmetically by an immediate. -/
  | sari (k : Fin 256)
  /-- ROLI (R362): ALU ROLI rotates left by an immediate. -/
  | roli (k : Fin 256)
  /-- MINU (R362): ALU MINU writes the unsigned lesser. -/
  | minu (k : Fin 256)
  /-- MAXU (R362): ALU MAXU writes the unsigned greater. -/
  | maxu (k : Fin 256)
  /-- MINS (R362): ALU MINS writes the signed lesser. -/
  | mins (k : Fin 256)
  /-- MAXS (R362): ALU MAXS writes the signed greater. -/
  | maxs (k : Fin 256)
  /-- SLTU (R362): ALU SLTU writes 1 if a < b unsigned. -/
  | sltu (k : Fin 256)
  /-- SLT (R362): ALU SLT writes 1 if a < b signed. -/
  | slt (k : Fin 256)
  /-- ADDC (R368): ADDC adds with carry into a register pair. -/
  | addc (k : Fin 256)
  /-- SUBC (R368): SUBC subtracts with borrow into a register pair. -/
  | subc (k : Fin 256)
  /-- ADDI (R361): ADDI adds an immediate. -/
  | addi (k : Fin 256)
  /-- ANDI (R361): ANDI ANDs an immediate. -/
  | andi (k : Fin 256)
  /-- ORI (R361): ORI ORs an immediate. -/
  | ori (k : Fin 256)
  /-- XORI (R361): XORI XORs an immediate. -/
  | xori (k : Fin 256)
  /-- LI (R361): LI loads an immediate and clears the poison tag. -/
  | li (k : Fin 256)
  /-- MFS (R355): MFS reads a special register byte, latching CYC where stated. -/
  | mfs (k : Fin 256)
  /-- MTS (R355): MTS writes a special register byte, or traps RESOP. -/
  | mts (k : Fin 256)
  /-- MFSP (R355): MFSP reads two consecutive special register bytes into a pair. -/
  | mfsp (k : Fin 256)
  /-- MTSP (R355): MTSP writes a pair into two special register bytes in one cycle. -/
  | mtsp (k : Fin 256)
  /-- ADDP (R363): PALU ADDP adds two pairs. -/
  | addp (k : Fin 256)
  /-- SUBP (R363): PALU SUBP subtracts two pairs. -/
  | subp (k : Fin 256)
  /-- MOVP (R363): PALU MOVP copies a pair with its tags. -/
  | movp (k : Fin 256)
  /-- SHLP (R363): PALU SHLP shifts a pair left. -/
  | shlp (k : Fin 256)
  /-- SHRP (R363): PALU SHRP shifts a pair right logically. -/
  | shrp (k : Fin 256)
  /-- SARP (R363): PALU SARP shifts a pair right arithmetically. -/
  | sarp (k : Fin 256)
  /-- SXP (R363): PALU SXP sign-extends a low register into a pair. -/
  | sxp (k : Fin 256)
  /-- ZXP (R363): PALU ZXP zero-extends a low register into a pair. -/
  | zxp (k : Fin 256)
  /-- LIP (R361): LIP loads a 16-bit immediate into a pair. -/
  | lip (k : Fin 256)
  /-- ADDPI (R361): ADDPI adds a signed 12-bit immediate to a pair. -/
  | addpi (k : Fin 256)
  /-- MULU (R364): MULG MULU starts an unsigned multiply into MP. -/
  | mulu (k : Fin 256)
  /-- MULS (R364): MULG MULS starts a signed multiply into MP. -/
  | muls (k : Fin 256)
  /-- MULSU (R364): MULG MULSU starts a signed-by-unsigned multiply into MP. -/
  | mulsu (k : Fin 256)
  /-- MACU (R364): MULG MACU starts an unsigned multiply-accumulate into MP. -/
  | macu (k : Fin 256)
  /-- MACS (R364): MULG MACS starts a signed multiply-accumulate into MP. -/
  | macs (k : Fin 256)
  /-- MPCLR (R364): MULG MPCLR clears MP at completion. -/
  | mpclr (k : Fin 256)
  /-- MULTIPLIER_COMPLETE (R370): A multiplier operation completes at the end of cycle c + 3 and updates MP. -/
  | multiplierComplete (k : Fin 256)
  /-- LD (R366): LD loads a byte from the effective address, tagging poison and issuing page reads. -/
  | ld (k : Fin 256)
  /-- ST (R366): ST stores a byte, staging or issuing page writes and poisoning words on tagged data. -/
  | st (k : Fin 256)
  /-- LDP (R366): LDP loads two bytes into a pair. -/
  | ldp (k : Fin 256)
  /-- STP (R366): STP stores a pair as two bytes. -/
  | stp (k : Fin 256)
  /-- BEQ (R369): BEQ branches if two registers are equal. -/
  | beq (k : Fin 256)
  /-- BNE (R369): BNE branches if two registers differ. -/
  | bne (k : Fin 256)
  /-- BLT (R369): BLT branches if signed less. -/
  | blt (k : Fin 256)
  /-- BGE (R369): BGE branches if signed greater or equal. -/
  | bge (k : Fin 256)
  /-- BLTU (R369): BLTU branches if unsigned less. -/
  | bltu (k : Fin 256)
  /-- BGEU (R369): BGEU branches if unsigned greater or equal. -/
  | bgeu (k : Fin 256)
  /-- BEQI (R369): BEQI branches if a register equals an immediate. -/
  | beqi (k : Fin 256)
  /-- BNEI (R369): BNEI branches if a register differs from an immediate. -/
  | bnei (k : Fin 256)
  /-- BLTUI (R369): BLTUI branches if unsigned less than an immediate. -/
  | bltui (k : Fin 256)
  /-- BGEUI (R369): BGEUI branches if unsigned not less than an immediate. -/
  | bgeui (k : Fin 256)
  /-- PBEQ (R369): PBEQ branches if two pairs are equal. -/
  | pbeq (k : Fin 256)
  /-- PBNE (R369): PBNE branches if two pairs differ. -/
  | pbne (k : Fin 256)
  /-- PBLTU (R369): PBLTU branches if a pair is unsigned less. -/
  | pbltu (k : Fin 256)
  /-- PBGEU (R369): PBGEU branches if a pair is unsigned not less. -/
  | pbgeu (k : Fin 256)
  /-- BBC (R369): BBC branches if a register bit is 0. -/
  | bbc (k : Fin 256)
  /-- BBS (R369): BBS branches if a register bit is 1. -/
  | bbs (k : Fin 256)
  /-- J (R361): J jumps to an absolute target. -/
  | j (k : Fin 256)
  /-- JAL (R361): JAL saves the return address in LK and jumps. -/
  | jal (k : Fin 256)
  /-- JR (R361): JR jumps through a pair, optionally linking. -/
  | jr (k : Fin 256)
  /-- NOP (R365): SYS NOP does nothing. -/
  | nop (k : Fin 256)
  /-- SYS_END (R385): SYS END ends the dispatch, freeing the lane and writing LASTWU, or stops a core without dispatch. -/
  | sysEnd (k : Fin 256)
  /-- RET (R365): SYS RET returns to LK. -/
  | ret (k : Fin 256)
  /-- RTT (R378): SYS RTT leaves the trap and resumes after the trapped instruction. -/
  | rtt (k : Fin 256)
  /-- RTR (R378): SYS RTR leaves the trap and reissues the trapped instruction. -/
  | rtr (k : Fin 256)
  /-- LCLR (R365): SYS LCLR clears a loop level's active bit. -/
  | lclr (k : Fin 256)
  /-- BKPT (R544): SYS BKPT halts the core for the debug port while BKEN = 1, and is otherwise a NOP. -/
  | bkpt (k : Fin 256)
  /-- SYS_TRAP (R378): SYS TRAP takes a trap with cause SOFT. -/
  | sysTrap (k : Fin 256)
  /-- LOOP (R372): LOOP sets up a hardware loop level with a count from a pair. -/
  | loop (k : Fin 256)
  /-- LOOPI (R372): LOOPI sets up a hardware loop level with an immediate count. -/
  | loopi (k : Fin 256)
  /-- EWAIT (R375): EWAIT returns pending masked events at once or suspends the core until one arrives. -/
  | ewait (k : Fin 256)
  /-- EWAIT_RETURN (R375): A masked event arrives for a waiting core, which writes and clears the pending bits. -/
  | ewaitReturn (k : Fin 256)
  /-- WTU (R377): WTU returns at once if the wheel has passed the target, or suspends the core. -/
  | wtu (k : Fin 256)
  /-- WTU_RETURN (R377): HIGH of the wheel reaches WTG, and a waiting WTU writes 1. -/
  | wtuReturn (k : Fin 256)
  /-- WTU_TIMEOUT (R377): pa µs pass first, and a waiting WTU writes 0. -/
  | wtuTimeout (k : Fin 256)
  /-- EPOST_POST (R376): EPOST mode 0 sets EVPEND.POST of the other core. -/
  | epostPost (k : Fin 256)
  /-- EPOST_FIRE (R376): EPOST mode 1 fires leat channel ch. -/
  | epostFire (k : Fin 256)
  /-- EPOST_FIRE_REGISTER (R376): EPOST mode 2 fires the leat channel held in a register. -/
  | epostFireRegister (k : Fin 256)
  /-- BUDGET (R385): A dispatch's busy cycles exceed DMAX × 16 and the core takes one BUDGET trap. -/
  | budget (k : Fin 256)
  /-- COMMIT (R387): PPCMD COMMIT commits slot PPSLOT of the running dispatch's lane, with the tally unit filling the record. -/
  | commit (k : Fin 256)
  /-- OPEN (R388): PPCMD OPEN resolves a point through the map and opens a commit to its lane, or is refused. -/
  | ppOpen (k : Fin 256)
  /-- CMTPT (R387): PPCMD CMTPT commits the opened point. -/
  | cmtpt (k : Fin 256)
  /-- PPCMD_CLOSE (R386): PPCMD CLOSE abandons the open commit. -/
  | ppcmdClose (k : Fin 256)
  /-- LAPSED (R388): An open lapses 4,096 core cycles after acceptance. -/
  | lapsed (k : Fin 256)
  /-- WZ_WRITE (R394): A store to WZ zeroes the 64-bit word at the formed address, clearing poison. -/
  | wzWrite (k : Fin 256) (hi : BitVec 8)
  /-- TW0_READ (R394): A load of byte 0 of TW0 or a THIGH register reads the wheel and latches the other bytes. -/
  | tw0Read (k : Fin 256) (n : Fin 4)
  /-- CCTL_CORE_WRITE (R379): A TILE CCTL write starts or stops a core, clearing FAULT when RUN = 1. -/
  | cctlCoreWrite (req : Req) (t : Fin 128) (c : Fin 2) (v : Word)
  /-- IMDATA_ACCESS (R351): An IMDATA access reads or writes instruction SRAM and increments IMADDR, or is refused with IMREJ. -/
  | imdataAccess (req : Req) (t : Fin 128) (v : Option Word)
  /-- SCRUB_READ (R405): The scrubber reads a store word, correcting it or following the uncorrectable path. -/
  | scrubRead (st : Nat) (j : Nat)
  /-- MBIST_START (R407): A write of START to MBIST tests a retired empty tile, or is refused. -/
  | mbistStart (req : Req) (v : Word)
  /-- MBDONE (R407): A tile SRAM test ends and reports PASS or FAIL. -/
  | mbdone (pass : Bool) (word : BitVec 16)
  /-- ELCLR (R403): A write to ELCLR clears VALID and MORE of the named page's ERRLOG. -/
  | elclr (req : Req) (v : Word)
  /-- JDATL_READ (R411): A read of JDATL reads journal word JADDR and latches its high half. -/
  | jdatlRead (req : Req)
  /-- JDATH_READ (R411): A read of JDATH returns the latched high half and increments JADDR. -/
  | jdathRead (req : Req)
  /-- JDATL_WRITE (R411): A write of JDATL stages the low half of a journal word. -/
  | jdatlWrite (req : Req) (v : Word)
  /-- JDATH_WRITE (R411): A write of JDATH writes the journal word and increments JADDR, or is refused. -/
  | jdathWrite (req : Req) (v : Word)
  /-- FLASH_READ (R425): FCMD3 with OP READ posts a page read. -/
  | flashRead (req : Req) (v : Word)
  /-- PROG (R425): FCMD3 with OP PROG posts a page program. -/
  | prog (req : Req) (v : Word)
  /-- ERASE (R425): FCMD3 with OP ERASE posts a block or sector erase. -/
  | erase (req : Req) (v : Word)
  /-- SUSPEND (R430): FCMD3 with OP SUSPEND suspends a running erase, or completes with NOSUSP. -/
  | suspend (req : Req) (v : Word)
  /-- RESUME (R430): FCMD3 with OP RESUME resumes a suspended erase, or completes with NOSUSP. -/
  | resume (req : Req) (v : Word)
  /-- MARKBAD (R422): FCMD3 with OP MARKBAD makes a block grown bad. -/
  | markbad (req : Req) (v : Word)
  /-- FLASH_CLOSE (R429): FCMD3 with OP CLOSE posts the programming of a STRIPE block's parity page. -/
  | flashClose (req : Req) (v : Word)
  /-- FLASH_OP_START (R424): A queued flash command reaches the head and starts, waiting on ERATE or suspending an erase. -/
  | flashOpStart
  /-- FLASH_READ_DONE (R427): A page read completes, correcting, rebuilding from stripe or writing poison to the target. -/
  | flashReadDone (flips : List (Nat × BitVec 72)) (ldpc : Bool)
  /-- PROG_DONE (R428): A page program completes, updating NEXT and reporting durability, or fails and grows bad. -/
  | progDone (ok : Bool)
  /-- ERASE_DONE (R434): An erase completes, stamps page 0, writes the entry and intent DONE, or fails. -/
  | eraseDone (ok : Bool)
  /-- CLOSE_DONE (R429): The parity page program completes. -/
  | closeDone (ok : Bool)
  /-- FDONE0_READ (R426): A read of FDONE0 pops a flash completion and latches FDONE1. -/
  | fdone0Read (req : Req)
  /-- HOST_WR (R466): A WR frame is received and committed at HSEL0 release, or refused whole. -/
  | hostWr (bytes : List Byte) (cut : Bool) (both : Bool) (early : Bool)
  /-- HOST_WRF (R466): A WRF frame writing every word to one address is received and committed or refused. -/
  | hostWrf (bytes : List Byte) (cut : Bool) (both : Bool) (early : Bool)
  /-- HOST_RD (R465): An RD frame on HSEL0 reads ascending registers with read-ahead and wrap. -/
  | hostRd (addr : BitVec 24) (n : Nat) (ahead : Nat) (both : Bool) (early : Bool)
  /-- HOST_RDF (R465): An RDF frame reads one register repeatedly. -/
  | hostRdf (addr : BitVec 24) (n : Nat) (ahead : Nat) (both : Bool) (early : Bool)
  /-- RDSTA (R459): An RDSTA frame reads HPT.HSTA. -/
  | rdsta (n : Nat) (both : Bool) (early : Bool)
  /-- PRST (R460): A port reset frame returns HCFG to reset and discards uncommitted writes. -/
  | prst (both : Bool)
  /-- BADCMD (R459): A frame with an invalid command is ignored and sets HSTA.BADCMD. -/
  | badcmd (both : Bool)
  /-- STREAM_RD (R468): An RD frame on HSEL1 reads a stream's closed banks or the alarm queue. -/
  | streamRd (addr : BitVec 24) (n : Nat) (both : Bool) (early : Bool)
  /-- HOST_WORD_APPLY (R467): One word of a committed write frame is applied as one register write. -/
  | hostWordApply
  /-- RTO (R465): A read word is not ready within tRTO, and 0xFFFF_FFFF is sent. -/
  | rto (addr : BitVec 24)
  /-- HCFG_WRITE (R456): An HCFG write sets the port's mode, dummy and CRC for later frames. -/
  | hcfgWrite (req : Req) (v : Word)
  /-- REGISTER_WRITE (R450): A write to a register with no behaviour of its own takes effect under its access code. -/
  | registerWrite (addr : BitVec 24) (ws : List (Req × Word))
  /-- IRAW_CLEAR (R449): A write of 1 to IRAW bits clears them, with clears of the companion status bits where stated. -/
  | irawClear (req : Req) (page : Fin 16384) (v : Word)
  /-- IRAW_SET (R445): A write to ISET sets the written IRAW bits. -/
  | irawSet (req : Req) (page : Fin 16384) (v : Word)
  /-- SOFT_RESET (R448): A write of PGCTL.SRST soft-resets the page, under the block's own rules where stated. -/
  | softReset (req : Req) (page : Fin 16384) (v : Word)
  /-- PAGE_LOCK (R446): A write of 1 to PGCTL.LOCK locks the page's RWL registers until reset. -/
  | pageLock (req : Req) (page : Fin 16384) (v : Word)
  /-- PAGE_ENABLE (R446): A write of PGCTL.EN enables or idles the block. -/
  | pageEnable (req : Req) (page : Fin 16384) (v : Word)
  /-- POR (R471): VAON rises from below VPORA and the device resets the AON domain and starts cold. -/
  | por
  /-- NRST_PIN (R471): NRST is held low for tNRST and the device starts cold. -/
  | nrstPin
  /-- BOR (R471): A rail fault or PGOOD low lasts tBOR and the device starts cold. -/
  | bor
  /-- WDOG (R474): The watchdog count reaches 0 and resets the device. -/
  | wdog
  /-- WDWARN (R474): Half of TMO passes without a kick and WDWARN is set. -/
  | wdwarn
  /-- WDKICK (R474): A write of 0xA5C3 to WDKICK restarts the watchdog count. -/
  | wdkick (req : Req) (v : Word)
  /-- RSTCMD (R471): A write of 0xD1E5 to RSTCMD resets the device with cause SW. -/
  | rstcmd (req : Req) (v : Word)
  /-- COLD_START (R476): Reset is released and boot phase 1 starts, with PWREN driven high. -/
  | coldStart
  /-- PGOOD_HIGH (R476): PGOOD rises during boot and phases 3–9 run: checks, recovery, container load, configuration and supervisor start. -/
  | pgoodHigh (straps : BitVec 2)
  /-- PGOOD_TIMEOUT (R476): PGOOD does not rise within tPGTO, so PWREN goes low for 1 s and phase 2 repeats. -/
  | pgoodTimeout
  /-- GO (R475): A write of BCMD.GO starts or restarts the container step from the journal copy. -/
  | go (req : Req)
  /-- HCTL_WRITE (R485): An HCTL write changes the policy and switches RUN and DOZE, waking gated tiles when gating stops. -/
  | hctlWrite (req : Req) (v : Word)
  /-- PSREQ_SLEEP (R487): A PSREQ write of 2 starts quiescence for SLEEP, or is refused. -/
  | psreqSleep (req : Req)
  /-- PSREQ_HIBERNATE (R487): A PSREQ write of 3 starts quiescence for HIBERNATE, or is refused. -/
  | psreqHibernate (req : Req)
  /-- PSREQ_RUN (R489): A PSREQ write of 0 from the host wakes the device from SLEEP. -/
  | psreqRun
  /-- QUIESCENT (R487): No dispatch runs and cores wait, so SLEEP is entered or HIBERNATE entry begins. -/
  | quiescent
  /-- QUIESCE_TIMEOUT (R487): Quiescence is not reached within SLPTMO and the request is refused as BUSY. -/
  | quiesceTimeout
  /-- HIBERNATE_ENTRY_DONE (R491): Spills, the tile checkpoint and the journal header are written, and PWREN goes low. -/
  | hibernateEntryDone
  /-- WAKE_PIN (R489): WAKE0 or WAKE1 asserts as configured and wakes the device from SLEEP or HIBERNATE. -/
  | wakePin (j : Fin 2) (level : Bool)
  /-- RTC_ALARM (R498): The RTC seconds equal the alarm while ALMEN = 1, setting RTCALM and driving PWR event 2. -/
  | rtcAlarm
  /-- RESTORE (R495): A wake in HIBERNATE runs boot steps, checks the checkpoint, and restores registers and tile 0.00, or starts cold. -/
  | restore (straps : BitVec 2)
  /-- TILE_RELOAD (R496): A saved tile is reloaded in the background and its held dispatches are sent. -/
  | tileReload
  /-- RTCCMD_SET (R498): RTCCMD.SET loads RTCSL and RTCSH into the RTC seconds. -/
  | rtccmdSet (req : Req)
  /-- RTCCMD_SYNC (R498): RTCCMD.SYNC arms a load of the RTC at the next whole PTP second. -/
  | rtccmdSync (req : Req)
  /-- RTC_SYNC_LOAD (R498): The next whole PTP second arrives and the RTC is loaded with it. -/
  | rtcSyncLoad
  /-- RTCL_READ (R498): A read of RTCL latches RTCH and RTCSUB. -/
  | rtclRead (req : Req)
  /-- TEMP_SAMPLE (R499): A temperature sample sets warnings, throttle levels, THERM, analog over-temperature and hot clusters. -/
  | tempSample (ts : List Int)
  /-- THCLR (R499): A write to THCLR clears THERM if every sensor is below TTRIP − THYS. -/
  | thclr (req : Req) (v : Word)
  /-- TLIM_WRITE (R499): A TLIM write sets the temperature limits or is refused with CFGREJ. -/
  | tlimWrite (req : Req) (v : Word)
  /-- RAIL_WARN (R501): A rail crosses its warn level and sets its warn bit. -/
  | railWarn (r : Fin 8) (mv : BitVec 16)
  /-- RAIL_FAULT (R501): A rail crosses its fault level and its fault response is taken. -/
  | railFault (r : Fin 8) (mv : BitVec 16)
  /-- RAIL_RECOVER (R501): 100 µs after a rail recovers, its warn and fault bits clear. -/
  | railRecover (r : Fin 8) (mv : BitVec 16)
  /-- PROC_COUNT (R502): A 10 µs ring-oscillator count completes and a low count sets SLOW. -/
  | procCount (c : Fin 8) (n : BitVec 16)
  /-- PGOOD_FALL (R512): PGOOD falls, stopping new journal writes until it returns or a BOR follows. -/
  | pgoodFall
  /-- GPIO_EDGE (R527): An edge is seen in GIN, setting RISE or FALL and firing the routed channel. -/
  | gpioEdge (n : Fin 12) (level : Bool)
  /-- GSET (R528): A write to GSET sets the written GOUT bits. -/
  | gset (req : Req) (v : Word)
  /-- GCLR (R528): A write to GCLR clears the written GOUT bits. -/
  | gclr (req : Req) (v : Word)
  /-- LINE_RESET (R530): A low run, high run and resync byte on DIO reset the debug line. -/
  | lineReset (resync : Byte)
  /-- RDREG (R534): A debug RDREG packet reads one register. -/
  | rdreg (tag : Fin 16) (crcOk : Bool) (late : Bool) (addr : BitVec 24)
  /-- WRREG (R534): A debug WRREG packet writes one register. -/
  | wrreg (tag : Fin 16) (crcOk : Bool) (late : Bool) (addr : BitVec 24) (v : Word)
  /-- RDMEM (R535): A debug RDMEM packet reads a tile memory word. -/
  | rdmem (tag : Fin 16) (crcOk : Bool) (late : Bool) (a : BitVec 32)
  /-- WRMEM (R535): A debug WRMEM packet writes a tile memory word, or is refused. -/
  | wrmem (tag : Fin 16) (crcOk : Bool) (late : Bool) (a : BitVec 32) (v : BitVec 64)
  /-- HALT (R540): CTL ACTION HALT halts a core at its next instruction boundary. -/
  | halt (tag : Fin 16) (crcOk : Bool) (late : Bool) (k : Fin 256)
  /-- CTL_RESUME (R540): CTL ACTION RESUME continues a halted core. -/
  | ctlResume (tag : Fin 16) (crcOk : Bool) (late : Bool) (k : Fin 256)
  /-- CTL_STEP (R541): CTL ACTION STEP makes a halted core execute one instruction and halt. -/
  | ctlStep (tag : Fin 16) (crcOk : Bool) (late : Bool) (k : Fin 256)
  /-- HALTALL (R540): CTL ACTION HALTALL halts every running core. -/
  | haltall (tag : Fin 16) (crcOk : Bool) (late : Bool)
  /-- RESUMEALL (R540): CTL ACTION RESUMEALL continues every core halted by the port. -/
  | resumeall (tag : Fin 16) (crcOk : Bool) (late : Bool)
  /-- CORE_HALTED (R541): A core reaches its instruction boundary and halts, setting DHALT and LASTHALT. -/
  | coreHalted (k : Fin 256)
  /-- BREAKPOINT (R544): A core reaches an enabled breakpoint address and halts before the instruction. -/
  | breakpoint (k : Fin 256)
  /-- CRD (R543): A debug CRD packet reads a halted core's register by SEL. -/
  | crd (tag : Fin 16) (crcOk : Bool) (late : Bool) (k : Fin 256) (sel : Fin 512)
  /-- CWR (R543): A debug CWR packet writes a halted core's register by SEL. -/
  | cwr (tag : Fin 16) (crcOk : Bool) (late : Bool) (k : Fin 256) (sel : Fin 512) (v : BitVec 16)
  /-- IDCODE (R532): A debug IDCODE packet returns PARTID and STEP. -/
  | idcode (tag : Fin 16) (crcOk : Bool) (bad : Bool)
  /-- CHAL (R537): A debug CHAL packet returns a fresh challenge, or LOCKED during lockout. -/
  | chal (tag : Fin 16) (crcOk : Bool)
  /-- RESP (R537): A debug RESP packet unlocks the port if it answers the latest challenge, or counts a failure. -/
  | resp (tag : Fin 16) (crcOk : Bool) (v : BitVec 128)
  /-- DBG_RESET (R539): A debug RESET packet with 0xD1E5 resets the device with cause DBG. -/
  | dbgReset (tag : Fin 16) (crcOk : Bool) (v : BitVec 16)
  /-- COLLECT (R533): A debug COLLECT packet returns the result of the pending operation. -/
  | collect (tag : Fin 16) (crcOk : Bool) (tagOf : Fin 16)
  /-- DEBUG_OPERATION_COMPLETE (R533): A pending debug operation completes in the background. -/
  | debugOperationComplete
  /-- RELOCK (R538): A write of 1 to DLCTL.RELOCK locks the debug port. -/
  | relock (req : Req) (v : Word)
  /-- RESOP (R360): A core issues an instruction with a reserved OP, fn, mode or loop level, or a 1 in a zero field, and traps with cause RESOP. -/
  | resop (k : Fin 256)
  /-- WHEEL_TURN (R336): HIGH of a wheel crosses a whole turn, firing the wheel's turn event and setting TURNWARN when the turn count reaches 0x8000_0000. -/
  | wheelTurn (n : Fin 4)
  /-- BAD_FCS_FRAME (R292): A frame arrives with a bad FCS; it gets no receive stamp, and on an uplink it is dropped and counted in CRCERR. -/
  | badFcsFrame (p : Fin 18)
  /-- PAUSE_END (R292): The pause time of an obeyed PAUSE frame runs out, USTA.PAUSED clears and the uplink resumes transmitting. -/
  | pauseEnd (u : Fin 2)
  /-- PTP_MAILBOX_SENT (R274): The message of a PTXCMD leaves its port in a transmit slot, TXBUSY clears and the next PTXCMD is no longer refused. -/
  | ptpMailboxSent
  /-- COMPL_CLEAR (R161): A CURRENT-mode output returns into its compliance span and its XSTA.COMPL bit clears. -/
  | complClear (k : Fin 8)
  /-- ILIMIT_CLEAR (R160): A VOLTAGE-mode load no longer demands more than ILIM and its XSTA.ILIMIT bit clears. -/
  | ilimitClear (k : Fin 8)
  /-- PGOOD_RETURN (R512): PGOOD returns high within tBOR of a fall outside boot, and journal writes resume in order. -/
  | pgoodReturn
  deriving DecidableEq, Repr

end Sys2Proof
end

