-- ==== Sys2Proof/Machine/State.lean ====
section
/-! DEFINITION. The state of the block as plain data: every register, store, queue, counter, mode and ball the spec names
(INVENTORY.md, heading State), the queue of waiting commands, the reasons a step can stop, and the state right after
the release of reset. -/

namespace Sys2Proof.Machine

/-! ### Time (01 clock domains, 08 R268, R21) -/

/-- The clocks of the part. -/
structure TimeSt where
  /-- FAB cycles since the release of reset (2.5 ns each). -/
  fab : Nat := 0
  /-- Plant time W0 in ns (R93, R268). -/
  w0 : Nat := 0
  /-- The fraction of a ns below `w0`, in units of 2^-32 ns (R268). -/
  w0Frac : Nat := 0
  deriving DecidableEq, Repr

/-! ### Wheels and the Millrace (03) -/

/-- One wheel W1-W3 (03 R90-R110); W0 is plant time. -/
structure WheelSt where
  /-- Position (R90). -/
  pos : Nat := 0x0000_0001_0000_0000
  /-- HIGH (R91). -/
  high : Nat := 0x0000_0001_0000_0000
  /-- The part of the position below 2^-32 turn, in 2^-64 turn (MAINS, R102). -/
  frac : Nat := 0
  /-- SHAFT: the last boundary crossed, in edges of 4N to a turn from position 0, and whether the shaft stands below
  it, after a reverse edge (R96). -/
  edge : Nat := 0
  below : Bool := false
  /-- FAB cycle from which the interpolation runs (R97, R98). -/
  edgeAt : Nat := 0
  /-- Filtered levels of WHA and WHB (R96). -/
  levA : Bool := false
  levB : Bool := false
  /-- FAB cycle of the last raw edge of each ball (R95). -/
  rawA : Option Nat := none
  rawB : Option Nat := none
  /-- FAB cycle of the last counted edge, or of the source start (R100). -/
  lastEdge : Nat := 0
  /-- A counted edge has been seen since the source start. -/
  edgeSeen : Bool := false
  /-- The last counted edge was forward (R98). -/
  lastFwd : Bool := false
  /-- Forward edges in a row since a reverse edge, STOPPED or the source start (R97). -/
  fwdRun : Nat := 0
  /-- The interval that RATE reads and the one that interpolation runs on, in FAB cycles, 0 for none (R95, R97). -/
  rateInt : Nat := 0
  interval : Nat := 0
  /-- MAINS: INC and FINT in 2^-64 turn per FAB cycle (R102). -/
  inc : Nat := 0x218DEF416BD
  fint : Nat := 0x218DEF416BD
  /-- MAINS: accepted edges since start or realignment, and the FAB cycle of the last (R101-R103). -/
  accEdges : Nat := 0
  lastAcc : Option Nat := none
  /-- MAINS: accepted edges in a row with a small error (R104). -/
  lockRun : Nat := 0
  /-- SCALED: SBASE and SORG (R105). -/
  sbase : Nat := 0
  sorg : Nat := 0
  /-- Input level of WHZ. -/
  levZ : Bool := false
  /-- Turn count of HIGH at the last turn event (R336). -/
  turnSeen : Nat := 1
  /-- A rebase is being rewritten in the background (R109). -/
  rebasing : Bool := false
  deriving DecidableEq, Repr

/-- One armed occurrence (R116): its target is an arm slot of `kind` and `target`. -/
structure Armed where
  kind : Nat
  target : Nat
  wheel : Nat
  due : Nat
  arg : Nat
  prio : Nat
  ticket : Nat
  /-- CIDX and COUNT of the ticket at this occurrence, to return it as not sent (R487). -/
  cidx : Nat
  count : Nat
  deriving DecidableEq, Repr

/-- A lane dispatch in the Millrace's hands or a tile's: what the descriptor of R384 reports. -/
structure Disp where
  lane : Nat
  wheel : Nat
  due : Nat
  cog : Nat
  core : Nat
  ticket : Bool
  late : Bool
  held : Bool
  woke : Bool
  sentAt : Nat
  deriving DecidableEq, Repr

/-- Occurrences of an entry that fell due in one FAB cycle and are not yet sent or armed: those up to position `upTo`, HIGH at
that cycle, and above the `upTo` of the fall before. Entry key (lane, or 65,536 + ticket), the cycle of the crossing (R119,
R120), and what the descriptor and OVRUN need (R81, R121, R123). -/
structure Fall where
  key : Nat
  upTo : Nat
  atFab : Nat
  held : Bool := false
  woke : Bool := false
  /-- Occurrences that fell due while a dispatch of the lane ran, and that OVRUN has not counted. -/
  overran : Nat := 0
  deriving DecidableEq, Repr

/-- The dispatchers' hidden state. -/
structure MillSt where
  falls : List Fall := []
  /-- FAB cycle from which each dispatcher has asked for a ticket slot and for a lane slot (R117). -/
  ticketWait : List (Nat × Nat) := []
  laneWait : List (Nat × Nat) := []
  /-- FAB cycle of the last slot granted of each kind. -/
  ticketSlot : Option Nat := none
  laneSlot : Option Nat := none
  /-- Entries whose word read as poison: not served until rewritten (R401). -/
  stopped : List Nat := []
  /-- Entries treated as LATE = 0 until they are next served, after a restore with SKIPALL (R497). -/
  skip : List Nat := []
  deriving DecidableEq, Repr

/-! ### The Hopper (02) -/

/-- The order classes of the migration engine (R75). -/
inductive MoveClass where
  | retire | firmware | policy
  deriving DecidableEq, Repr

/-- A move queued (R72-R76): destination tile 16c + t, lane index there or the lowest free. -/
structure Move where
  lane : Nat
  cls : MoveClass
  force : Bool
  tile : Nat
  seat : Option Nat
  tag : Nat
  deriving DecidableEq, Repr

/-- A mark a block makes on a record: QUAL and STALE only (R36). -/
structure Mark where
  point : Nat
  qual : Byte
  stale : Bool
  deriving DecidableEq, Repr

/-- Where a migration stands (R79). -/
inductive MigPhase where
  /-- Started: wakes and the gap test. -/
  | testing
  /-- Held, copying. -/
  | copying
  /-- Copied; waiting for the destination's acknowledgement (R17). -/
  | copied
  /-- Acknowledged; the flip may be issued. -/
  | acked
  deriving DecidableEq, Repr

/-- A migration in flight (R75, R79). -/
structure Mig where
  move : Move
  srcTile : Nat
  srcLane : Nat
  dstLane : Nat := 0
  phase : MigPhase := .testing
  firstTest : Option Nat := none
  /-- HIGH of W0-W3 at the hold (R81). -/
  held : List Nat := [0, 0, 0, 0]
  marks : List Mark := []
  deriving DecidableEq, Repr

/-- A completion (R76): the two words MVDONE0 and MVDONE1. -/
structure MoveDone where
  w0 : Word
  w1 : Word
  deriving DecidableEq, Repr

/-- A flip the journal has not yet taken (R55). -/
structure Flip where
  lane : Nat
  entry : Nat
  freed : Nat
  deriving DecidableEq, Repr

/-- The Hopper's hidden state. -/
structure HopSt where
  /-- Moves queued, in class order of posting (R72, R75). -/
  retireq : List Move := []
  fwq : List Move := []
  policyq : List Move := []
  /-- Migrations in flight (at most four, R75). -/
  migs : List Mig := []
  /-- Completions held (R76) and the last one read (R77). -/
  doneq : List MoveDone := []
  lastDone : MoveDone := { w0 := 0, w1 := 0 }
  /-- Start of the last evaluation and of the last regular one, in FAB cycles (R57). -/
  lastEval : Nat := 0
  lastRegular : Nat := 0
  /-- An out-of-turn evaluation is wanted (R57). -/
  outOfTurn : Bool := false
  /-- Busy core cycles of each tile since the last evaluation (R57). -/
  busy : List (Nat × Nat) := []
  /-- Measured load L of each tile at the last evaluation (R57). -/
  load : List (Nat × Nat) := []
  /-- Load flipped into and out of each tile since the last evaluation (R552). -/
  flipIn : List (Nat × Nat) := []
  flipOut : List (Nat × Nat) := []
  /-- DISPCNT of each lane at the last evaluation and the load l taken there (R58). -/
  cnt0 : List (Nat × Nat) := []
  laneLoad : List (Nat × Nat) := []
  /-- Flips not yet journaled, oldest first (R55). -/
  flips : List Flip := []
  /-- A point read in flight: point and tag; its result is discarded after a soft reset (R88, R553). -/
  prd : Option (Nat × Nat) := none
  prdDiscard : Bool := false
  /-- The retired-tile map has changed and is not yet in the journal (R86, R87). -/
  retMapDirty : Bool := false
  deriving DecidableEq, Repr

/-! ### Front end, filter engines, weirs, pulses and the sluice (04, 05, 06) -/

/-- A half-open span of modulator samples (R30). -/
structure Span where
  lo : Nat
  hi : Nat
  deriving DecidableEq, Repr

/-- A trim of a tag as it was for the samples before `upTo` (R138). -/
structure OldTrim where
  upTo : Nat
  tag : Nat
  /-- OTRIM; else GTRIM. -/
  off : Bool
  value : Int
  deriving DecidableEq, Repr

/-- A CSYNC of a FAB cycle and what it found, for a write of the same cycle that takes effect before it (R152). -/
structure SyncSt where
  at_ : Nat
  /-- SYNCCNT, SYNCBUSY, IRAW.SYNCBUSY and the cycle of the last scan trigger before it. -/
  cnt : BitVec 32
  busy : BitVec 32
  raw : Bool
  trig : Option Nat
  deriving DecidableEq, Repr

/-- One converter (04 R139-R151). Sample numbers count from the release of reset at fMOD. -/
structure ConvSt where
  /-- Tag in effect. -/
  tag : Nat := 0
  /-- The down count dn (R140). -/
  dn : Nat := 0
  /-- A range switch decided: target tag and sample m_s (R139). -/
  pend : Option (Nat × Nat) := none
  /-- A RNG write waits for the next block (R142). -/
  rngPend : Bool := false
  /-- The next sample to enter the filter and the detector. -/
  fed : Nat := 0
  /-- Sum of the samples of the block that is filling, and whether one of them is overloaded (R139). -/
  blockSum : Int := 0
  blockOver : Bool := false
  /-- The blanking that runs (R143). -/
  blank : Option Span := none
  /-- Blanked samples of the last range switch and the prediction they enter the filter as (R143). -/
  held : Option Span := none
  pred : Int := 0
  /-- First sample that feeds the filter and the detector; none while samples are discarded or probed (R147, R151). -/
  live : Option Nat := none
  /-- Input selected. -/
  input : Nat := 0
  /-- Last tag of each input, four bits each (LASTR). -/
  lastTag : List Nat := [0, 0, 0, 0]
  /-- End of the settling window in ANA ticks (R147). -/
  settleEnd : Option Nat := none
  /-- End of the probe in ANA ticks (R150). -/
  probeEnd : Option Nat := none
  /-- A scan runs; its entry and the outputs delivered in it (R149, R150). -/
  scanning : Bool := false
  entry : Nat := 0
  outs : Nat := 0
  /-- ANA tick at which the window of the last output closed (R150). -/
  endTick : Nat := 0
  /-- FAB cycle of the last scan trigger acted on, and the last CSYNC (R149, R152). -/
  trigAt : Option Nat := none
  sync : Option SyncSt := none
  /-- The blanking that runs follows a probe (R150). -/
  afterProbe : Bool := false
  /-- Negation of samples under CHOPNEG from a sample on, newest first (R159). -/
  negs : List (Nat × Bool) := []
  /-- REFLOW's marking of samples from a sample on, newest first (R134), and the trims replaced, newest first (R138). -/
  lows : List (Nat × Bool) := []
  trims : List OldTrim := []
  /-- Tag and input from a sample on, newest first (R145, R187). -/
  tags : List (Nat × Nat × Nat) := []
  /-- Transitions (R144), change intervals (R156) and overloaded samples not blanked (R137). -/
  trans : List Span := []
  changes : List Span := []
  ovrs : List Span := []
  deriving DecidableEq, Repr

/-- STAMP and WPOS at the sampling instant of one modulator sample of a slot (R185, R186). -/
structure Capture where
  sample : Nat
  stamp : Nat
  wpos : Nat
  deriving DecidableEq, Repr

/-- A cross-fade (R181): the bank faded from, the next output's index, the length exponent. -/
structure FadeSt where
  oldBank : Nat
  i : Nat
  n : Nat
  deriving DecidableEq, Repr

/-- One filter slot (05): the slot of converter g = 4e + k. -/
structure SlotSt where
  /-- SEQ of the next output (R188). -/
  seq : Nat := 0
  /-- Ring index of the next record (R195). -/
  ring : Nat := 0
  /-- Restart sample (R173). -/
  restart : Nat := 0
  /-- Centre of the next main-path output, or of the newest source output of the next FIR output. -/
  next : Nat := 0
  /-- No output since the restart (R175). -/
  first : Bool := true
  /-- Realignments whose sample s the old phase has not yet reached (R148). -/
  realign : List Nat := []
  /-- Centres to which the output phase was aligned, newest first; the last is that of the restart (R173, R174). -/
  phases : List Nat := []
  /-- The samples that have entered the filter, newest first, as far back as an output to come depends on (R170). -/
  hist : List Int := []
  /-- The cross-fade under way (R181). -/
  fade : Option FadeSt := none
  /-- Next sample whose STAMP and WPOS are captured, and those captured, newest first (R185, R186). -/
  gridNext : Nat := 0
  caps : List Capture := []
  deriving DecidableEq, Repr

/-- A proof test under way (R209-R211). -/
structure ProofSt where
  /-- The step running, 0-3, or 4 for the restore. -/
  step : Nat
  tie : Bool
  /-- State by direct comparison at the start, as in WSTA. -/
  start : Nat
  /-- Thresholds and hysteresis in the DACs. -/
  lo : Int
  hi : Int
  hys : Int
  failed : Bool := false
  aborted : Bool := false
  /-- A threshold write came during the test (R211). -/
  reload : Bool := false
  /-- FAB cycle in which the step began (R209). -/
  since : Nat := 0
  deriving DecidableEq, Repr

/-- One weir (06 R198-R211). States as in WSTA: 0 not VALID, 1 BELOW, 2 INSIDE, 3 ABOVE. -/
structure WeirSt where
  st : Nat := 0
  /-- The state WSTA shows (R204). -/
  shown : Nat := 0
  /-- The input as the environment last gave it, in codes. -/
  x : Int := 0
  /-- The outputs are held while the DACs settle after a threshold write (R202). -/
  hold : Bool := false
  test : Option ProofSt := none
  /-- The AON tick of the last evaluation of a SAMPLED weir (R206). -/
  sampled : Option Nat := none
  deriving DecidableEq, Repr

/-- What a pulse channel is asked in one FAB cycle (R214): an expiry of MAXW or of the duty credit, the admission of a
deferred edge, a ticket's edge, the SET and CLR tasks. -/
inductive PulseReq where
  | wclip
  | dclip
  | release
  | ticket (level : Bool)
  | set
  | clr
  deriving DecidableEq, Repr

/-- One pulse channel (06 R213-R217). -/
structure PulseSt where
  active : Bool := false
  deferred : Bool := false
  /-- FAB cycle of the last change to ACTIVE and to INACTIVE. -/
  actSince : Nat := 0
  inactSince : Nat := 0
  /-- Duty credit C in units of 2.5/256 ns (R217); reset CAP = 1,000 us. -/
  credit : Int := 102400000
  /-- Requests of this FAB cycle, handled at its end (R214). -/
  reqs : List PulseReq := []
  /-- The level the ball showed at the end of the last FAB cycle (R214). -/
  ball : Bool := false
  /-- FAB cycle of the trip, sources seen and a rearm asked for in this FAB cycle (R223, R225, R226). -/
  tripAt : Option Nat := none
  seen : Nat := 0
  rearm : Bool := false
  deriving DecidableEq, Repr

/-! ### Segments, uplinks and network time (07, 08) -/

/-- What a port has queued for the line (R238, R265, R274, R293). A POLL and the mailbox frames stand in their transmit slot as
built, `len` bytes; a PTP message is formed as it goes out (R278, R279), here with what its request gave it: t2 or t4, the
requesting port and the correctionField in 2^-16 ns. -/
inductive TxItem where
  | poll (len : Nat)
  | mail (len : Nat)
  | ptpMail (len : Nat)
  | sync (seqId : Nat)
  | delayReq (seqId : Nat)
  | delayResp (seqId : Nat) (t4 requester : Nat) (corr : Int)
  | pdelayReq (seqId : Nat)
  | pdelayResp (seqId : Nat) (t2 requester : Nat) (corr : Int)
  | followUp (seqId : Nat) (stamp : Int)
  | pdelayFollowUp (seqId : Nat) (stamp : Int) (requester : Nat) (corr : Int)
  deriving DecidableEq, Repr

/-- An entry of a transmit queue: its slot in the port's transmit memory, and the attempts that ended in a collision (R234). -/
structure TxEntry where
  slot : Nat
  item : TxItem
  tries : Nat := 0
  deriving DecidableEq, Repr

/-- The PTP messages that hardware sends (R273). -/
inductive PtpKind where
  | sync | followUp | delayReq | delayResp | pdelayReq | pdelayResp | pdelayFollowUp
  deriving DecidableEq, Repr

/-- A PTP message as it leaves a port (R270, R278, R279): destination with byte 0 in bits 7:0, sending port identity, timestamp
field in ns, correctionField in 2^-16 ns, and the requesting port of an answer. -/
structure PtpOut where
  kind : PtpKind
  dst : Nat
  domain : Nat
  seqId : Nat
  twoStep : Bool
  source : Nat
  time : Int
  corr : Int
  requester : Nat := 0
  deriving DecidableEq, Repr

/-- A frame sent: its bytes from the destination address up to pad and FCS, or a PTP message; `badFcs` tells an inverted FCS
(R280). -/
inductive TxFrame where
  | bytes (bs : List Byte) (badFcs : Bool)
  | ptp (m : PtpOut) (badFcs : Bool)
  deriving DecidableEq, Repr

/-- A frame in a receive mailbox (R266): its body of `len` bytes stands in a slot of the port's memory (R24). -/
structure MailRx where
  plca : Nat
  ty : Nat
  len : Nat
  slot : Nat
  auth : Bool
  stranger : Bool
  deriving DecidableEq, Repr

/-- An HPP frame taken apart (R240). -/
structure Hpp where
  ty : Nat
  auth : Bool
  perstamp : Bool
  nfault : Bool
  src : Nat
  plca : Nat
  seq : Nat
  ctr : Nat
  body : List Byte
  /-- Header and body, over which the authenticator runs (R244), and the 8 bytes that follow. -/
  signed : List Byte
  mac : List Byte
  deriving DecidableEq, Repr

/-- An open poll burst (R260-R263). -/
structure BurstSt where
  number : Nat
  desc : Nat
  mask : Nat
  /-- FAB cycle of the landing, and BCTL.ALIGN (R261). -/
  landed : Nat
  align : Bool
  /-- End of the POLL's transmission in W0 ns, once it has gone out. -/
  opened : Option Nat
  close : Nat
  credited : List Nat
  deriving DecidableEq, Repr

/-- One PTP and HPP port: 0-15 segments, 16-17 uplinks (R271). -/
structure PortSt where
  /-- Transmit queue in order of queueing (R238, R293). -/
  txq : List TxEntry := []
  /-- The frames of the port's last transmission, the follow-ups that went ahead first: the line as the model shows it. -/
  lastTx : List TxFrame := []
  /-- The port's own HPP SEQ (R240). -/
  hppSeq : Nat := 0
  burst : Option BurstSt := none
  /-- Valid HPP frames completed in this FAB cycle, with their RXSTAMP: a record write of the cycle goes first (R248, R256). -/
  arrived : List (Hpp × Int) := []
  mail : List MailRx := []
  /-- FAB cycle of the last beacon heard or sent (R235). -/
  lastBeacon : Nat := 0
  /-- A foreign beacon has made this coordinator a follower (R236). -/
  coord2 : Bool := false
  fallback : Bool := false
  plcaok : Bool := false
  /-- FAB cycle from which PUBTMO of each record counts (R252). -/
  pubFrom : List (Nat × Nat) := []
  /-- Keys by slot (R246). -/
  keys : List (Nat × BitVec 128) := []
  /-- The uplink has link (R291). -/
  link : Bool := false
  /-- End of an obeyed PAUSE in FAB cycles (R292). -/
  pausedTo : Option Nat := none
  /-- Batch train: stream and fragments already sent (R297). -/
  train : Option (Nat × Nat) := none
  /-- sequenceId counters of Sync, Delay_Req and Pdelay_Req (R272, R273). -/
  seqSync : Nat := 0
  seqDreq : Nat := 0
  seqPdreq : Nat := 0
  /-- FAB cycle of the last Sync and Delay_Req queued (R272). -/
  lastSync : Option Nat := none
  lastDreq : Option Nat := none
  /-- Two-step Sync waiting for its Follow_Up: sequenceId, t2, correction in 2^-16 ns (R282). -/
  wantFu : Option (Nat × Int × Int) := none
  /-- t1 and t2 of the last Sync taken (R282). -/
  lastT : Option (Int × Int) := none
  /-- Delay_Req sent: sequenceId, t3 (R282). -/
  dreqSent : Option (Nat × Int) := none
  /-- Pdelay_Req sent: sequenceId, t1; and its two-step response: t2, t4, correction (R282). -/
  pdreqSent : Option (Nat × Int) := none
  pdresp : Option (Int × Int × Int) := none
  /-- Mean path delay in ns and whether one has been taken (R282). -/
  mpd : Int := 0
  mpdValid : Bool := false
  deriving DecidableEq, Repr

/-- The PTP clock's hidden state (R283-R286, R274). -/
structure PtpSt where
  /-- FAB cycle of the previous accepted Sync (R283, R286). -/
  lastSync : Option Nat := none
  lockRun : Nat := 0
  mail : List (Nat × Nat × List Byte) := []
  txBusy : Bool := false
  /-- Seconds at the last whole-second event (R336). -/
  secSeen : Nat := 0
  /-- W0[63:32] at the last wrap taken (R289). -/
  epochSeen : Nat := 0
  deriving DecidableEq, Repr

/-! ### Tally, streams, alarms and the leat (09, 10) -/

/-- A boundary or global snapshot a lane still has to switch at (R306, R317). -/
structure Pend where
  lane : Nat
  group : Nat
  /-- A global snapshot (KIND 1). -/
  snap : Bool
  /-- A boundary that also serves a global snapshot. -/
  gsnap : Bool
  b : Nat
  /-- BW0; none for an armed boundary that has not landed (R308). -/
  bw0 : Option Nat
  seq : Nat
  deriving DecidableEq, Repr

/-- An entry written and not sealed (R309, R310): ring slot `slot` of tile `tile`. -/
structure OpenEntry where
  tile : Nat
  slot : Nat
  lane : Nat
  group : Nat
  snap : Bool
  b : Nat
  bw0 : Option Nat
  deriving DecidableEq, Repr

/-- The last boundary of a lane whose entry is sealed (R309). -/
structure PastBound where
  group : Nat
  b : Nat
  bw0 : Nat
  deriving DecidableEq, Repr

/-- The tally units' hidden state. -/
structure TallySt where
  /-- Switches ordered and not yet made, in boundary order (R305, R306). -/
  pend : List Pend := []
  entries : List OpenEntry := []
  /-- The last sealed boundary of a lane, and the last sealed global snapshot (R309, R317). -/
  past : List (Nat × PastBound) := []
  pastSnap : List (Nat × PastBound) := []
  /-- FAB cycle of the last landing of each group, plus one (R304). -/
  landedAt : List (Nat × Nat) := []
  /-- Lanes whose next entry carries LATEPRV (R309). -/
  latePrv : List Nat := []
  /-- Slots whose tally restarted within the period, by lane (R40, R311). -/
  restarts : List (Nat × Nat) := []
  /-- Global snapshot position S not yet passed (R314). -/
  gsnap : Option Nat := none
  /-- The pages have latched at S and the tally units not yet taken it (R315, R317). -/
  latched : Bool := false
  deriving DecidableEq, Repr

/-- State of a stream bank (SSTA): empty, closed, draining, spilling. -/
inductive BankState where
  | empty | closed | draining | spilling
  deriving DecidableEq, Repr

/-- One bank of a stream (R319-R324); its bytes lie in the stream SRAM words. -/
structure Bank where
  state : BankState := .empty
  len : Nat := 0
  header : Nat := 0
  /-- FAB cycle of the close, or of the last refused spill (R324). -/
  closedAt : Nat := 0
  /-- W0 at the start of the spill (R325). -/
  spillW0 : Nat := 0
  deriving DecidableEq, Repr

/-- One stream. -/
structure StreamSt where
  bank0 : Bank := {}
  bank1 : Bank := {}
  /-- Filling bank, or none (R321). -/
  fill : Option Nat := some 0
  /-- Appends were dropped since the last close (R321). -/
  dropped : Bool := false
  deriving DecidableEq, Repr

/-- The FAB cycle of the last pop or peek, plus one, and whether the queue held entries at its start (R329). -/
structure AlarmCyc where
  cyc : Nat := 0
  held : Bool := false
  deriving DecidableEq, Repr

/-- A post of the present FAB cycle (R327): its requester's place in the order of posts, the entry, and the core that waits for its
status (R393). -/
structure AlarmPost where
  req : Nat
  entry : BitVec 64
  core : Option Nat := none
  deriving DecidableEq, Repr

/-- An event on its way to a leat channel (R331, R334): event `e` of a page, entry `i` of a weir's WEV, an edge of a general ball,
or a firing of a channel named by its request. -/
inductive LeatEv where
  | sel (page e : Nat)
  | wev (w i : Nat)
  | gev (n : Nat) (rise : Bool)
  | chan (ch : Nat)
  deriving DecidableEq, Repr

/-- A leat channel's state beyond its registers (R338, R342). -/
structure ChanSt where
  /-- NET cycle count at which the refractory time ends (R338). -/
  refrEnd : Nat := 0
  /-- NET cycle counts of firings, newest first, that the storm test may still count (R342). -/
  fires : List Nat := []
  /-- CCFG values that writes have replaced, oldest first, each with the NET cycle from which it no longer holds (R344). -/
  ccfgOld : List (Word × Nat) := []
  deriving DecidableEq, Repr

/-! ### Tiles and Nimlor cores (11) -/

/-- A wait of a core (R375, R377). -/
inductive CoreWait where
  | none
  /-- EWAIT into a register. -/
  | ewait (d : Nat)
  /-- WTU into a register, on a wheel, with a timeout in µs (0 none), from a W0 in ns. -/
  | wtu (d wheel us start : Nat)
  deriving DecidableEq, Repr

/-- A multiplier operation in flight: function, operands, tag, issue cycle (R370). -/
structure MulOp where
  fn : Nat
  a : BitVec 16
  b : BitVec 16
  tag : Bool
  issued : Nat
  deriving DecidableEq, Repr

/-- The dispatch a core runs (R384). -/
structure RunDisp where
  d : Disp
  lidx : Nat
  start : Nat
  budgetTaken : Bool
  deriving DecidableEq, Repr

/-- An open commit (R388). -/
structure OpenPt where
  point : Nat
  accepted : Nat
  lapsed : Bool
  /-- The FAB cycle in which it reached the seat. -/
  fab : Nat
  deriving DecidableEq, Repr

/-- An entry of the write buffer: a word of a store, and the bytes that the store writes in it with their tags (R367, R381). -/
structure WriteEntry where
  st : Nat
  word : Nat
  bytes : List (Nat × Byte × Bool)
  deriving DecidableEq, Repr

/-- One Nimlor core beyond its page registers (R354, R355, R357). -/
structure CoreSt where
  running : Bool := false
  fault : Bool := false
  halted : Bool := false
  pc : BitVec 13 := 0
  g : List Byte := List.replicate 16 0
  /-- Poison tags of g0-g15 and of MP0-MP3, one bit each (R354). -/
  gTag : Nat := 0
  mpTag : Nat := 0
  abnk : Nat := 0
  bbnk : Nat := 0
  pwin : Nat := 0
  lk : BitVec 16 := 0
  mp : BitVec 32 := 0
  lps : List Nat := [0, 0, 0]
  lpe : List Nat := [0, 0, 0]
  lpc : List Nat := [0, 0, 0]
  lact : Nat := 0
  wtg : BitVec 64 := 0
  evpend : Nat := 0
  evmsk : Nat := 0
  /-- Events of the present FAB cycle, pending from its end (R375). -/
  evin : Nat := 0
  tvec : BitVec 16 := 0
  tword : BitVec 24 := 0
  tcause : Nat := 0
  intrap : Bool := false
  tpc : BitVec 13 := 0
  /-- CYC as latched by an MFS of 0x34 (R355). -/
  cycLatch : Nat := 0
  mulq : List MulOp := []
  wait : CoreWait := .none
  /-- Busy cycles of the running dispatch (R385). -/
  busy : Nat := 0
  disp : Option RunDisp := none
  /-- Page-window read shadow: register address and value; staged store bytes (R358). -/
  shadow : Option (Nat × Word) := none
  shadowTag : Bool := false
  staged : Option (Nat × Word) := none
  /-- Posted page writes not yet in effect, oldest first (R359). -/
  posted : List (Nat × Word) := []
  /-- The write buffer, oldest entry first (R367). -/
  wbuf : List WriteEntry := []
  /-- The bytes of the tile devices from 0xE000 on (R357), 0 where none is listed, and those that hold a tagged byte. -/
  dev : List (Nat × Byte) := []
  devTag : List (Nat × Bool) := []
  /-- A byte of PPSTMP has been written since the last accepted commit, and one of ALSTMP since the last ALCMD (R387,
  R393). -/
  ppstmpSet : Bool := false
  alstmpSet : Bool := false
  /-- The open commit of the core (R388). -/
  ppoint : Option OpenPt := none
  /-- TW0 and THIGH1-THIGH3 latches (R394). -/
  twLatch : List Nat := [0, 0, 0, 0]
  wzlo : Nat := 0
  /-- Breakpoints and watchpoints (R543). -/
  bp : List (BitVec 16) := [0, 0, 0, 0]
  wpa : List (BitVec 16) := [0, 0]
  wpc : List (BitVec 16) := [0, 0]
  /-- The first instruction after RESUME or STEP is not stopped by a breakpoint (R544). -/
  bpSkip : Bool := false
  /-- A watchpoint was touched by the instruction under way (R544). -/
  wpHit : Bool := false
  /-- What halts the core at its next boundary (R540, R541): bit 0 HALT, 1 HALTALL, 2 a STEP under way, 3 a STEP done. -/
  haltReq : Nat := 0
  /-- It halted at a BKPT, which RESUME continues after (R544). -/
  atBkpt : Bool := false
  deriving DecidableEq, Repr

/-- One tile beyond its page registers (R350, R353, R382). -/
structure TileSt where
  awake : Bool := true
  waking : Bool := false
  /-- Dispatch queue, oldest first, and what has arrived in the present FAB cycle (R382). -/
  dq : List Disp := []
  arrivals : List Disp := []
  /-- Tallies: entries held and next indices of the snapshot ring (R312). -/
  snHeld : Nat := 0
  /-- Retirement wanted: an uncorrectable word was read (R86). -/
  uncorr : Bool := false
  deriving DecidableEq, Repr

/-- One cluster's power island (R123). -/
structure ClusterSt where
  awake : Bool := true
  /-- GSTA [17]; 1 at reset. -/
  waking : Bool := true
  /-- Its wake waits for the ramp that R509 lets start next. -/
  asked : Bool := false
  /-- FAB cycles gated below a whole microsecond of GATEUS. -/
  gatedCyc : Nat := 0
  /-- Core cycles at the last change of the throttle level, and the FAB cycle of that change (R500). -/
  cycBase : Nat := 0
  cycFrom : Nat := 0
  deriving DecidableEq, Repr

/-! ### Flash, journal and integrity (12) -/

/-- A flash command waiting or running (R424, R425). -/
structure FlashCmd where
  req : Nat
  op : Nat
  param : Bool
  block : Nat
  page : Nat
  target : Nat
  xfer : Nat
  first : Nat
  tag : Nat
  pslc : Bool
  stripe : Bool
  pguard : Bool
  use : Nat
  ctag : Nat
  deriving DecidableEq, Repr

/-- What the die does (R424, R430). -/
structure FlashSt where
  queue : List FlashCmd := []
  running : Option FlashCmd := none
  /-- A suspended erase and its suspensions so far (R430). -/
  suspended : Option FlashCmd := none
  suspCount : Nat := 0
  /-- A PROG has run during this suspension; a RESUME waits for the operation under way (R430). -/
  suspProg : Bool := false
  resumeWanted : Bool := false
  /-- SUSPEND and RESUME posted in the present FAB cycle, which act at its end (R432). -/
  asks : List FlashCmd := []
  /-- Pages whose program or erase was cut off, by their key in `programmed`: they read as free values (R433, R436). -/
  torn : List Nat := []
  /-- VDDF undervoltage: nothing more is issued to the die (R433). -/
  stopped : Bool := false
  doneq : List (Word × Word) := []
  lastDone : Word × Word := (0, 0)
  /-- FAB cycles of erase starts within the last second (R420). -/
  eraseAt : List Nat := []
  rateWaited : Bool := false
  /-- Rewritten pages: block x 256 + page programmed since the erase; sector units at 2^24 + 8 x sector + unit. -/
  programmed : List (Nat × Bool) := []
  /-- Mode of each block since its erase: bit 0 PSLC, 1 STRIPE, 2 PGUARD (R416). -/
  modes : List (Nat × Nat) := []
  /-- Newest slot and generation of the rotating records and sequence of the lane-map log (R412, R413). -/
  intentSlot : Nat := 15
  intentGen : Nat := 0
  retSlot : Nat := 15
  retGen : Nat := 0
  histSlot : Nat := 15
  histGen : Nat := 0
  mapLogSeq : Nat := 0
  mapLogAt : Nat := 0
  mapBaseNewer : Nat := 0
  mapGen : Nat := 0
  /-- The staging buffer (R438, R439): word of the oldest staged word, words staged, and how far from it records start. -/
  stageRd : Nat := 0
  stageLen : Nat := 0
  stageStarts : List Nat := []
  /-- The ring block after the current one has been erased for history (R438). -/
  histReady : Bool := false
  /-- Blocks of the idle checkpoint set still to be erased, the next first (R492). -/
  ckLeft : List Nat := []
  deriving DecidableEq, Repr

/-! ### Host port, start-up, power and debug (13, 14, 15, 16) -/

/-- The host port between frames: a frame is one command (assumption 19). -/
structure HostSt where
  /-- Committed write words waiting to apply, oldest first, the last of each frame marked (R467). -/
  commit : List (Nat × Word × Bool) := []
  /-- A PGCTL write of HPT with SRST, which acts at the end of its frame's commit (R448, HPT page). -/
  ctlWrite : Option Word := none
  /-- HCFG before its last change: a frame whose select was asserted before it runs under this value (R456). -/
  cfgWas : Word := 0x10
  /-- The FAB cycle in which a committed word was last applied (R467). -/
  appliedAt : Option Nat := none
  /-- The CRC bytes sent with the words of the last read frame (R462). -/
  crcs : List Byte := []
  deriving DecidableEq, Repr

/-- The power state machine (R485-R496). -/
inductive PwrState where
  | run | sleep | hibernate
  deriving DecidableEq, Repr

/-- What the device knows of the checkpoint that the journal holds (R492, R493): generation, set, tiles saved, and whether
header and body are valid. -/
structure Checkpoint where
  gen : Nat
  set : Nat
  tiles : Nat
  valid : Bool
  deriving DecidableEq, Repr

/-- Causes of the last start, the AON cycle in which the last of them asserted, and whether the device was in HIBERNATE then
(R472). -/
structure Causes where
  bits : Nat
  aon : Nat
  hib : Bool
  deriving DecidableEq, Repr

/-- Start-up and power. -/
structure PwrSt where
  state : PwrState := .run
  /-- Target of a transition under way (R487). -/
  target : Option PwrState := none
  /-- FAB cycle of the request (R487). -/
  since : Nat := 0
  /-- HIBERNATE entry runs after quiescence (R491). -/
  entering : Bool := false
  /-- Tiles saved at the last HIBERNATE entry and not yet reloaded (R496). -/
  reload : List Nat := []
  /-- A wake has asserted in HIBERNATE (R494). -/
  woken : Bool := false
  /-- A start is under way: from the release of reset to the supervisor's start (R476). -/
  booting : Bool := true
  /-- PWREN as driven, and the FAB cycle at which PGOOD fell (R512). -/
  pwren : Bool := false
  pgoodFell : Option Nat := none
  /-- The configuration check failed: safe acquisition (R478). -/
  cfgdef : Bool := false
  restored : Bool := false
  hostload : Bool := false
  ftest : Bool := false
  /-- A write of BCMD.GO has been made and the container step has not yet taken it (R475). -/
  goWanted : Bool := false
  /-- The start under way is a restore whose checkpoint is valid (R495). -/
  restoring : Bool := false
  /-- The program table entries and the keys that the image of the last start gave, for the soft resets that reload
  them (R448): tile x 4096 + PROGID, and port x 256 + slot. -/
  imgPtab : List (Nat × BitVec 15) := []
  imgKeys : List (Nat × BitVec 128) := []
  /-- FAB cycle in which the last ramp of a cluster's power island started (R509). -/
  rampAt : Option Nat := none
  /-- FAB cycle until which PWREN stays low (R471, R476), and the one in which it went high (R512). -/
  offUntil : Nat := 0
  onAt : Nat := 0
  /-- The causes of the last start or wake (R472). -/
  causes : Option Causes := none
  /-- Levels of WAKE0 and WAKE1, one bit each: at the balls, and after the debounce of WAKECFG. -/
  wakeRaw : Nat := 0
  wakeLevel : Nat := 0
  /-- By pin, the AON cycles for which its ball must still hold its level. -/
  wakeHold : List (Nat × Nat) := []
  /-- The checkpoint that the journal holds, once start-up has looked for it (R493). -/
  ck : Option Checkpoint := none
  deriving DecidableEq, Repr

/-- The real-time clock of the AON domain (R498). -/
structure RtcSt where
  sec : Nat := 0
  sub : Nat := 0
  valid : Bool := false
  /-- What has passed of the present AON cycle: 32 per FAB cycle, of 390,625 (32.768 kHz against 400 MHz). -/
  acc : Nat := 0
  /-- AON cycles since POR (R472). -/
  aon : Nat := 0
  /-- The seconds that SET loads in the next AON cycle (R498). -/
  set : Option Nat := none
  /-- A SYNC waits for the next whole second (R498): the second it waits for. -/
  sync : Option Nat := none
  /-- The alarm has fired in this second. -/
  alarmed : Bool := false
  deriving DecidableEq, Repr

/-- The watchdog and monitors (R474, R499-R502). -/
structure MonSt where
  /-- FAB cycles left of the watchdog, and WDWARN given for this count. -/
  wd : Nat := 400000000
  warned : Bool := false
  /-- Analog over-temperature or VDDA fault stands (R163). -/
  aot : Bool := false
  vddaFault : Bool := false
  /-- By rail at its fault level, the FAB cycle of the fault (R471). -/
  lowAt : List (Nat × Nat) := []
  deriving DecidableEq, Repr

/-- An operation of the debug port on the device (R533-R535, R540, R543); cores by 2 x tile + core. -/
inductive DbgOp where
  | rdreg (addr : Nat)
  | wrreg (addr : Nat) (v : Word)
  | rdmem (a : Nat)
  | wrmem (a v : Nat)
  | halt (k : Nat)
  | resume (k : Nat)
  | step (k : Nat)
  | haltall
  | resumeall
  | crd (k sel : Nat)
  | cwr (k sel v : Nat)
  deriving DecidableEq, Repr

/-- The debug port (R530-R538). -/
structure DbgSt where
  /-- A line reset failed, or a packet with a reserved OP was heard: silent until the next line reset (R530, R531). -/
  silent : Bool := false
  /-- Unlocked; from reset at level OPEN, the fuse's value at State.reset (R536, assumption 1). -/
  unlocked : Bool := true
  /-- The latest challenge, until its first RESP (R537). -/
  challenge : Option (BitVec 128) := none
  challenges : Nat := 0
  fails : Nat := 0
  /-- FAB cycle until which CHAL is locked out (R537). -/
  lockoutTo : Nat := 0
  /-- The pending operation under its tag, and its status and data once complete (R533). -/
  pend : Option (Nat × DbgOp) := none
  result : Option (Nat × List Word) := none
  /-- Operations that a line reset left to complete inside the device, oldest first (R530). -/
  orphans : List DbgOp := []
  /-- The status byte of the last answer: TAG x 16 + STATUS; none where nothing was driven. -/
  status : Option Nat := none
  deriving DecidableEq, Repr

/-- Fuses (R475, R483, R536): DBGLVL, PRODLOCK, DBGKEY, key numbers. -/
structure FuseSt where
  dbglvl : Nat := 0
  prodlock : Bool := false
  dbgkey : BitVec 128 := 0
  pubkey0 : BitVec 256 := 0
  pubkey1 : BitVec 256 := 0
  deriving DecidableEq, Repr

/-- The whole block. -/
structure State where
  /-- Commands waiting, first in first out. -/
  pending : List Instr
  /-- The clocks. -/
  time : TimeSt
  /-- Order lists by resource (R26): the requesters moved to the back, in order; none listed is index order. -/
  orders : List (Nat × List Nat)
  /-- The dispatchers (R117-R120). -/
  mill : MillSt
  /-- W1-W3 by number (R94); unlisted: the reset wheel. -/
  wheels : List (Nat × WheelSt)
  /-- Armed occurrences in order of arming (R116). -/
  armed : List Armed
  /-- Dispatches sent to a tile and not yet arrived, oldest first (R118, R382). -/
  sent : List (Nat × Disp)
  /-- The Hopper. -/
  hop : HopSt
  /-- Converters by number. -/
  conv : List (Nat × ConvSt)
  /-- Filter slots by converter number. -/
  slots : List (Nat × SlotSt)
  /-- FAB cycle of the last EXCSW landing that changed each excitation channel (R155). -/
  exc : List (Nat × Nat)
  /-- FAB cycle of the last CHSEL write of each excitation channel (R155). -/
  chselWr : List (Nat × Nat)
  /-- Four times the FAB cycle plus the slot of the last record each filter engine delivered, plus one (R168). -/
  entered : List (Nat × Nat)
  /-- Weirs by number. -/
  weirs : List (Nat × WeirSt)
  /-- Pulse channels by number. -/
  pulses : List (Nat × PulseSt)
  /-- Filtered level of TRIP0 and TRIP1, one bit each (R227). -/
  tripBall : Nat
  /-- FAB cycle of the last change of each TRIP ball's filtered level (R227). -/
  tripSince : List (Nat × Nat)
  /-- Segments 0-15 and uplinks 16-17 by port number. -/
  ports : List (Nat × PortSt)
  /-- The PTP block. -/
  ptp : PtpSt
  /-- Tally units and the global snapshot. -/
  tally : TallySt
  /-- Streams S0-S3 by number. -/
  streams : List (Nat × StreamSt)
  /-- Alarm queue in order of posting: word of the alarm store and priority (R327). -/
  alarms : List (Nat × Nat)
  /-- The alarm queue's present FAB cycle (R329). -/
  alarmCyc : AlarmCyc
  /-- Posts of the present FAB cycle, which enter the queue at its end (R327). -/
  alarmPosts : List AlarmPost
  /-- Last entry popped (R329). -/
  lastPop : BitVec 64
  /-- Leat channels by number. -/
  chans : List (Nat × ChanSt)
  /-- Events of the present FAB cycle that have not yet reached their channels, oldest first (R331, R344). -/
  evq : List LeatEv
  /-- Global period boundary position P not yet passed (R345). -/
  boundary : Option Nat
  /-- Latched counters of held pages by register address (R315, R316). -/
  held : List (Nat × Word)
  /-- Cores by 2 x tile + core. -/
  cores : List (Nat × CoreSt)
  /-- Tiles by 16c + t. -/
  tiles : List (Nat × TileSt)
  /-- Clusters by number. -/
  clusters : List (Nat × ClusterSt)
  /-- Program table entries: tile x 4096 + PROGID -> PTDAT format (R52, R382). -/
  ptab : List (Nat × BitVec 15)
  /-- Store words under the code but for the flash die: store x 2^40 + index (R24). -/
  words : List (Nat × CWord)
  /-- Words of the flash die by the same keys; an erased word is all ones (R24, R418). -/
  flashWords : List (Nat × CWord)
  /-- The flash controller. -/
  flash : FlashSt
  /-- JDATL latch by requester index (R411, R453). -/
  jshadow : List (Nat × Word)
  /-- JDATL staged low half (R411). -/
  jstaged : Word
  /-- Store and index of the scrubber's last word (R405). -/
  scrubAt : Option (Nat × Nat)
  /-- Journal words not yet accepted while PGOOD is low, oldest first (R512). -/
  jwait : List (Nat × CWord)
  /-- Errors logged in the present FAB cycle: page, ERRLOG of the error (R403). -/
  errs : List (Nat × Word)
  /-- Every stored register by byte address (R443). -/
  regs : List (Nat × Word)
  /-- Latched shadows: requester index x 2^24 + register address (R453). -/
  shadows : List (Nat × Word)
  /-- Host port. -/
  host : HostSt
  /-- Start-up and power states. -/
  pwr : PwrSt
  /-- AON real-time clock. -/
  rtc : RtcSt
  /-- Watchdog and monitors. -/
  mon : MonSt
  /-- Debug port. -/
  dbg : DbgSt
  /-- Fuses. -/
  fuses : FuseSt
  /-- Words returned by the last reading command: the MODEL'S OWN (assumption 5). -/
  rdata : List Word
  /-- Number of the next free value: the MODEL'S OWN (assumption 4). -/
  freeCtr : Nat
  /-- RW1C bits set in the present FAB cycle, by register: a clear in this cycle leaves them (R449). -/
  w1set : List (Nat × Word)
  /-- Pages whose soft reset is in progress (R448). -/
  srbusy : List Nat
  deriving DecidableEq, Repr

/-- The reasons a step stops with a fault. None is raised by this model: every error the spec names is a status, a flag
or a reset of the part. The constructor says so of a state the model does not reach. Safe. -/
inductive Fault where
  /-- No meaning raises it. -/
  | unreachable
  deriving DecidableEq, Repr

/-- The reasons a step is refused. -/
inductive Refusal where
  /-- A row of the table without a meaning yet. Safe: nothing is claimed of it. -/
  | notModelled (mnemonic : String)
  deriving DecidableEq, Repr

/-- The block right after the release of power-on reset (R471, R476): registers at their reset values (no entry listed),
stores empty, RSTCAUSE and RSTHIST naming POR, every pulse channel tripped by RESET. -/
def State.reset : State where
  pending := []
  time := {}
  orders := []
  mill := {}
  wheels := []
  armed := []
  sent := []
  hop := {}
  conv := []
  slots := []
  exc := []
  chselWr := []
  entered := []
  weirs := []
  pulses := []
  tripBall := 0
  tripSince := []
  ports := []
  ptp := {}
  tally := {}
  streams := []
  alarms := []
  alarmCyc := {}
  alarmPosts := []
  lastPop := 0
  chans := []
  evq := []
  boundary := none
  held := []
  cores := []
  tiles := []
  clusters := []
  ptab := []
  words := []
  flashWords := []
  flash := {}
  jshadow := []
  jstaged := 0
  scrubAt := none
  jwait := []
  errs := []
  regs := []
  shadows := []
  host := {}
  pwr := {}
  rtc := {}
  mon := {}
  dbg := {}
  fuses := {}
  rdata := []
  freeCtr := 0
  w1set := []
  srbusy := []

end Sys2Proof.Machine
end

