-- ==== Sys2Proof/Machine/Ops.lean ====
section
/-! DEFINITION. The named operations over the state: registers by byte address and their fields (R443), the tables of
repeated units, the clocks (R21), the interrupt bits and leat outputs of a page (R334, R445), the order lists of
last-loser arbitration (R26), free values (assumption 4). -/

namespace Sys2Proof.Machine

/-! ### Registers -/

/-- The stored register at a byte address (R443). -/
def State.rd (s : State) (a : Nat) : Word := Sparse.get regReset s.regs a

/-- The state with that register replaced: the block's own change, no access code applies. -/
def State.wr (s : State) (a : Nat) (v : Word) : State := { s with regs := Sparse.set regReset s.regs a v }

/-- A register as a number. -/
def State.rn (s : State) (a : Nat) : Nat := (s.rd a).toNat

/-- A field of a register. -/
def State.rf (s : State) (a lo n : Nat) : Nat := field (s.rd a) lo n

/-- A field of a register replaced. -/
def State.setf (s : State) (a lo n x : Nat) : State := s.wr a (putField (s.rd a) lo n x)

/-- A bit of a register. -/
def State.rb (s : State) (a i : Nat) : Bool := bitOf (s.rd a) i

/-- A bit of a register replaced. -/
def State.setb (s : State) (a i : Nat) (b : Bool) : State := s.wr a (putBit (s.rd a) i b)

/-- A counter modulo 2^32 counts `n` (R454). -/
def State.bumpBy (s : State) (a n : Nat) : State := s.wr a (s.rd a + BitVec.ofNat 32 n)

/-- A counter modulo 2^32 counts once (R454). -/
def State.bump (s : State) (a : Nat) : State := s.bumpBy a 1

/-- A field that counts up and stays at its maximum (R454). -/
def State.bumpSat (s : State) (a lo n : Nat) : State :=
  let x := s.rf a lo n
  if x + 1 < 2 ^ n then s.setf a lo n (x + 1) else s

/-- A 64-bit value into a pair of registers, low word first. -/
def State.wr64 (s : State) (lo hi x : Nat) : State := (s.wr lo (lo32 x)).wr hi (hi32 x)

/-- The 64-bit value of a pair of registers. -/
def State.rd64 (s : State) (lo hi : Nat) : Nat := join64 (s.rd lo) (s.rd hi)

/-- `s` changed by `f` where `c` holds. -/
def State.onlyIf (s : State) (c : Bool) (f : State → State) : State := if c then f s else s

/-! ### Tables of repeated units -/

/-- Wheel `n` (1-3). -/
def State.wheel (s : State) (n : Nat) : WheelSt := Sparse.get (fun _ => {}) s.wheels n
/-- Wheel `n` replaced. -/
def State.setWheel (s : State) (n : Nat) (w : WheelSt) : State :=
  { s with wheels := Sparse.set (fun _ => {}) s.wheels n w }
/-- Converter `g`. -/
def State.cnv (s : State) (g : Nat) : ConvSt := Sparse.get (fun _ => {}) s.conv g
/-- Converter `g` replaced. -/
def State.setCnv (s : State) (g : Nat) (c : ConvSt) : State := { s with conv := Sparse.set (fun _ => {}) s.conv g c }
/-- Filter slot of converter `g`. -/
def State.slot (s : State) (g : Nat) : SlotSt := Sparse.get (fun _ => {}) s.slots g
/-- Filter slot replaced. -/
def State.setSlot (s : State) (g : Nat) (c : SlotSt) : State := { s with slots := Sparse.set (fun _ => {}) s.slots g c }
/-- Weir `w`. -/
def State.weir (s : State) (w : Nat) : WeirSt := Sparse.get (fun _ => {}) s.weirs w
/-- Weir replaced. -/
def State.setWeir (s : State) (w : Nat) (c : WeirSt) : State := { s with weirs := Sparse.set (fun _ => {}) s.weirs w c }
/-- Pulse channel `ch`. -/
def State.pulse (s : State) (ch : Nat) : PulseSt := Sparse.get (fun _ => {}) s.pulses ch
/-- Pulse channel replaced. -/
def State.setPulse (s : State) (ch : Nat) (c : PulseSt) : State :=
  { s with pulses := Sparse.set (fun _ => {}) s.pulses ch c }
/-- Port `p`: segments 0-15, uplinks 16-17 (R271). -/
def State.port (s : State) (p : Nat) : PortSt := Sparse.get (fun _ => {}) s.ports p
/-- Port replaced. -/
def State.setPort (s : State) (p : Nat) (c : PortSt) : State := { s with ports := Sparse.set (fun _ => {}) s.ports p c }
/-- Stream `n`. -/
def State.stream (s : State) (n : Nat) : StreamSt := Sparse.get (fun _ => {}) s.streams n
/-- Stream replaced. -/
def State.setStream (s : State) (n : Nat) (c : StreamSt) : State :=
  { s with streams := Sparse.set (fun _ => {}) s.streams n c }
/-- Leat channel `ch`. -/
def State.chan (s : State) (ch : Nat) : ChanSt := Sparse.get (fun _ => {}) s.chans ch
/-- Channel replaced. -/
def State.setChan (s : State) (ch : Nat) (c : ChanSt) : State := { s with chans := Sparse.set (fun _ => {}) s.chans ch c }
/-- Core `k` of the part: 2 × tile + core. -/
def State.core (s : State) (k : Nat) : CoreSt := Sparse.get (fun _ => {}) s.cores k
/-- Core replaced. -/
def State.setCore (s : State) (k : Nat) (c : CoreSt) : State := { s with cores := Sparse.set (fun _ => {}) s.cores k c }
/-- Core changed by `f`. -/
def State.onCore (s : State) (k : Nat) (f : CoreSt → CoreSt) : State := s.setCore k (f (s.core k))
/-- A device byte takes a value and a tag. -/
def CoreSt.setDev (c : CoreSt) (o : Nat) (v : Byte) (tag : Bool) : CoreSt :=
  { c with dev := Sparse.set (fun _ => 0) c.dev o v, devTag := Sparse.set (fun _ => false) c.devTag o tag }
/-- An event reaches a core: it is pending from the end of the FAB cycle, so that a clear in this cycle leaves it (R375). -/
def State.coreEvent (s : State) (k b : Nat) : State := s.onCore k (fun c => { c with evin := c.evin ||| 2 ^ b })
/-- The core events of the FAB cycle become pending (R375). -/
def State.landEvents (s : State) : State :=
  (s.cores.map (·.1)).foldl (fun s k => s.onlyIf ((s.core k).evin != 0)
    (·.onCore k (fun c => { c with evpend := c.evpend ||| c.evin, evin := 0 }))) s
/-- Tile 16c + t. -/
def State.tile (s : State) (t : Nat) : TileSt := Sparse.get (fun _ => {}) s.tiles t
/-- Tile replaced. -/
def State.setTile (s : State) (t : Nat) (c : TileSt) : State := { s with tiles := Sparse.set (fun _ => {}) s.tiles t c }
/-- Cluster `c`. -/
def State.cluster (s : State) (c : Nat) : ClusterSt := Sparse.get (fun _ => {}) s.clusters c
/-- Cluster replaced. -/
def State.setCluster (s : State) (c : Nat) (x : ClusterSt) : State :=
  { s with clusters := Sparse.set (fun _ => {}) s.clusters c x }

/-! ### Time -/

/-- NET clock edges since the release of reset: five to sixteen FAB cycles (01, Clock domains). -/
def State.net (s : State) : Nat := s.time.fab * 5 / 16

/-- Plant time W0 in ns, truncated (R21). -/
def State.w0 (s : State) : Nat := s.time.w0

/-- A STAMP: the low 32 bits of W0 (R19). -/
def State.stampNow (s : State) : Word := w32 s.time.w0

/-- FAB cycles in `n` microseconds. -/
def usCycles (n : Nat) : Nat := 400 * n

/-- FAB cycles of one core cycle in cluster `c`: 2^(n+1) at throttle level n (R500). -/
def State.coreDiv (s : State) (c : Nat) : Nat := 2 ^ (s.rf Reg.monThrlvl (2 * c) 2 + 1)

/-- Core cycles of core `k` since reset, at the clock of its cluster (R355, R500). -/
def State.coreCyc (s : State) (k : Nat) : Nat :=
  let x := s.cluster (k / 32)
  x.cycBase + (s.time.fab - x.cycFrom) / s.coreDiv (k / 32)

/-- The largest wheel position (R90). -/
def posMax : Nat := 2 ^ 64 - 1

/-- Position of wheel `n`; W0 is plant time (R90, R93). -/
def State.pos (s : State) (n : Nat) : Nat := if n = 0 then s.time.w0 else (s.wheel n).pos

/-- HIGH of wheel `n`; W0 never decreases, so HIGH of W0 is W0 (R91, R93). -/
def State.high (s : State) (n : Nat) : Nat := if n = 0 then s.time.w0 else (s.wheel n).high

/-! ### Free values -/

/-- A free value of `w` bits and the state that has used it (assumption 4). -/
def State.free (s : State) (w : Nat) : BitVec w × State :=
  (Config.freeValue w s.freeCtr, { s with freeCtr := s.freeCtr + 1 })

/-! ### Power, pages and interrupts -/

/-- The kinds of page whose block runs in SLEEP (R488). -/
def runsInSleep : PageClass → Bool
  | .pwr | .mon | .dev | .leat | .leatc | .weir | .trip | .pls | .whl | .ptp | .ptpp | .seg | .node | .hpt | .strm
  | .alq => true
  | _ => false

/-- The block of a page is unpowered or gated: PGSTA.OFF (R447, R463, R488). -/
def State.pageOff (s : State) (page : Nat) : Bool :=
  match pageKind? page with
  | none => false
  | some (cls, i) =>
    match s.pwr.state with
    | .hibernate => true
    | .sleep => !runsInSleep cls
    | .run =>
      match cls with
      | .tile => !((s.tile i).awake && (s.cluster (i / 16)).awake)
      | _ => false

/-- PGCTL.EN of a page (R446). -/
def State.pageEn (s : State) (page : Nat) : Bool := s.rb (Reg.hdrPgctl page) 0

/-- The block of a page takes tasks, armed actions and dispatches (R346, R446). -/
def State.pageLive (s : State) (page : Nat) : Bool := s.pageEn page && !s.pageOff page

/-- An event sets out for its leat channel, which it reaches at the end of the FAB cycle by the routing that then stands (R344). -/
def State.pushEv (s : State) (ev : LeatEv) : State := { s with evq := s.evq ++ [ev] }

/-- Channel `ch` is asked to fire (R331). -/
def State.pushCh (s : State) (ch : Nat) : State := s.pushEv (.chan ch)

/-- Event `e` of a page, while the page's EN is 1 (R446): one for the FAB cycle, however often it is raised in it (assumption 35). -/
def State.event (s : State) (page e : Nat) : State :=
  if s.pageEn page && !s.evq.contains (.sel page e) then s.pushEv (.sel page e) else s

/-- Bits of an RW1C register are set: a clear in the same FAB cycle leaves them (R449). -/
def State.noteSet (s : State) (a : Nat) (m : Word) : State :=
  { s with w1set := Sparse.set (fun _ => 0) s.w1set a (Sparse.get (fun _ => 0) s.w1set a ||| m) }

/-- A bit of an RW1C register is set. -/
def State.set1 (s : State) (a b : Nat) : State := (s.setb a b true).noteSet a (1#32 <<< b)

/-- The bits of a write of 1s to an RW1C register that it clears: none set in this FAB cycle (R449). -/
def State.clears (s : State) (a : Nat) (v : Word) : Word := v &&& ~~~ Sparse.get (fun _ => 0) s.w1set a

/-- IRAW bit `b` of a page is set (R445). -/
def State.raise (s : State) (page b : Nat) : State := s.set1 (Reg.hdrIraw page) b

/-- Set the bits of a mask in a register. -/
def State.orReg (s : State) (a : Nat) (m : Word) : State := s.wr a (s.rd a ||| m)

/-- Clear the bits of a mask in a register. -/
def State.clrReg (s : State) (a : Nat) (m : Word) : State := s.wr a (s.rd a &&& ~~~ m)

/-! ### Last-loser arbitration (R26) -/

/-- The rank of requester `r` when `back` lists, in order, those moved to the back: all others precede them in index
order. -/
def grantRank (back : List Nat) (r : Nat) : Nat × Nat :=
  match back.findIdx? (· == r) with
  | none => (0, r)
  | some i => (1, i)

/-- Requester `a` stands before `b` in the order list. -/
def grantBefore (back : List Nat) (a b : Nat) : Bool :=
  let x := grantRank back a
  let y := grantRank back b
  x.1 < y.1 || (x.1 == y.1 && x.2 ≤ y.2)

/-- Insert a requester at its place. -/
def grantInsert (back : List Nat) (a : Nat) : List Nat → List Nat
  | [] => [a]
  | b :: bs => if grantBefore back a b then a :: b :: bs else b :: grantInsert back a bs

/-- The requesters of one cycle in the order of the resource's list. -/
def grantOrder (back : List Nat) : List Nat → List Nat
  | [] => []
  | a :: as => grantInsert back a (grantOrder back as)

/-- The requesters a resource has moved to the back, oldest first. -/
def State.backOf (s : State) (res : Nat) : List Nat := Sparse.get (fun _ => []) s.orders res

/-- Serve the requesters of one cycle at a resource: their order, and the list after it. The first served of two or more
moves to the back; a lone requester leaves the list (R26). -/
def State.grant (s : State) (res : Nat) (reqs : List Nat) : List Nat × State :=
  let order := grantOrder (s.backOf res) reqs
  match order with
  | w :: _ :: _ =>
    (order, { s with orders := Sparse.set (fun _ => []) s.orders res ((s.backOf res).filter (· != w) ++ [w]) })
  | _ => (order, s)

/-- The resources: a register by its page and address (R452), the Millrace's two slots (R117), admission to the flash queue
(R424) and the stream writers (R319); each carries the page that owns it, so that a soft reset finds its lists (R27). -/
def resReg (addr : Nat) : Nat := addr / 1024 * 4096 + addr % 1024
def resTicketSlot : Nat := Page.mrg * 4096 + 1024
def resLaneSlot : Nat := Page.mrg * 4096 + 1025
def resFlash : Nat := Page.flc * 4096 + 1024
def resStream (n : Nat) : Nat := Page.strm * 4096 + 1024 + n

/-- A soft reset of a page returns its order lists to index order (R27). -/
def State.clearOrders (s : State) (page : Nat) : State :=
  { s with orders := s.orders.filter (fun o => o.1 / 4096 != page) }

end Sys2Proof.Machine
end

