-- ==== Sys2Proof/Machine/Integrity.lean ====
section
/-! DEFINITION. The (72,64) code of the store words and the code of the instruction words (11 R351), poison, error logging and injection (12 R396-R406). -/

namespace Sys2Proof.Machine

/-- Columns of the data bits, bit 0 first (R396). -/
def eccColumns : List (BitVec 8) := [
  0x07, 0x0B, 0x0D, 0x0E, 0x13, 0x15, 0x16, 0x19, 0x1A, 0x1C, 0x23, 0x25, 0x26, 0x29, 0x2A, 0x2C,
  0x31, 0x32, 0x34, 0x38, 0x43, 0x45, 0x46, 0x49, 0x4A, 0x4C, 0x51, 0x52, 0x54, 0x58, 0x61, 0x62,
  0x64, 0x68, 0x70, 0x83, 0x85, 0x86, 0x89, 0x8A, 0x8C, 0x91, 0x92, 0x94, 0x98, 0xA1, 0xA2, 0xA4,
  0xA8, 0xB0, 0xC1, 0xC2, 0xC4, 0xC8, 0xD0, 0xE0, 0x1F, 0x3E, 0x7C, 0xF8, 0xF1, 0xE3, 0xC7, 0x8F]

/-- The XOR of the columns of the set bits of a number, bit `i` first. -/
def eccFold : List (BitVec 8) → Nat → BitVec 8
  | [], _ => 0
  | c :: cs, x => (if x % 2 = 1 then c else 0) ^^^ eccFold cs (x / 2)

/-- The check byte of a data word (R396). -/
def eccCheck (d : DWord) : BitVec 8 := eccFold eccColumns d.toNat

/-- A word with its check byte: check in bits 71:64. -/
def encodeWord (d : DWord) : CWord := eccCheck d ++ d

/-- The data bits of a word. -/
def wordData (w : CWord) : DWord := w.truncate 64

/-- The check byte of a word. -/
def wordCheck (w : CWord) : BitVec 8 := (w >>> 64).truncate 8

/-- The poison pattern (R399). -/
def poisonWord : CWord := (0xFF : BitVec 8) ++ (0 : DWord)

/-- What a consumer finds in a word (R397). -/
inductive Found where
  | good (d : DWord)
  | corrected (d : DWord)
  | poison
  | uncorrectable
  deriving DecidableEq, Repr

/-- The check of a word under the code whose data columns are `cols` and whose poison pattern is `bad` (R397, R399). -/
def findWord (cols : List (BitVec 8)) (bad w : CWord) : Found :=
  let d := wordData w
  let syn := eccFold cols d.toNat ^^^ wordCheck w
  if syn = 0 then .good d
  else if w = bad then .poison
  else
    match cols.findIdx? (· == syn) with
    | some i => .corrected (d ^^^ (1#64 <<< i))
    | none => if (List.range 8).any (fun k => syn == (1#8 <<< k)) then .corrected d else .uncorrectable

/-- The consumer's check of a word (R397, R399). -/
def checkWord (w : CWord) : Found := findWord eccColumns poisonWord w

/-- Columns of the 24 data bits of an instruction word under its code of 6 check bits: odd weights, so that the code corrects
one error and detects two (R351; the columns themselves are this model's, assumption 16). -/
def instrColumns : List (BitVec 8) := [
  0x07, 0x0B, 0x0D, 0x0E, 0x13, 0x15, 0x16, 0x19, 0x1A, 0x1C, 0x23, 0x25, 0x26, 0x29, 0x2A, 0x2C, 0x31, 0x32, 0x34, 0x38,
  0x1F, 0x2F, 0x37, 0x3B]

/-- The bits an instruction word has: data in 23:0, check in 69:64 (R351, assumption 16). -/
def instrMask : CWord := 0x3F0000000000FFFFFF

/-- An uncorrectable instruction word as it is written back (R400, assumption 16). -/
def instrPoison : CWord := 0x3F0000000000000000

/-! ### The stores (R24, R403) -/

/-- A store: its number selects 2^40 keys of `State.words` or `State.flashWords`. -/
abbrev Store := Nat

/-- Store `sub` of a tile: 0 data SRAM, 1 and 2 scratch, 3 and 4 instruction SRAM of core 0 and 1. -/
abbrev Store.tile (t sub : Nat) : Store := 8 * t + sub
abbrev Store.millrace : Store := 1024
abbrev Store.laneMap : Store := 1025
abbrev Store.filter (e : Nat) : Store := 1026 + e
abbrev Store.segment (n : Nat) : Store := 1028 + n
abbrev Store.uplink (u : Nat) : Store := 1044 + u
abbrev Store.stream : Store := 1046
abbrev Store.alarm : Store := 1047
abbrev Store.journal : Store := 1048
abbrev Store.flashMain : Store := 1049
abbrev Store.flashParam : Store := 1050
abbrev Store.staging : Store := 1051

/-- The store holds instructions, under their own code (R351). -/
def isInstr (st : Store) : Bool := decide (st < 1024) && (st % 8 == 3 || st % 8 == 4)

/-- The consumer's check under the code of its store (R351, R397). -/
def checkAt (st : Store) (w : CWord) : Found := if isInstr st then findWord instrColumns instrPoison w else checkWord w

/-- Data with its check bits under the code of its store (R351, R396). -/
def encodeAt (st : Store) (d : DWord) : CWord :=
  if isInstr st then eccFold instrColumns (d.toNat % 2 ^ 24) ++ BitVec.ofNat 64 (d.toNat % 2 ^ 24) else encodeWord d

/-- The poison pattern of a store (R351, R399). -/
def poisonAt (st : Store) : CWord := if isInstr st then instrPoison else poisonWord

/-- The bits of a word that its store has (R351). -/
def fitWord (st : Store) (w : CWord) : CWord := if isInstr st then w &&& instrMask else w

/-- The page that owns a store and the store's number in that page's log (R403). -/
def storePage (st : Store) : Nat × Nat :=
  if st < 1024 then (Page.tile (st / 8), st % 8)
  else if st = 1024 then (Page.mrg, 0)
  else if st = 1025 then (Page.hop, 0)
  else if st < 1028 then (Page.fil (st - 1026), 0)
  else if st < 1044 then (Page.seg (st - 1028), 0)
  else if st < 1046 then (Page.upl (st - 1044), 0)
  else if st = 1046 then (Page.strm, 0)
  else if st = 1047 then (Page.alq, 0)
  else if st = 1048 then (Page.jrn, 0)
  else (Page.flc, st - 1049)

/-- Words of a store (R24, R403). -/
def storeSize (st : Store) : Nat :=
  if st < 1024 then (if st % 8 = 0 then 40960 else if st % 8 < 3 then 1024 else 8192)
  else if st = 1024 then 196864
  else if st = 1025 then 4096
  else if st < 1044 then 4096
  else if st < 1046 then 6144
  else if st = 1046 then 32768
  else if st = 1047 then 2048
  else if st = 1048 then 524288
  else if st = 1049 then 16384 * 256 * 2048
  else if st = 1050 then 32 * 2048
  else 8192

/-- Stores of the flash die: their words cannot be rewritten in place (R400). -/
def isFlash (st : Store) : Bool := st == Store.flashMain || st == Store.flashParam

/-- The key of a word in `State.words` or `State.flashWords`. -/
def wordKey (st : Store) (i : Nat) : Nat := st * 2 ^ 40 + i

/-- An erased word of the flash: all ones with check byte 0, a good word (R396, assumption 2). -/
def erasedWord : CWord := encodeWord (BitVec.allOnes 64)

/-- The 72 bits of a word. One that nothing has written is erased in the flash; elsewhere it is data 0 with its check byte
(assumption 2). -/
def State.rawWord (s : State) (st : Store) (i : Nat) : CWord :=
  if isFlash st then Sparse.get (fun _ => erasedWord) s.flashWords (wordKey st i)
  else Sparse.get (fun _ => 0) s.words (wordKey st i)

/-- The 72 bits of a word replaced, no injection. -/
def State.setRaw (s : State) (st : Store) (i : Nat) (w : CWord) : State :=
  if isFlash st then { s with flashWords := Sparse.set (fun _ => erasedWord) s.flashWords (wordKey st i) w }
  else { s with words := Sparse.set (fun _ => 0) s.words (wordKey st i) w }

/-- The injected fault of EINJ0 and EINJ1 on a word whose poison pattern is `bad` (R406); KIND 3 changes nothing in it
(assumption 40). -/
def injectFault (kind a b : Nat) (bad w : CWord) : CWord :=
  if kind = 0 then w ^^^ (1#72 <<< a)
  else if kind = 1 then w ^^^ (1#72 <<< a) ^^^ (1#72 <<< b)
  else if kind = 2 then bad
  else w

/-- A store writes a word as it stands, with an armed injection applied (R397, R406); while PGOOD is low the journal accepts
no word and it waits (R512). -/
def State.putWord (s : State) (st : Store) (i : Nat) (w : CWord) : State :=
  if st = Store.journal ∧ s.pwr.pgoodFell.isSome then { s with jwait := s.jwait ++ [(i, w)] }
  else
  let e := s.rd Reg.eccEinj0
  let pg := storePage st
  if bitOf e 20 && field e 0 14 == pg.1 && field e 14 4 == pg.2 then
    let w' := injectFault (field e 18 2) (s.rf Reg.eccEinj1 0 7) (s.rf Reg.eccEinj1 8 7) (poisonAt st) w
    ((s.setb Reg.eccEinj0 20 false).raise Page.ecc 3).setRaw st i (fitWord st w')
  else s.setRaw st i (fitWord st w)

/-- A block creates or changes a word: it computes the check bits (R351, R397). -/
def State.writeWord (s : State) (st : Store) (i : Nat) (d : DWord) : State := s.putWord st i (encodeAt st d)

/-- The word's index in the log: block × 256 + page for the main array (R403). -/
def logIndex (st : Store) (i : Nat) : Nat := if st = Store.flashMain then i / 2048 else i

/-- An uncorrectable error is logged: the page's ERRLOG, the ring at ELWP, UECNT and IRAW.UE (R403, R404). -/
def State.logError (s : State) (st : Store) (i : Nat) (scrub : Bool) : State :=
  let pg := storePage st
  let el := Reg.hdrErrlog pg.1
  let n := logIndex st i
  let v : Word := w32 (2 ^ 31 + pg.2 % 16 * 2 ^ 26 + n % 2 ^ 26)
  let s := if s.rb el 31 then s.setb el 30 true else s.wr el v
  let s := { s with errs := s.errs ++ [(pg.1, v)] }
  let k := s.rf Reg.eccElwp 0 4
  let s := s.wr (Reg.eccEla k) (w32 (pg.1 + pg.2 % 16 * 2 ^ 14 + b2n scrub * 2 ^ 18))
  let s := s.wr (Reg.eccElw k) (w32 (n % 2 ^ 26))
  let s := s.wr (Reg.eccElstmp k) s.stampNow
  let s := s.setf Reg.eccElwp 0 4 (k + 1)
  (s.bump Reg.eccUecnt).raise Page.ecc 0

/-- Retirement of a tile is wanted once an uncorrectable word of its data SRAM or instruction SRAM is read (R86, R405). -/
def State.noteTileError (s : State) (st : Store) : State :=
  if st < 1024 && st % 8 != 1 && st % 8 != 2 then
    (s.setTile (st / 8) { s.tile (st / 8) with uncorr := true }).raise (Page.tile (st / 8)) 7
  else s

/-- A consumer reads a word: its data or none for poison, with the counts and the log of R397, R400, R402, R403. -/
def State.readWord (s : State) (st : Store) (i : Nat) (scrub : Bool := false) : Option DWord × State :=
  match checkAt st (s.rawWord st i) with
  | .good d => (some d, s)
  | .corrected d => (some d, s.bump (Reg.hdrErrcnt (storePage st).1))
  | .poison => (none, s.bump Reg.eccPreadcnt)
  | .uncorrectable =>
    let s := if isFlash st then s else s.setRaw st i (poisonAt st)
    (none, (s.logError st i scrub).noteTileError st)

/-- The data of a word as a block sees it that takes poison as 0: used where the spec gives poison no meaning. -/
def State.peekWord (s : State) (st : Store) (i : Nat) : DWord :=
  match checkAt st (s.rawWord st i) with
  | .good d => d
  | .corrected d => d
  | _ => 0

/-- Read `n` words in ascending order. -/
def State.readWords (s : State) (st : Store) (i : Nat) : Nat → List (Option DWord) × State
  | 0 => ([], s)
  | n + 1 =>
    let r := s.readWord st i
    let rest := r.2.readWords st (i + 1) n
    (r.1 :: rest.1, rest.2)

/-- Write words in ascending order. -/
def State.writeWords (s : State) (st : Store) (i : Nat) : List DWord → State
  | [] => s
  | d :: ds => (s.writeWord st i d).writeWords st (i + 1) ds

/-- A block moves `n` words from one store to another unchanged (R397). -/
def State.moveWords (s : State) (src : Store) (i : Nat) (dst : Store) (j : Nat) : Nat → State
  | 0 => s
  | n + 1 => (s.putWord dst j (s.rawWord src i)).moveWords src (i + 1) dst (j + 1) n

/-! ### CRC-32C (R410) -/

/-- One bit of the reflected Castagnoli CRC. -/
def crcBit (c : BitVec 32) : BitVec 32 := if c.getLsbD 0 then (c >>> 1) ^^^ 0x82F63B78#32 else c >>> 1

/-- One byte of the CRC. -/
def crcByte (c : BitVec 32) (b : Byte) : BitVec 32 :=
  let c := c ^^^ (b.zeroExtend 32)
  crcBit (crcBit (crcBit (crcBit (crcBit (crcBit (crcBit (crcBit c)))))))

/-- CRC-32C of bytes in the order sent (R410). -/
def crc32c (bs : List Byte) : BitVec 32 := ~~~ bs.foldl crcByte 0xFFFFFFFF#32

/-- CRC-32C over words taken little-endian (R410). -/
def crcWords (ws : List DWord) : BitVec 32 := crc32c (ws.flatMap (fun w => bytesOf 8 w.toNat))

end Sys2Proof.Machine
end

