-- ==== Sys2Proof/Machine/Wheels.lean ====
section
/-! DEFINITION. The wheels W0-W3: positions, HIGH, rates, the four sources, forward jumps, source switches and the wheel's
half of a rebase (03 R90-R110, R554, R555). -/

namespace Sys2Proof.Machine

/-! ### Sources and fields -/

/-- WHLn.CFG.SRC of W1-W3; W0 reads TIME (R93, R94). -/
def State.wheelSrc (s : State) (n : Nat) : Nat := if n = 0 then 0 else s.rf (Reg.whlCfg n) 0 3

/-- N = LINES + 1, lines per turn (03, SHAFT). -/
def State.shaftLines (s : State) (n : Nat) : Nat := s.rf (Reg.whlLines n) 0 16 + 1

/-- SDIV + 1. -/
def State.scaleDiv (s : State) (n : Nat) : Nat := s.rn (Reg.whlSdiv n) + 1

/-- F(f): the increment of a wheel turning at f Hz, in 2^-64 turn per FAB cycle, truncated (R102). -/
def mainsInc (f : Nat) : Nat := f * 2 ^ 64 / 400000000

/-- The period of FINT in ns (R102). -/
def mainsPeriod (fint : Nat) : Nat := 5 * 2 ^ 63 / fint

/-- The turn count of a position (R90). -/
def turnOf (p : Nat) : Nat := p / 2 ^ 32

/-- The fraction of a position in 2^-32 turn (R90). -/
def fracOf (p : Nat) : Nat := p % 2 ^ 32

/-- Saturate to 32 bits. -/
def sat32 (x : Nat) : Nat := if x < 2 ^ 32 then x else 2 ^ 32 - 1

/-- RATE: the advance of HIGH per 2,560 ns (R95). -/
def State.wheelRate (s : State) (n : Nat) : Nat :=
  let w := s.wheel n
  if n = 0 then 2560
  else
    match s.wheelSrc n with
    | 1 => if s.rb (Reg.whlSta n) 1 || w.rateInt == 0 then 0
           else sat32 (16384 * 1024 * 2 ^ 16 / (w.rateInt * s.shaftLines n))
    | 2 => sat32 (w.inc * 1024 / 2 ^ 32)
    | 3 => 2560 / s.scaleDiv n
    | _ => 0

/-! ### Moving a wheel -/

/-- Wheel `n` takes position `p`; HIGH rises with it; END where it would pass the largest value, TURNWARN when HIGH
enters the last half of the turns (R90, R91, R110). -/
def State.moveWheel (s : State) (n : Nat) (p : Nat) : State :=
  let w := s.wheel n
  let q := if p > posMax then posMax else p
  let h := if q > w.high then q else w.high
  let s := s.onlyIf (decide (p > posMax)) (·.setb (Reg.whlSta n) 8 true)
  let s := s.onlyIf (decide (turnOf w.high < 0x80000000) && decide (0x80000000 ≤ turnOf h)) (·.raise (Page.whl n) 9)
  s.setWheel n { w with pos := q, high := h }

/-- STA.RCAP when the RATE of a SHAFT or MAINS wheel exceeds RATECAP (R125): tested whenever either changes. -/
def State.checkRcap (s : State) (n : Nat) : State :=
  if (s.wheelSrc n = 1 ∨ s.wheelSrc n = 2) ∧ s.wheelRate n > s.rn (Reg.whlRatecap n) then (s.setb (Reg.whlSta n) 9 true).raise (Page.whl n) 11 else s

/-! ### SHAFT (R95-R100, R554) -/

/-- Position of the boundary of edge `edge`: turn × 2^32 + floor(s × 2^16 / N) with s its subcount (R96). -/
def shaftPos (lines edge : Nat) : Nat :=
  edge / (4 * lines) * 2 ^ 32 + edge % (4 * lines) * 16384 * 2 ^ 16 / lines

/-- Position past that boundary in interpolation, `m` 1/`d` subcounts on: s is accumulated exactly (R97). -/
def shaftPosPast (lines edge m d : Nat) : Nat :=
  edge / (4 * lines) * 2 ^ 32 + (edge % (4 * lines) * 16384 * d + m) * 2 ^ 16 / (lines * d)

/-- Subcounts past the last boundary at FAB cycle `now`, in 1/interval: 16,384 per interval, at most 16,383 (R97). -/
def shaftExtra (w : WheelSt) (now : Nat) : Nat := min (16384 * (now - w.edgeAt)) (16383 * w.interval)

/-- The interpolation of a SHAFT wheel at the present FAB cycle (R97). -/
def State.interpolate (s : State) (n : Nat) : State :=
  let w := s.wheel n
  if w.interval = 0 then s
  else s.moveWheel n (shaftPosPast (s.shaftLines n) w.edge (shaftExtra w s.time.fab) w.interval)

/-- A counted edge moves the boundary: forward to the one above, reverse to the one crossed (R96). -/
def shaftCross (w : WheelSt) (fwd : Bool) : WheelSt :=
  if fwd then (if w.below then { w with below := false } else { w with edge := w.edge + 1 })
  else if w.below then { w with edge := w.edge - 1 }
  else { w with below := true }

/-- A counted edge of a SHAFT wheel (R96, R97, R100). -/
def State.countedEdge (s : State) (n : Nat) (fwd : Bool) : State :=
  let now := s.time.fab
  let w := s.wheel n
  let tooFast := w.edgeSeen && decide (now - w.lastEdge < 40)
  let s := s.onlyIf tooFast (fun s => ((s.bump (Reg.whlOvscnt n)).setb (Reg.whlSta n) 6 true).raise (Page.whl n) 8)
  let s := s.onlyIf (s.rb (Reg.whlSta n) 1) (fun s => (s.setb (Reg.whlSta n) 1 false).raise (Page.whl n) 3)
  if fwd then
    let w1 := shaftCross w true
    let run := w.fwdRun + 1
    let d := now - w.lastEdge
    let w1 := { w1 with lastFwd := true, fwdRun := run, lastEdge := now, edgeAt := now, edgeSeen := true,
                        rateInt := if w.lastFwd && w.edgeSeen then d else 0,
                        interval := if run ≥ 2 then d else 0 }
    ((s.setWheel n w1).moveWheel n (shaftPos (s.shaftLines n) w1.edge)).checkRcap n
  else
    let s := s.onlyIf (w.edgeSeen && w.lastFwd) (fun s => (s.bump (Reg.whlRevcnt n)).raise (Page.whl n) 4)
    let s := s.onlyIf (w.pos == 0) (·.bump (Reg.whlRevcnt n))
    let w1 := shaftCross w false
    let w1 := { w1 with lastFwd := false, fwdRun := 0, lastEdge := now, edgeAt := now, edgeSeen := true,
                        rateInt := 0, interval := 0 }
    (s.setWheel n w1).moveWheel n (shaftPos (s.shaftLines n) w1.edge)

/-- A raw edge to `level` on WHA (`b` false) or WHB as wheel `n` takes it: the glitch filter, then the decoder; WHA leads
WHB in forward rotation unless CFG.DIR swaps them (R95, R96). -/
def State.rawEdge (s : State) (n : Nat) (b level : Bool) : State :=
  let w := s.wheel n
  let now := s.time.fab
  let last := if b then w.rawB else w.rawA
  let glitch := match last with
    | none => false
    | some t => decide (now - t < s.rf (Reg.whlEdgef n) 0 8)
  let w1 := if b then { w with rawB := some now } else { w with rawA := some now }
  let old := if b then w.levB else w.levA
  if glitch || old == level then s.setWheel n w1
  else
    let other := if b then w.levA else w.levB
    let w2 := if b then { w1 with levB := level } else { w1 with levA := level }
    let s := s.setWheel n w2
    if s.wheelSrc n = 1 then
      let leads := s.rb (Reg.whlCfg n) 3 == b
      s.countedEdge n (if leads then level != other else level == other)
    else s

/-- An index event is due: a rising edge on WHZ while the last counted edge was forward, under SHAFT with IDXEN = 1
(R98, R99). -/
def State.indexTaken (s : State) (n : Nat) : Bool :=
  s.wheelSrc n == 1 && s.rb (Reg.whlCfg n) 4 && (s.wheel n).edgeSeen && (s.wheel n).lastFwd

/-- The subcount s of a SHAFT wheel is not 0: past a boundary other than that of a turn, or interpolated past it (R96, R97). -/
def State.subcounted (s : State) (n : Nat) : Bool :=
  let w := s.wheel n
  fracOf w.pos != 0 || w.edge % (4 * s.shaftLines n) != 0 || (w.interval != 0 && decide (w.edgeAt < s.time.fab))

/-- The position an index event moves to, if it moves: forward to the next whole turn while INDEXED = 0, else with s ≠ 0 to
the nearest, a tie forward (R98). -/
def State.indexTarget? (s : State) (n : Nat) : Option Nat :=
  let p := (s.wheel n).pos
  if if s.rb (Reg.whlSta n) 0 then !s.subcounted n else fracOf p == 0 then none
  else if !s.rb (Reg.whlSta n) 0 || fracOf p ≥ 2 ^ 31 then some ((turnOf p + 1) * 2 ^ 32)
  else some (turnOf p * 2 ^ 32)

/-- The subcount of a wheel stands at a whole turn from now on; interpolation runs on from there (R97, R98). -/
def State.alignShaft (s : State) (n p : Nat) : State :=
  s.setWheel n { s.wheel n with edge := turnOf p * (4 * s.shaftLines n), below := false, edgeAt := s.time.fab }

/-- STOPPED after TSTOP µs without a counted edge (R100). -/
def State.stopDue (s : State) (n : Nat) : Bool :=
  s.wheelSrc n == 1 && !s.rb (Reg.whlSta n) 1
    && decide (s.time.fab ≥ (s.wheel n).lastEdge + usCycles (s.rf (Reg.whlTstop n) 0 20))

/-- The wheel sets STOPPED; RATE reads 0 and interpolation stops (R97, R100). -/
def State.stopWheel (s : State) (n : Nat) : State :=
  let s := (s.setb (Reg.whlSta n) 1 true).raise (Page.whl n) 2
  s.setWheel n { s.wheel n with interval := 0, fwdRun := 0 }

/-- The subcount of a SHAFT wheel is derived from its position: the edge boundary at or below it; HIGH is kept,
interpolation stops and INDEXED is cleared (R554). -/
def State.deriveShaft (s : State) (n : Nat) : State :=
  let w := s.wheel n
  let lines := s.shaftLines n
  let e := turnOf w.pos * (4 * lines) + fracOf w.pos * lines / 2 ^ 30
  let s := s.setb (Reg.whlSta n) 0 false
  s.setWheel n { w with edge := e, below := false, pos := shaftPos lines e, interval := 0, fwdRun := 0 }

/-! ### MAINS (R101-R104) -/

/-- Start of the MAINS loop: FINT at F(50), no edge yet (R102, R103, R108). -/
def State.startMains (s : State) (n : Nat) : State :=
  let w := s.wheel n
  let s := s.setWheel n { w with frac := 0, inc := mainsInc 50, fint := mainsInc 50, accEdges := 0, lastAcc := none,
                                 lockRun := 0, lastEdge := s.time.fab }
  let s := s.clrReg (Reg.whlSta n) 0x38
  ((s.wr (Reg.whlMper n) (w32 (mainsPeriod (mainsInc 50)))).wr (Reg.whlMerr n) 0).checkRcap n

/-- An edge falls at least MBLANK × 10 µs after the last accepted one (R101). -/
def State.mainsAccepts (s : State) (n : Nat) : Bool :=
  match (s.wheel n).lastAcc with
  | none => true
  | some t => decide (s.time.fab ≥ t + 4000 * s.rf (Reg.whlMloop n) 16 16)

/-- The phase error e: signed32(fraction - MOFFS) (R102). -/
def State.mainsError (s : State) (n : Nat) : Int :=
  sdiffMod (fracOf (s.wheel n).pos) (s.rn (Reg.whlMoffs n)) 32

/-- The least position not below `p` whose fraction is `m` (R103). -/
def alignUp (p m : Nat) : Nat := if fracOf p ≤ m then turnOf p * 2 ^ 32 + m else (turnOf p + 1) * 2 ^ 32 + m

/-- One run of the MAINS loop at an accepted edge (R102, R104). -/
def State.mainsLoop (s : State) (n : Nat) : State :=
  let w := s.wheel n
  let e := s.mainsError n
  let kp := s.rf (Reg.whlMloop n) 0 5
  let ki := s.rf (Reg.whlMloop n) 8 6
  let dt := match w.lastAcc with
    | none => 0
    | some t => s.time.fab - t
  let (fint, s, range) :=
    if w.accEdges = 1 then
      if dt = 0 then let r := s.free 64; (r.1.toNat, r.2, false) else (2 ^ 64 / dt, s, false)
    else
      let raw : Int := (w.fint : Int) - e * 2 ^ (32 - ki)
      let c := (clampInt (mainsInc 45) (mainsInc 65) raw)
      (c.toNat, s, decide (c ≠ raw))
  let inc := (clampInt (mainsInc 40) (mainsInc 70) ((fint : Int) - e * 2 ^ (32 - kp))).toNat
  let s := s.onlyIf range (fun s => s.setb (Reg.whlSta n) 5 true)
  let s := (s.wr (Reg.whlMerr n) (w32 (natOf e 32))).wr (Reg.whlMper n) (w32 (mainsPeriod fint))
  let run := if e.natAbs < 2 ^ 22 then w.lockRun + 1 else 0
  let locked := s.rb (Reg.whlSta n) 3
  let s := if !locked && run ≥ 8 then (s.setb (Reg.whlSta n) 3 true).raise (Page.whl n) 5
           else if locked && e.natAbs ≥ 2 ^ 24 then (s.setb (Reg.whlSta n) 3 false).raise (Page.whl n) 6
           else s
  (s.setWheel n { w with fint := fint, inc := inc, accEdges := w.accEdges + 1, lastAcc := some s.time.fab,
                         lockRun := run }).checkRcap n

/-- The position a MAINS edge jumps to, if it jumps: at the first edge since a start, and after a loss with |e| above
2^29 (R103, R104). -/
def State.mainsJump? (s : State) (n : Nat) : Option Nat :=
  let w := s.wheel n
  let lost := s.rb (Reg.whlSta n) 4
  if w.accEdges = 0 || (lost && decide ((s.mainsError n).natAbs > 2 ^ 29)) then
    some (alignUp w.pos (s.rn (Reg.whlMoffs n)))
  else none

/-- MLOSS: no edge accepted within 1.5 × MPER (R104). -/
def State.mainsLost (s : State) (n : Nat) : Bool :=
  let w := s.wheel n
  let since := match w.lastAcc with
    | none => w.lastEdge
    | some t => t
  s.wheelSrc n == 2 && !s.rb (Reg.whlSta n) 4 && decide (5 * (s.time.fab - since) ≥ 3 * s.rn (Reg.whlMper n))

/-- The wheel sets MLOSS, clears LOCK and holds INC = FINT (R104). -/
def State.loseMains (s : State) (n : Nat) : State :=
  let w := s.wheel n
  let s := (s.setb (Reg.whlSta n) 4 true).raise (Page.whl n) 7
  let s := s.onlyIf (s.rb (Reg.whlSta n) 3) (fun s => (s.setb (Reg.whlSta n) 3 false).raise (Page.whl n) 6)
  (s.setWheel n { w with inc := w.fint, lockRun := 0 }).checkRcap n

/-! ### SCALED and STEP (R105, R106) -/

/-- SBASE and SORG are re-taken at the present position and W0 (R105). -/
def State.startScaled (s : State) (n : Nat) : State :=
  let w := s.wheel n
  s.setWheel n { w with sbase := w.pos, sorg := s.w0 }

/-- The position of a SCALED wheel at the present W0 (R105). -/
def State.scaledPos (s : State) (n : Nat) : Nat :=
  let w := s.wheel n
  w.sbase + (s.w0 - w.sorg) / s.scaleDiv n

/-- A SCALED wheel follows W0 (R105). -/
def State.followW0 (s : State) (n : Nat) : State := if s.wheelSrc n = 3 then s.moveWheel n (s.scaledPos n) else s

/-- A STEP wheel advances by `a` (R106). -/
def State.stepWheel (s : State) (n a : Nat) : State :=
  if s.wheelSrc n = 4 then s.moveWheel n ((s.wheel n).pos + a) else s

/-! ### Source switch and the tick -/

/-- The new source starts from the position and HIGH the old one held (R108). -/
def State.startSource (s : State) (n src : Nat) : State :=
  let w := s.wheel n
  let s := s.setWheel n { w with interval := 0, fwdRun := 0, rateInt := 0, edgeSeen := false, lastFwd := false,
                                 lastEdge := s.time.fab }
  let s := s.setb (Reg.whlSta n) 1 false
  match src with
  | 1 => s.deriveShaft n
  | 2 => s.startMains n
  | 3 => s.startScaled n
  | _ => s

/-- A CFG write takes its fields; a reserved SRC keeps the field (R8, R94), a change of SRC switches the source. -/
def State.writeWheelCfg (s : State) (n : Nat) (v : Word) : State :=
  let old := s.wheelSrc n
  let req := field v 0 3
  let src := if req = 0 || req > 4 then old else req
  let s := s.wr (Reg.whlCfg n) (putField (v &&& 0x3F) 0 3 src)
  if src = old then s else s.startSource n src

/-- One FAB cycle of wheel `n` (W1-W3) with plant time already moved (R97, R102, R105). -/
def State.tickWheel (s : State) (n : Nat) : State :=
  match s.wheelSrc n with
  | 1 => s.interpolate n
  | 2 =>
    let w := s.wheel n
    let f := w.frac + w.inc
    let s := s.setWheel n { w with frac := f % 2 ^ 32 }
    s.moveWheel n (w.pos + f / 2 ^ 32)
  | _ => s.followW0 n

/-- A position or due position reduced by `k` turns, not below 0 (R109). -/
def reduceTurns (p k : Nat) : Nat := p - k * 2 ^ 32

/-- The wheel's half of a rebase by `k` turns: position, HIGH and SBASE (R109). -/
def State.rebaseWheel (s : State) (n k : Nat) : State :=
  let w := s.wheel n
  let p := reduceTurns w.pos k
  let lines := s.shaftLines n
  s.setWheel n { w with
    pos := p, high := reduceTurns w.high k, turnSeen := w.turnSeen - k,
    sbase := reduceTurns w.sbase k,
    edge := w.edge - k * (4 * lines), rebasing := true }

/-- STA as read: the stored flags with REV, TURNWARN and REBASING (03, WHL pages). -/
def State.wheelSta (s : State) (n : Nat) : Word :=
  let w := s.wheel n
  if n = 0 then putBit (s.rd (Reg.whlSta 0)) 7 (decide (turnOf s.w0 ≥ 0x80000000))
  else
    let v := putBit (s.rd (Reg.whlSta n)) 2 (decide (w.pos < w.high))
    let v := putBit v 7 (decide (turnOf w.high ≥ 0x80000000))
    putBit v 10 w.rebasing

/-- The whole turns of HIGH, as the turn event counts them: W0 starts in turn 0, the other wheels in turn 1 (R94). -/
def State.turnMark (s : State) (n : Nat) : Nat := turnOf (s.high n) + b2n (n == 0)

/-- A turn event: HIGH has crossed a whole turn since the last (R336). -/
def State.turnDue (s : State) (n : Nat) : Bool := decide (s.turnMark n > (s.wheel n).turnSeen)

/-- The turn event leaves through EVSEL (R336). -/
def State.turnEvent (s : State) (n : Nat) : State :=
  let s := s.setWheel n { s.wheel n with turnSeen := s.turnMark n }
  s.event (Page.whl n) 0

/-- Soft reset of WHL1-WHL3 keeps the position and HIGH and continues as a STEP wheel; of WHL0 keeps W0 (R555). -/
def State.softResetWheel (s : State) (n : Nat) : State :=
  if n = 0 then s
  else
    let w := s.wheel n
    s.setWheel n { ({} : WheelSt) with pos := w.pos, high := w.high, turnSeen := w.turnSeen, levA := w.levA, levB := w.levB,
                                       levZ := w.levZ, rawA := w.rawA, rawB := w.rawB, lastEdge := s.time.fab }

end Sys2Proof.Machine
end

