-- ==== Sys2Proof/Machine/Millrace.lean ====
section
/-! DEFINITION. The Millrace: lane entries, tickets and periods in its SRAM, due positions, arming, dispatch, lateness and
skips (03 R111-R128, R550), seats and lane contexts as they are read (02 R48-R54), and the wake guards. -/

namespace Sys2Proof.Machine

/-! ### Seats and contexts (02 R48-R54) -/

/-- The map entry of a logical lane: 16 bits in word lane / 4 of the lane map (R53). A word that cannot be read counts
as not VALID. -/
def State.mapEntry (s : State) (lane : Nat) : Nat :=
  natField (s.peekWord Store.laneMap (lane / 4)).toNat (16 * (lane % 4)) 16

/-- VALID of a map entry. -/
def mapValid (e : Nat) : Bool := e.testBit 15
/-- Tile 16c + t of a map entry. -/
def mapTile (e : Nat) : Nat := natField e 8 7
/-- Lane within the tile of a map entry. -/
def mapLane (e : Nat) : Nat := natField e 0 7
/-- PIN of a map entry. -/
def mapPin (e : Nat) : Bool := e.testBit 7
/-- Seat number tile × 128 + lane. -/
def seatOf (tile lane : Nat) : Nat := tile * 128 + lane
/-- A map entry for a seat. -/
def mkMap (tile lane : Nat) (pin : Bool) : Nat := 2 ^ 15 + tile * 256 + b2n pin * 128 + lane

/-- A map entry replaced. -/
def State.setMapEntry (s : State) (lane e : Nat) : State :=
  let w := (s.peekWord Store.laneMap (lane / 4)).toNat
  let sh := 16 * (lane % 4)
  let old := natField w sh 16
  s.writeWord Store.laneMap (lane / 4) (BitVec.ofNat 64 (w - old * 2 ^ sh + e % 65536 * 2 ^ sh))

/-- The logical lanes with their map entries, of those the map lists as VALID, ascending. -/
def State.seated (s : State) : List (Nat × Nat) :=
  (s.words.filter (fun w => w.1 / 2 ^ 40 == Store.laneMap)).flatMap (fun w =>
    (List.range 4).filterMap (fun i =>
      let lane := 4 * (w.1 % 2 ^ 40) + i
      let e := s.mapEntry lane
      if mapValid e then some (lane, e) else none))

/-- The lanes seated on a tile. -/
def State.lanesOn (s : State) (t : Nat) : List (Nat × Nat) := s.seated.filter (fun x => mapTile x.2 == t)

/-- First word of the context of lane index `l` in a tile's data SRAM (R48). -/
def ctxWord (l : Nat) : Nat := 0x8000 + 32 * l
/-- First word of the record of slot `ss` of lane index `l` (R48). -/
def recWord (l ss : Nat) : Nat := 256 * l + 4 * ss

/-- Word `i` of the context at a seat, poison read as 0. -/
def State.ctx (s : State) (tile l i : Nat) : Nat := (s.peekWord (Store.tile tile 0) (ctxWord l + i)).toNat
/-- WHEEL of a context (R49). -/
def State.ctxWheel (s : State) (tile l : Nat) : Nat := natField (s.ctx tile l 0) 16 2
/-- TGRP of a context. -/
def State.ctxGroup (s : State) (tile l : Nat) : Nat := natField (s.ctx tile l 0) 20 4
/-- TSHIFT of a context. -/
def State.ctxShift (s : State) (tile l : Nat) : Nat := natField (s.ctx tile l 0) 24 4
/-- PROGID of a context. -/
def State.ctxProg (s : State) (tile l : Nat) : Nat := natField (s.ctx tile l 0) 32 12
/-- WORK of a context. -/
def State.ctxWork (s : State) (tile l : Nat) : Nat := natField (s.ctx tile l 0) 48 16
/-- FLAGS.TUNC of a context (R43). -/
def State.ctxTunc (s : State) (tile l : Nat) : Bool := (s.ctx tile l 1).testBit 32
/-- FLAGS.NOMOVE of a context. -/
def State.ctxNomove (s : State) (tile l : Nat) : Bool := (s.ctx tile l 1).testBit 33
/-- DISPCNT, LASTWU and OVRUN of a context. -/
def State.ctxDispcnt (s : State) (tile l : Nat) : Nat := natField (s.ctx tile l 7) 0 32
def State.ctxLastwu (s : State) (tile l : Nat) : Nat := natField (s.ctx tile l 7) 32 16
def State.ctxOvrun (s : State) (tile l : Nat) : Nat := natField (s.ctx tile l 7) 48 16

/-- The device's fields of a context: LASTDUE (R51). -/
def State.setLastdue (s : State) (tile l due : Nat) : State :=
  s.writeWord (Store.tile tile 0) (ctxWord l + 6) (BitVec.ofNat 64 due)
/-- The device's fields of a context: DISPCNT, LASTWU and OVRUN (R51). -/
def State.setCtx7 (s : State) (tile l cnt wu ovr : Nat) : State :=
  s.writeWord (Store.tile tile 0) (ctxWord l + 7)
    (BitVec.ofNat 64 (cnt % 2 ^ 32 + wu % 2 ^ 16 * 2 ^ 32 + ovr % 2 ^ 16 * 2 ^ 48))

/-- Program table entry of a tile: [12:0] entry address, [13] VALID0, [14] VALID1 (R52, R382). -/
def State.prog (s : State) (tile id : Nat) : BitVec 15 := Sparse.get (fun _ => 0) s.ptab (tile * 4096 + id)
/-- The tile holds the program as VALID (R52, R382). -/
def State.holdsProg (s : State) (tile id : Nat) : Bool :=
  (s.prog tile id).getLsbD 13 || (s.prog tile id).getLsbD 14

/-! ### Entries (R112-R115) -/

/-- A lane entry or ticket as the dispatcher reads it. Key: the lane, or 65,536 + the ticket. -/
structure Ent where
  key : Nat
  due : Nat
  en : Bool
  wheel : Nat
  late : Bool
  prio : Nat
  cidx : Nat
  /-- The period word, of the entry or of the period table (R113). -/
  period : Nat
  /-- Lane entries: CORE; tickets: KIND, ARG, COUNT, CLUSTER. -/
  core : Nat
  kind : Nat
  arg : Nat
  count : Nat
  cluster : Nat
  deriving DecidableEq, Repr

/-- The key names a ticket. -/
def isTicket (key : Nat) : Bool := 65536 ≤ key

/-- First word of a lane entry or ticket in the Millrace SRAM (R403). -/
def entWord (key : Nat) : Nat := if isTicket key then 65536 + 2 * (key - 65536) else 4 * key

/-- Word of the period table (R403). -/
def periodWord (p : Nat) : Nat := 196608 + p

/-- The data of a Millrace word unless it reads as poison. -/
def State.millWord (s : State) (i : Nat) : Option Nat :=
  match checkWord (s.rawWord Store.millrace i) with
  | .good d => some d.toNat
  | .corrected d => some d.toNat
  | _ => none

/-- The lane entry or ticket, or none where one of its words reads as poison (R401). -/
def State.ent (s : State) (key : Nat) : Option Ent :=
  let b := entWord key
  if isTicket key then
    match s.millWord b, s.millWord (b + 1) with
    | some d, some c =>
      match s.millWord (periodWord (natField c 8 8)) with
      | none => none
      | some p => some { key := key, due := d, en := c.testBit 6, wheel := natField c 4 2, late := c.testBit 7 && !s.mill.skip.contains key,
                         prio := natField c 56 4, cidx := natField c 48 8, period := p, core := 0, kind := natField c 0 4,
                         arg := natField c 32 16, count := natField c 16 16, cluster := natField c 60 3 }
    | _, _ => none
  else
    match s.millWord b, s.millWord (b + 1), s.millWord (b + 2), s.millWord (b + 3) with
    | some d, some p, some c, some _ =>
      some { key := key, due := d, en := c.testBit 0, wheel := natField c 1 2, late := c.testBit 3 && !s.mill.skip.contains key, prio := natField c 4 4,
             cidx := natField c 16 8, period := p, core := natField c 8 2, kind := 1, arg := key, count := 0xFFFF,
             cluster := 0 }
    | _, _, _, _ => none

/-- The entries the SRAM lists: those whose control word has ever been written. -/
def State.entKeys (s : State) : List Nat :=
  (s.words.filter (fun w => w.1 / 2 ^ 40 == Store.millrace)).filterMap (fun w =>
    let i := w.1 % 2 ^ 40
    if i < 65536 then (if i % 4 = 2 then some (i / 4) else none)
    else if i < 196608 ∧ i % 2 = 1 then some (65536 + (i - 65536) / 2)
    else none)

/-- The live entries: EN = 1, readable, not stopped for poison (R401). -/
def State.liveEnts (s : State) : List Ent :=
  s.entKeys.filterMap (fun k =>
    if s.mill.stopped.contains k then none
    else match s.ent k with
      | some e => if e.en then some e else none
      | none => none)

/-- The entry dispatches a lane: a lane entry, or a ticket of kind LANE (R115). -/
def Ent.lane? (e : Ent) : Option Nat :=
  if e.kind = 1 then some (if isTicket e.key then e.arg % 2 ^ 14 else e.key) else none

/-- The dispatcher that serves an entry (R54, R111); none for a void or reserved kind or a lane not VALID. -/
def State.server (s : State) (e : Ent) : Option Nat :=
  match e.lane? with
  | some l => if mapValid (s.mapEntry l) then some (mapTile (s.mapEntry l) / 16) else none
  | none => if 2 ≤ e.kind ∧ e.kind ≤ 8 then some e.cluster else none

/-! ### Due positions (R113) -/

/-- K of a cog period word, none for a plain one. -/
def cogs? (p : Nat) : Option Nat := if p.testBit 63 then some (natField p 32 8 + 1) else none

/-- The position and cog index of the `n`-th occurrence after one due at `d` with cog index `j` (R113, next_due). -/
def nthDue (d p j n : Nat) : Nat × Nat :=
  match cogs? p with
  | none => (d + n * (p % 2 ^ 63), j)
  | some k => (d + (j + n) / k * 2 ^ 32 + (j + n) % k * 2 ^ 32 / k - j * 2 ^ 32 / k, (j + n) % k)

/-- How many occurrences, from one due at `d` with cog index `j`, lie at or below `h` (R92, R113). -/
def passed (d p j h : Nat) : Nat :=
  if h < d then 0
  else
    match cogs? p with
    | none => if p % 2 ^ 63 = 0 then 1 else (h - d) / (p % 2 ^ 63) + 1
    | some k =>
      let o := h + j * 2 ^ 32 / k - d
      let c := ((o % 2 ^ 32 + 1) * k - 1) / 2 ^ 32 + 1
      o / 2 ^ 32 * k + (if c < k then c else k) - j

/-- The period is a plain 0: a one-shot (R113). -/
def oneShot (p : Nat) : Bool := (cogs? p).isNone && p % 2 ^ 63 == 0

/-- Occurrences of an entry that its COUNT still allows with due position at or below `h` (R113, R114). -/
def passedOf (e : Ent) (h : Nat) : Nat :=
  let n := passed e.due e.period e.cidx h
  if isTicket e.key && e.count != 0xFFFF then min n (e.count + 1) else n

/-- Occurrences of an entry with due position in (a, b] (R107). -/
def occurrencesIn (e : Ent) (a b : Nat) : Nat := passedOf e b - passedOf e a

/-! ### Lanes held and running -/

/-- A dispatch of the lane has been sent and has not ended (R121). -/
def State.laneRuns (s : State) (lane : Nat) : Bool :=
  s.sent.any (fun x => x.2.lane == lane)
    || s.tiles.any (fun t => t.2.dq.any (fun d => d.lane == lane) || t.2.arrivals.any (fun d => d.lane == lane))
    || s.cores.any (fun c => match c.2.disp with
      | some r => r.d.lane == lane
      | none => false)

/-- The lane is held by a migration (R79, R82). -/
def State.laneHeld (s : State) (lane : Nat) : Bool :=
  s.hop.migs.any (fun m => m.move.lane == lane && m.phase != .testing)

/-- A core holds an open commit to the lane; one that reached it in this FAB cycle gives way to a hold (R80, R388). -/
def State.laneOpen (s : State) (lane : Nat) : Bool :=
  s.cores.any (fun c => match c.2.ppoint with
    | some o => o.point / 64 == lane && o.fab != s.time.fab && !o.lapsed && decide (s.coreCyc c.1 < o.accepted + 4096)
    | none => false)

/-- The time in ns until HIGH of wheel `w` reaches `due`, none for unbounded; a wheel at RATE 0 is taken at RATECAP, and one
whose RATECAP is 0 too as unbounded (R78, R105, assumption 40). -/
def State.gapTo (s : State) (w due : Nat) : Option Nat :=
  let d := due - s.high w
  match s.wheelSrc w with
  | 0 => some d
  | 3 => some (d * s.scaleDiv w - (s.w0 - (s.wheel w).sorg) % s.scaleDiv w)
  | 4 => none
  | _ =>
    let r := if s.wheelRate w = 0 then s.rn (Reg.whlRatecap w) else s.wheelRate w
    if d = 0 then some 0 else if r = 0 then none else some (d * 2560 / r)

/-- The gap of a lane in ns, none for unbounded: to the earliest next due position of its entries (R78). -/
def State.gap (s : State) (lane : Nat) : Option Nat :=
  (s.liveEnts.filter (fun e => e.lane? == some lane)).foldl (fun acc e =>
    match acc, s.gapTo e.wheel e.due with
    | none, g => g
    | some a, none => some a
    | some a, some b => some (if a < b then a else b)) none

/-! ### Falls and requests (R116-R123) -/

/-- A tile and its cluster are awake. -/
def State.tileAwake (s : State) (t : Nat) : Bool := (s.tile t).awake && (s.cluster (t / 16)).awake

/-- The Millrace runs: out of start-up, SLEEP, HIBERNATE and quiescing (R476, R487, R488). -/
def State.millOn (s : State) : Bool := !s.pwr.booting && s.pwr.state == .run && s.pwr.target.isNone

/-- Dispatcher `c` sends and arms (MCTL.EN, R446). -/
def State.dispatcherOn (s : State) (c : Nat) : Bool :=
  s.millOn && s.pageLive (Page.mrc c) && s.rb (Reg.mrcMctl c) 0

/-- R99: a SHAFT wheel with IDXREQ = 1 and INDEXED = 0 neither dispatches nor arms. -/
def State.wheelBlocked (s : State) (n : Nat) : Bool :=
  s.wheelSrc n == 1 && s.rb (Reg.whlCfg n) 5 && !s.rb (Reg.whlSta n) 0

/-- The arming distance A of dispatcher `c` on wheel `n` (R116). -/
def State.armDistance (s : State) (c n : Nat) : Nat :=
  let a := s.rf (Reg.mrcArmahd c) 0 16
  if n = 0 then a
  else if s.wheelSrc n = 4 then 0
  else ceilDiv (a * s.rn (Reg.whlRatecap n)) 2560

/-- The wake guard for a guard time in ns on wheel `n`, none on a STEP wheel (R123, R124). -/
def State.guardDistance (s : State) (n ns : Nat) : Option Nat :=
  match s.wheelSrc n with
  | 0 => some ns
  | 3 => some (ceilDiv ns (s.scaleDiv n))
  | 4 => none
  | _ => some (ceilDiv (ns * s.rn (Reg.whlRatecap n)) 2560)

/-- The fall of an entry's present occurrence, if it is due. -/
def State.fallOf (s : State) (e : Ent) : Option Fall :=
  s.mill.falls.find? (fun f => f.key == e.key && decide (e.due ≤ f.upTo))

/-- Occurrences of an entry that HIGH has newly reached when falls up to `u` are noted (none: nothing noted): under LATE = 0
the present one alone waits (R118, R120). -/
def State.newlyDue (s : State) (e : Ent) (u : Option Nat) : Nat :=
  let h := s.high e.wheel
  match u with
  | none => if h < e.due then 0 else if e.late then passedOf e h else 1
  | some u => if e.late then occurrencesIn e u h else 0

/-- The falls of one entry brought up to date: those served forgotten, what waits for a migration or a wake marked, what HIGH
has newly reached added with the FAB cycle (R92, R119). -/
def State.fallsOf (s : State) (e : Ent) : List Fall :=
  let old := s.mill.falls.filter (fun f => f.key == e.key && decide (e.due ≤ f.upTo))
  let n := s.newlyDue e (old.getLast?.map (·.upTo))
  let runs := e.lane?.any s.laneRuns
  let new : List Fall := if n = 0 then [] else
    [{ key := e.key, upTo := s.high e.wheel, atFab := s.time.fab, overran := if runs then n else 0 }]
  match e.lane? with
  | none => old ++ new
  | some l =>
    let held := s.laneHeld l
    let asleep := !s.tileAwake (mapTile (s.mapEntry l))
    (old ++ new).map (fun f => { f with held := f.held || held, woke := f.woke || asleep })

/-- Note what has fallen due of the live entries that are served; forget what has gone. -/
def State.noteFalls (s : State) : State :=
  let due := s.liveEnts.filter (fun e => decide (e.due ≤ s.high e.wheel) && (s.server e).isSome)
  { s with mill := { s.mill with falls := due.flatMap s.fallsOf } }

/-- The tie order of R119 on one wheel: PRIO, lane entries first, lane, ticket. -/
def tieKey (e : Ent) : List Nat := [e.prio, b2n (isTicket e.key), (e.lane?).getD 0, e.key]

/-- Lexicographic order of lists of one length. -/
def lexLe : List Nat → List Nat → Bool
  | a :: as, b :: bs => a < b || (a == b && lexLe as bs)
  | _, _ => true

/-- The first of a list under a key. -/
def firstBy {α : Type} (key : α → List Nat) : List α → Option α
  | [] => none
  | a :: as =>
    match firstBy key as with
    | none => some a
    | some b => if lexLe (key a) (key b) then some a else some b

/-- A ticket's dispatch that comes after the lane entry of the same lane, due at the same position (R126). -/
def State.afterEntry (s : State) (e : Ent) : Bool :=
  isTicket e.key && (e.lane?.bind s.ent).any (fun x =>
    x.en && x.wheel == e.wheel && x.due == e.due && !s.mill.stopped.contains x.key)

/-- The first of due dispatches: on each wheel by tie order, a ticket after its lane's entry; across wheels the earlier
crossing, then the lower wheel (R119, R126). -/
def State.firstDue (s : State) (xs : List (Fall × Ent)) : Option (Fall × Ent) :=
  let perWheel := (List.range 4).filterMap (fun w =>
    firstBy (fun x => tieKey x.2) (xs.filter (fun x => x.2.wheel == w && !s.afterEntry x.2)))
  firstBy (fun x => [x.1.atFab, x.2.wheel]) perWheel

/-- Lane occurrences dispatcher `c` could send now: due, lane free and not held, tile awake (R118). -/
def State.laneReady (s : State) (c : Nat) : List (Fall × Ent) :=
  if !s.dispatcherOn c then []
  else s.liveEnts.filterMap (fun e =>
    match e.lane?, s.fallOf e with
    | some l, some f =>
      let t := mapTile (s.mapEntry l)
      if s.server e = some c && !s.wheelBlocked e.wheel && !s.laneHeld l && !s.laneRuns l && s.tileAwake t then some (f, e)
      else none
    | _, _ => none)

/-- Hardware tickets dispatcher `c` could arm now: due within the arming distance (R116, R118). -/
def State.ticketReady (s : State) (c : Nat) : List Ent :=
  if !s.dispatcherOn c then []
  else s.liveEnts.filter (fun e =>
    e.lane?.isNone && s.server e == some c && !s.wheelBlocked e.wheel
      && decide (e.due ≤ s.high e.wheel + s.armDistance c e.wheel))

/-- The ticket a granted slot serves: on each wheel the first in tie order; across wheels one that has passed first, the
earlier crossing and the lower wheel first (R118, R119). -/
def State.pickTicket (s : State) (c : Nat) : Option Ent :=
  let perWheel := (List.range 4).filterMap (fun w =>
    firstBy tieKey ((s.ticketReady c).filter (fun e => e.wheel == w)))
  firstBy (fun e => match s.fallOf e with
    | some f => [0, f.atFab, e.wheel]
    | none => [1, 0, e.wheel]) perWheel

/-- The occurrence a granted lane slot sends (R119). -/
def State.pickLane (s : State) (c : Nat) : Option (Fall × Ent) := s.firstDue (s.laneReady c)

/-- The dispatchers' waits for slots, from the FAB cycle they first asked (R117, MRG.TSLOTW and LSLOTW). -/
def State.noteWaits (s : State) : State :=
  let upd (old : List (Nat × Nat)) (asks : Nat → Bool) : List (Nat × Nat) :=
    ((List.range 8).filter asks).map (fun c => (c, ((old.find? (fun x => x.1 == c)).map (·.2)).getD s.time.fab))
  if s.entKeys.isEmpty then { s with mill := { s.mill with ticketWait := [], laneWait := [] } }
  else
    { s with mill := { s.mill with
        ticketWait := upd s.mill.ticketWait (fun c => !(s.ticketReady c).isEmpty),
        laneWait := upd s.mill.laneWait (fun c => !(s.laneReady c).isEmpty) } }

/-! ### Advancing an entry (R113, R118) -/

/-- Write an entry's device fields back: DUE, CIDX, EN and, for a ticket, COUNT (R112, R114). -/
def State.storeEnt (s : State) (e : Ent) : State :=
  let b := entWord e.key
  let s := if s.peekWord Store.millrace b = BitVec.ofNat 64 e.due then s
           else s.writeWord Store.millrace b (BitVec.ofNat 64 e.due)
  if isTicket e.key then
    let w := (s.peekWord Store.millrace (b + 1)).toNat
    let w := w - natField w 6 1 * 2 ^ 6 + b2n e.en * 2 ^ 6
    let w := w - natField w 16 16 * 2 ^ 16 + e.count * 2 ^ 16
    let w := w - natField w 48 8 * 2 ^ 48 + e.cidx * 2 ^ 48
    s.writeWord Store.millrace (b + 1) (BitVec.ofNat 64 w)
  else
    let w := (s.peekWord Store.millrace (b + 2)).toNat
    let w := w - natField w 0 1 + b2n e.en
    let w := w - natField w 16 8 * 2 ^ 16 + e.cidx * 2 ^ 16
    s.writeWord Store.millrace (b + 2) (BitVec.ofNat 64 w)

/-- Count `n` skips of an entry: SKIPCNT of the dispatcher and of a lane entry, IRAW.SKIP (R112, R118). -/
def State.countSkips (s : State) (c : Nat) (e : Ent) (n : Nat) : State :=
  if n = 0 then s
  else
    let s := (s.bumpBy (Reg.mrcSkipcnt c) n).raise (Page.mrc c) 3
    if isTicket e.key then s
    else
      let b := entWord e.key + 3
      let w := (s.peekWord Store.millrace b).toNat
      let k := natField w 32 16
      let k' := if k + n > 0xFFFF then 0xFFFF else k + n
      s.writeWord Store.millrace b (BitVec.ofNat 64 (w - k * 2 ^ 32 + k' * 2 ^ 32))

/-- An entry after its present occurrence and `skips` more: new DUE, CIDX, COUNT and EN, and how many were skipped
(R113, R118 advance). -/
def advanceEnt (e : Ent) (high : Nat) : Ent × Nat :=
  let ticket := isTicket e.key
  if ticket && e.count == 0 then ({ e with en := false }, 0)
  else
    let cnt := if ticket && e.count != 0xFFFF then e.count - 1 else e.count
    if oneShot e.period then ({ e with en := false, count := cnt }, 0)
    else
      let nx := nthDue e.due e.period e.cidx 1
      if nx.1 > posMax then ({ e with en := false, count := cnt }, 0)
      else if e.late then ({ e with due := nx.1, cidx := nx.2, count := cnt }, 0)
      else
        let n := passed nx.1 e.period nx.2 high
        let limited := ticket && cnt != 0xFFFF && decide (cnt < n)
        let k := if limited then cnt + 1 else n
        let at' := nthDue nx.1 e.period nx.2 k
        if limited then
          let last := nthDue nx.1 e.period nx.2 cnt
          ({ e with due := last.1, cidx := last.2, count := 0, en := false }, k)
        else
          let cnt' := if ticket && cnt != 0xFFFF then cnt - k else cnt
          if at'.1 > posMax then
            let last := nthDue nx.1 e.period nx.2 (k - 1)
            ({ e with due := last.1, cidx := last.2, count := cnt', en := false }, k)
          else ({ e with due := at'.1, cidx := at'.2, count := cnt' }, k)

/-- Advance an entry: its words, the skips it makes, IRAW.TKTDONE where a ticket clears EN (R113, R118). -/
def State.advance (s : State) (c : Nat) (e : Ent) : State :=
  let r := advanceEnt e (s.high e.wheel)
  let s := s.storeEnt r.1
  let s := s.countSkips c e r.2
  let s := { s with mill := { s.mill with skip := s.mill.skip.erase e.key } }
  s.onlyIf (isTicket e.key && !r.1.en) (·.raise (Page.mrc c) 5)

/-! ### Arming (R115, R116) -/

/-- The targets a ticket's occurrence arms (R115). -/
def armTargets (e : Ent) : List Nat :=
  match e.kind with
  | 2 => bitsBelow (e.arg % 256) 8
  | 3 => [e.arg % 8]
  | 4 => [e.arg % 16]
  | 5 => [e.arg % 16]
  | 6 => [e.arg % 16]
  | 7 => [0]
  | _ => [e.arg % 4]

/-- Arm slots of a target of a kind (R115). -/
def armSlots (kind : Nat) : Nat := if kind = 4 then 4 else if kind = 7 then 16 else 2

/-- A free arm slot at a target. -/
def State.armFree (s : State) (kind target : Nat) : Bool :=
  decide ((s.armed.filter (fun a => a.kind == kind && a.target == target)).length < armSlots kind)

/-- One granted ticket slot serves entry `e` of dispatcher `c`: skips it, arms it or counts ARMFULL (R114, R116-R118). -/
def State.serveTicket (s : State) (c : Nat) (e : Ent) : State :=
  let h := s.high e.wheel
  let late := decide (e.due ≤ h)
  if late && !e.late then (s.countSkips c e 1).advance c e
  else
    let n := if late then passed e.due e.period e.cidx h - 1 else 0
    let n := if e.count != 0xFFFF && decide (e.count < n) then e.count else n
    let nx := nthDue e.due e.period e.cidx n
    let e' := { e with due := nx.1, cidx := nx.2, count := if e.count == 0xFFFF then e.count else e.count - n }
    let s := if n = 0 then s else (s.countSkips c e n).storeEnt e'
    let targets := armTargets e'
    if targets.all (fun t => s.armFree e'.kind t) then
      let new := targets.map (fun t =>
        { kind := e'.kind, target := t, wheel := e'.wheel, due := e'.due, arg := e'.arg, prio := e'.prio,
          ticket := e'.key - 65536, cidx := e'.cidx, count := e'.count : Armed })
      let s := { s with armed := s.armed ++ new }
      let s := s.bump (Reg.mrcActcnt c)
      let s := s.onlyIf late (fun s => (s.bump (Reg.mrcMisscnt c)).raise (Page.mrc c) 2)
      s.advance c e'
    else (s.bump (Reg.mrcArmfull c)).raise (Page.mrc c) 4

/-- Serving stops for entries whose words read as poison; an uncorrectable word is logged and becomes poison (R400,
R401). Only words the SRAM lists can be so. -/
def State.stopPoisoned (s : State) : State :=
  s.entKeys.foldl (fun s k =>
    if s.mill.stopped.contains k || (s.ent k).isSome then s
    else
      let b := entWord k
      let pidx := natField (s.peekWord Store.millrace (b + 1)).toNat 8 8
      let idx := if isTicket k then [b, b + 1, periodWord pidx] else [b, b + 1, b + 2, b + 3]
      let s := idx.foldl (fun s i => (s.readWord Store.millrace i).2) s
      let lane := if isTicket k then natField (s.peekWord Store.millrace (b + 1)).toNat 32 14 else k
      let ctl := (s.peekWord Store.millrace (b + 1)).toNat
      let c := if isTicket k && natField ctl 0 4 != 1 then natField ctl 60 3 else mapTile (s.mapEntry lane) / 16
      let s := { s with mill := { s.mill with stopped := s.mill.stopped ++ [k] } }
      s.raise (Page.mrc c) 6) s

/-- A slot of a kind may be granted: one every `period` FAB cycles device-wide (R117). -/
def slotOpen (now : Nat) (last : Option Nat) (period : Nat) : Bool :=
  match last with
  | none => true
  | some t => decide (now ≥ t + period)

/-- How long dispatcher `c` has waited. -/
def waited (now : Nat) (waits : List (Nat × Nat)) (c : Nat) : Nat :=
  match waits.find? (fun x => x.1 == c) with
  | none => 0
  | some x => now - x.2

/-- A ticket slot is granted (R117): last-loser priority among the dispatchers that ask (R26). -/
def State.ticketSlotGrant (s : State) : State :=
  let s := s.stopPoisoned
  let asking := (List.range 8).filter (fun c => (s.pickTicket c).isSome)
  let g := s.grant resTicketSlot asking
  match g.1 with
  | [] => s
  | c :: _ =>
    let s := g.2
    let s := s.onlyIf (decide (waited s.time.fab s.mill.ticketWait c > 25)) (·.bump Reg.mrgTslotw)
    let s := { s with mill := { s.mill with ticketSlot := some s.time.fab,
                                            ticketWait := s.mill.ticketWait.filter (fun x => x.1 != c) } }
    match s.pickTicket c with
    | none => s
    | some e => s.serveTicket c e

/-! ### Dispatch (R118-R121) -/

/-- More than LATETOL ns after due: by W0 itself, or by the FAB cycle of the crossing (R120). -/
def State.dispatchLate (s : State) (c : Nat) (f : Fall) (e : Ent) : Bool :=
  let tol := s.rf (Reg.mrcLatetol c) 0 20
  if e.wheel = 0 then decide (s.w0 - e.due > tol) else decide (5 * (s.time.fab - f.atFab) > 2 * tol)

/-- CORE of the lane's Millrace lane entry governs its dispatches, a ticket's too (R382). -/
def State.laneCore (s : State) (lane : Nat) : Nat :=
  match s.ent lane with
  | some e => e.core
  | none => 0

/-- Dispatcher `c` sends a due dispatch to the lane's seat and advances the entry (R118, R120). -/
def State.sendLane (s : State) (c : Nat) (f : Fall) (e : Ent) (lane : Nat) : State :=
  let late := s.dispatchLate c f e
  let d : Disp := { lane := lane, wheel := e.wheel, due := e.due, cog := e.cidx, core := s.laneCore lane,
                    ticket := isTicket e.key, late := late, held := f.held, woke := f.woke, sentAt := s.w0 }
  let s := s.onlyIf late (fun s => (s.bump (Reg.mrcLatecnt c)).raise (Page.mrc c) 0)
  let s := s.onlyIf f.woke (fun s => (s.bump (Reg.mrcWlate c)).raise (Page.mrc c) 1)
  let s := if isTicket e.key then s
    else
      let b := entWord e.key + 3
      let w := (s.peekWord Store.millrace b).toNat
      let ln := natField w 48 16
      let ln := if late && ln < 0xFFFF then ln + 1 else ln
      s.writeWord Store.millrace b (BitVec.ofNat 64 (s.w0 % 2 ^ 32 + natField w 32 16 * 2 ^ 32 + ln * 2 ^ 48))
  let s := s.bump (Reg.mrcDispcnt c)
  let s := { s with sent := s.sent ++ [(mapTile (s.mapEntry lane), d)] }
  s.advance c e

/-- A lane-dispatch slot is granted (R117). -/
def State.laneSlotGrant (s : State) : State :=
  let s := s.stopPoisoned
  let asking := (List.range 8).filter (fun c => (s.pickLane c).isSome)
  let g := s.grant resLaneSlot asking
  match g.1 with
  | [] => s
  | c :: _ =>
    let s := g.2
    let s := s.onlyIf (decide (waited s.time.fab s.mill.laneWait c > 100)) (·.bump Reg.mrgLslotw)
    let s := { s with mill := { s.mill with laneSlot := some s.time.fab,
                                            laneWait := s.mill.laneWait.filter (fun x => x.1 != c) } }
    match s.pickLane c with
    | none => s
    | some (f, e) => s.sendLane c f e ((e.lane?).getD 0)

/-- The fall belongs to an entry of the lane. -/
def State.fallLane (s : State) (f : Fall) (lane : Nat) : Bool :=
  if isTicket f.key then (s.ent f.key).any (fun e => e.lane? == some lane) else f.key == lane

/-- OVRUN of a lane counts an occurrence that fell due while its dispatch ran (R121). -/
def State.countOvrun (s : State) (lane : Nat) : State :=
  match s.mill.falls.find? (fun f => f.overran != 0 && s.fallLane f lane) with
  | none => s
  | some f =>
    let e := s.mapEntry lane
    let t := mapTile e
    let l := mapLane e
    let n := s.ctxOvrun t l
    let s := s.setCtx7 t l (s.ctxDispcnt t l) (s.ctxLastwu t l) (if n < 0xFFFF then n + 1 else n)
    { s with mill := { s.mill with falls := s.mill.falls.map (fun g =>
        if g == f then { g with overran := g.overran - 1 } else g) } }

/-! ### Landing an armed occurrence (R116, R126) -/

/-- The armed occurrence that lands next at a target: HIGH has reached its due position (R116). -/
def State.landing? (s : State) (kind target : Nat) : Option Armed :=
  firstBy (fun a => [a.wheel, a.due, a.prio, a.ticket])
    (s.armed.filter (fun a => a.kind == kind && a.target == target && decide (a.due ≤ s.high a.wheel)))

/-- The arm slot is free again. -/
def State.disarm (s : State) (a : Armed) : State := { s with armed := s.armed.erase a }

/-- The armed occurrence that is due at a target lands: its arm slot is free, and `f` acts where the block
`takes` armed actions (R116, R446). -/
def State.land (s : State) (kind target : Nat) (takes : Bool) (f : State → Armed → State) : State :=
  match s.landing? kind target with
  | none => s
  | some a => (s.disarm a).onlyIf takes (fun s => f s a)

/-- An armed occurrence returns to its ticket as not sent (R487): the ticket stands where it stood when it armed. -/
def State.unarm (s : State) (a : Armed) : State :=
  let s := s.disarm a
  match s.ent (65536 + a.ticket) with
  | none => s
  | some e => s.storeEnt { e with due := a.due, cidx := a.cidx, count := a.count, en := true }

/-- Every armed occurrence returns to its ticket, the latest armed first (R487). -/
def State.unarmAll (s : State) : State := s.armed.reverse.foldl (fun s a => s.unarm a) s

/-! ### Wakes (R123, R353) -/

/-- A tile's wake starts (R123); TWAKE counts it at its end. -/
def State.startTileWake (s : State) (t : Nat) : State :=
  let x := s.tile t
  if x.awake || x.waking then s else s.setTile t { x with waking := true }

/-- A ramp of a power island may start: the last started 1 µs ago or more (R509). -/
def State.rampFree (s : State) : Bool := s.pwr.rampAt.all (fun t => decide (t + usCycles 1 ≤ s.time.fab))

/-- A cluster's ramp starts in a FAB cycle. -/
def State.startRampAt (s : State) (c fab : Nat) : State :=
  { s.setCluster c { s.cluster c with waking := true, asked := false } with pwr := { s.pwr with rampAt := some fab } }

/-- A cluster's ramp starts now. -/
def State.startRamp (s : State) (c : Nat) : State := s.startRampAt c s.time.fab

/-- The first FAB cycle in which a ramp may start (R509). -/
def State.nextRamp (s : State) : Nat :=
  match s.pwr.rampAt with
  | none => s.time.fab
  | some t => if t + usCycles 1 < s.time.fab then s.time.fab else t + usCycles 1

/-- A cluster's wake starts, or waits until a ramp may start (R509). -/
def State.startClusterWake (s : State) (c : Nat) : State :=
  let x := s.cluster c
  if x.awake || x.waking || x.asked then s
  else if s.rampFree then s.startRamp c
  else s.setCluster c { x with asked := true }

/-- The lowest cluster whose wake waits starts its ramp as soon as one may (R509, assumption 40). -/
def State.tickRamp (s : State) : State :=
  match (List.range 8).find? (fun c => (s.cluster c).asked) with
  | some c => s.onlyIf s.rampFree (·.startRamp c)
  | none => s

/-- A fabric access wakes a gated tile and its cluster (R353). -/
def State.wakeTile (s : State) (t : Nat) : State := (s.startClusterWake (t / 16)).startTileWake t

/-- A live lane dispatch for a lane on tile `t` is within the guard of `ns` (R123). -/
def State.withinGuard (s : State) (t ns : Nat) : Bool :=
  s.liveEnts.any (fun e =>
    match e.lane? with
    | none => false
    | some l =>
      mapValid (s.mapEntry l) && mapTile (s.mapEntry l) == t && s.dispatcherOn (t / 16) && !s.wheelBlocked e.wheel &&
        (match s.guardDistance e.wheel ns with
         | some g => decide (e.due ≤ s.high e.wheel + g)
         | none => decide (e.due ≤ s.high e.wheel)))

/-- The dispatcher starts the wakes a tile's guards call for; WAKECNT counts each (R123). -/
def State.guardWake (s : State) (t : Nat) : State :=
  let c := t / 16
  let cl := s.cluster c
  let s := if s.withinGuard t 40000 && !cl.awake && !cl.waking && !cl.asked then
      (s.startClusterWake c).bump (Reg.mrcWakecnt c) else s
  let x := s.tile t
  if s.withinGuard t 3000 && !x.awake && !x.waking then (s.startTileWake t).bump (Reg.mrcWakecnt c) else s

/-- A tile wake ends (R353): TWAKE counts it. -/
def State.endTileWake (s : State) (t : Nat) : State :=
  (s.setTile t { s.tile t with awake := true, waking := false }).bump (Reg.cluTwake (t / 16))

/-- A cluster wake ends: CWAKE and IRAW.WOKE (11, CLU pages). The wake that GSTA shows at reset is of a cluster already
awake and counts nothing (assumption 16). -/
def State.endClusterWake (s : State) (c : Nat) : State :=
  if (s.cluster c).awake then s.setCluster c { s.cluster c with waking := false }
  else ((s.setCluster c { s.cluster c with awake := true, waking := false }).bump (Reg.cluCwake c)).raise (Page.clu c) 0

/-- A cluster has woken for an access that waits for it: its ramp, where none runs, starts as soon as one may; the time of the
wake is not counted out (R353, R509, assumption 23). -/
def State.serveCluster (s : State) (c : Nat) : State :=
  if (s.cluster c).awake then s
  else (if (s.cluster c).waking then s else s.startRampAt c s.nextRamp).endClusterWake c

/-- A tile and its cluster have woken for an access that waits for them (R353). -/
def State.serveTile (s : State) (t : Nat) : State :=
  let s := s.serveCluster (t / 16)
  if (s.tile t).awake then s else s.endTileWake t

/-! ### MRG commands and views (R122, R128, R550) -/

/-- A period word with a reserved bit set (R113). -/
def badPeriod (p : Nat) : Bool := p.testBit 63 && (natField p 40 23 != 0 || natField p 0 32 != 0)

/-- CIDX lies below K (R113). -/
def cidxOk (p j : Nat) : Bool :=
  match cogs? p with
  | none => true
  | some k => decide (j < k)

/-- The 64-bit word i of CALD. -/
def State.caldWord (s : State) (i : Nat) : Nat := s.rd64 (Reg.mrgCald (2 * i)) (Reg.mrgCald (2 * i + 1))

/-- CALCMD READ copies the words of the named entry into CALD; a poisoned word reads as all ones and sets POISON
(R128, R455). -/
def State.calRead (s : State) (base n : Nat) : State :=
  let s := s.setf Reg.mrgCalsta 1 2 0
  (List.range n).foldl (fun s i =>
    let r := s.readWord Store.millrace (base + i)
    match r.1 with
    | some d => r.2.wr64 (Reg.mrgCald (2 * i)) (Reg.mrgCald (2 * i + 1)) d.toNat
    | none => (r.2.wr64 (Reg.mrgCald (2 * i)) (Reg.mrgCald (2 * i + 1)) (2 ^ 64 - 1)).setb Reg.mrgCalsta 2 true) s

/-- First word and number of words of the entry CALIDX names, none for SPACE 3 or an index outside the space. -/
def State.calTarget (s : State) : Option (Nat × Nat × Nat) :=
  let i := s.rf Reg.mrgCalidx 0 16
  match s.rf Reg.mrgCalidx 16 2 with
  | 0 => if i < 16384 then some (0, 4 * i, 4) else none
  | 1 => some (1, 65536 + 2 * i, 2)
  | 2 => if i < 256 then some (2, periodWord i, 1) else none
  | _ => none

/-- A WRITE carries a reserved encoding, a CIDX not below K, or a WHEEL other than the lane context's (R128). -/
def State.calBad (s : State) (space i : Nat) : Bool :=
  match space with
  | 0 =>
    let c := s.caldWord 2
    let e := s.mapEntry i
    badPeriod (s.caldWord 1) || !cidxOk (s.caldWord 1) (natField c 16 8)
      || (mapValid e && s.ctxWheel (mapTile e) (mapLane e) != natField c 1 2)
  | 1 =>
    let c := s.caldWord 1
    let p := (s.millWord (periodWord (natField c 8 8))).getD 0
    decide (natField c 0 4 > 8) || !cidxOk p (natField c 48 8)
  | _ => badPeriod (s.caldWord 0)

/-- The words a WRITE stores at `base`: reserved bits are 0 (R7), a reserved CORE keeps the field's value (R8), and word 3 of a
lane entry stays the device's (R112, R114). -/
def State.calWords (s : State) (space base : Nat) : List DWord :=
  match space with
  | 0 =>
    let c := s.caldWord 2
    let core := if natField c 8 2 = 3 then natField (s.peekWord Store.millrace (base + 2)).toNat 8 2 else natField c 8 2
    [BitVec.ofNat 64 (s.caldWord 0), BitVec.ofNat 64 (s.caldWord 1),
     BitVec.ofNat 64 (natField c 0 8 + core * 2 ^ 8 + natField c 16 8 * 2 ^ 16), s.peekWord Store.millrace (base + 3)]
  | 1 => [BitVec.ofNat 64 (s.caldWord 0), BitVec.ofNat 64 (s.caldWord 1 % 2 ^ 63)]
  | _ => [BitVec.ofNat 64 (s.caldWord 0)]

/-- A lane's PIN bit is cleared (R85). -/
def State.clearPin (s : State) (lane : Nat) : State :=
  let e := s.mapEntry lane
  if mapPin e then s.setMapEntry lane (e - 128) else s

/-- A WRITE takes effect in one FAB cycle: it replaces what is due, disarms an armed occurrence of a rewritten ticket but one
that lands in this cycle, clears a lane's PIN, and serves again what poison had stopped (R85, R122, R401). -/
def State.calWrite (s : State) (space i base : Nat) : State :=
  let s := s.setf Reg.mrgCalsta 1 2 0
  let s := s.writeWords Store.millrace base (s.calWords space base)
  let key := if space = 0 then i else 65536 + i
  let again (k : Nat) : Bool :=
    if space = 2 then isTicket k && natField (s.peekWord Store.millrace (entWord k + 1)).toNat 8 8 == i else k == key
  let s := { s with mill := { s.mill with
    stopped := s.mill.stopped.filter (fun k => !again k),
    falls := if space = 2 then s.mill.falls else s.mill.falls.filter (fun f => f.key != key) } }
  let s := if space = 1 then
      { s with armed := s.armed.filter (fun a => a.ticket != i || decide (a.due ≤ s.high a.wheel)) } else s
  if space = 0 then s.clearPin i else s

/-- A write of CALCMD: READ or WRITE; both together, an entry that does not exist, or a command while BUSY = 1 is refused
with REJ; neither changes nothing (R128). BUSY stands until the FAB cycle ends (assumption 36). -/
def State.calcmd (s : State) (v : Word) : State :=
  let rd := bitOf v 0
  let wr := bitOf v 1
  if !rd && !wr then s
  else if rd && wr || s.rb Reg.mrgCalsta 0 then s.setb Reg.mrgCalsta 1 true
  else
    match s.calTarget with
    | none => s.setb Reg.mrgCalsta 1 true
    | some (space, base, n) =>
      let i := s.rf Reg.mrgCalidx 0 16
      if rd then (s.calRead base n).setb Reg.mrgCalsta 0 true
      else if s.calBad space i then s.setb Reg.mrgCalsta 1 true
      else (s.calWrite space i base).setb Reg.mrgCalsta 0 true

/-- The calendar's access is over with the FAB cycle: BUSY clears (R128). -/
def State.tickCal (s : State) : State := s.onlyIf (s.rb Reg.mrgCalsta 0) (·.setb Reg.mrgCalsta 0 false)

/-- The dispatch that a dispatcher would send next, and whether it is due (R550). -/
def State.nextDispatch (s : State) (c : Nat) : Option (Ent × Bool) :=
  let mine := s.liveEnts.filter (fun e => e.lane?.isSome && s.server e == some c)
  let due := mine.filterMap (fun e => (s.fallOf e).map (fun f => (f, e)))
  match s.firstDue due with
  | some x => some (x.2, true)
  | none => (firstBy (fun e => [e.wheel, e.due] ++ tieKey e) (mine.filter (fun e => !s.afterEntry e))).map (fun e => (e, false))

/-- The value of DUEH (R550). -/
def State.duehValue (s : State) (c : Nat) : Word :=
  match s.nextDispatch c with
  | none => 0
  | some (e, due) => w32 ((e.lane?).getD 0 + e.wheel * 2 ^ 14 + 2 ^ 16 + b2n (isTicket e.key) * 2 ^ 17 + b2n due * 2 ^ 18)

/-- The due position that a read of DUEH latches (R550). -/
def State.duePosition (s : State) (c : Nat) : Nat :=
  match s.nextDispatch c with
  | none => 0
  | some (e, _) => e.due

/-- Lane entries and live tickets a dispatcher serves, and dispatches due and not sent (MRC LANES, TICKETS, WAITQ). -/
def State.laneCount (s : State) (c : Nat) : Nat :=
  (s.liveEnts.filter (fun e => !isTicket e.key && s.server e == some c)).length
def State.ticketCount (s : State) (c : Nat) : Nat :=
  (s.liveEnts.filter (fun e => isTicket e.key && s.server e == some c)).length
def State.waitCount (s : State) (c : Nat) : Nat :=
  let n := (s.liveEnts.filter (fun e => e.lane?.isSome && s.server e == some c && (s.fallOf e).isSome)).length
  if n < 0xFFFF then n else 0xFFFF

/-- Tickets with EN = 1 (MRG.TKTLIVE). -/
def State.liveTickets (s : State) : Nat := (s.liveEnts.filter (fun e => isTicket e.key)).length

/-! ### Forward jumps and rebase over the entries (R107, R109) -/

/-- Occurrences on wheel `n` in (a, b], of live entries that are served and of armed occurrences, each once whatever the
targets it is armed at (R107). -/
def State.sweptCount (s : State) (n a b : Nat) : Nat :=
  ((s.liveEnts.filter (fun e => e.wheel == n && (s.server e).isSome)).map (fun e => occurrencesIn e a b)).foldl (· + ·) 0
    + ((s.armed.filter (fun x => x.wheel == n && decide (a < x.due) && decide (x.due ≤ b))).map
        (fun x => (x.ticket, x.due))).eraseDups.length

/-- A forward jump of an index event or MAINS alignment: the wheel moves, SWEPT counts what it crosses (R107). -/
def State.jumpWheel (s : State) (n p : Nat) : State :=
  let old := s.high n
  let s := s.moveWheel n p
  let k := s.sweptCount n old (s.high n)
  if k = 0 then s else (s.bumpBy (Reg.whlSwept n) k).raise (Page.whl n) 10

/-- The wheel of an entry, where its control word can be read. -/
def State.entWheel? (s : State) (key : Nat) : Option Nat :=
  if isTicket key then (s.millWord (entWord key + 1)).map (natField · 4 2) else (s.millWord (entWord key + 2)).map (natField · 1 2)

/-- The due position of one entry on wheel `n` is reduced by `k` turns (R109). -/
def State.rebaseEnt (s : State) (n k key : Nat) : State :=
  match s.entWheel? key, s.millWord (entWord key) with
  | some w, some d =>
    s.onlyIf (w == n && d != 0) (·.writeWord Store.millrace (entWord key) (BitVec.ofNat 64 (reduceTurns d k)))
  | _, _ => s

/-- A rebase of wheel `n` by `k` turns: the wheel, and the due position of every lane entry and ticket on it, armed
occurrences and what a hold or a fall remembers of HIGH included (R109). -/
def State.rebase (s : State) (n k : Nat) : State :=
  if n = 0 || k = 0 then s
  else
    let s := s.entKeys.foldl (fun s key => s.rebaseEnt n k key) (s.rebaseWheel n k)
    { s with
      armed := s.armed.map (fun a => if a.wheel == n then { a with due := reduceTurns a.due k } else a),
      hop := { s.hop with migs := s.hop.migs.map (fun g =>
        { g with held := g.held.set n (reduceTurns (g.held.getD n 0) k) }) },
      mill := { s.mill with falls := s.mill.falls.map (fun f =>
        if s.entWheel? f.key == some n then { f with upTo := reduceTurns f.upTo k } else f) } }

end Sys2Proof.Machine
end

