-- ==== Sys2Proof/Machine/Hopper.lean ====
section
/-! DEFINITION. The Hopper: measures, evaluation and its duties, hard limits, the move queue, live migration, the map and
its journal, retirement, gating and the point read port (02 R54-R89, R551-R553; 12 R412, R413). -/

namespace Sys2Proof.Machine

/-! ### Small tables -/

/-- A count by number, 0 where none is listed. -/
def numAt (m : List (Nat × Nat)) (k : Nat) : Nat := Sparse.get (fun _ => 0) m k
/-- That count replaced. -/
def setNum (m : List (Nat × Nat)) (k v : Nat) : List (Nat × Nat) := Sparse.set (fun _ => 0) m k v

/-- Bit of tile `t` in a register array of 32 tiles each (FORBID, RETIRE, RETPEND). -/
def State.tileBit (s : State) (reg : Nat → Nat) (t : Nat) : Bool := s.rb (reg (t / 32)) (t % 32)
/-- That bit replaced. -/
def State.setTileBit (s : State) (reg : Nat → Nat) (t : Nat) (b : Bool) : State := s.setb (reg (t / 32)) (t % 32) b

/-- RETIRE, RETPEND and FORBID of a tile. -/
def State.retired (s : State) (t : Nat) : Bool := s.tileBit (fun i => Reg.hoplim1Retire i) t
def State.retPend (s : State) (t : Nat) : Bool := s.tileBit (fun i => Reg.hoplim1Retpend i) t
def State.forbidden (s : State) (t : Nat) : Bool := s.tileBit (fun i => Reg.hopForbid i) t

/-- A cluster is hot (R65). -/
def State.hotCluster (s : State) (c : Nat) : Bool := s.rb Reg.hopHsta (8 + c)

/-- A sensor's reading in 0.25 °C (MON.TEMPn). -/
def State.temp (s : State) (i : Nat) : Int := sfield (s.rd (Reg.monTemp i)) 0 11

/-- A cluster's temperature T in whole °C: the floor of its sensor (R59, R499). -/
def State.clusterTemp (s : State) (c : Nat) : Int := floorDiv (s.temp c) 4

/-- A cluster becomes hot at THOT and cools below THOT - THYST (R65). -/
def State.checkHot (s : State) : State :=
  (List.range 8).foldl (fun s c =>
    let t := s.clusterTemp c
    let thot : Int := s.rf Reg.hopTarget 24 8
    let hyst : Int := s.rf Reg.hopTherm 0 8
    if s.hotCluster c then (if t < thot - hyst then s.setb Reg.hopHsta (8 + c) false else s)
    else if t ≥ thot then (s.setb Reg.hopHsta (8 + c) true).raise Page.hop 5 else s) s

/-! ### Measures (R57-R60, R552) -/

/-- TBUD of a tile and the sum of working loads (R552). -/
def State.tbud (s : State) (t : Nat) : Nat := s.rn (Reg.hoplim0Tbud t)

/-- The load ℓ of a lane at the last evaluation (R58). -/
def State.laneLoad (s : State) (lane : Nat) : Nat := numAt s.hop.laneLoad lane

/-- Every move queued, in class order (R75). -/
def State.queuedMoves (s : State) : List Move := s.hop.retireq ++ s.hop.fwq ++ s.hop.policyq

/-- A tile's working load: measured L, plus ℓ of every move into it queued, in flight or flipped since the evaluation,
less ℓ of every move flipped out of it (R552). `skip`: a lane whose migration does not count. -/
def State.workingLoad (s : State) (t : Nat) (skip : Option Nat) : Nat :=
  let q := ((s.queuedMoves.filter (fun m => m.tile == t)).map (s.laneLoad ·.lane)).foldl (· + ·) 0
  let f := ((s.hop.migs.filter (fun m => m.move.tile == t && some m.move.lane != skip)).map
    (s.laneLoad ·.move.lane)).foldl (· + ·) 0
  numAt s.hop.load t + q + f + numAt s.hop.flipIn t - numAt s.hop.flipOut t

/-- A tile's fill for a load: floor(256 × L / TBUD) (R59). -/
def State.fill (s : State) (t load : Nat) : Nat :=
  if s.tbud t = 0 then Config.fillNoBudget load else 256 * load / s.tbud t

/-- Mesh distance between two tiles' clusters (R60, 01). -/
def meshDist (a b : Nat) : Nat :=
  let c := a / 16
  let d := b / 16
  ((c / 4 : Int) - (d / 4 : Int)).natAbs + ((c % 4 : Int) - (d % 4 : Int)).natAbs

/-- A tile counts as ungated: awake, waking or kept on (R70, CLU.KEEPON). -/
def State.ungated (s : State) (t : Nat) : Bool :=
  s.tileAwake t || (s.tile t).waking || s.rb (Reg.cluKeepon (t / 16)) (t % 16)

/-- Ungated tiles of a cluster. -/
def State.ungatedIn (s : State) (c : Nat) : Nat := ((List.range 16).filter (fun i => s.ungated (16 * c + i))).length

/-- Lane indices of a tile taken by a seated lane or reserved by a migration in flight. -/
def State.takenLanes (s : State) (t : Nat) : List Nat :=
  (s.lanesOn t).map (fun x => mapLane x.2)
    ++ (s.hop.migs.filter (fun m => m.move.tile == t && m.phase != .testing)).map (·.dstLane)

/-- The lowest free lane index of a tile (R63, R74). -/
def State.lowestFree (s : State) (t : Nat) : Option Nat :=
  let taken := s.takenLanes t
  (List.range 128).find? (fun l => !taken.contains l)

/-- DISPCNT of every seated lane as it stands. -/
def State.dispCounts (s : State) : List (Nat × Nat) := s.seated.map (fun x => (x.1, s.ctxDispcnt (mapTile x.2) (mapLane x.2)))

/-- The measures of an evaluation: L of every tile and ℓ of every lane over the period that ends now, in whole WU/s (R57, R58,
assumption 40). An evaluation in the FAB cycle of the one before keeps its measures. -/
def State.measure (s : State) : State :=
  let cycles := s.time.fab - s.hop.lastEval
  if cycles = 0 then s
  else
    let lanes := s.seated
    let load := (List.range 128).foldl (fun m t =>
      setNum m t (numAt s.hop.busy t * 25000000 / cycles)) []
    let laneLoad := lanes.foldl (fun m x =>
      let t := mapTile x.2
      let l := mapLane x.2
      let base := match s.hop.cnt0.find? (fun y => y.1 == x.1) with
        | some y => y.2
        | none => s.ctxDispcnt t l
      let n := (s.ctxDispcnt t l + 2 ^ 32 - base) % 2 ^ 32
      setNum m x.1 (max (s.ctxWork t l) (s.ctxLastwu t l) * n * 400000000 / cycles)) []
    { s with hop := { s.hop with
        load := load, laneLoad := laneLoad, busy := [], flipIn := [], flipOut := [], lastEval := s.time.fab,
        cnt0 := s.dispCounts } }

/-! ### Completions (R76, R77) -/

/-- A completion that finds the queue full is not recorded: OVR and DROP, which counts modulo 2^16 (R77, assumption 40). -/
def State.moveDropped (s : State) : State :=
  ((s.setb Reg.hopMvsta 14 true).setf Reg.hopMvsta 16 16 (s.rf Reg.hopMvsta 16 16 + 1)).raise Page.hop 7

/-- A move ends with a status (R76): the new seat for DONE, else the lane's map entry as it stands. IRAW.MVDONE tells an entry
recorded (assumption 40). -/
def State.complete (s : State) (m : Move) (status : Nat) : State :=
  let e := s.mapEntry m.lane
  let e := if status = 0 then e % 128 + mapTile e * 256 + 2 ^ 15 else e
  let w0 := w32 (m.lane + status * 2 ^ 16 + m.tag * 2 ^ 24)
  let w1 := w32 (e + s.w0 % 2 ^ 16 * 2 ^ 16)
  if s.hop.doneq.length ≥ 32 then s.moveDropped
  else ({ s with hop := { s.hop with doneq := s.hop.doneq ++ [({ w0 := w0, w1 := w1 } : MoveDone)] } }).raise Page.hop 0

/-- A read of MVDONE0 pops an entry, or returns the last one read and sets UNDR (R77). -/
def State.popDone (s : State) : MoveDone × State :=
  match s.hop.doneq with
  | d :: rest => (d, { s with hop := { s.hop with doneq := rest, lastDone := d } })
  | [] => (s.hop.lastDone, (s.setb Reg.hopMvsta 15 true).raise Page.hop 7)

/-! ### Tests of a move (R62, R70, R551) -/

/-- The first failing status of a move, in the order of R551; none where it passes. `seat`: at the start of the copy, where
the destination seat is tested and the lane's own migration does not count (R74, R552). PIN is no test of a firmware move
(R73, assumption 40). -/
def State.moveTest (s : State) (m : Move) (seat : Bool) : Option Nat :=
  let e := s.mapEntry m.lane
  let src := mapTile e
  let l := mapLane e
  let ell := s.laneLoad m.lane
  let skip := if seat then some m.lane else none
  let taken := s.takenLanes m.tile
  if !mapValid e then some 8
  else if m.cls != .retire && !m.force && s.ctxNomove src l then some 11
  else if src = m.tile then some 7
  else if s.retired m.tile || s.retPend m.tile then some 4
  else if m.cls != .retire && s.forbidden m.tile then some 5
  else if !s.holdsProg m.tile (s.ctxProg src l) then some 6
  else if seat && (match m.seat with
      | some d => taken.contains d
      | none => (s.lowestFree m.tile).isNone) then some 1
  else if s.workingLoad m.tile skip + ell > s.tbud m.tile then some 2
  else if ((List.range 16).map (fun i => s.workingLoad (16 * (m.tile / 16) + i) skip)).foldl (· + ·) 0 + ell
      > s.rn (Reg.hoplim1Cbud (m.tile / 16)) then some 2
  else if s.ungatedIn (m.tile / 16) + b2n (!s.ungated m.tile) > s.rf (Reg.hoplim1Ctmax (m.tile / 16)) 0 5 then some 3
  else none

/-- A write of MOVE1 posts the move of MOVE0 and MOVE1; a full queue drops it; a move that fails its test at queuing ends
at once (R72, R551). -/
def State.postMove (s : State) (v : Word) : State :=
  if s.hop.fwq.length ≥ 32 then s.moveDropped
  else
    let m0 := s.rd Reg.hopMove0
    let lane := field m0 0 14
    let m : Move := { lane := lane, cls := .firmware, force := bitOf m0 31, tile := field v 8 7,
                      seat := if bitOf v 7 then none else some (field v 0 7), tag := field v 16 8 }
    match s.moveTest m false with
    | some st => s.complete m st
    | none => { s with hop := { s.hop with fwq := s.hop.fwq ++ [m] } }

/-! ### Duties (R61-R69) -/

/-- Where an evaluation's choices stand: the state, the working loads by tile, the policy moves queued (R64), and whether the
duty under way has come to its end at MOVEMAX (R69). -/
structure EvalSt where
  s : State
  wl : List Nat
  moves : Nat
  spent : Bool := false

/-- The working load of a tile in an evaluation. -/
def EvalSt.loadOf (x : EvalSt) (t : Nat) : Nat := x.wl.getD t 0

/-- The lane has a move queued or in flight. -/
def State.laneMoving (s : State) (lane : Nat) : Bool :=
  s.queuedMoves.any (fun m => m.lane == lane) || s.hop.migs.any (fun m => m.move.lane == lane)

/-- Lanes of a tile without a move, in descending load, then ascending number (R64). -/
def EvalSt.lanes (x : EvalSt) (t : Nat) : List Nat :=
  let ls := ((x.s.lanesOn t).map (·.1)).filter (fun l => !x.s.laneMoving l)
  ls.mergeSort (fun a b =>
    let la := x.s.laneLoad a
    let lb := x.s.laneLoad b
    lb < la || (la == lb && a ≤ b))

/-- The tests every destination must pass (R62, R70): other tile, not retired or pending, program, free seat, budgets. -/
def EvalSt.hardOk (x : EvalSt) (src t lane : Nat) : Bool :=
  let s := x.s
  let e := s.mapEntry lane
  let ell := s.laneLoad lane
  let incoming := (s.queuedMoves.filter (fun m => m.tile == t)).length
  let c := t / 16
  t != src && !s.retired t && !s.retPend t && s.holdsProg t (s.ctxProg src (mapLane e))
    && decide ((s.takenLanes t).length + incoming < 128)
    && decide (x.loadOf t + ell ≤ s.tbud t)
    && decide (((List.range 16).map (fun i => x.loadOf (16 * c + i))).foldl (· + ·) 0 + ell ≤ s.rn (Reg.hoplim1Cbud c))
    && decide (s.ungatedIn c + b2n (!s.ungated t) ≤ s.rf (Reg.hoplim1Ctmax c) 0 5)

/-- 256 × (L + ℓ) ≤ TGTFILL × TBUD (R62). -/
def EvalSt.targetOk (x : EvalSt) (t lane : Nat) : Bool :=
  decide (256 * (x.loadOf t + x.s.laneLoad lane) ≤ x.s.rf Reg.hopTarget 0 8 * x.s.tbud t)

/-- The score of a destination (R63). -/
def EvalSt.score (x : EvalSt) (src t lane : Nat) : Int :=
  let s := x.s
  let f := s.fill t (x.loadOf t + s.laneLoad lane)
  let excess := s.clusterTemp (t / 16) - (s.rf Reg.hopTarget 16 8 : Int)
  let excess := if excess < 0 then 0 else excess
  (s.rf Reg.hopWeight 0 8 * f : Nat) - (s.rf Reg.hopWeight 8 8 : Int) * excess - (s.rf Reg.hopWeight 16 8 * meshDist src t : Nat)

/-- The best of the tiles that pass `ok`: highest score, then lower distance, then lower index (R63). -/
def EvalSt.best (x : EvalSt) (src lane : Nat) (ok : Nat → Bool) : Option Nat :=
  (List.range 128).foldl (fun acc t =>
    if !ok t then acc
    else match acc with
      | none => some t
      | some b =>
        let st := x.score src t lane
        let sb := x.score src b lane
        if st > sb || (st == sb && meshDist src t < meshDist src b) then some t else some b) none

/-- The destination duty `d` chooses for a lane (R62, R63). -/
def EvalSt.dest (x : EvalSt) (duty src lane : Nat) : Option Nat :=
  let s := x.s
  let cool (t : Nat) : Bool := !s.hotCluster (t / 16) && !s.forbidden t
  let hard (t : Nat) : Bool := x.hardOk src t lane
  match duty with
  | 1 =>
    match x.best src lane (fun t => hard t && cool t) with
    | some t => some t
    | none => x.best src lane hard
  | 4 => x.best src lane (fun t => hard t && cool t && x.targetOk t lane && s.tileAwake t
      && (decide (s.fill t (x.loadOf t) > s.fill src (x.loadOf src))
          || (s.fill t (x.loadOf t) == s.fill src (x.loadOf src) && decide (t < src))))
  | _ => x.best src lane (fun t => hard t && cool t && x.targetOk t lane)

/-- Queue a move and move its load in the evaluation (R64); a load does not fall below 0 (assumption 40). -/
def EvalSt.queue (x : EvalSt) (duty src lane dst : Nat) : EvalSt :=
  let s := x.s
  let ell := s.laneLoad lane
  let m : Move := { lane := lane, cls := if duty = 1 then .retire else .policy, force := duty == 1, tile := dst, seat := none,
                    tag := 0 }
  let hop := if duty = 1 then { s.hop with retireq := s.hop.retireq ++ [m] }
             else { s.hop with policyq := s.hop.policyq ++ [m] }
  { s := { s with hop := hop },
    wl := (x.wl.set dst (x.loadOf dst + ell)).set src (x.loadOf src - ell),
    moves := if duty = 1 then x.moves else x.moves + 1,
    spent := x.spent }

/-- HSTA.NOPLACE and IRAW.NOPLACE (R61). -/
def State.noPlace (s : State) : State := (s.setb Reg.hopHsta 5 true).raise Page.hop 2

/-- PIN or NOMOVE keeps a lane from duties 2-4 (R69). -/
def State.stays (s : State) (lane : Nat) : Bool :=
  let e := s.mapEntry lane
  mapPin e || s.ctxNomove (mapTile e) (mapLane e)

/-- The most policy moves of an evaluation, WEIGHT.MOVEMAX. -/
def State.moveMax (s : State) : Nat := s.rf Reg.hopWeight 24 8

/-- Take the lanes of one source tile for duties 1-3 while `more` holds (R61, R64, R67); a duty of policy ends at MOVEMAX
(R69). -/
def EvalSt.drain (x : EvalSt) (duty src : Nat) (more : EvalSt → Bool) : List Nat → EvalSt
  | [] => x
  | lane :: rest =>
    if x.spent || !more x then x
    else if duty ≠ 1 ∧ x.s.stays lane then x.drain duty src more rest
    else
      match x.dest duty src lane with
      | none => ({ x with s := x.s.noPlace }).drain duty src more rest
      | some d =>
        if duty ≠ 1 ∧ x.moves ≥ x.s.moveMax then { x with spent := true }
        else (x.queue duty src lane d).drain duty src more rest

/-- Duty 4 for one source: a move for every lane that may move, or none at all where one finds no destination (R68, R69). -/
def EvalSt.drainAll (x : EvalSt) (src : Nat) : List Nat → Option EvalSt
  | [] => some x
  | lane :: rest =>
    if x.s.stays lane then x.drainAll src rest
    else match x.dest 4 src lane with
      | none => none
      | some d => if x.moves ≥ x.s.moveMax then some x else (x.queue 4 src lane d).drainAll src rest

/-- The source tile of duty 4: the lowest fill below LOWAT, with lanes, no more than the moves left (R68). -/
def EvalSt.consolidateSrc (x : EvalSt) : Option Nat :=
  let s := x.s
  (List.range 128).foldl (fun acc t =>
    let n := (s.lanesOn t).length
    let f := s.fill t (x.loadOf t)
    if t = 0 || n = 0 || f ≥ s.rf Reg.hopTarget 8 8 || n + x.moves > s.moveMax then acc
    else match acc with
      | none => some t
      | some b => if f < s.fill b (x.loadOf b) then some t else some b) none

/-- A duty over the source tiles that `src` names, in ascending index (assumption 40), each drained while `more` holds. -/
def EvalSt.duty (x : EvalSt) (duty : Nat) (src : EvalSt → Nat → Bool) (more : EvalSt → Nat → Bool) : EvalSt :=
  (List.range 128).foldl (fun x t => if src x t then x.drain duty t (more · t) (x.lanes t) else x) x

/-- 256 × L is above TGTFILL × TBUD: a tile relieved by duty 3 still gives lanes (R67). -/
def EvalSt.aboveTarget (x : EvalSt) (t : Nat) : Bool := decide (256 * x.loadOf t > x.s.rf Reg.hopTarget 0 8 * x.s.tbud t)

/-- The four duties in order (R61); duty 3 takes forbidden tiles before those over budget (assumption 40). -/
def EvalSt.duties (x : EvalSt) : EvalSt :=
  let ctl := x.s.rd Reg.hopHctl
  let en := bitOf ctl 0
  let x := x.duty 1 (fun x t => x.s.retPend t) (fun _ _ => true)
  let x := if en && bitOf ctl 3 then
      { x with spent := false }.duty 2 (fun x t => x.s.hotCluster (t / 16)) (fun _ _ => true)
    else x
  let x := if en && bitOf ctl 4 then
      ({ x with spent := false }.duty 3 (fun x t => x.s.forbidden t) (fun _ _ => true)).duty 3
        (fun x t => decide (x.loadOf t > x.s.tbud t)) EvalSt.aboveTarget
    else x
  if en && bitOf ctl 2 && bitOf ctl 1 then
    match x.consolidateSrc with
    | none => x
    | some t => (x.drainAll t (x.lanes t)).getD x
  else x

/-! ### Gating (R15, R68, R86, R124, R353, R485) -/

/-- CCTL of a core of a tile (11, TILE page). -/
def State.cctl (s : State) (k : Nat) : Word := if k % 2 = 0 then s.rd (Reg.tileCctl0 (k / 2)) else s.rd (Reg.tileCctl1 (k / 2))
/-- CCTL.RUN and CCTL.DMODE. -/
def State.coreRun (s : State) (k : Nat) : Bool := bitOf (s.cctl k) 0
def State.coreDmode (s : State) (k : Nat) : Bool := bitOf (s.cctl k) 1

/-- Each core of the tile has RUN = 0, or DMODE = 1 and runs no dispatch (R353). -/
def State.coresIdle (s : State) (t : Nat) : Bool :=
  [2 * t, 2 * t + 1].all (fun k => !(s.core k).halted &&
    (!s.coreRun k || (s.coreDmode k && (s.core k).disp.isNone)))

/-- A live lane entry on a STEP wheel keeps its tile and cluster ungated (R124). -/
def State.stepLane (s : State) (t : Nat) : Bool :=
  s.liveEnts.any (fun e => match e.lane? with
    | some l => !isTicket e.key && s.wheelSrc e.wheel == 4 && mapValid (s.mapEntry l) && mapTile (s.mapEntry l) == t
    | none => false)

/-- The tile takes part in a migration. -/
def State.tileMigrates (s : State) (t : Nat) : Bool := s.hop.migs.any (fun m => m.srcTile == t || m.move.tile == t)

/-- DOZE: the Hopper gates (R485). -/
def State.doze (s : State) : Bool := s.rb Reg.hopHctl 0 && s.rb Reg.hopHctl 1

/-- Something keeps a tile awake: it is 0.00, its cores are busy, it migrates, holds a STEP lane, has dispatches or is kept on
(R15, R124, R353, CLU.KEEPON). -/
def State.keptAwake (s : State) (t : Nat) : Bool :=
  t == 0 || !s.coresIdle t || s.tileMigrates t || s.stepLane t || !(s.tile t).dq.isEmpty || !(s.tile t).arrivals.isEmpty || s.sent.any (fun x => x.1 == t)
    || s.rb (Reg.cluKeepon (t / 16)) (t % 16)

/-- The Hopper may gate a tile. -/
def State.mayGateTile (s : State) (t : Nat) : Bool :=
  (s.doze || s.retired t) && (s.tile t).awake && !s.keptAwake t

/-- A tile is gated; everything in it is retained (R353). -/
def State.gateTile (s : State) (t : Nat) : State := s.setTile t { s.tile t with awake := false, waking := false }

/-- The Hopper may gate a cluster: not cluster 0, every tile gated, none kept (R15, R124, CLU.KEEPON). -/
def State.mayGateCluster (s : State) (c : Nat) : Bool :=
  let tiles := (List.range 16).map (fun i => 16 * c + i)
  c != 0 && (s.cluster c).awake && !s.rb (Reg.cluKeepon c) 16 && (s.doze || tiles.all s.retired)
    && tiles.all (fun t => !(s.tile t).awake && !(s.tile t).waking && !s.stepLane t)

/-- A cluster is gated: IRAW.GATED. -/
def State.gateCluster (s : State) (c : Nat) : State :=
  (s.setCluster c { s.cluster c with awake := false, waking := false }).raise (Page.clu c) 1

/-- Leaving DOZE starts the wake of every gated tile and cluster that is not retired (R485). -/
def State.wakeAll (s : State) : State :=
  (List.range 128).foldl (fun s t => if s.retired t then s else s.wakeTile t) s

/-! ### Retirement (R86, R87) -/

/-- The last lane of a retire-pending tile has gone: the tile is gated, tile 0.00 excepted, RETIRE set, RETPEND cleared,
the map to be journaled (R86). -/
def State.retireTile (s : State) (t : Nat) : State :=
  let s := (s.setTileBit (fun i => Reg.hoplim1Retire i) t true).noteSet (Reg.hoplim1Retire (t / 32)) (1#32 <<< (t % 32))
  let s := s.setTileBit (fun i => Reg.hoplim1Retpend i) t false
  let s := { s with hop := { s.hop with retMapDirty := true } }
  let s := s.raise Page.hop 4
  if t != 0 && s.coresIdle t then s.gateTile t else s

/-- Retire every retire-pending tile without lanes (R86). -/
def State.retireEmpty (s : State) : State :=
  (List.range 128).foldl (fun s t => if s.retPend t && (s.lanesOn t).isEmpty then s.retireTile t else s) s

/-- One evaluation: measures, hot clusters, OVERBUD, the duties (R57-R69). NOPLACE and OVERBUD of HSTA tell the last
evaluation (assumption 40). -/
def State.evaluate (s : State) : State :=
  let s := s.measure.checkHot
  let s := s.setb Reg.hopHsta 5 false
  let anyOver := (List.range 128).any (fun t => numAt s.hop.load t > s.tbud t)
  let s := s.setb Reg.hopHsta 4 anyOver
  let s := s.onlyIf anyOver (·.raise Page.hop 6)
  let x : EvalSt := { s := s, wl := (List.range 128).map (fun t => s.workingLoad t none), moves := 0 }
  x.duties.s.retireEmpty

/-! ### Journal records (12 R412, R413) -/

/-- A rotating record's slot: its words and the generation word over them (R412). -/
def rotatingSlot (ws : List DWord) (gen : Nat) : List DWord :=
  let bytes := ws.flatMap (fun w => bytesOf 8 w.toNat) ++ bytesOf 4 gen
  ws ++ [BitVec.ofNat 64 (gen % 2 ^ 32 + (crc32c bytes).toNat * 2 ^ 32)]

/-- Write the next slot of a rotating record at journal word `base` (R412). -/
def State.writeRotating (s : State) (base slot gen : Nat) (ws : List DWord) : State :=
  s.writeWords Store.journal (base + slot * (ws.length + 1)) (rotatingSlot ws gen)

/-- The retired-tile map goes to the journal (R86, R409). -/
def State.journalRetired (s : State) : State :=
  let f := s.flash
  let slot := (f.retSlot + 1) % 16
  let gen := (f.retGen + 1) % 2 ^ 32
  let r (i : Nat) : Nat := s.rn (Reg.hoplim1Retire i)
  let ws : List DWord := [BitVec.ofNat 64 (r 0 + r 1 * 2 ^ 32), BitVec.ofNat 64 (r 2 + r 3 * 2 ^ 32), 0]
  let s := s.writeRotating 0x40 slot gen ws
  { s with flash := { f with retSlot := slot, retGen := gen }, hop := { s.hop with retMapDirty := false } }

/-- A lane-map base is written from the live map, then its header (R413). -/
def State.journalMapBase (s : State) : State :=
  let f := s.flash
  let older := 1 - f.mapBaseNewer
  let s := s.moveWords Store.laneMap 0 Store.journal (0x4000 + 0x1000 * older) (storeSize Store.laneMap)
  let crc := crcWords ((List.range (storeSize Store.laneMap)).map (fun i => s.peekWord Store.laneMap i))
  let gen := (f.mapGen + 1) % 2 ^ 32
  let s := s.writeWords Store.journal (0x80 + 2 * older)
    [BitVec.ofNat 64 (gen + crc.toNat * 2 ^ 32), BitVec.ofNat 64 f.mapLogSeq]
  { s with flash := { f with mapBaseNewer := older, mapGen := gen, mapLogAt := 0 } }

/-- 2,048 appends to the log since the newer base (R413). -/
def State.mapBaseDue (s : State) : Bool := decide (2048 ≤ s.flash.mapLogAt)

/-- The oldest flip's log word; after 2,048 appends since the newer base, a new base (R55, R413). -/
def State.journalFlip (s : State) : State :=
  match s.hop.flips with
  | [] => s
  | fl :: rest =>
    let seq := (s.flash.mapLogSeq + 1) % 2 ^ 32
    let w := fl.lane + fl.entry * 2 ^ 16 + seq * 2 ^ 32
    let s := s.writeWord Store.journal (0x6000 + seq % 4096) (BitVec.ofNat 64 w)
    let s := { s with hop := { s.hop with flips := rest } }
    let s := { s with flash := { s.flash with mapLogSeq := seq, mapLogAt := s.flash.mapLogAt + 1 } }
    s.onlyIf s.mapBaseDue (·.journalMapBase)

/-! ### Accesses to gated tiles (R353) -/

/-- Source and destination of a migration are awake: the gap tests run from here (R79). -/
def State.startTests (s : State) : State :=
  { s with hop := { s.hop with migs := s.hop.migs.map (fun m =>
      if m.phase == .testing && m.firstTest.isNone && s.tileAwake m.srcTile && s.tileAwake m.move.tile then
        { m with firstTest := some s.time.fab } else m) } }

/-- A fabric access reaches a tile: a gated one wakes first and the access is served after the wake (R353); in SLEEP none
wakes (R488). -/
def State.wakeServed (s : State) (t : Nat) : State :=
  s.onlyIf (s.pwr.state == .run && !s.tileAwake t) (fun s => (s.serveTile t).startTests)

/-! ### Marks (R36, R82) -/

/-- QUAL and STALE of a record at its seat, in one step; a poisoned word stays poisoned (R36, R398). -/
def State.markAt (s : State) (entry slot : Nat) (qual : Byte) (stale : Bool) : State :=
  let st := Store.tile (mapTile entry) 0
  let i := recWord (mapLane entry) slot
  let r := (s.wakeServed (mapTile entry)).readWord st i
  match r.1 with
  | none => r.2
  | some d =>
    let n := d.toNat
    let n := n - natField n 24 8 * 2 ^ 24 + qual.toNat * 2 ^ 24
    let n := n - natField n 18 1 * 2 ^ 18 + b2n stale * 2 ^ 18
    (r.2.writeWord st i (BitVec.ofNat 64 n)).bump (Reg.tileCommits (mapTile entry))

/-- A block marks a point's record through the map; while its lane is held the mark waits (R36, R54, R82). -/
def State.mark (s : State) (m : Mark) : State :=
  let lane := m.point / 64
  let e := s.mapEntry lane
  if !mapValid e then s
  else if s.laneHeld lane then
    { s with hop := { s.hop with migs := s.hop.migs.map (fun g =>
        if g.move.lane == lane then { g with marks := g.marks ++ [m] } else g) } }
  else s.markAt e (m.point % 64) m.qual m.stale

/-! ### Migration (R75-R84) -/

/-- Migrations in flight that a tile takes part in (R75). -/
def State.parts (s : State) (t : Nat) : Nat :=
  (s.hop.migs.filter (fun m => m.srcTile == t)).length + (s.hop.migs.filter (fun m => m.move.tile == t)).length

/-- A queued move can start: its lane does not migrate, its tiles take part in fewer than two (R75). -/
def State.canStart (s : State) (m : Move) : Bool :=
  let e := s.mapEntry m.lane
  !s.hop.migs.any (fun g => g.move.lane == m.lane)
    && (!mapValid e || (decide (s.parts (mapTile e) < 2) && decide (s.parts m.tile < 2)))

/-- The next move the engine starts (R75). -/
def State.nextMove (s : State) : Option Move :=
  if s.hop.migs.length ≥ 4 || s.pwr.target.isSome || s.pwr.state != .run then none else s.queuedMoves.find? s.canStart

/-- A move leaves its queue. -/
def State.dequeue (s : State) (m : Move) : State :=
  { s with hop := { s.hop with
      retireq := if m.cls = .retire then s.hop.retireq.erase m else s.hop.retireq,
      fwq := if m.cls = .firmware then s.hop.fwq.erase m else s.hop.fwq,
      policyq := if m.cls = .policy then s.hop.policyq.erase m else s.hop.policyq } }

/-- The engine starts a move: tested afresh, then both tiles are woken (R75, R79). -/
def State.startMove (s : State) (m : Move) : State :=
  let s := s.dequeue m
  match s.moveTest m false with
  | some st => s.complete m st
  | none =>
    let src := mapTile (s.mapEntry m.lane)
    let g : Mig := { move := m, srcTile := src, srcLane := mapLane (s.mapEntry m.lane) }
    let s := { s with hop := { s.hop with migs := s.hop.migs ++ [g] } }
    ((s.wakeTile src).wakeTile m.tile).startTests

/-- The migration of a lane. -/
def State.mig? (s : State) (lane : Nat) : Option Mig := s.hop.migs.find? (fun m => m.move.lane == lane)

/-- That migration replaced. -/
def State.setMig (s : State) (lane : Nat) (g : Mig) : State :=
  { s with hop := { s.hop with migs := s.hop.migs.map (fun m => if m.move.lane == lane then g else m) } }

/-- Occurrences of an entry that fell due while its lane was held, and that a release sends: every passed one under LATE = 1,
else the one that waits (R81). -/
def State.fellHeld (s : State) (g : Mig) (e : Ent) : Nat :=
  let h0 := g.held.getD e.wheel 0
  let h := s.high e.wheel
  if s.wheelBlocked e.wheel then 0
  else if e.late then (let n := occurrencesIn e h0 h; if e.count = 0xFFFF then n else min n (e.count + 1))
  else b2n (decide (h0 < e.due) && decide (e.due ≤ h))

/-- Dispatches of the lane that a release sends late: those that fell due during the hold, where the dispatcher of its seat
sends (R81, R99). -/
def State.heldCount (s : State) (g : Mig) : Nat :=
  let lane := g.move.lane
  if g.phase == .testing || !s.dispatcherOn (mapTile (s.mapEntry lane) / 16) then 0
  else ((s.liveEnts.filter (fun e => e.lane? == some lane)).map (s.fellHeld g)).foldl (· + ·) 0

/-- The lane is released: the migration ends, its held dispatches count in LATECNT and its queued marks apply at the lane's
seat (R81, R82). -/
def State.releaseLane (s : State) (g : Mig) : State :=
  let late := s.heldCount g
  let s := { s with hop := { s.hop with migs := s.hop.migs.filter (fun m => m.move.lane != g.move.lane) } }
  let s := s.onlyIf (decide (late > 0)) (·.bumpBy Reg.hopLatecnt late)
  g.marks.foldl (fun s m => s.mark m) s

/-- The lane is idle, and the move is forced or the gap is at least MIGMIN (R79, R80). -/
def State.mayHold (s : State) (g : Mig) : Bool :=
  let lane := g.move.lane
  g.phase == .testing && g.firstTest.isSome && !s.laneRuns lane && !s.laneOpen lane
    && (g.move.force || (match s.gap lane with
      | none => true
      | some x => decide (x ≥ s.rf Reg.hopMigmin 0 20)))

/-- An OPEN that reached the lane in this FAB cycle is refused as HELD (R388, R389). -/
def State.refuseOpens (s : State) (lane : Nat) : State :=
  (s.cores.map (·.1)).foldl (fun s k =>
    s.onlyIf ((s.core k).ppoint.any (fun o => o.point / 64 == lane && o.fab == s.time.fab))
      (·.onCore k (fun c => { c with ppoint := none }.setDev 0x0F 2 false))) s

/-- The lane is held and its copy begins, or the move fails its test at the start of the copy (R74, R79, R551). -/
def State.holdLane (s : State) (g : Mig) : State :=
  match s.moveTest g.move true with
  | some st => (s.complete g.move st).releaseLane g
  | none =>
    let dst := match g.move.seat with
      | some d => d
      | none => (s.lowestFree g.move.tile).getD 0
    (s.refuseOpens g.move.lane).setMig g.move.lane { g with phase := .copying, dstLane := dst, held := [0, 1, 2, 3].map s.high }

/-- PINWAIT evaluation periods have passed since the first test without a gap (R79): periods of EVAL µs (assumption 40). -/
def State.pinDue (s : State) (g : Mig) : Bool :=
  match g.firstTest with
  | none => false
  | some t => g.phase == .testing && !g.move.force && !s.mayHold g
      && decide (s.time.fab ≥ t + s.rf Reg.hopPinwait 0 8 * usCycles (s.rf Reg.hopEval 0 20))

/-- The lane is pinned and the move ends PINNED (R79). -/
def State.pinLane (s : State) (g : Mig) : State :=
  let e := s.mapEntry g.move.lane
  let s := if mapPin e then s else s.setMapEntry g.move.lane (e + 128)
  ((s.raise Page.hop 1).complete g.move 9).releaseLane g

/-- Copy `n` words of a tile's data SRAM unchanged, counting poison in PCOPY (R84, R397, R560). -/
def State.copyTileWords (s : State) (src i dst j : Nat) : Nat → State
  | 0 => s
  | n + 1 =>
    let w := s.rawWord (Store.tile src 0) i
    let s := s.onlyIf (w == poisonWord) (·.bumpSat (Reg.hdrPgsta Page.hop) 8 24)
    (s.putWord (Store.tile dst 0) j w).copyTileWords src (i + 1) dst (j + 1) n

/-- 64 records and the context go from the source seat to the destination seat (R79). -/
def State.copySeat (s : State) (g : Mig) : State :=
  let s := s.copyTileWords g.srcTile (recWord g.srcLane 0) g.move.tile (recWord g.dstLane 0) 256
  s.copyTileWords g.srcTile (ctxWord g.srcLane) g.move.tile (ctxWord g.dstLane) 32

/-- The copy ends: ABORTED where the destination became retire-pending, else the acknowledgement is awaited (R79). -/
def State.endCopy (s : State) (g : Mig) : State :=
  let s := s.copySeat g
  if s.retPend g.move.tile then (s.complete g.move 10).releaseLane g
  else s.setMig g.move.lane { g with phase := .copied }

/-- The lane's tally restarted after the copy began: W2 and W3 are copied again and the acknowledgement is awaited
again (R79, R82). -/
def State.recopyTally (s : State) (lane : Nat) : State :=
  match s.mig? lane with
  | none => s
  | some g =>
    if g.phase == .copied || g.phase == .acked then
      let s := (List.range 64).foldl (fun s ss =>
        s.copyTileWords g.srcTile (recWord g.srcLane ss + 2) g.move.tile (recWord g.dstLane ss + 2) 2) s
      s.setMig lane { g with phase := .copied }
    else s

/-- A switch of the lane's tally or snapshot has landed and is not yet made: it is made at the source seat (R82). -/
def State.switchWaits (s : State) (lane : Nat) : Bool := s.tally.pend.any (fun p => p.lane == lane && p.bw0.isSome)

/-- The flip may be issued: acknowledged, no landed switch of the lane waits, and no earlier flip that freed the seat is
unjournaled (R17, R55, R82). -/
def State.mayFlip (s : State) (g : Mig) : Bool :=
  g.phase == .acked && !s.switchWaits g.move.lane && !s.hop.flips.any (fun f => f.freed == seatOf g.move.tile g.dstLane)

/-- The map entry flips; the lane is released; MIGCNT, loads, the flip to be journaled; the last
lane of a retire-pending tile retires it (R55, R79, R81, R82, R86, R552). -/
def State.flipLane (s : State) (g : Mig) : State :=
  let lane := g.move.lane
  let e := mkMap g.move.tile g.dstLane (mapPin (s.mapEntry lane))
  let s := s.setMapEntry lane e
  let s := { s with
    hop := { s.hop with
      flips := s.hop.flips ++ [({ lane := lane, entry := e, freed := seatOf g.srcTile g.srcLane } : Flip)],
      flipIn := setNum s.hop.flipIn g.move.tile (numAt s.hop.flipIn g.move.tile + s.laneLoad lane),
      flipOut := setNum s.hop.flipOut g.srcTile (numAt s.hop.flipOut g.srcTile + s.laneLoad lane) } }
  let s := s.releaseLane g
  let s := s.bump Reg.hopMigcnt
  let s := s.complete g.move 0
  if s.retPend g.srcTile && (s.lanesOn g.srcTile).isEmpty then s.retireTile g.srcTile else s

/-! ### The point read port (R88, R89) -/

/-- PRDPT starts a point read; a gated seat's tile is woken (R88). -/
def State.startPointRead (s : State) (v : Word) : State :=
  let v := v &&& 0xFF0FFFFF
  let s := (s.wr Reg.hopPrdpt v).setb Reg.hopPrdsta 0 true
  let s := { s with hop := { s.hop with prd := some (field v 0 20, field v 24 8), prdDiscard := false } }
  let e := s.mapEntry (field v 0 20 / 64)
  if mapValid e then s.wakeTile (mapTile e) else s

/-- The seat of the read in flight can be reached (R88). -/
def State.pointReadReady (s : State) : Bool :=
  match s.hop.prd with
  | none => false
  | some (p, _) =>
    let e := s.mapEntry (p / 64)
    !mapValid e || s.tileAwake (mapTile e)

/-- The record is copied whole into PRDW; a poisoned word reads as all ones (R88, R89). -/
def State.endPointRead (s : State) : State :=
  match s.hop.prd with
  | none => s
  | some (p, tag) =>
    let drop := s.hop.prdDiscard
    let s := { s with hop := { s.hop with prd := none, prdDiscard := false } }
    if drop then s
    else
      let e := s.mapEntry (p / 64)
      let r := if mapValid e then s.readWords (Store.tile (mapTile e) 0) (recWord (mapLane e) (p % 64)) 4
               else ([some 0, some 0, some 0, some 0], s)
      let poison := r.1.any Option.isNone
      let s := (List.range 4).foldl (fun s i =>
        let w := match r.1.getD i (some 0) with
          | some d => d.toNat
          | none => 2 ^ 64 - 1
        s.wr64 (Reg.hopPrdw (2 * i)) (Reg.hopPrdw (2 * i + 1)) w) r.2
      s.wr Reg.hopPrdsta (w32 (b2n poison * 2 + b2n (!mapValid e) * 4 + tag * 2 ^ 24))

/-- A read in flight when a soft reset of HOP commits completes and its result is discarded (R553). -/
def State.discardPointRead (s : State) : State :=
  { s with hop := { s.hop with prdDiscard := s.hop.prd.isSome } }

/-! ### Register writes and views -/

/-- A MAPDAT write, or its refusal with MAPREJ (R14, R56). -/
def State.writeMap (s : State) (v : Word) : State :=
  let lane := s.rf Reg.hopMapidx 0 14
  let e := field v 0 16
  let clash := mapValid e && s.seated.any (fun x => x.1 != lane && x.2 / 256 == e / 256 && mapLane x.2 == mapLane e)
  if s.rb Reg.hopHctl 0 || !s.hop.migs.isEmpty || clash then (s.setb Reg.hopHsta 6 true).raise Page.hop 8
  else s.setMapEntry lane e

/-- HCTL takes its bits; leaving DOZE wakes what is gated (R485). -/
def State.writeHctl (s : State) (v : Word) : State :=
  let was := s.doze
  let s := s.wr Reg.hopHctl (v &&& 0x1F)
  if was && !s.doze then s.wakeAll else s

/-- Lanes with PIN = 1. -/
def State.pinCount (s : State) : Nat :=
  ((s.words.filter (fun w => w.1 / 2 ^ 40 == Store.laneMap)).map (fun w =>
    ((List.range 4).filter (fun i => mapPin (s.mapEntry (4 * (w.1 % 2 ^ 40) + i)))).length)).foldl (· + ·) 0

/-- MVSTA as read. -/
def State.mvsta (s : State) : Word :=
  putField (putField (s.rd Reg.hopMvsta) 0 6 s.hop.fwq.length) 8 6 s.hop.doneq.length

/-- HSTA as read. -/
def State.hsta (s : State) : Word := putField (s.rd Reg.hopHsta) 1 3 s.hop.migs.length

/-- Writing 1 to MVERR or MAPERR of IRAW clears the status bits behind it (02, HOP page). -/
def State.clearHopFlags (s : State) (v : Word) : State :=
  let s := s.onlyIf (bitOf v 7) (·.clrReg Reg.hopMvsta 0xC000)
  s.onlyIf (bitOf v 8) (·.setb Reg.hopHsta 6 false)

/-- What a soft reset of HOP does beyond its registers (R553): the moves that duties have queued stay. -/
def State.softResetHopper (s : State) : State :=
  let s := s.discardPointRead
  { s with hop := { s.hop with fwq := [], doneq := [], lastDone := { w0 := 0, w1 := 0 } } }

/-- TLCNTn: lane counts of four tiles (02, HOPLIM1). -/
def State.tlcnt (s : State) (n : Nat) : Word :=
  w32 (((List.range 4).map (fun b => (s.lanesOn (4 * n + b)).length % 256 * 2 ^ (8 * b))).foldl (· + ·) 0)

end Sys2Proof.Machine
end

