-- ==== Sys2Proof/Machine/Stages.lean ====
section
/-! DEFINITION. The stages of the main path as functions of the samples that entered the filter: the CIC, which the spec gives
exactly, and the half-bands over coefficients it does not give (05 R169-R174, assumption 8). -/

namespace Sys2Proof.Machine

/-- A stage's result: its value, whether it saturated itself, and whether it or a result it was computed from did (R170,
R190). -/
structure Entry where
  v : Int
  own : Bool
  sat : Bool
  deriving DecidableEq, Repr

/-- Half-width of the chain up to stage `k` (R169). -/
def halfWidth (k : Nat) : Nat := if k = 0 then 14 else if k = 1 then 54 else 134 + 88 * (2 ^ k - 4)

/-- Output period of stage `k` (R169). -/
def stagePeriod (k : Nat) : Nat := 8 * 2 ^ k

/-- Taps of stage `k` (R169). -/
def stageTaps (k : Nat) : Nat := if k = 0 then 29 else if k ≤ 2 then 11 else 23

/-- Coefficient `j` of half-band `k`: a symmetric response (R169). -/
def tapCoef (k j : Nat) : Int := Config.halfBand k (min j (stageTaps k - 1 - j))

/-- A sum held to ±(2^31 − 1) (R170). -/
def saturated (y : Int) : Entry :=
  let z := clampInt (-(2 ^ 31 - 1)) (2 ^ 31 - 1) y
  { v := z, own := z != y, sat := z != y }

/-- The sums of each 8 consecutive entries (R169). -/
def movingSums : List Int → List Int
  | [] => []
  | x :: xs => if xs.length < 7 then [] else (x :: xs.take 7).foldl (· + ·) 0 :: movingSums xs

/-- The CIC over 29 samples: four moving sums of 8, divided by 4,096 (R169, R170). -/
def cicOf (xs : List Int) : Entry :=
  saturated (roundDiv ((movingSums (movingSums (movingSums (movingSums xs)))).headD 0) 4096)

/-- The first place at or after `n` on the grid of spacing `p` through `ref`. -/
def gridUp (p ref n : Nat) : Nat := n + (ref % p + p - n % p) % p

/-- The centre of the entry that a tap reads whose nominal instant is `n`: an entry made before a realignment stands up to
one input period later, and before the realignment's sample (R174). -/
def tapInstant (p : Nat) : List Nat → Nat → Nat
  | s :: r :: rest, n => if s ≤ n then n else tapInstant p (r :: rest) (gridUp p r n)
  | _, n => n

/-- The phases that hold for an output centred at `c`: it takes no part in a realignment after its centre (R148, R174). -/
def phasesFor (phases : List Nat) (c : Nat) : List Nat := phases.dropWhile (fun s => decide (c < s))

/-- The result of stage `k` centred at sample `c` (R169, R170, R174), over the samples `x`. -/
def stageEntry (x : Nat → Int) (phases : List Nat) : Nat → Nat → Entry
  | 0, c => cicOf ((List.range 29).map (fun i => x (c - 14 + i)))
  | k + 1, c =>
    let p := stagePeriod k
    let taps := stageTaps (k + 1)
    let es := (List.range taps).map (fun j =>
      stageEntry x phases k (tapInstant p (phasesFor phases c) (c + j * p - taps / 2 * p)))
    let sum := ((List.range taps).zip es).foldl (fun a je => a + tapCoef (k + 1) je.1 * je.2.v) 0
    let y := saturated (roundDiv sum (2 ^ Config.halfBandBits))
    { y with sat := y.own || es.any (·.sat) }

/-- The results of stages 0 to `k` whose windows sample `m` completes, of a filter restarted at `r` (R172, R173): those that
saturated count (R170). -/
def satsAt (x : Nat → Int) (phases : List Nat) (r k m : Nat) : Nat :=
  ((List.range (k + 1)).filter (fun i =>
    let c := m - halfWidth i
    decide (r + 2 * halfWidth i ≤ m) &&
      (match phasesFor phases c ++ phases.getLast?.toList with
       | ref :: _ => c % stagePeriod i == ref % stagePeriod i
       | [] => false) &&
      (stageEntry x phases i c).own)).length

end Sys2Proof.Machine
end

