-- ==== Sys2Proof/Machine/Sampling.lean ====
section
/-! DEFINITION. The samples of a converter: their instants, the restart and the realignment of a filter slot, normalisation,
ranges and their detector, and the feed that takes each sample into both (04 R133-R145, R159; 05 R173-R175, R184-R186). -/

namespace Sys2Proof.Machine

/-! ### Sampling instants (R184) -/

/-- The instant of sample `m` of converter `g` in 1/256 FAB cycle: 12,500/256 cycles a sample, half an ANA tick later for
each slot (R184). -/
def sampleInstant (g m : Nat) : Nat := 12500 * m + 3125 * (g % 4)

/-- The first sample of converter `g` at or after a FAB cycle. -/
def firstSample (g fab : Nat) : Nat := ceilDiv (256 * fab - 3125 * (g % 4)) 12500

/-- The last sample of converter `g` taken by now. -/
def State.taken (s : State) (g : Nat) : Nat := (256 * s.time.fab - 3125 * (g % 4)) / 12500

/-- ANA ticks since the release of reset (01). -/
def State.ana (s : State) : Nat := s.time.fab * 128 / 3125

/-- The ANA tick at or after now. -/
def State.anaNext (s : State) : Nat := ceilDiv (s.time.fab * 128) 3125

/-- Two half-open spans meet (R30, R31). -/
def Span.meets (a b : Span) : Bool := decide (a.lo < b.hi) && decide (b.lo < a.hi)

/-- A span added to a list; spans that no window still open can reach are dropped. -/
def addSpan (now : Nat) (sp : Span) (l : List Span) : List Span := sp :: l.filter (fun x => decide (now ≤ x.hi + 2 ^ 22))

/-- The entry of a history (newest first) that holds for sample `m`. -/
def holdsAt {α : Type} (d : α) (m : Nat) : List (Nat × α) → α
  | [] => d
  | (a, x) :: rest => if a ≤ m then x else holdsAt d m rest

/-- An entry added to a history; of the entries too old to matter one stays. -/
def addHist {α : Type} (now m : Nat) (x : α) (l : List (Nat × α)) : List (Nat × α) :=
  let new := l.filter (fun y => decide (now ≤ y.1 + 2 ^ 22))
  (m, x) :: (new ++ (l.filter (fun y => decide (y.1 + 2 ^ 22 < now))).take 1)

/-- STAMP at the instant of a sample: W0 at that instant to 0.5 ns, rounded to the ns with ties upward (R185). -/
def State.stampAt (s : State) (g m : Nat) : Nat :=
  let q := (s.time.w0 * 512 + s.time.w0Frac * 512 / 2 ^ 32 + 5 * sampleInstant g m - 4096 * s.net) / 256
  (q + 1) / 2 % 2 ^ 32

/-- PATH register of the slot of converter `g`. -/
def State.path (s : State) (g : Nat) : Word := s.rd (Reg.filPath (g / 4) (g % 4))

/-- The spacing of the captures of a slot: its output period, or the source spacing of the FIR path. -/
def State.capStep (s : State) (g : Nat) : Nat :=
  let p := s.path g
  if bitOf p 0 then 8 * 2 ^ field p 5 4 else 8 * 2 ^ field p 1 4

/-- The capture of a slot in the present FAB cycle, if the instant of its next grid sample falls in it (R185, R186). -/
def State.capture (s : State) (g : Nat) : State :=
  let c := s.slot g
  if sampleInstant g c.gridNext < 256 * (s.time.fab + 1) then
    s.setSlot g { c with
      gridNext := c.gridNext + s.capStep g
      caps := { sample := c.gridNext, stamp := s.stampAt g c.gridNext,
                wpos := s.high (field (s.path g) 14 2) % 2 ^ 32 } :: c.caps.take 800 }
  else s

/-! ### Restart and realignment of a slot (R148, R173-R175, R178) -/

/-- Taps of bank `b` of engine `e`, its FCENT and FGAIN (05, FIL page). -/
def State.bankReg (s : State) (e b : Nat) : Word := if b = 0 then s.rd (Reg.filBanka e) else s.rd (Reg.filBankb e)
def State.ntap (s : State) (e b : Nat) : Nat := field (s.bankReg e b) 0 9 + 1
def State.fcent (s : State) (e b : Nat) : Nat := field (s.bankReg e b) 9 9
def State.fgain (s : State) (e b : Nat) : Nat := field (s.bankReg e b) 18 3

/-- Whether the next output of a fade takes its centre from the bank faded to (R182). -/
def FadeSt.newCentre (f : FadeSt) : Bool := decide (2 ^ f.n ≤ 2 * (f.i + 1))

/-- The bank whose centre the next FIR output takes (R177, R182). -/
def State.centreBank (s : State) (g : Nat) : Nat :=
  match (s.slot g).fade with
  | some f => if f.newCentre then field (s.path g) 9 1 else f.oldBank
  | none => field (s.path g) 9 1

/-- The distance from the next output's centre to the centre of the newest source output it reads; 0 on the main path
(R177). -/
def State.newestOff (s : State) (g : Nat) : Nat :=
  let p := s.path g
  let b := s.centreBank g
  if bitOf p 0 then (s.ntap (g / 4) b - 1 - s.fcent (g / 4) b) * stagePeriod (field p 5 4) else 0

/-- The stage whose outputs a slot takes: RATE, or FSRC of the FIR path. -/
def State.lastStage (s : State) (g : Nat) : Nat := let p := s.path g; if bitOf p 0 then field p 5 4 else field p 1 4

/-- The filter of converter `g` restarts at sample `r` (R173, R178). -/
def State.restartFilter (s : State) (g r : Nat) : State :=
  let p := s.path g
  let n := s.ntap (g / 4) (field p 9 1)
  let c := r + halfWidth (s.lastStage g)
  let s := s.setSlot g { s.slot g with
    restart := r, first := true, realign := [], phases := [c], hist := [], fade := none, gridNext := c
    next := if bitOf p 0 then c + (n - 1) * stagePeriod (field p 5 4) else c }
  s.setb (Reg.filSta (g / 4)) (g % 4) false

/-- The output phase of converter `g` is realigned to sample `m` (R148, R175): outputs of the old phase centred before
`m` are still produced, unless the restart's first output has not been. In a settling window nothing is to realign. -/
def State.realign (s : State) (g m : Nat) : State :=
  let c := s.slot g
  let off := s.newestOff g
  if (s.cnv g).live.isNone || c.phases.head? == some m then s
  else if c.first then
    if m + off ≤ c.next then s
    else s.setSlot g { c with next := m + off, phases := m :: c.phases,
                              gridNext := gridUp (s.capStep g) m (max m (c.restart + halfWidth (s.lastStage g))) }
  else if m + off ≤ c.next then s.setSlot g { c with next := m + off, phases := m :: c.phases, realign := [], gridNext := m }
  else s.setSlot g { c with realign := c.realign ++ [m], phases := m :: c.phases, gridNext := m }

/-! ### Converter state -/

def State.cctlCnv (s : State) (g : Nat) : Word := s.rd (Reg.cnvCctl g)
/-- The converter converts: EN of CCTL and of the page, and its block is powered (R446). -/
def State.cnvOn (s : State) (g : Nat) : Bool := bitOf (s.cctlCnv g) 0 && s.pageLive (Page.cnv g)
def State.cnvScan (s : State) (g : Nat) : Bool := bitOf (s.cctlCnv g) 1
def State.cnvTrig (s : State) (g : Nat) : Nat := field (s.cctlCnv g) 2 2
def State.rngAuto (s : State) (g : Nat) : Bool := s.rb (Reg.cnvRng g) 0
def State.rngFix (s : State) (g : Nat) : Nat := s.rf (Reg.cnvRng g) 1 3
def State.rngLo (s : State) (g : Nat) : Nat := s.rf (Reg.cnvRng g) 4 3
def State.rngHi (s : State) (g : Nat) : Nat := s.rf (Reg.cnvRng g) 8 3
def State.dnHold (s : State) (g : Nat) : Nat := s.rf (Reg.cnvRng g) 16 16

/-- The last tag of an input (LASTR). -/
def ConvSt.lastOf (c : ConvSt) (i : Nat) : Nat := c.lastTag.getD i 0

/-- The tag of a converter from sample `m` on (R145). -/
def State.setTag (s : State) (g m t : Nat) : State :=
  let c := s.cnv g
  s.setCnv g { c with tag := t, dn := 0, lastTag := c.lastTag.set c.input t,
                      tags := addHist (s.taken g) m (t, c.input) c.tags }

/-! ### Ranges (R136-R145) -/

/-- The largest tag `u` below `n` and not below `lo` that `ok` admits. -/
def largestTag (lo : Nat) (ok : Nat → Bool) : Nat → Option Nat
  | 0 => none
  | n + 1 => if decide (lo ≤ n) && ok n then some n else largestTag lo ok n

/-- 0.9 × FS(t) < |sum| / 8, in normalised units (R139). -/
def above90 (t : Nat) (sum : Nat) : Bool := decide (8 * 9 * 2 ^ 31 < sum * 10 * 4 ^ t)
/-- |sum| / 8 < 0.9 × FS(t). -/
def below90 (t : Nat) (sum : Nat) : Bool := decide (sum * 10 * 4 ^ t < 8 * 9 * 2 ^ 31)
/-- |sum| / 8 < 0.2 × FS(t). -/
def below20 (t : Nat) (sum : Nat) : Bool := decide (sum * 10 * 4 ^ t < 8 * 2 * 2 ^ 31)

/-- The detector's decision on a block it may decide from (R139): target tag and dn after it. -/
def State.detect (s : State) (g : Nat) (ovl : Bool) (sum : Nat) : Nat × Nat :=
  let t := (s.cnv g).tag
  let lo := s.rngLo g
  if ovl then (max lo (t - 2), 0)
  else if lo < t && above90 t sum then ((largestTag lo (fun u => below90 u sum) t).getD lo, 0)
  else if t < s.rngHi g && below20 t sum then
    (if (s.cnv g).dn + 1 < s.dnHold g then (t, (s.cnv g).dn + 1) else (t + 1, 0))
  else (t, 0)

/-- The tag a RNG write asks for at the next block (R142). -/
def State.rngTarget (s : State) (g : Nat) : Nat :=
  if s.rngAuto g then clampNat (s.rngLo g) (s.rngHi g) (s.cnv g).tag else s.rngFix g

/-- The index of the last block of 8 samples complete by now, plus one. -/
def State.blocksDone (s : State) (g : Nat) : Nat := (s.taken g + 1) / 8

/-! ### Range switches (R143, R144) -/

/-- A decided switch has reached its sample (R139, R143). -/
def State.switchDue (s : State) (g : Nat) : Option (Nat × Nat) :=
  match (s.cnv g).pend with
  | some (t, m) => if m ≤ s.taken g then some (t, m) else none
  | none => none

/-- The PGA moves to tag `t` at sample `m`, and 9 samples are blanked (R143). -/
def State.switchRange (s : State) (g t m : Nat) : State :=
  let changed := (s.cnv g).tag != t
  let s := s.setTag g m t
  let sp : Span := { lo := m, hi := m + 9 }
  let s := s.setCnv g { s.cnv g with pend := none, blank := some sp, held := some sp }
  if changed then ((s.bump (Reg.cnvRchgcnt g)).raise (Page.cnv g) 0).event (Page.cnv g) 0 else s

/-- A decided range switch takes effect at its sample and is a transition (R143, R144). -/
def State.landSwitch (s : State) (g t m : Nat) : State :=
  let s := s.switchRange g t m
  s.setCnv g { s.cnv g with trans := addSpan (s.taken g) { lo := m, hi := m + 9 } (s.cnv g).trans }

/-- A range switch takes effect (R143). -/
def State.rangeSwitch (s : State) (g : Nat) : State :=
  match s.switchDue g with
  | none => s
  | some (t, m) => s.landSwitch g t m

/-! ### One modulator sample (R134, R136-R139, R143, R159) -/

/-- A trim of tag `t` for sample `m`: a write counts from the next sample on (R138). -/
def State.trimAt (s : State) (g t m : Nat) (off : Bool) : Int :=
  match (((s.cnv g).trims.filter (fun x => x.tag == t && x.off == off && decide (m < x.upTo))).getLast?) with
  | some x => x.value
  | none => sfield (s.rd (if off then Reg.cnvOtrim g t else Reg.cnvGtrim g t)) 0 24

/-- Normalisation of sample `m` on tag `t` (R136), the negation of R159 first. -/
def State.normalise (s : State) (g t m : Nat) (raw : Int) : Int :=
  let raw := if holdsAt false m (s.cnv g).negs then -raw else raw
  let x := roundDiv (raw * (2 ^ 28 + s.trimAt g t m false)) (2 ^ 28 * 4 ^ t) + s.trimAt g t m true
  clampInt (-(2 ^ 31 - 1)) (2 ^ 31 - 1) x

/-- An overloaded sample: ±full scale of its tag in normalised units, with the sign of the input (R137, R159). -/
def State.fullScale (s : State) (g t m : Nat) (raw : Int) : Int :=
  let raw := if holdsAt false m (s.cnv g).negs then -raw else raw
  clampInt (-(2 ^ 31 - 1)) (2 ^ 31 - 1) ((if raw < 0 then -1 else 1) * (2 ^ 31 / 4 ^ t : Nat))

/-- Sample `m` is blanked (R143). -/
def ConvSt.blanked (c : ConvSt) (m : Nat) : Bool := c.held.any (fun sp => decide (sp.lo ≤ m) && decide (m < sp.hi))

/-- Sample `m` is overloaded: beyond full scale, or marked by REFLOW; a blanked one never (R134, R137, R143). -/
def ConvSt.overloaded (c : ConvSt) (m : Nat) (x : Sample) : Bool := (x.ovl || holdsAt false m c.lows) && !c.blanked m

/-- The tag of sample `m` (R145). -/
def ConvSt.tagAt (c : ConvSt) (m : Nat) : Nat := (holdsAt (c.tag, c.input) m c.tags).1

/-- The normalised value of a sample (R136, R137). -/
def State.sampleValue (s : State) (g m : Nat) (x : Sample) : Int :=
  let c := s.cnv g
  if c.overloaded m x then s.fullScale g (c.tagAt m) m x.raw else s.normalise g (c.tagAt m) m x.raw

/-- Overloaded samples count, and raise OVR (R137). -/
def State.countOver (s : State) (g n : Nat) : State :=
  if n = 0 then s else ((s.bumpBy (Reg.cnvOvrcnt g) n).raise (Page.cnv g) 1).event (Page.cnv g) 1

/-- The detector on block `b`, which is complete (R139-R142). -/
def State.decideRange (s : State) (g b : Nat) : State :=
  let c := s.cnv g
  let usable := c.live.any (fun l => decide (l ≤ 8 * b)) &&
    !c.held.any (fun sp => sp.meets { lo := 8 * b, hi := 8 * b + 8 })
  if !usable || c.pend.isSome then s
  else
    let d := if c.rngPend && s.rngTarget g != c.tag then (s.rngTarget g, 0)
             else if s.rngAuto g then s.detect g c.blockOver c.blockSum.natAbs else (c.tag, c.dn)
    s.setCnv g { c with rngPend := false, dn := d.2, pred := roundDiv c.blockSum 8,
                        pend := if d.1 = c.tag then none else some (d.1, 8 * b + 9) }

/-- The filter's samples by number (R170). -/
def State.sampleAt (s : State) (g m : Nat) : Int := (s.slot g).hist.getD ((s.cnv g).fed - 1 - m) 0

/-- Saturated results of a slot count, and raise SAT (R170). -/
def State.countSat (s : State) (g n : Nat) : State :=
  let s := s.bumpBy (Reg.filSatcnt (g / 4)) n
  let iraw := Reg.hdrIraw (Page.fil (g / 4))
  s.setb iraw 5 (s.rb iraw 5 || decide (0 < n))

/-- The next sample enters: a switch due by it takes effect, the filter and the block take its value, or the prediction where
it is blanked, and a complete block runs the detector (R136-R143). -/
def State.feed (s : State) (g : Nat) (x : Sample) : State :=
  let m := (s.cnv g).fed
  let s := match (s.cnv g).pend with
    | some (t, ms) => if ms ≤ m then s.landSwitch g t ms else s
    | none => s
  let c := s.cnv g
  let overs := c.overloaded m x
  let v := if c.blanked m then c.pred else s.sampleValue g m x
  let s := s.setCnv g { c with
    fed := m + 1
    blockSum := (if m % 8 = 0 then 0 else c.blockSum) + v
    blockOver := (m % 8 != 0 && c.blockOver) || overs
    trims := c.trims.filter (fun y => decide (m < y.upTo))
    ovrs := if overs then addSpan m { lo := m, hi := m + 1 } c.ovrs else c.ovrs }
  let sl := s.slot g
  let s := s.setSlot g { sl with hist := if m < sl.restart then sl.hist else v :: sl.hist }
  let s := (s.setb (Reg.cnvSta g) 15 overs).countOver g (b2n overs)
  let sats := satsAt (s.sampleAt g) sl.phases sl.restart (s.lastStage g) m
  let s := s.countSat g sats
  if m % 8 = 7 then s.decideRange g (m / 8) else s

/-- A sample that no command told is a free value (assumption 8). -/
def State.freeSample (s : State) : Sample × State :=
  let v := s.free 32
  let o := v.2.free 1
  ({ raw := v.1.toInt, ovl := o.1 == 1 }, o.2)

/-- The samples up to `m` (m not among them) enter, `xs` from the next on; none enters while they are discarded (R147). -/
def State.feedTo (s : State) (g m : Nat) (xs : List Sample) : State :=
  if (s.cnv g).live.isNone then s
  else
    (List.range (m - (s.cnv g).fed)).foldl (fun s i =>
      match xs[i]? with
      | some x => s.feed g x
      | none => s.freeSample.2.feed g s.freeSample.1) s

/-- A completed block is told: `xs` are the samples since the last told (R139). -/
def State.rangeDetect (s : State) (g : Nat) (xs : List Sample) : State :=
  s.onlyIf (s.cnvOn g) (·.feedTo g (8 * s.blocksDone g) xs)

/-- Samples feed the filter and the detector from sample `r` on, and the filter restarts there (R147, R150). -/
def State.goLive (s : State) (g r : Nat) : State :=
  (s.setCnv g { s.cnv g with live := some r, fed := r }).restartFilter g r

end Sys2Proof.Machine
end

