-- ==== Sys2Proof/Machine/Filter.lean ====
section
/-! DEFINITION. The filter engines: outputs, windows and flags, the FIR path, cross-fades, records and their reads
(05 R168-R196). The half-band coefficients are not given (R169): they are constants of Config (assumption 8). -/

namespace Sys2Proof.Machine

/-! ### Coefficients and banks (R24, R176, R179, R180) -/

/-- Index in the engine's filter memory of a ring record, of a newest record and of a word of a bank (R24, R179, R195). -/
def ringWord (k i : Nat) : Nat := 512 * k + 2 * i
def newWord (k i : Nat) : Nat := 2048 + 8 * k + 2 * i
def coefWord (b i : Nat) : Nat := 2112 + 144 * b + i

/-- The bank and the byte of it at an offset of page `i` of an engine's three coefficient pages (R179). -/
def coefPlace (i off : Nat) : Nat × Nat :=
  if i < 2 then (i, off - 0x40) else if off < 0x100 then (0, 960 + (off - 0x40)) else (1, 960 + (off - 0x100))

/-- A register write of four coefficient bytes: half of a word of the bank; the other half of a word that read as poison is
its data bits, 0 (R179, R399, assumption 8). -/
def State.writeCoef (s : State) (e b byte : Nat) (v : Word) : State :=
  let r := s.readWord (Store.filter e) (coefWord b (byte / 8))
  let d := r.1.getD 0
  r.2.writeWord (Store.filter e) (coefWord b (byte / 8))
    (if byte % 8 < 4 then v.setWidth 64 ||| (d >>> 32 <<< 32) else (v.setWidth 64 <<< 32) ||| (d <<< 32 >>> 32))

/-- The coefficient bytes of page `i` of an engine take their reset value 0 (R448). -/
def State.clearCoefs (s : State) (e i : Nat) : State :=
  let clear := fun (s : State) (b from_ n : Nat) =>
    s.writeWords (Store.filter e) (coefWord b from_) (List.replicate n 0)
  if i < 2 then clear s i 0 120 else clear (clear s 0 120 24) 1 120 24

/-- Coefficient `j` of a bank's words, 24 bits two's complement, little-endian (R176, R179). -/
def coefOf (ws : List (BitVec 64)) (j : Nat) : Int :=
  let byte := fun i => natField (ws.getD (i / 8) 0).toNat (8 * (i % 8)) 8
  sintOf (byte (3 * j) + 256 * byte (3 * j + 1) + 65536 * byte (3 * j + 2)) 24

/-- Fields of PATH. -/
def State.firPath (s : State) (g : Nat) : Bool := bitOf (s.path g) 0
def State.fbank (s : State) (g : Nat) : Nat := field (s.path g) 9 1
def State.firSpacing (s : State) (g : Nat) : Nat := stagePeriod (field (s.path g) 5 4)
def State.firDec (s : State) (g : Nat) : Nat := field (s.path g) 16 8 + 1
def State.outPeriod (s : State) (g : Nat) : Nat :=
  if s.firPath g then s.firDec g * s.firSpacing g else stagePeriod (field (s.path g) 1 4)

/-- A bank is in use (R180). -/
def State.bankUsed (s : State) (e b : Nat) : Bool :=
  (List.range 4).any (fun k =>
    let g := 4 * e + k
    bitOf (s.cctlCnv g) 0 && s.firPath g &&
      (s.fbank g == b || (s.slot g).fade.any (fun f => f.oldBank == b)))

/-- Taps counted for a slot's load: both banks during a fade (R194). -/
def State.loadTaps (s : State) (g : Nat) : Nat :=
  s.ntap (g / 4) (s.fbank g) +
    (match (s.slot g).fade with
     | some f => s.ntap (g / 4) f.oldBank
     | none => 0)

/-- FIR load of an engine in MAC/s, each slot's part rounded down (R194). -/
def State.macload (s : State) (e : Nat) : Nat :=
  ((List.range 4).map (fun k =>
    let g := 4 * e + k
    if s.firPath g && bitOf (s.cctlCnv g) 0 then s.loadTaps g * 8192000 / s.outPeriod g else 0)).foldl (· + ·) 0

/-- Whether the load is beyond the budget (R194). -/
def State.firBusy (s : State) (e : Nat) : Bool := decide (192000000 < s.macload e)

/-- STA of an engine. -/
def State.filSta (s : State) (e : Nat) : Word := putBit (s.rd (Reg.filSta e)) 4 (s.firBusy e)

/-! ### The record (R185-R191, R195) -/

/-- A window and the sample of its centre (R172, R177). -/
structure Window where
  span : Span
  centre : Nat
  deriving DecidableEq, Repr

/-- The window of an output of stage `k` centred at `c` (R172). -/
def mainWindow (k c : Nat) : Window := { span := { lo := c - halfWidth k, hi := c + halfWidth k + 1 }, centre := c }

/-- The window of an FIR output of bank `b` whose newest source output is centred at `n` (R177). -/
def State.firWindow (s : State) (g b n : Nat) : Window :=
  let e := s.firSpacing g
  let h := halfWidth (field (s.path g) 5 4)
  let t := s.ntap (g / 4) b
  { span := { lo := n - (t - 1) * e - h, hi := n + h + 1 }, centre := n - (t - 1 - s.fcent (g / 4) b) * e }

/-- The smallest span that holds two spans. -/
def Span.hull (a b : Span) : Span := { lo := min a.lo b.lo, hi := max a.hi b.hi }

/-- Outputs of a scan entry (NCONV). -/
def State.nconv (s : State) (g : Nat) : Nat := s.rf (Reg.cnvScanctl g) 8 8 + 1

/-- The slot's outputs flow: its converter and its engine run and the input is not settling (R147, R149, R446). -/
def State.slotOn (s : State) (g : Nat) : Bool :=
  s.cnvOn g && s.pageLive (Page.fil (g / 4)) && (s.cnv g).live.isSome &&
    (!s.cnvScan g || ((s.cnv g).scanning && decide ((s.cnv g).outs < s.nconv g)))

/-- The phases an output whose window opens at `lo` can depend on. -/
def prunePhases (lo : Nat) : List Nat → List Nat
  | s :: rest => if s ≤ lo then [s] else s :: prunePhases lo rest
  | [] => []

/-- An output with key sample `n` and window close `hi` is over: the next output's place, SEQ, the scan's count, and what no
later output depends on is let go (R148, R150, R173, R188). -/
def State.afterOutput (s : State) (g n hi : Nat) : State :=
  let c := s.slot g
  let off := s.newestOff g
  let n' := n + s.outPeriod g
  let c := match c.realign with
    | m :: rest => if m + off ≤ n' then { c with next := m + off, realign := rest } else { c with next := n' }
    | [] => { c with next := n' }
  let lo := c.next - halfWidth (s.lastStage g) - (if s.firPath g then 383 * s.firSpacing g else 0)
  let s := s.setSlot g { c with first := false, seq := (c.seq + 1) % 2 ^ 24, phases := prunePhases lo c.phases
                                hist := c.hist.take ((s.cnv g).fed - lo) }
  s.setCnv g { s.cnv g with outs := (s.cnv g).outs + b2n (s.cnvScan g), endTick := 2 * hi }

/-- The window of an output closes in this FAB cycle or has closed: at the instant of its sample `hi` (R150, R172). -/
def closed (s : State) (g hi : Nat) : Bool := decide (sampleInstant g hi < 256 * (s.time.fab + 1))

/-- No higher slot of the engine has delivered in this FAB cycle: outputs of one cycle enter in ascending slot order (R168). -/
def State.mayEnter (s : State) (g : Nat) : Bool :=
  let x := Sparse.get (fun _ => 0) s.entered (g / 4)
  decide (x ≤ 4 * s.time.fab + g % 4 + 1)

/-- An output of converter `g` leaves the engine: its flags, then suppression under SETSUP or delivery (R158, R187-R195). -/
def State.emit (s : State) (g : Nat) (w : Window) (y : Entry) : State :=
  let e := g / 4
  let k := g % 4
  let c := s.cnv g
  let t := holdsAt (c.tag, c.input) w.centre c.tags
  let hit := fun (l : List Span) => l.any (fun sp => sp.meets w.span)
  let settle := hit c.changes
  let cap := ((s.slot g).caps.find? (fun x => x.sample == w.centre)).getD { sample := w.centre, stamp := 0, wpos := 0 }
  let seq := (s.slot g).seq
  let ring := (s.slot g).ring
  let w0 := natOf y.v 32 * 2 ^ 32 + t.1 * 2 ^ 29 + b2n (hit c.trans) * 2 ^ 28 + b2n settle * 2 ^ 27
    + b2n (hit c.ovrs || y.sat) * 2 ^ 26 + t.2 * 2 ^ 24 + seq
  let w1 := cap.stamp * 2 ^ 32 + cap.wpos
  if settle && bitOf (s.cctlCnv g) 6 then s.bump (Reg.cnvSupcnt g)
  else
    let s := s.writeWords (Store.filter e) (ringWord k ring) [BitVec.ofNat 64 w0, BitVec.ofNat 64 w1]
    let s := s.writeWords (Store.filter e) (newWord k t.2) [BitVec.ofNat 64 w0, BitVec.ofNat 64 w1]
    let s := s.wr (Reg.filHead e k) (w32 (ring + seq * 256))
    let s := s.setSlot g { s.slot g with ring := (ring + 1) % 256 }
    { s.event (Page.fil e) k with entered := Sparse.set (fun _ => 0) s.entered e (4 * s.time.fab + k + 1) }

/-- The window of the next main-path output (R172, R173). -/
def State.nextMain (s : State) (g : Nat) : Window := mainWindow (s.lastStage g) (s.slot g).next

/-- The next main-path output is due: its window has closed (R169-R173). -/
def State.mainDue (s : State) (g : Nat) : Bool := s.slotOn g && !s.firPath g && closed s g (s.nextMain g).span.hi

/-- The next main-path output, over the samples of its window, `xs` those not yet told (R169-R174). -/
def State.mainOutput (s : State) (g : Nat) (xs : List Sample) : State :=
  let w := s.nextMain g
  if !s.mainDue g then s
  else
    let s := s.feedTo g w.span.hi xs
    let y := stageEntry (s.sampleAt g) (s.slot g).phases (s.lastStage g) w.centre
    (s.emit g w y).afterOutput g w.centre w.span.hi

/-! ### The FIR path (R176-R178, R181-R183, R194) -/

/-- Source output with nominal instant `n` of an FIR output centred at `c` (R174, R178). -/
def State.sourceEntry (s : State) (g c n : Nat) : Entry :=
  let ph := (s.slot g).phases
  stageEntry (s.sampleAt g) ph (s.lastStage g) (tapInstant (s.firSpacing g) (phasesFor ph c) n)

/-- One FIR result (R176): round(Σ × 2^(FGAIN − 23)), held to ±(2^31 − 1). -/
def firResult (sum : Int) (gain : Nat) : Entry := saturated (roundDiv sum (2 ^ (23 - gain)))

/-- The result of bank `b` for the output whose newest source output is centred at `n` (R176). Where source outputs before
the restart would be needed, as a fade to a longer bank can find, or a word of the bank is poison, a free value (R183,
assumption 8). -/
def State.firBank (s : State) (g b n : Nat) : Entry × State :=
  let e := g / 4
  let w := s.firWindow g b n
  let t := s.ntap e b
  let r := s.readWords (Store.filter e) (coefWord b 0) (ceilDiv (3 * t) 8)
  let oldest := (t - 1) * s.firSpacing g
  if r.1.all (·.isSome) && decide ((s.slot g).restart + halfWidth (s.lastStage g) + oldest ≤ n) then
    let ws := r.1.map (·.getD 0)
    let xs := (List.range t).map (fun j => s.sourceEntry g w.centre (n - oldest + j * s.firSpacing g))
    let sum := ((List.range t).zip xs).foldl (fun a jx => a + coefOf ws jx.1 * jx.2.v) 0
    let y := firResult sum (s.fgain e b)
    ({ y with sat := y.own || xs.any (·.sat) }, r.2)
  else ({ v := (r.2.free 32).1.toInt, own := false, sat := false }, (r.2.free 32).2)

/-- The cross-fade's mix (R181). -/
def fadeMix (n i : Nat) (yo yn : Int) : Int :=
  ((2 ^ n - (i + 1) : Nat) * yo + (i + 1 : Nat) * yn + (if n = 0 then 0 else 2 ^ (n - 1))) / (2 ^ n : Nat)

/-- The fade's next step; its last output ends it (R181). -/
def State.fadeStep (s : State) (g : Nat) : State :=
  let c := s.slot g
  match c.fade with
  | none => s
  | some f =>
    if f.i + 1 = 2 ^ f.n then
      ((s.setSlot g { c with fade := none }).setb (Reg.filSta (g / 4)) (g % 4) false).raise (Page.fil (g / 4)) 3
    else s.setSlot g { c with fade := some { f with i := f.i + 1 } }

/-- The last output of a fade is pure in the new bank (R181). -/
def FadeSt.last (f : FadeSt) : Bool := f.i + 1 == 2 ^ f.n

/-- The window of the next FIR output (R177, R182). -/
def State.nextFir (s : State) (g : Nat) : Window :=
  let n := (s.slot g).next
  let wn := s.firWindow g (s.fbank g) n
  match (s.slot g).fade with
  | none => wn
  | some f =>
    let wo := s.firWindow g f.oldBank n
    if f.last then wn else { span := wn.span.hull wo.span, centre := if f.newCentre then wn.centre else wo.centre }

/-- The value of the next FIR output, a cross-fade's mix while one runs, and its saturated results (R176, R181). -/
def State.firValue (s : State) (g : Nat) : (Entry × Nat) × State :=
  let n := (s.slot g).next
  let new := s.firBank g (s.fbank g) n
  match (s.slot g).fade with
  | none => ((new.1, b2n new.1.own), new.2)
  | some f =>
    if f.last then ((new.1, b2n new.1.own), new.2)
    else
      let old := new.2.firBank g f.oldBank n
      (({ v := fadeMix f.n f.i old.1.v new.1.v, own := false, sat := old.1.sat || new.1.sat },
        b2n old.1.own + b2n new.1.own), old.2)

/-- The next FIR output is due: its window has closed (R177, R178). -/
def State.firDue (s : State) (g : Nat) : Bool := s.slotOn g && s.firPath g && closed s g (s.nextFir g).span.hi

/-- The FIR output after the next has fallen due: one not complete by then is dropped (R194). -/
def State.firLate (s : State) (g : Nat) : Bool := closed s g ((s.nextFir g).span.hi + s.outPeriod g)

/-- The next FIR output is dropped (R194). -/
def State.dropFir (s : State) (g : Nat) : State :=
  let w := s.nextFir g
  let n := (s.slot g).next
  (((s.bump (Reg.filDropcnt (g / 4))).raise (Page.fil (g / 4)) 4).fadeStep g).afterOutput g n w.span.hi

/-- The next FIR or cross-fade output is delivered, or dropped where it is too late (R176-R178, R181, R182, R194); `xs` are
the samples of its window not yet told. -/
def State.firOutput (s : State) (g : Nat) (xs : List Sample) : State :=
  let w := s.nextFir g
  let n := (s.slot g).next
  if !s.firDue g then s
  else
    let s := s.feedTo g w.span.hi xs
    if s.firLate g then s.dropFir g
    else
      let r := s.firValue g
      let s := r.2
      let s := s.countSat g r.1.2
      ((s.emit g w r.1.1).fadeStep g).afterOutput g n w.span.hi

/-- A FIR output not complete before the next falls due is dropped (R194). -/
def State.firDrop (s : State) (g : Nat) (xs : List Sample) : State :=
  if s.firDue g && s.firLate g then (s.feedTo g (s.nextFir g).span.hi xs).dropFir g else s

/-- Outputs whose windows have closed leave before a change of the slot's settings (R181, R193). -/
def State.flushDue (s : State) (g : Nat) : State :=
  s.onlyIf (s.slotOn g) (fun s =>
    (List.range (s.taken g / 8 + 2 - (s.slot g).next / 8)).foldl (fun s _ => (s.mainOutput g []).firOutput g []) s)

/-! ### Register writes (R180, R181, R183, R193) -/

/-- A PATH value under R8 and R9: a reserved RATE or FSRC keeps the old one, FADE is held to 10. -/
def mixPath (old v : Word) : Word :=
  let v := v &&& 0xFFFFFF
  let v := if field v 1 4 < 2 || 10 < field v 1 4 then putField v 1 4 (field old 1 4) else v
  let v := if 10 < field v 5 4 then putField v 5 4 (field old 5 4) else v
  putField v 10 4 (min 10 (field v 10 4))

/-- The slots of engine `e` whose converters deliver samples restart at the next sample (R448, assumption 27). -/
def State.restartEngine (s : State) (e : Nat) : State :=
  (List.range 4).foldl (fun s k =>
    let g := 4 * e + k
    s.onlyIf (s.cnv g).live.isSome (fun s => s.restartFilter g (firstSample g s.time.fab))) s

/-- A PATH write (R181, R183, R193). -/
def State.writePath (s : State) (g : Nat) (v : Word) : State :=
  let e := g / 4
  let old := s.path g
  let v := mixPath old v
  let b := field v 9 1
  if bitOf v 0 && decide (s.ntap e b - 1 < s.fcent e b) then s.raise (Page.fil e) 2
  else if (s.slot g).fade.isSome && b != field old 9 1 then s.raise (Page.fil e) 1
  else
    let s := (s.flushDue g).wr (Reg.filPath e (g % 4)) v
    if field old 0 9 != field v 0 9 || field old 16 8 != field v 16 8 then
      let s := s.bump (Reg.filRestcnt e)
      if (s.cnv g).live.isSome then s.restartFilter g (firstSample g s.time.fab)
      else (s.setSlot g { s.slot g with fade := none }).setb (Reg.filSta e) (g % 4) false
    else if bitOf v 0 && b != field old 9 1 then
      let s := s.setSlot g { s.slot g with fade := some { oldBank := field old 9 1, i := 0, n := field v 10 4 } }
      s.setb (Reg.filSta e) (g % 4) true
    else s

/-- The engine and the bank whose coefficient or bank register lies at an address (R179). -/
def bankOf (addr : Nat) : Nat × Nat :=
  let p := addr / 1024
  if p < 0x50 then (p - 0x4A, if addr % 1024 = 0x054 then 1 else 0)
  else ((p - 0x50) / 3, (coefPlace ((p - 0x50) % 3) (addr % 1024)).1)

/-- A value of BANKA or BANKB: NTAP is held to the 384 coefficients of a bank (R9, R179, R197). -/
def fitBank (v : Word) : Word := putField (v &&& 0x1FFFFF) 0 9 (min 383 (field v 0 9))

/-- A write to BANKA, BANKB or a coefficient register (R180). -/
def State.writeBank (s : State) (addr : Nat) (v : Word) : State :=
  let b := bankOf addr
  if s.bankUsed b.1 b.2 then s.raise (Page.fil b.1) 0
  else if addr / 1024 < 0x50 then s.wr addr (fitBank v)
  else s.writeCoef b.1 b.2 (coefPlace ((addr / 1024 - 0x50) % 3) (addr % 1024)).2 v

/-! ### Reads (R196) -/

/-- The four words of a record in the engine's memory, poison as all ones (R455). -/
def State.recordWords (s : State) (e i : Nat) : List Word × State :=
  let r := s.readWords (Store.filter e) i 2
  (r.1.flatMap (fun d => let x := (d.getD (BitVec.allOnes 64)).toNat; [lo32 x, hi32 x]), r.2)

/-- The record at RRSEL. -/
def State.ringSelected (s : State) (e : Nat) : Nat :=
  ringWord (s.rf (Reg.filRrsel e) 0 2) (s.rf (Reg.filRrsel e) 2 8)

end Sys2Proof.Machine
end

