-- ==== Sys2Proof/Machine/Converters.lean ====
section
/-! DEFINITION. The analog front end: multiplexer, scans, register writes of the converters, references and excitation (04
R129-R165). -/

namespace Sys2Proof.Machine

/-! ### The multiplexer and scans (R146-R152) -/

/-- A multiplexer switch to an input at an ANA tick (R147). -/
def State.muxSwitch (s : State) (g i tick : Nat) : State :=
  let c := s.cnv g
  s.setCnv g { c with
    input := i, live := none, pend := none, blank := none, held := none, afterProbe := false, dn := 0, probeEnd := none
    settleEnd := some (tick + s.rf (Reg.cnvMuxset g) 0 16)
    tags := addHist (s.taken g) (ceilDiv tick 2) (c.tag, i) c.tags }

/-- Entry `e` of a scan begins at an ANA tick (R150). -/
def State.scanEntry (s : State) (g e tick : Nat) : State :=
  let s := s.muxSwitch g (s.rf (Reg.cnvScanl g) (2 * e) 2) tick
  s.setCnv g { s.cnv g with scanning := true, entry := e, outs := 0 }

/-- A scan trigger is acted on, or ignored during a scan (R149). -/
def State.scanTrigger (s : State) (g : Nat) : State :=
  let c := s.cnv g
  if c.trigAt = some s.time.fab then s
  else if c.scanning then (s.bump (Reg.cnvSyncbusy g)).raise (Page.cnv g) 4
  else
    let s := (s.bump (Reg.cnvSynccnt g)).scanEntry g 0 s.anaNext
    s.setCnv g { s.cnv g with trigAt := some s.time.fab }

/-- What a CSYNC does to the converter as it is configured (R148, R149). -/
def State.syncAct (s : State) (g : Nat) : State :=
  if !s.cnvOn g then s
  else if s.cnvScan g then s.onlyIf (s.cnvTrig g == 1) (·.scanTrigger g)
  else (s.bump (Reg.cnvSynccnt g)).realign g (firstSample g s.time.fab)

/-- A CSYNC landing, or the CSYNC leat task: one act in a FAB cycle (R148, R149, R152). -/
def State.csync (s : State) (g : Nat) : State :=
  let c := s.cnv g
  if c.sync.any (fun y => y.at_ == s.time.fab) then s
  else
    (s.setCnv g { c with sync := some { at_ := s.time.fab, cnt := s.rd (Reg.cnvSynccnt g), busy := s.rd (Reg.cnvSyncbusy g)
                                        raw := s.rb (Reg.hdrIraw (Page.cnv g)) 4, trig := c.trigAt } }).syncAct g

/-- A write that changes MODE, INSEL or EN takes effect before a CSYNC of its FAB cycle: what the CSYNC did to the old
configuration is undone, and it acts on the new one (R152). -/
def State.resync (s : State) (g : Nat) : State :=
  match (s.cnv g).sync with
  | none => s
  | some y =>
    if y.at_ ≠ s.time.fab then s
    else
      let s := (s.wr (Reg.cnvSynccnt g) y.cnt).wr (Reg.cnvSyncbusy g) y.busy
      let s := s.setb (Reg.hdrIraw (Page.cnv g)) 4 y.raw
      (s.setCnv g { s.cnv g with trigAt := y.trig }).syncAct g

/-- SCANGO, or the scan-start task (R149): `task` tells the task of TRIG = 2 from the write. -/
def State.scanGo (s : State) (g : Nat) (task : Bool) : State :=
  s.onlyIf (s.cnvOn g && s.cnvScan g && (!task || s.cnvTrig g == 2)) (·.scanTrigger g)

/-! ### Settling, probe and blanking (R143, R147, R150, R151) -/

/-- Blanking ends; after a probe the filter restarts (R143, R150). -/
def State.blankEnd (s : State) (g : Nat) : State :=
  let c := s.cnv g
  match c.blank with
  | none => s
  | some sp =>
    if s.taken g < sp.hi then s
    else
      let s := s.setCnv g { c with blank := none, afterProbe := false }
      s.onlyIf c.afterProbe (·.goLive g sp.hi)

/-- The settling window closes: the filter restarts, or the probe opens (R147, R150). -/
def State.settleEnd (s : State) (g : Nat) : State :=
  let c := s.cnv g
  match c.settleEnd with
  | none => s
  | some t =>
    if s.ana < t then s
    else
      let s := s.setCnv g { c with settleEnd := none }
      if !s.cnvScan g then s.goLive g (ceilDiv t 2)
      else if !c.scanning then s
      else if s.rb (Reg.cnvScanctl g) 16 then
        let s := s.setTag g (ceilDiv t 2) (s.rngLo g)
        s.setCnv g { s.cnv g with probeEnd := some (t + 64) }
      else
        (s.setTag g (ceilDiv t 2) (clampNat (s.rngLo g) (s.rngHi g) (c.lastOf c.input))).goLive g (ceilDiv t 2)

/-- The probed tag (R151): `sum` is the magnitude of the sum of the 32 normalised probe samples. -/
def State.probedTag (s : State) (g : Nat) (ovl : Bool) (sum : Nat) : Nat :=
  let lo := s.rngLo g
  if ovl then lo
  else (largestTag lo (fun u => decide (4 ^ u * (20 * sum * 4 ^ lo + 10 * 2 ^ 31) < 576 * 2 ^ 31 * 4 ^ lo))
    (s.rngHi g + 1)).getD lo

/-- The probe closes, and the PGA switches to the probed tag (R150, R151); its overloaded samples count (R137). -/
def State.probeEnd (s : State) (g : Nat) (xs : List Sample) : State :=
  let c := s.cnv g
  match c.probeEnd with
  | none => s
  | some t =>
    if s.ana < t then s
    else
      let m := ceilDiv t 2
      let ms := xs.mapIdx (fun i x => (m - 32 + i, x))
      let overs := ms.filter (fun p => c.overloaded p.1 p.2)
      let sum := (ms.map (fun p => s.sampleValue g p.1 p.2)).foldl (· + ·) 0
      let s := (s.countOver g overs.length).switchRange g (s.probedTag g (!overs.isEmpty) sum.natAbs) m
      s.setCnv g { s.cnv g with probeEnd := none, afterProbe := true }

/-- A scan entry has delivered its outputs: at the tick at which the last one's window closed the next begins, or the scan
ends; a free-running scan starts again at the tick after (R149, R150). -/
def State.scanEntryEnd (s : State) (g : Nat) : State :=
  let c := s.cnv g
  if !s.cnvOn g || !c.scanning || decide (c.outs < s.nconv g) then s
  else if c.entry < s.rf (Reg.cnvScanctl g) 0 3 then s.scanEntry g (c.entry + 1) c.endTick
  else
    let s := s.setCnv g { c with scanning := false, outs := 0, live := none }
    let s := (s.raise (Page.cnv g) 5).event (Page.cnv g) 2
    s.onlyIf (s.cnvTrig g == 0) (·.scanEntry g 0 (c.endTick + 1))

/-! ### Register writes of a converter -/

/-- The negation of CHOPNEG from a sample on follows channel CHOPCH (R159). -/
def State.chanOn (s : State) : Bool := s.rb Reg.excXctl 0 && !s.rb Reg.excXsta 24
def State.chanPreset (s : State) (k : Nat) : Word := s.rd (Reg.excExcp (s.rf (Reg.excChsel k) 0 4))
def State.negOf (s : State) (g : Nat) : Bool :=
  let c := s.cctlCnv g
  bitOf c 7 && s.chanOn && bitOf (s.chanPreset (field c 8 3)) 2
def State.chop (s : State) (g : Nat) : State :=
  let c := s.cnv g
  let m := firstSample g s.time.fab
  if holdsAt false m c.negs = s.negOf g then s
  else s.setCnv g { c with negs := addHist (s.taken g) m (s.negOf g) c.negs }

/-- A converter stops: CCTL.EN is 0. -/
def State.stopCnv (s : State) (g : Nat) : State :=
  s.setCnv g { s.cnv g with scanning := false, outs := 0, pend := none, blank := none, held := none,
                            afterProbe := false, dn := 0, settleEnd := none, probeEnd := none, live := none }

/-- REFLOW's marking of samples begins or ends at the next sample (R134). -/
def State.markLow (s : State) (g : Nat) (on : Bool) : State :=
  let s := s.setb (Reg.cnvSta g) 14 on
  let c := s.cnv g
  s.setCnv g { c with lows := addHist (s.taken g) (firstSample g s.time.fab) on c.lows }

/-- A CCTL write takes effect: outputs whose windows have closed leave first, and a switched multiplexer settles (R132,
R146, R147, R149). -/
def State.setCctl (s : State) (g : Nat) (v : Word) : State :=
  let old := s.cctlCnv g
  let moved := bitOf old 0 != bitOf v 0 || bitOf old 1 != bitOf v 1
  let s := s.onlyIf moved (·.flushDue g)
  let s := (s.wr (Reg.cnvCctl g) v).chop g
  let s := s.onlyIf (field v 4 2 == 0 && s.rb (Reg.cnvSta g) 14) (·.markLow g false)
  let s :=
    if !bitOf v 0 then s.stopCnv g
    else
      let i := if bitOf v 1 then (s.cnv g).input else s.rf (Reg.cnvInsel g) 0 2
      let s := s.onlyIf moved (fun s => (s.stopCnv g).muxSwitch g i s.anaNext)
      s.onlyIf (bitOf v 1 && field v 2 2 == 0 && !(s.cnv g).scanning) (fun s => s.scanEntry g 0 s.anaNext)
  s.onlyIf moved (·.resync g)

/-- A CCTL write: a reserved TRIG keeps the old one (R8, R149). -/
def State.writeCctl (s : State) (g : Nat) (v : Word) : State :=
  let v := v &&& 0x7FF
  s.setCctl g (if field v 2 2 = 3 then putField v 2 2 (field (s.cctlCnv g) 2 2) else v)

/-- An INSEL write (R147, R152). -/
def State.writeInsel (s : State) (g : Nat) (v : Word) : State :=
  let i := field v 0 2
  let moved := s.cnvOn g && !s.cnvScan g && (s.cnv g).input != i
  let s := s.onlyIf moved (·.flushDue g)
  let s := s.wr (Reg.cnvInsel g) (v &&& 3)
  s.onlyIf moved (fun s => (s.muxSwitch g i s.anaNext).resync g)

/-- The modes of the four inputs, a reserved one keeping the old value (R8, R130). -/
def mixModes (old v : Word) : Nat → Word
  | 0 => 0
  | i + 1 =>
    let m := field v (4 * i) 4
    putField (mixModes old v i) (4 * i) 4 (if m % 8 < 4 then m % 8 else field old (4 * i) 4)

/-- An IMODE write: a changed mode of the input selected is a multiplexer switch at the next modulator sample (R130,
R131). -/
def State.writeImode (s : State) (g : Nat) (v : Word) : State :=
  let old := s.rd (Reg.cnvImode g)
  let v := mixModes old v 4
  let i := (s.cnv g).input
  let moved := s.cnvOn g && field old (4 * i) 3 != field v (4 * i) 3 && (!s.cnvScan g || (s.cnv g).scanning)
  let s := s.onlyIf moved (·.flushDue g)
  let s := s.wr (Reg.cnvImode g) v
  s.onlyIf moved (fun s => s.muxSwitch g i (2 * firstSample g s.time.fab))

/-- A RNG write (R142). -/
def State.writeRng (s : State) (g : Nat) (v : Word) : State :=
  let fix := field v 1 3
  let lo := field v 4 3
  let hi := field v 8 3
  if lo ≤ fix && fix ≤ hi && hi ≤ 4 then
    let v := v &&& 0xFFFF077F
    let v := if field v 16 16 = 0 then putField v 16 16 1 else v
    let moved := field v 0 11 != s.rf (Reg.cnvRng g) 0 11
    let s := s.wr (Reg.cnvRng g) v
    s.onlyIf moved (fun s => s.setCnv g { s.cnv g with rngPend := true })
  else (s.setb (Reg.cnvSta g) 16 true).raise (Page.cnv g) 6

/-- A trim write: it counts from the next sample on, a transition if its tag is in effect (R138). -/
def State.writeTrim (s : State) (g t : Nat) (off : Bool) (v : Word) : State :=
  let a := if off then Reg.cnvOtrim g t else Reg.cnvGtrim g t
  let m := firstSample g s.time.fab
  let c := s.cnv g
  let trims := { upTo := m, tag := t, off := off, value := sfield (s.rd a) 0 24 } :: c.trims
  let trans := if c.tag = t then addSpan (s.taken g) { lo := m, hi := m + 1 } c.trans else c.trans
  (s.wr a (v &&& 0xFFFFFF)).setCnv g { c with trims := trims, trans := trans }

/-- The reference falls below 0.45 V (R134). -/
def State.refLow (s : State) (g : Nat) : State :=
  s.onlyIf (s.rf (Reg.cnvCctl g) 4 2 != 0 && !s.rb (Reg.cnvSta g) 14) (fun s => (s.markLow g true).raise (Page.cnv g) 3)

/-- The reference has been at 0.5 V or above for 64 samples (R134). -/
def State.refGood (s : State) (g : Nat) : State := s.onlyIf (s.rb (Reg.cnvSta g) 14) (·.markLow g false)

/-- The open-sensor comparator sets or clears OPEN of an input whose burnout is on (R165). -/
def State.openSensor (s : State) (g i : Nat) (isOpen : Bool) : State :=
  if s.rf (Reg.cnvBurn g) (2 * i) 2 = 0 || s.rb (Reg.cnvSta g) (10 + i) == isOpen then s
  else
    let s := s.setb (Reg.cnvSta g) (10 + i) isOpen
    s.onlyIf isOpen (·.raise (Page.cnv g) 2)

/-- A change interval of `n` samples opens on a converter (R156). -/
def State.openChange (s : State) (g n : Nat) : State :=
  let c := s.cnv g
  let l := firstSample g s.time.fab
  s.setCnv g { c with changes := addSpan (s.taken g) { lo := l, hi := l + max 1 n } c.changes }

/-- A burnout write (R156, R164, R165). -/
def State.writeBurn (s : State) (g : Nat) (v : Word) : State :=
  let old := s.rd (Reg.cnvBurn g)
  let s := s.wr (Reg.cnvBurn g) (v &&& 0xFF)
  let s := s.onlyIf (field old 0 8 != field v 0 8) (·.openChange g 256)
  (List.range 4).foldl (fun s i => s.onlyIf (field v (2 * i) 2 == 0) (·.setb (Reg.cnvSta g) (10 + i) false)) s

/-- STA of a converter (04, CNV pages). -/
def State.cnvSta (s : State) (g : Nat) : Word :=
  let c := s.cnv g
  s.rd (Reg.cnvSta g) ||| w32 (c.tag + c.input * 16 + b2n c.blank.isSome * 64 + b2n c.scanning * 128
    + b2n c.settleEnd.isSome * 256 + b2n c.probeEnd.isSome * 512)

/-- LASTR of a converter. -/
def State.cnvLastr (s : State) (g : Nat) : Word :=
  let c := s.cnv g
  w32 (c.lastOf 0 + c.lastOf 1 * 16 + c.lastOf 2 * 256 + c.lastOf 3 * 4096)

/-! ### Excitation (R153-R163) -/

/-- An excitation change on channel `k`: its change intervals, the chopping, the count (R154, R156, R159). -/
def State.excChange (s : State) (k : Nat) : State :=
  let s := s.bump Reg.excChgcnt
  let convs := s.rf (Reg.excXconv k) 0 8
  let n := s.rf (Reg.excXset k) 0 16
  (List.range 8).foldl (fun s g => (s.onlyIf (convs.testBit g) (·.openChange g n)).chop g) s

/-- MODE of the preset a channel applies; 0 (OFF) while every channel is held OFF (R153, R163). -/
def State.excMode (s : State) (k : Nat) : Nat := if s.chanOn then field (s.chanPreset k) 0 2 else 0

/-- What an excitation channel drives (R153, R160): high impedance; a current in 0.125 µA, sourced or sunk; a voltage in
5 V / 16,384. -/
inductive Drive where
  | off
  | current (sink : Bool) (mag : Nat)
  | voltage (level : Nat)
  deriving DecidableEq, Repr

/-- The output of channel `k`: a CURRENT magnitude above IMAX drives IMAX (R153, R160). -/
def State.excOut (s : State) (k : Nat) : Drive :=
  let p := s.chanPreset k
  let mag := field p 4 14
  match s.excMode k with
  | 1 => .current (bitOf p 2) (min mag (s.rf (Reg.excXlim k) 0 14))
  | 2 => .voltage (if bitOf p 2 then 16384 - mag else mag)
  | _ => .off

/-- The channel drives what its preset says: the clamp to IMAX, and the conditions of a mode it has left (R160, R161). -/
def State.drive (s : State) (k : Nat) : State :=
  let clamped := match s.excOut k with
    | .current _ mag => mag != field (s.chanPreset k) 4 14
    | _ => false
  let s := s.onlyIf (s.excMode k != 1) (·.setb Reg.excXsta (8 + k) false)
  let s := s.onlyIf (s.excMode k != 2) (·.setb Reg.excXsta (16 + k) false)
  s.onlyIf clamped (fun s => (s.setb Reg.excXsta k true).raise Page.exc 0)

/-- A channel is driven anew, an excitation change (R154). -/
def State.applyPreset (s : State) (k : Nat) : State := s.onlyIf s.chanOn (fun s => (s.drive k).excChange k)

/-- A CHSEL write (R154, R163). -/
def State.writeChsel (s : State) (k : Nat) (v : Word) : State :=
  { (s.wr (Reg.excChsel k) (v &&& 0xF)).applyPreset k with
    chselWr := Sparse.set (fun _ => 0) s.chselWr k (s.time.fab + 1) }

/-- Channel `k` drives anew with no change counted: it belongs to one counted already (R155). -/
def State.redrive (s : State) (k : Nat) : State :=
  s.onlyIf s.chanOn (fun s => (List.range 8).foldl (fun s g => s.chop g) (s.drive k))

/-- An EXCSW landing (R154, R155): occurrences of one FAB cycle on one channel are one change, and a CHSEL write of that
cycle is applied last. -/
def State.excLanding (s : State) (k p : Nat) : State :=
  let again := Sparse.get (fun _ => 0) s.exc k == s.time.fab + 1
  let written := s.rd (Reg.excChsel k)
  let s := s.wr (Reg.excChsel k) (w32 (p % 16))
  let s := if again then s.redrive k
           else { s.applyPreset k with exc := Sparse.set (fun _ => 0) s.exc k (s.time.fab + 1) }
  s.onlyIf (Sparse.get (fun _ => 0) s.chselWr k == s.time.fab + 1) (fun s => (s.wr (Reg.excChsel k) written).redrive k)

/-- A preset with the spans of R153: a reserved MODE keeps the old one. -/
def mixPreset (old v : Word) : Word :=
  let v := v &&& 0x3FFFF
  let v := if field v 0 2 = 3 then putField v 0 2 (field old 0 2) else v
  if field v 0 2 = 1 then putField v 4 14 (clampNat 8 16000 (field v 4 14)) else v

/-- A preset write (R154). -/
def State.writeExcp (s : State) (p : Nat) (v : Word) : State :=
  let s := s.wr (Reg.excExcp p) (mixPreset (s.rd (Reg.excExcp p)) v)
  (List.range 8).foldl (fun s k => s.onlyIf (s.rf (Reg.excChsel k) 0 4 == p) (·.applyPreset k)) s

/-- An XCTL write: a change of EN is an excitation change on every channel. -/
def State.writeXctl (s : State) (v : Word) : State :=
  if s.rb Reg.excXctl 0 == bitOf v 0 then s
  else
    let s := s.setb Reg.excXctl 0 (bitOf v 0)
    (List.range 8).foldl (fun s k => (s.drive k).excChange k) s

/-- Every channel goes OFF on analog over-temperature or VDDA undervoltage (R163). -/
def State.excOff (s : State) : State :=
  if s.rb Reg.excXsta 24 then s
  else
    let s := (s.setb Reg.excXsta 24 true).raise Page.exc 3
    let s := (List.range 8).foldl (fun s k => s.drive k) s
    (List.range 8).foldl (fun s g => s.chop g) s

/-- The rearm of the excitation, ignored while the cause persists (R163). -/
def State.excRearm (s : State) : State :=
  if !s.rb Reg.excXsta 24 || s.mon.aot || s.mon.vddaFault then s
  else
    let s := s.setb Reg.excXsta 24 false
    (List.range 8).foldl (fun s k => (s.drive k).excChange k) s

/-- A channel leaves or regains its compliance span (R161): `b` 8 COMPL in mode 1, 16 ILIMIT in mode 2 (R160). -/
def State.excFlag (s : State) (k b : Nat) (on : Bool) : State :=
  let mode := if b = 8 then 1 else 2
  if on then
    s.onlyIf (s.excMode k == mode && !s.rb Reg.excXsta (b + k))
      (fun s => (s.setb Reg.excXsta (b + k) true).raise Page.exc mode)
  else s.setb Reg.excXsta (b + k) false

/-- The limits of a channel (R160): ILIM 1-30. -/
def clampXlim (v : Word) : Word := putField (v &&& 0x1F3FFF) 16 5 (clampNat 1 30 (field v 16 5))

end Sys2Proof.Machine
end

