-- ==== Sys2Proof/Machine/Weirs.lean ====
section
/-! DEFINITION. Weirs and their proof tests, the pulse channels and the sluice (06 R198-R228, R559). -/

namespace Sys2Proof.Machine

/-! ### The sluice: sources and trips (R221-R226) -/

/-- Registers of weir `w` of the part. -/
def State.wcfg (s : State) (w : Nat) : Word := s.rd (Reg.weirWcfg (w / 8) (w % 8))
def State.wlo (s : State) (w : Nat) : Int := sfield (s.rd (Reg.weirWthr (w / 8) (w % 8))) 0 12
def State.whi (s : State) (w : Nat) : Int := sfield (s.rd (Reg.weirWthr (w / 8) (w % 8))) 16 12
def State.whys (s : State) (w : Nat) : Int := s.rf (Reg.weirWhys (w / 8) (w % 8)) 0 8

/-- In HIBERNATE only the SAMPLED weir of HIBSEL runs (R207). -/
def State.weirPowered (s : State) (w : Nat) : Bool :=
  s.pwr.state != .hibernate ||
    (s.rb (Reg.weirHibsel 0) 4 && s.rf (Reg.weirHibsel 0) 0 4 == w && field (s.wcfg w) 10 2 == 3)

/-- The trip signal of a weir (R203). -/
def State.weirTrip (s : State) (w : Nat) : Bool :=
  let st := (s.weir w).st
  st != 0 && bitOf (s.wcfg w) (12 + (st - 1)) && s.pwr.state != .hibernate

/-- TRIP ball `b` is at its active level, after its filter (R227). -/
def State.tripBallOn (s : State) (b : Nat) : Bool := s.tripBall.testBit b != s.rb Reg.tripTincfg b

/-- The asserted sources, bit k for code k (R221). -/
def State.sources (s : State) : Nat :=
  ((List.range 16).map (fun w => b2n (s.weirTrip w) * 2 ^ w)).foldl (· + ·) 0
    + b2n (s.tripBallOn 0) * 2 ^ 16 + b2n (s.tripBallOn 1) * 2 ^ 17 + b2n (s.rb Reg.monTsta 24) * 2 ^ 18

def State.tripped (s : State) (n : Nat) : Bool := s.rb Reg.tripTripped n

/-- SAFE of a channel drives its ball to the active level (R222). -/
def State.safeActive (s : State) (n : Nat) : Bool :=
  let c := s.rd (Reg.plsPcfg n)
  let safe := field c 2 2
  (safe == 1 && !bitOf c 1) || (safe == 0 && bitOf c 1)

/-- LIMCNT field `i` of a channel counts and its interrupt bit `b` is set; the unit fires its leat channel
(R215-R217, R224). -/
def State.limit (s : State) (ch i b : Nat) : State :=
  ((s.bumpSat (Reg.plsLimcnt ch) (8 * i) 8).raise Page.pls b).event Page.pls 0

/-- A channel becomes INACTIVE, and its off time starts (R214, R216). -/
def State.endPulse (s : State) (ch : Nat) : State :=
  let p := s.pulse ch
  if p.active then s.setPulse ch { p with active := false, inactSince := s.time.fab } else s

/-- What a PLS ball shows (R213, R222). -/
inductive BallLevel where
  | low
  | high
  | highZ
  deriving DecidableEq, Repr

/-- The ball of channel `n`: SAFE while it is tripped, else the level it showed at the end of the last FAB cycle in the
polarity of POL; unpowered in HIBERNATE (R213, R214, R219, R222). -/
def State.plsBall (s : State) (n : Nat) : BallLevel :=
  let c := s.rd (Reg.plsPcfg n)
  if s.pwr.state == .hibernate then .highZ
  else if s.tripped n then
    (match field c 2 2 with
     | 0 => .low
     | 1 => .high
     | _ => .highZ)
  else if (s.pulse n).ball != bitOf c 1 then .high else .low

/-- A deferred active edge is cancelled and counted (R216). -/
def State.cancelDeferred (s : State) (ch : Nat) : State :=
  let p := s.pulse ch
  if p.deferred then (s.setPulse ch { p with deferred := false }).limit ch 2 2 else s

/-- Channel `n` becomes tripped by source `code` (R222, R223); its ball leaves the logical level at once. -/
def State.trip (s : State) (n code seen : Nat) : State :=
  let s := s.setb Reg.tripTripped n true
  let s := s.wr (Reg.tripCause n) (w32 (code + seen * 32))
  let s := s.wr (Reg.tripCstmp n) s.stampNow
  let s := ((s.bump Reg.tripTripcnt).raise Page.trip 0).event Page.trip 0
  let s := (s.endPulse n).cancelDeferred n
  s.setPulse n { s.pulse n with inactSince := s.time.fab, ball := false, tripAt := some s.time.fab }

/-- Lowest set bit of a source set. -/
def lowestBit (m : Nat) : Nat := ((bitsBelow m 22).head?).getD 0

/-- The asserted sources `m` act on channel `n`: of several seen in the FAB cycle of the trip the lowest code is FIRST (R222,
R223). -/
def State.tripBy (s : State) (n m : Nat) : State :=
  let m := m &&& s.rf (Reg.tripTsrc n) 0 21
  if m = 0 then s
  else
    let s := s.setPulse n { s.pulse n with seen := (s.pulse n).seen ||| m }
    if !s.tripped n then s.trip n (lowestBit m) m
    else
      let s := s.orReg (Reg.tripCause n) (w32 (m * 32))
      s.onlyIf ((s.pulse n).tripAt == some s.time.fab)
        (fun s => s.setf (Reg.tripCause n) 0 5 (min (s.rf (Reg.tripCause n) 0 5) (lowestBit m)))

/-- Every channel against the asserted sources. -/
def State.checkTrips (s : State) : State :=
  let m := s.sources
  if m = 0 then s else (List.range 16).foldl (fun s n => s.tripBy n m) s

/-- An SW or LEAT event on the channels of a mask (R222). -/
def State.tripEvent (s : State) (code mask : Nat) : State :=
  (List.range 16).foldl (fun s n => s.onlyIf (mask.testBit n) (·.tripBy n (2 ^ code))) s

/-- A REARM write: each tripped channel of the mask is asked for at the end of the FAB cycle (R225, R226). -/
def State.rearm (s : State) (mask : Nat) : State :=
  (List.range 16).foldl (fun s n =>
    s.onlyIf (mask.testBit n && s.tripped n) (fun s => s.setPulse n { s.pulse n with rearm := true })) s

/-- The rearm asked for in this FAB cycle: refused if an enabled source was asserted or a trip event came in the cycle, or an
enabled weir is not VALID (R225, R226); safe acquisition refuses every one (R478). -/
def State.endRearm (s : State) (n : Nat) : State :=
  let p := s.pulse n
  let enabled := s.rf (Reg.tripTsrc n) 0 21
  let s := s.setPulse n { p with rearm := false, seen := 0 }
  if !p.rearm then s
  else if s.pwr.cfgdef || (s.sources ||| p.seen) &&& enabled != 0 ||
      (List.range 16).any (fun w => enabled.testBit w && (s.weir w).st == 0) then
    (s.bump Reg.tripRjcnt).raise Page.trip 1
  else
    let s := (s.setb Reg.tripTripped n false).raise Page.trip 2
    s.onlyIf (s.safeActive n) (fun s => s.setPulse n { s.pulse n with inactSince := s.time.fab })

/-- A TSRC write, or another that may assert a source for a channel. -/
def State.writeTrip (s : State) (addr : Nat) (v mask : Word) : State := (s.wr addr (v &&& mask)).checkTrips

/-- A TRIP ball has held a level through its filter of F units, 4 × F ns: two changes of the filtered level lie at least
that far apart (R227). -/
def State.setTripBall (s : State) (b : Nat) (level : Bool) : State :=
  let filter := s.rf Reg.tripTincfg (8 + 8 * b) 6
  if s.tripBall.testBit b == level || decide (5 * (s.time.fab - numAt s.tripSince b) < 8 * filter) then s
  else
    let other := s.tripBall &&& 2 ^ (1 - b)
    { s with tripBall := other ||| (b2n level * 2 ^ b), tripSince := setNum s.tripSince b s.time.fab }.checkTrips

/-- SRCNOW. -/
def State.srcnow (s : State) : Word := w32 s.sources

/-! ### Weirs (R198-R208) -/

/-- Direct comparison (R201). -/
def compareWeir (lo hi x : Int) : Nat := if x < lo then 1 else if hi ≤ x then 3 else 2

/-- The moves of R200. -/
def moveWeir (lo hi h : Int) (st : Nat) (x : Int) : Nat :=
  if st = 1 then (if hi ≤ x then 3 else if lo + h ≤ x then 2 else 1)
  else if st = 2 then (if hi ≤ x then 3 else if x < lo then 1 else 2)
  else if st = 3 then (if x < lo then 1 else if x < hi - h then 2 else 3)
  else 0

/-- A weir's state changes: its leat output on entry and its trip signal (R203). -/
def State.enterWeir (s : State) (w st : Nat) : State :=
  let x := s.weir w
  if x.st = st then s
  else
    let s := s.setWeir w { x with st := st }
    let s := s.onlyIf (st != 0 && s.pageEn (Page.weir (w / 8))) (·.pushEv (.wev w (st - 1)))
    s.checkTrips

/-- The input of a weir, in codes. -/
def State.setWeirX (s : State) (w : Nat) (x : Int) : State := s.setWeir w { s.weir w with x := x }

/-- The weir runs and is free to change state. -/
def State.weirFree (s : State) (w : Nat) : Bool :=
  let x := s.weir w
  s.weirPowered w && x.st != 0 && !x.hold && x.test.isNone

/-- The weir evaluates R200 on its input. -/
def State.evalWeir (s : State) (w : Nat) : State :=
  let x := s.weir w
  s.enterWeir w (moveWeir (s.wlo w) (s.whi w) (s.whys w) x.st x.x)

/-- An input crossing (R200): a SAMPLED weir waits for its tick (R206). -/
def State.crossWeir (s : State) (w : Nat) (x : Int) : State :=
  let s := s.setWeirX w x
  s.onlyIf (s.weirFree w && field (s.wcfg w) 10 2 != 3) (·.evalWeir w)

/-- The enable time ends: the first state by direct comparison (R201). -/
def State.validWeir (s : State) (w : Nat) (x : Int) : State :=
  let s := s.setWeirX w x
  s.onlyIf (s.weirPowered w && bitOf (s.wcfg w) 0 && (s.weir w).st == 0 && (s.weir w).test.isNone)
    (fun s => s.enterWeir w (compareWeir (s.wlo w) (s.whi w) x))

/-- The AON tick from which the last interval of 4 µs that is over began: every SAMPDIV + 1 ticks of 32,768 Hz (R206). -/
def State.sampleTick (s : State) : Nat :=
  let div := s.rf (Reg.weirSampdiv 0) 0 10 + 1
  (s.time.fab - usCycles 4) * 32 / 390625 / div * div

/-- A SAMPLED weir evaluates once, 4 µs after each sample tick (R206). -/
def State.sampleWeir (s : State) (w : Nat) (x : Int) : State :=
  let tick := s.sampleTick
  if !s.weirFree w || field (s.wcfg w) 10 2 != 3 || decide (s.time.fab < usCycles 4) ||
      (s.weir w).sampled.any (fun t => decide (tick ≤ t)) then s
  else (s.setWeir w { s.weir w with x := x, sampled := some tick }).evalWeir w

/-- A weir becomes not VALID (R201, R211). -/
def State.invalidWeir (s : State) (w : Nat) : State :=
  let s := s.enterWeir w 0
  let x := s.weir w
  s.setWeir w { x with hold := false, test := x.test.map (fun t => { t with aborted := true }) }

/-- The lock of a page (R446). -/
def State.locked (s : State) (page : Nat) : Bool := s.rb (Reg.hdrPgctl page) 2

/-- A refused weir write (R199). -/
def State.weirRefuse (s : State) (w : Nat) : State := s.raise (Page.weir (w / 8)) 24

/-- A WCFG write (R199, R201). -/
def State.writeWcfg (s : State) (w : Nat) (v : Word) : State :=
  let old := s.wcfg w
  let v := v &&& 0x7FFF
  if s.locked (Page.weir (w / 8)) then s
  else if 4 < field v 7 3 then s.weirRefuse w
  else
    let s := s.wr (Reg.weirWcfg (w / 8) (w % 8)) v
    (s.onlyIf (field old 0 12 != field v 0 12) (·.invalidWeir w)).checkTrips

/-- A threshold write holds a VALID weir; during a test it waits for the end (R202, R211). -/
def State.holdWeir (s : State) (w : Nat) : State :=
  let x := s.weir w
  match x.test with
  | some t => s.setWeir w { x with test := some { t with reload := true } }
  | none => if x.st = 0 then s else s.setWeir w { x with hold := true }

/-- A WTHR or WHYS write (R199, R202). -/
def State.writeWthr (s : State) (w : Nat) (hys : Bool) (v : Word) : State :=
  let lo := if hys then s.wlo w else sfield v 0 12
  let hi := if hys then s.whi w else sfield v 16 12
  let h : Int := if hys then field v 0 8 else s.whys w
  if s.locked (Page.weir (w / 8)) then s
  else if hi - lo ≤ h then s.weirRefuse w
  else
    let s := if hys then s.wr (Reg.weirWhys (w / 8) (w % 8)) (v &&& 0xFF)
             else s.wr (Reg.weirWthr (w / 8) (w % 8)) (v &&& 0x0FFF0FFF)
    s.holdWeir w

/-- The hold ends: R200 on the input as it stands (R202). -/
def State.endHold (s : State) (w : Nat) (x : Int) : State :=
  let s := s.setWeirX w x
  if !(s.weir w).hold then s
  else
    let s := s.setWeir w { s.weir w with hold := false }
    s.onlyIf (s.weirFree w && field (s.wcfg w) 10 2 != 3) (·.evalWeir w)

/-- The two-stage synchroniser: WSTA takes the state at the next FAB cycle, one count a new value (R204). -/
def State.syncWeir (s : State) (w : Nat) : State :=
  let x := s.weir w
  if x.shown = x.st || s.pwr.state == .hibernate then s
  else ((s.setWeir w { x with shown := x.st }).bump (Reg.weirWcnt (w / 8) (w % 8))).raise (Page.weir (w / 8)) (w % 8)

/-- WSTA of a page. -/
def State.wsta (s : State) (p : Nat) : Word :=
  w32 (((List.range 8).map (fun i =>
    let x := s.weir (8 * p + i)
    x.shown * 4 ^ i + b2n x.test.isSome * 2 ^ (16 + i))).foldl (· + ·) 0)

/-! ### Proof tests (R209-R212) -/

/-- Whether a step's test level or thresholds are in the span of codes (R209). -/
def ProofSt.inSpan (t : ProofSt) (step : Nat) : Bool :=
  let ok := fun (x : Int) => decide (-2048 ≤ x) && decide (x ≤ 2047)
  if step = 0 then ok (-t.hi) && ok (-t.lo)
  else if step = 1 then ok (t.lo - t.hys - 32)
  else if step = 2 then ok ((t.lo + t.hi) / 2)
  else ok (t.hi + t.hys + 32)

/-- The test moves to the first step at or after `step` that it runs, else to the restore; a step not in span sets its
NOTRUN bit. -/
def State.proofGoto (s : State) (w : Nat) (t : ProofSt) (step : Nat) : Nat → State
  | 0 => s.setWeir w { s.weir w with test := some { t with step := 4, since := s.time.fab } }
  | n + 1 =>
    if 4 ≤ step || (1 ≤ step && !t.tie) then
      s.setWeir w { s.weir w with test := some { t with step := 4, since := s.time.fab } }
    else if t.inSpan step then s.setWeir w { s.weir w with test := some { t with step := step, since := s.time.fab } }
    else (s.setb (Reg.weirPtres (w / 8) (w % 8)) (3 + step) true).proofGoto w t (step + 1) n

/-- A PTEST write (R209, R211). -/
def State.startTest (s : State) (w : Nat) (swap tie : Bool) : State :=
  let x := s.weir w
  let a := Reg.weirPtres (w / 8) (w % 8)
  if x.test.isSome || !(swap || tie) then s
  else if x.st = 0 then (s.wr a 6).raise (Page.weir (w / 8)) (8 + w % 8)
  else
    let t : ProofSt := { step := 0, tie := tie, start := compareWeir (s.wlo w) (s.whi w) x.x, lo := s.wlo w, hi := s.whi w,
                         hys := s.whys w, reload := x.hold }
    let s := s.setWeir w { x with hold := false }
    (s.wr a 1).proofGoto w t (if swap then 0 else 1) 5

/-- The state a step expects (R209). -/
def ProofSt.expects (t : ProofSt) : Nat :=
  if t.step = 0 then 4 - t.start else t.step

/-- The dwell Td of a weir's proof steps in FAB cycles: 200 ns for FAST, 1 µs for MED, 20 µs for SLOW and SAMPLED (R209). -/
def State.dwell (s : State) (w : Nat) : Nat :=
  match field (s.wcfg w) 10 2 with
  | 0 => 80
  | 1 => 400
  | _ => 8000

/-- The step that runs has dwelt for Td (R209, R210). -/
def State.dwelt (s : State) (w : Nat) (t : ProofSt) : Bool := decide (t.since + s.dwell w ≤ s.time.fab)

/-- A step's dwell ends and its state is recorded (R209). -/
def State.endStep (s : State) (w obs : Nat) : State :=
  match (s.weir w).test with
  | none => s
  | some t =>
    if t.step = 4 || !s.dwelt w t then s
    else
      let s := s.setf (Reg.weirPtres (w / 8) (w % 8)) (8 + 2 * t.step) 2 obs
      s.proofGoto w { t with failed := t.failed || obs != t.expects } (t.step + 1) 5

/-- The restore ends: the result, and the weir resumes (R210, R211). -/
def State.endTest (s : State) (w : Nat) (x : Int) : State :=
  let s := s.setWeirX w x
  match (s.weir w).test with
  | none => s
  | some t =>
    if t.step != 4 || !s.dwelt w t then s
    else
      let res := if t.aborted then 3 else if t.failed then 2 else 1
      let a := Reg.weirPtres (w / 8) (w % 8)
      let s := (s.setf a 0 3 (2 * res)).raise (Page.weir (w / 8)) (8 + w % 8)
      let s := s.onlyIf (res == 2) (·.raise (Page.weir (w / 8)) (16 + w % 8))
      let s := s.setWeir w { s.weir w with test := none, hold := t.reload && (s.weir w).st != 0 }
      s.onlyIf (s.weirFree w && field (s.wcfg w) 10 2 != 3) (·.evalWeir w)

/-! ### Pulse channels (R213-R219) -/

def State.maxDuty (s : State) (ch : Nat) : Nat := s.rf (Reg.plsDuty ch) 0 9

/-- CAP of a channel in units of 2.5/256 ns (R217). -/
def State.creditCap (s : State) (ch : Nat) : Int := ((s.rf (Reg.plsDuty ch) 12 20 * 102400 : Nat) : Int)

/-- The tests of R216. -/
def State.mayAdmit (s : State) (ch : Nat) : Bool :=
  let p := s.pulse ch
  decide (usCycles (s.rf (Reg.plsMinoff ch) 0 24) ≤ s.time.fab - p.inactSince) &&
    (decide (0 < p.credit) || s.maxDuty ch == 256)

/-- An active edge is admitted. -/
def State.startPulse (s : State) (ch : Nat) : State :=
  s.setPulse ch { s.pulse ch with active := true, deferred := false, actSince := s.time.fab }

/-- The pulse unit takes edges: its page is enabled and the part is not in SLEEP or below (R219, R446). -/
def State.pulsesOn (s : State) : Bool := s.pageEn Page.pls && s.pwr.state == .run

/-- An edge request, an expiry or an admission is noted for the end of the FAB cycle (R214). -/
def State.askPulse (s : State) (ch : Nat) (r : PulseReq) : State :=
  s.onlyIf s.pulsesOn (fun s => s.setPulse ch { s.pulse ch with reqs := (s.pulse ch).reqs ++ [r] })

/-- The level an edge request asks for; none of an expiry or an admission. -/
def PulseReq.level? : PulseReq → Option Bool
  | .ticket l => some l
  | .set => some true
  | .clr => some false
  | _ => none

/-- The place of a request in the order of R214. -/
def PulseReq.rank : PulseReq → Nat
  | .wclip | .dclip => 0
  | .release => 1
  | .ticket _ => 2
  | .set => 3
  | .clr => 4

/-- A pulse reaches MAXW; in the cycle of an inactive edge request the end is not counted as a clip (R215). -/
def State.clipWidth (s : State) (ch : Nat) : State :=
  let p := s.pulse ch
  if p.active && decide (usCycles (s.rf (Reg.plsMaxw ch) 0 24) ≤ s.time.fab - p.actSince) then
    (s.endPulse ch).onlyIf (!p.reqs.any (fun r => r.level? == some false)) (·.limit ch 0 0)
  else s

/-- The duty credit runs out (R217). -/
def State.clipDuty (s : State) (ch : Nat) : State :=
  let p := s.pulse ch
  if p.active && decide (p.credit ≤ 0) && s.maxDuty ch != 256 then (s.endPulse ch).limit ch 1 1 else s

/-- A deferred edge is admitted (R216). -/
def State.admitDeferred (s : State) (ch : Nat) : State :=
  s.onlyIf ((s.pulse ch).deferred && s.mayAdmit ch) (·.startPulse ch)

/-- An edge request (R213-R216, R224). -/
def State.edge (s : State) (ch : Nat) (level : Bool) : State :=
  let p := s.pulse ch
  if !s.rb (Reg.plsPcfg ch) 0 then s
  else if s.tripped ch then s.limit ch 3 4
  else if level then
    if p.active || p.deferred then s
    else if s.mayAdmit ch then s.startPulse ch
    else if s.rb (Reg.plsPcfg ch) 4 then s.setPulse ch { p with deferred := true }
    else s.limit ch 2 2
  else (s.endPulse ch).cancelDeferred ch

/-- One request of the cycle. -/
def State.doPulse (s : State) (ch : Nat) : PulseReq → State
  | .wclip => s.clipWidth ch
  | .dclip => s.clipDuty ch
  | .release => s.admitDeferred ch
  | .ticket l => s.edge ch l
  | .set => s.edge ch true
  | .clr => s.edge ch false

/-- The credit of one FAB cycle (R217). -/
def State.tickCredit (s : State) (ch : Nat) : State :=
  let p := s.pulse ch
  let c := min (s.creditCap ch) (p.credit + (s.maxDuty ch : Nat))
  s.setPulse ch { p with credit := if p.active then c - 256 else c }

/-- The ball shows the level at the end of the FAB cycle; an active edge on it counts (R214). -/
def State.showPulse (s : State) (ch : Nat) : State :=
  let p := s.pulse ch
  let s := s.setPulse ch { p with ball := p.active, reqs := [] }
  s.onlyIf (p.active && !p.ball) (·.bump (Reg.plsEdgcnt ch))

/-- The end of a FAB cycle for channel `ch`: credit, the cycle's requests in the order of R214, the ball, and a rearm. -/
def State.tickPulse (s : State) (ch : Nat) : State :=
  let s := s.tickCredit ch
  let reqs := (s.pulse ch).reqs
  let s := s.onlyIf (s.rb (Reg.plsPcfg ch) 0 && decide (2 ≤ (reqs.filter (fun r => r.level?.isSome)).length))
    (·.raise Page.pls 3)
  let s := (List.range 5).foldl (fun s k => (reqs.filter (fun r => r.rank == k)).foldl (fun s r => s.doPulse ch r) s) s
  (s.showPulse ch).endRearm ch

/-- A PCFG write: a reserved SAFE keeps the old one; clearing EN ends a pulse and cancels a deferred edge (R213). -/
def State.writePcfg (s : State) (ch : Nat) (v : Word) : State :=
  if s.locked Page.pls then s
  else
    let old := s.rd (Reg.plsPcfg ch)
    let v := v &&& 0x1F
    let v := if field v 2 2 = 3 then putField v 2 2 (field old 2 2) else v
    let s := s.wr (Reg.plsPcfg ch) v
    s.onlyIf (!bitOf v 0) (fun s => (s.endPulse ch).cancelDeferred ch)

/-- PSTA of a channel. -/
def State.psta (s : State) (ch : Nat) : Word :=
  let p := s.pulse ch
  let c := if s.maxDuty ch = 256 then s.creditCap ch else p.credit
  w32 (b2n p.active + b2n p.deferred * 2 + b2n (s.tripped ch) * 4 + c.toNat / 102400 * 4096)

/-- PLVL. -/
def State.plvl (s : State) : Word :=
  w32 (((List.range 16).map (fun ch =>
    b2n (s.pulse ch).active * 2 ^ ch + b2n (s.pulse ch).deferred * 2 ^ (16 + ch))).foldl (· + ·) 0)

/-- Every channel INACTIVE with no deferred edge, none counted, and its credit full where `refill` (R219, R559). -/
def State.idlePulses (s : State) (refill : Bool) : State :=
  (List.range 16).foldl (fun s ch =>
    let p := s.pulse ch
    s.setPulse ch { p with active := false, deferred := false, ball := false, reqs := [],
                           inactSince := if p.active then s.time.fab else p.inactSince,
                           credit := if refill then s.creditCap ch else p.credit }) s

/-- The pulse of a channel that a soft reset of TRIP trips with cause RESET (R222, R448). -/
def State.tripPulse (s : State) (n : Nat) : State :=
  let s := (s.endPulse n).cancelDeferred n
  s.setPulse n { s.pulse n with inactSince := s.time.fab, ball := false }

end Sys2Proof.Machine
end

