-- ==== Sys2Proof/Machine/Custody.lean ====
section
/-! DEFINITION. Commits and the tally units, snapshot entries, the global snapshot, host streams and the alarm queue
(01 R18-R20, 02 R35-R47, 09 R301-R330, R557, R558). -/

namespace Sys2Proof.Machine

/-! ### The extension of a STAMP (R290, R549) -/

/-- The full value of a 32-bit STAMP or WPOS near a reference, as a signed number. -/
def extend (s32 r : Nat) : Int :=
  let e : Int := (r / 2 ^ 32 * 2 ^ 32 + s32 % 2 ^ 32 : Nat)
  let d := e - r
  if 2 ^ 31 ≤ d then e - 2 ^ 32 else if d < -(2 ^ 31) then e + 2 ^ 32 else e

/-! ### Alarm queue (R327-R330, R558) -/

def State.alarmsOn (s : State) : Bool := s.rb Reg.alqActl 0 && s.pageEn Page.alq

/-- The alarm store's words in use are those the queue lists; the lowest free one takes a post. -/
def State.freeAlarm (s : State) : Nat :=
  ((List.range 2048).find? (fun i => !s.alarms.any (fun a => a.1 == i))).getD 0

/-- STA.OVR or STA.UNDR of the queue is set, and IRAW.QERR (R328, R329). -/
def State.alarmError (s : State) (b : Nat) : State := (s.setb Reg.alqSta b true).raise Page.alq 2

/-- RESV is 0-1,024: a larger value counts as 1,024 (R9, R328). -/
def State.alarmResv (s : State) : Nat := min 1024 (s.rf Reg.alqActl 1 11)

/-- A post enters the queue: whether the queue took it (R327, R328). -/
def State.postAlarm (s : State) (e : BitVec 64) : Bool × State :=
  let prio := natField e.toNat 60 4
  let n := s.alarms.length
  if !s.alarmsOn then (false, s.bump Reg.alqDrop)
  else if 2048 ≤ n || (s.rf Reg.alqActl 12 4 < prio && 2048 - s.alarmResv ≤ n) then
    (false, (s.alarmError 0).bump Reg.alqDrop)
  else
    let i := s.freeAlarm
    let s := { s.writeWord Store.alarm i e with alarms := s.alarms ++ [(i, prio)] }
    let s := s.onlyIf (n == 0) (fun s => (s.raise Page.alq 0).event Page.alq 0)
    (true, s.onlyIf (decide (prio ≤ s.rf Reg.alqActl 16 4)) (fun s => (s.raise Page.alq 1).event Page.alq 1))

/-- A requester posts an entry: it enters the queue with the other posts of the FAB cycle (R327). -/
def State.noteAlarm (s : State) (req : Nat) (e : BitVec 64) (core : Option Nat := none) : State :=
  { s with alarmPosts := s.alarmPosts ++ [{ req := req, entry := e, core := core }] }

/-- A post among those of its FAB cycle, behind those of its requester and of the requesters before it. -/
def insertPost (p : AlarmPost) : List AlarmPost → List AlarmPost
  | [] => [p]
  | q :: qs => if p.req < q.req then p :: q :: qs else q :: insertPost p qs

/-- ALSTA among the device bytes, and a core's ALSTA (R393). -/
abbrev Dev.alsta : Nat := 0x2A
def State.setAlsta (s : State) (k st : Nat) : State := s.onCore k (·.setDev Dev.alsta (BitVec.ofNat 8 st) false)

/-- The posts of the FAB cycle enter the queue in ascending order of requester (R327); a core that posted learns whether its entry did
(R393). -/
def State.landAlarms (s : State) : State :=
  (s.alarmPosts.foldl (fun ps p => insertPost p ps) []).foldl (fun s p =>
    let r := s.postAlarm p.entry
    match p.core with
    | some k => r.2.setAlsta k (if r.1 then 0 else 2)
    | none => r.2) { s with alarmPosts := [] }

/-- The queue's record of the present FAB cycle, begun with its first pop (R329). -/
def State.alarmNow (s : State) : AlarmCyc :=
  if s.alarmCyc.cyc = s.time.fab + 1 then s.alarmCyc else { cyc := s.time.fab + 1, held := !s.alarms.isEmpty }

/-- The queue as pops and PEEKL see it (R329): where it held entries at the start of the FAB cycle none posted in it, else those too. -/
def State.alarmsSeen (s : State) : State :=
  let now := s.alarmNow
  if now.held then { s with alarmCyc := now } else State.landAlarms { s with alarmCyc := now }

/-- The entry a pop takes: the oldest of the lowest-numbered priority held (R327). -/
def State.nextAlarm (s : State) : Option (Nat × Nat) :=
  (List.range 16).findSome? (fun p => s.alarms.find? (fun a => a.2 == p))

/-- A pop (R329): the entry, all ones for a poisoned word. -/
def State.popAlarm (s : State) : BitVec 64 × State :=
  if !s.alarmsOn then (s.lastPop, s.alarmError 1)
  else
    let s := s.alarmsSeen
    match s.nextAlarm with
    | none => (s.lastPop, s.alarmError 1)
    | some a =>
      let r := s.readWord Store.alarm a.1
      let e := r.1.getD (BitVec.allOnes 64)
      (e, { r.2 with alarms := r.2.alarms.erase a, lastPop := e })

/-- The entry the next pop would return, 0 for none (R329). -/
def State.peekAlarm (s : State) : BitVec 64 × State :=
  let s := s.alarmsSeen
  match s.nextAlarm with
  | none => (0, s)
  | some a =>
    let r := s.readWord Store.alarm a.1
    (r.1.getD (BitVec.allOnes 64), r.2)

/-- Entries held of a priority. -/
def State.alarmLevel (s : State) (p : Nat) : Nat := (s.alarms.filter (fun a => a.2 == p)).length

/-- An alarm of a block: priority, point-number field, kind (R330). -/
def alarmEntry (prio point kind : Nat) (stamp : Word) : BitVec 64 :=
  BitVec.ofNat 64 (prio % 16 * 2 ^ 60 + point % 2 ^ 20 * 2 ^ 40 + kind % 256 * 2 ^ 32 + stamp.toNat)

/-- The place of a requester of the register pages in the order of posts: a core before the blocks, the debug port and the host
after them (R327). -/
def postOrder (req : Nat) : Nat := if req < 256 then req else 2 ^ 16 + req

/-- The block of a page posts an alarm stamped now: after the tiles, in ascending page number (R327). -/
def State.blockAlarm (s : State) (page prio point kind : Nat) : State :=
  s.noteAlarm (256 + page) (alarmEntry prio point kind s.stampNow)

/-- A soft reset of ALQ (R558). -/
def State.softResetAlarms (s : State) : State := { s with alarms := [], alarmCyc := {}, alarmPosts := [], lastPop := 0 }

/-! ### Snapshot rings of the tiles (R310-R313) -/

def State.snBase (s : State) (t : Nat) : Nat := s.rf (Reg.tileSnbase t) 3 12
def State.snCnt (s : State) (t : Nat) : Nat := s.rf (Reg.tileSncnt t) 0 5
def State.snWr (s : State) (t : Nat) : Nat := s.rf (Reg.tileSnwr t) 0 5
def State.snRd (s : State) (t : Nat) : Nat := s.rf (Reg.tileSnrd t) 0 5

/-- Word of ring slot `i` of a tile in its data SRAM (R48, R312). -/
def State.entryWord (s : State) (t i : Nat) : Nat := 0x9000 + s.snBase t + 132 * i

/-- A tile event of both cores (R375). -/
def State.tileEvent (s : State) (t b : Nat) : State := (s.coreEvent (2 * t) b).coreEvent (2 * t + 1) b

/-- Field `n` bits at `lo` of a word of the entry at a tile's ring slot is set to `x`. -/
def State.setEntryField (s : State) (t slot i lo n x : Nat) : State :=
  let w := s.entryWord t slot + i
  let d := (s.peekWord (Store.tile t 0) w).toNat
  s.writeWord (Store.tile t 0) w (BitVec.ofNat 64 (d - natField d lo n * 2 ^ lo + x % 2 ^ n * 2 ^ lo))

/-- A field of a word of an entry. -/
def State.entryField (s : State) (t slot i lo n : Nat) : Nat :=
  natField (s.peekWord (Store.tile t 0) (s.entryWord t slot + i)).toNat lo n

/-- SNSTA. -/
def State.snsta (s : State) (t : Nat) : Word :=
  let held := (s.tile t).snHeld
  let isOpen := s.tally.entries.any (fun e => e.tile == t && e.slot == s.snRd t)
  let waiting := if held < s.snCnt t then 0
    else ((s.tally.pend.filter (fun p => mapTile (s.mapEntry p.lane) == t && mapValid (s.mapEntry p.lane))).map (·.lane)).eraseDups.length
  w32 (held + b2n (decide (0 < held) && !isOpen) * 64 + min 255 waiting * 256)

/-- A write of SNRD (R312, R313). -/
def State.writeSnrd (s : State) (t : Nat) (v : Word) : State :=
  let n := s.snCnt t
  let x := field v 0 5
  let k := (x + n - s.snRd t) % n
  let held := (s.tile t).snHeld
  let isOpen := (List.range k).any (fun i =>
    s.tally.entries.any (fun e => e.tile == t && e.slot == (s.snRd t + i) % n))
  if k = 0 && x = s.snRd t then s
  else if n ≤ x || held < k || isOpen then s.raise (Page.tile t) 5
  else
    let s := s.setf (Reg.tileSnrd t) 0 5 x
    (s.setTile t { s.tile t with snHeld := held - k }).tileEvent t 4

/-- A write of SNBASE or SNCNT (R313). -/
def State.writeSnbase (s : State) (t : Nat) (cnt : Bool) (v : Word) : State :=
  let base := if cnt then s.snBase t else field v 3 12
  let n := if cnt then max 1 (field v 0 5) else s.snCnt t
  if 0 < (s.tile t).snHeld || 32768 < 8 * base + 1056 * n then s.raise (Page.tile t) 5
  else
    let s := if cnt then s.wr (Reg.tileSncnt t) (w32 n) else s.wr (Reg.tileSnbase t) (w32 (8 * base))
    (s.wr (Reg.tileSnwr t) 0).wr (Reg.tileSnrd t) 0

/-! ### Tally arithmetic (R38, R46, R301-R303) -/

/-- The order of binary32 values as integers: −0 and +0 are equal (R46). -/
def floatKey (v : Nat) : Int :=
  let m : Nat := v % 2 ^ 31
  if v.testBit 31 then -(m : Int) else (m : Int)

/-- A NaN (R47). -/
def isNan (v : Nat) : Bool := natField v 23 8 == 255 && natField v 0 23 != 0

/-- `m / 2 ^ k` to nearest, ties to even. -/
def roundEven (m k : Nat) : Nat :=
  let q := m / 2 ^ k
  let r := m % 2 ^ k
  if k = 0 then q else if 2 ^ (k - 1) < r || (r == 2 ^ (k - 1) && q % 2 == 1) then q + 1 else q

/-- VALUE × 2^−EXP of a binary32 as s32, to nearest even, saturating (R46). -/
def floatToInt (v : Nat) (exp : Int) : Int :=
  let e := natField v 23 8
  let m := natField v 0 23 + (if e = 0 then 0 else 2 ^ 23)
  let k : Int := ((max e 1 : Nat) : Int) - 150 - exp
  let mag : Nat := if e = 255 then 2 ^ 40 else if 0 ≤ k then m * 2 ^ (min k.toNat 40) else roundEven m (min (-k).toNat 80)
  if v.testBit 31 then max (-(2 ^ 31)) (-(mag : Int)) else min (2 ^ 31 - 1) (mag : Int)

/-- What the tally takes of a slot's class: FLOAT or FIXED, EXP and TSHIFT. -/
structure TallyKind where
  float : Bool
  exp : Int
  shift : Nat
  deriving DecidableEq, Repr

/-- TSUM with a value added; a sum at its limit stays (R301, R302). -/
def addSum (sum v : Int) : Int :=
  let hi : Int := 2 ^ 39 - 1
  let lo : Int := -(2 ^ 39)
  if sum = hi || sum = lo then sum else clampInt lo hi (sum + v)

/-- Words W2 and W3 with one included value; none when the period is full (R301-R303). -/
def tallyAdd (k : TallyKind) (w2 w3 v : Nat) : Option (Nat × Nat) :=
  let cnt := natField w3 0 24
  if cnt = 2 ^ 24 - 1 then none
  else
    let key := fun (x : Nat) => if k.float then floatKey x else sintOf x 32
    let tmin := natField w2 32 32
    let tmax := natField w2 0 32
    let tmin := if cnt = 0 || key v < key tmin then v else tmin
    let tmax := if cnt = 0 || key tmax < key v then v else tmax
    let x := if k.float then floatToInt v k.exp else sintOf v 32
    let sum := addSum (if cnt = 0 then 0 else sintOf (natField w3 24 40) 40) (floorDiv x (2 ^ k.shift))
    some (tmin * 2 ^ 32 + tmax, natOf sum 40 * 2 ^ 24 + cnt + 1)

/-- The slot descriptor's bytes (R50). -/
def State.slotByte (s : State) (tile l ss i : Nat) : Nat :=
  let b := 0x40 + 3 * ss + i
  natField (s.ctx tile l (b / 8)) (8 * (b % 8)) 8

/-- CLASS of a slot. -/
def State.slotClass (s : State) (tile l ss : Nat) : Nat := s.slotByte tile l ss 0 / 64

/-- What the tally takes of a slot. -/
def State.tallyKind (s : State) (tile l ss : Nat) : TallyKind :=
  { float := s.slotClass tile l ss == 2, exp := sintOf (s.slotByte tile l ss 0) 6, shift := s.ctxShift tile l }

/-! ### Boundaries (R304-R309, R317) -/

/-- The wheel of a group. -/
def State.groupWheel (s : State) (g : Nat) : Nat := s.rf (Reg.talgGcfg g) 0 2

/-- The times of a commit that boundaries test (R305): its extended STAMP, its position on its lane's wheel, that wheel. -/
structure CommitTime where
  ext : Int
  pos : Nat
  wheel : Nat
  deriving DecidableEq, Repr

/-- A commit belongs to the period before a boundary (R305); `bw0` none: not landed. -/
def State.before (s : State) (g : Nat) (b : Nat) (bw0 : Option Nat) (c : CommitTime) : Bool :=
  if s.groupWheel g = 0 then decide (c.ext < b)
  else if s.groupWheel g = c.wheel then decide (c.pos < b)
  else
    match bw0 with
    | some x => decide (c.ext < x)
    | none => true

/-- The record's last commit belongs after the boundary (R308); SEQ, STAMP and WPOS 0 are those of start-up (R37). -/
def State.recordEarly (s : State) (p : Pend) (tile l ss : Nat) : Bool :=
  let w0 := (s.peekWord (Store.tile tile 0) (recWord l ss)).toNat
  let w1 := (s.peekWord (Store.tile tile 0) (recWord l ss + 1)).toNat
  let ext := extend (natField w1 32 32) s.w0
  let wh := s.groupWheel p.group
  if natField w0 0 16 = 0 && w1 = 0 then false
  else if wh = 0 then decide (p.b ≤ ext)
  else if wh = s.ctxWheel tile l then decide (p.b ≤ extend (natField w1 0 32) p.b)
  else p.bw0.any (fun x => decide (x ≤ ext))

/-- Copies the tally words of slots `ss` and up into an entry (R311); poison is copied and marked. -/
def State.copyTallies (s : State) (tile l base ss : Nat) : Nat → State × Bool
  | 0 => (s, false)
  | n + 1 =>
    let r2 := s.readWord (Store.tile tile 0) (recWord l ss + 2)
    let r3 := r2.2.readWord (Store.tile tile 0) (recWord l ss + 3)
    let s := r3.2.moveWords (Store.tile tile 0) (recWord l ss + 2) (Store.tile tile 0) (base + 4 + 2 * ss) 2
    let rest := s.copyTallies tile l base (ss + 1) n
    (rest.1, r2.1.isNone || r3.1.isNone || rest.2)

/-- The tally of every record of a lane restarts (R306). -/
def State.restartTallies (s : State) (tile l : Nat) : State :=
  (List.range 64).foldl (fun s ss => s.writeWords (Store.tile tile 0) (recWord l ss + 2) [0, 0]) s

/-- A lane's switch is made: its entry at SNWR, then the restart for a boundary (R306-R308, R311, R317). -/
def State.copyLane (s : State) (p : Pend) : State :=
  let e := s.mapEntry p.lane
  let t := mapTile e
  let l := mapLane e
  let slot := s.snWr t
  let base := s.entryWord t slot
  let early := (List.range 64).any (fun ss => s.recordEarly p t l ss)
  let prv := s.tally.latePrv.contains p.lane
  let c := s.copyTallies t l base 0 64
  let s := c.1
  let hdr := p.lane + (if p.snap then 0 else p.group) * 2 ^ 14 + b2n p.snap * 2 ^ 18 + b2n early * 2 ^ 20 + b2n prv * 2 ^ 21
    + b2n p.gsnap * 2 ^ 22 + b2n c.2 * 2 ^ 23 + p.seq % 2 ^ 16 * 2 ^ 24
  let s := s.writeWords (Store.tile t 0) base
    [BitVec.ofNat 64 hdr, BitVec.ofNat 64 p.b, BitVec.ofNat 64 (p.bw0.getD 0),
     BitVec.ofNat 64 (numAt s.tally.restarts p.lane)]
  let s := if p.snap then s else s.restartTallies t l
  let s := { s with tally := { s.tally with
    pend := s.tally.pend.erase p
    entries := s.tally.entries ++ [({ tile := t, slot := slot, lane := p.lane, group := p.group, snap := p.snap,
                                      b := p.b, bw0 := p.bw0 } : OpenEntry)]
    latePrv := s.tally.latePrv.filter (· != p.lane)
    restarts := if p.snap then s.tally.restarts else setNum s.tally.restarts p.lane 0 } }
  let s := s.onlyIf early (fun s => (s.bump Reg.talgEarlycnt).raise Page.talg 3)
  let s := s.setf (Reg.tileSnwr t) 0 5 ((slot + 1) % s.snCnt t)
  let s := s.setTile t { s.tile t with snHeld := (s.tile t).snHeld + 1 }
  s.onlyIf (!p.snap) (·.recopyTally p.lane)

/-- Ring space of a tile. -/
def State.snRoom (s : State) (t : Nat) : Nat := s.snCnt t - (s.tile t).snHeld

/-- The next copy of a tile: the pending lane of the lowest lane index, its switches in boundary order (R306). -/
def State.nextCopy (s : State) (t : Nat) : Option Pend :=
  let here := s.tally.pend.filter (fun p => mapValid (s.mapEntry p.lane) && mapTile (s.mapEntry p.lane) == t)
  firstBy (fun p => [mapLane (s.mapEntry p.lane)]) here

/-- One copy of a tile's tally unit (R306, R312). -/
def State.copyNext (s : State) (t : Nat) : State :=
  match s.nextCopy t with
  | none => s
  | some p => if s.snRoom t = 0 || !s.tileAwake t || s.pwr.state != .run then s else s.copyLane p

/-- A boundary of a group lands at B (R304, R306, R308). -/
def State.boundaryAt (s : State) (g b w0 : Nat) : State :=
  if numAt s.tally.landedAt g = s.time.fab + 1 then s
  else
    let s := { s with tally := { s.tally with landedAt := setNum s.tally.landedAt g (s.time.fab + 1) } }
    let s := s.bump (Reg.talgBseq g)
    let seq := s.rn (Reg.talgBseq g)
    let s := (s.wr64 (Reg.talgBposl g) (Reg.talgBposh g) b).wr64 (Reg.talgBw0l g) (Reg.talgBw0h g) w0
    let s := (s.raise Page.talg 0).event Page.talg 0
    -- entries copied before the landing take ESEQ and BW0 (R308)
    let isEarly := fun (e : OpenEntry) => !e.snap && e.group == g && e.b == b && e.bw0.isNone
    let s := (s.tally.entries.filter isEarly).foldl (fun s e =>
      (s.setEntryField e.tile e.slot 0 24 16 seq).setEntryField e.tile e.slot 2 0 64 w0) s
    let done := (s.tally.entries.filter isEarly).map (·.lane)
    let entries := s.tally.entries.map (fun e => if isEarly e then { e with bw0 := some w0 } else e)
    let lanes := (s.seated.filter (fun x => s.ctxGroup (mapTile x.2) (mapLane x.2) == g && !done.contains x.1)).map (·.1)
    -- a global snapshot at the same position shares the entry
    let shared := fun (l : Nat) => s.tally.pend.any (fun p => p.snap && p.lane == l && p.group == g && p.b == b
      && s.groupWheel g == 0)
    let pend := s.tally.pend.filter (fun p => !(p.snap && p.group == g && p.b == b && s.groupWheel g == 0 &&
      lanes.contains p.lane))
    let new := lanes.map (fun l => ({ lane := l, group := g, snap := false, gsnap := shared l, b := b, bw0 := some w0,
                                      seq := seq } : Pend))
    { s with tally := { s.tally with entries := entries, pend := pend ++ new } }

/-- A TBOUND landing (R304). -/
def State.boundLanding (s : State) (g wheel b : Nat) : State :=
  if wheel = s.groupWheel g then s.boundaryAt g b s.w0 else (s.bump Reg.talgBadbnd).raise Page.talg 5

/-- A due TBOUND occurrence of a group lands (R304). -/
def State.landBound (s : State) (g : Nat) : State :=
  s.land 6 g (s.pageLive Page.talg) (fun s a => s.boundLanding g a.wheel a.due)

/-- GRACE of an open entry in ns (R310, R317). -/
def State.graceNs (s : State) (e : OpenEntry) : Nat :=
  1000 * (if e.snap then s.rf Reg.talgGsgrace 0 20 else s.rf (Reg.talgGcfg e.group) 4 20)

/-- An entry's seal is due (R310). -/
def State.sealDue (s : State) (e : OpenEntry) : Bool := e.bw0.any (fun x => decide (x + s.graceNs e ≤ s.w0))

/-- No boundary. -/
def noBound : PastBound := { group := 0, b := 0, bw0 := 0 }

/-- Of some entries those whose time has come are sealed (R310). -/
def State.sealWhere (s : State) (f : OpenEntry → Bool) : State :=
  (s.tally.entries.filter (fun e => f e && s.sealDue e)).foldl (fun s e =>
    let s := s.setEntryField e.tile e.slot 0 19 1 1
    let mark := fun (m : List (Nat × PastBound)) =>
      Sparse.set (fun _ => noBound) m e.lane { group := e.group, b := e.b, bw0 := e.bw0.getD 0 }
    let s := { s with tally := { s.tally with
      entries := s.tally.entries.erase e
      past := if e.snap then s.tally.past else mark s.tally.past
      pastSnap := if e.snap then mark s.tally.pastSnap else s.tally.pastSnap } }
    (s.tileEvent e.tile 3).raise (Page.tile e.tile) 8) s

/-- The due entries of a tile are sealed. -/
def State.sealEntries (s : State) (t : Nat) : State := s.sealWhere (fun e => e.tile == t)

/-- What a lane's commit comes after (R307, R310): the boundaries of its group that are due in the FAB cycle, at most one for each arm
slot, and the seals of its entries. -/
def State.beforeCommit (s : State) (lane g : Nat) : State :=
  ((s.landBound g).landBound g).sealWhere (fun e => e.lane == lane)

/-! ### Commits (R18-R20, R35, R39, R40, R43-R47, R307-R309, R312) -/

/-- A commit as the point port makes it (R387, R390). -/
structure CommitReq where
  value : Word
  qual : Byte
  flag : Byte
  stamp : Option Word
  /-- A tagged byte took part: QUAL 0x07, not in the tally (R390). -/
  tagged : Bool
  deriving DecidableEq, Repr

/-- The armed boundaries of a lane's group, one for each position and in their order, that the commit belongs after and whose
switch the lane has not made (R115, R308). -/
def State.armedSwitches (s : State) (lane g : Nat) (c : CommitTime) : List Pend :=
  let xs := ((s.armed.filter (fun a => a.kind == 6 && a.target == g && a.wheel == s.groupWheel g && !s.before g a.due none c &&
    !s.tally.entries.any (fun e => !e.snap && e.lane == lane && e.group == g && e.b == a.due && e.bw0.isNone))).map
    (fun a => ({ lane := lane, group := g, snap := false, gsnap := false, b := a.due, bw0 := none, seq := 0 } : Pend))).eraseDups
  match xs with
  | [x, y] => if y.b < x.b then [y, x] else [x, y]
  | _ => xs

/-- LATEN of an open entry counts a late commit, saturating (R309, R311). -/
def State.countLate (s : State) (e : OpenEntry) : State :=
  s.setEntryField e.tile e.slot 0 48 16 (min 65535 (s.entryField e.tile e.slot 0 48 16 + 1))

/-- A value folded into the open entry `e`, slot `ss`; false where the tally word is poisoned (R309, R310). -/
def State.foldEntry (s : State) (e : OpenEntry) (k : TallyKind) (ss v : Nat) : Bool × State :=
  let i := s.entryWord e.tile e.slot + 4 + 2 * ss
  let r2 := s.readWord (Store.tile e.tile 0) i
  let r3 := r2.2.readWord (Store.tile e.tile 0) (i + 1)
  match r2.1, r3.1 with
  | some w2, some w3 =>
    match tallyAdd k w2.toNat w3.toNat v with
    | none => (true, State.countLate (r3.2.bump Reg.talgFullcnt) e)
    | some (a, b) =>
      (true, State.countLate (r3.2.writeWords (Store.tile e.tile 0) i [BitVec.ofNat 64 a, BitVec.ofNat 64 b]) e)
  | _, _ => (false, r3.2)

/-- A late commit is lost (R309). -/
def State.loseLate (s : State) (lane g : Nat) : State :=
  let s := (s.bump (Reg.talgLatedrop g)).raise Page.talg 2
  { s with tally := { s.tally with latePrv := lane :: s.tally.latePrv.filter (· != lane) } }

/-- The commit belongs before the lane's last sealed boundary, or snapshot, of the group. -/
def State.sealedAfter (s : State) (m : List (Nat × PastBound)) (lane g : Nat) (c : CommitTime) : Bool :=
  let p := Sparse.get (fun _ => noBound) m lane
  p != noBound && p.group == g && s.before g p.b (some p.bw0) c

/-- The boundary a late commit belongs before (R309): its open entry, or `none` once it is sealed. -/
def State.lateFor (s : State) (lane g : Nat) (c : CommitTime) : Option (Option OpenEntry) :=
  if s.sealedAfter s.tally.past lane g c then some none
  else
    (s.tally.entries.find? (fun e => !e.snap && e.lane == lane && e.group == g && s.before g e.b e.bw0 c)).map some

/-- The tally words of a record with one value included, if `take` holds; a poisoned word restarts the tally (R40). -/
def State.tallyRecord (s : State) (lane tile l ss v : Nat) (take : Bool) : State :=
  let i := recWord l ss + 2
  let st := Store.tile tile 0
  let r2 := s.readWord st i
  let r3 := r2.2.readWord st (i + 1)
  let bad := r2.1.isNone || r3.1.isNone
  let s := r3.2
  let s := if bad then { s with tally := { s.tally with
      restarts := setNum s.tally.restarts lane (numAt s.tally.restarts lane ||| 2 ^ ss) } } else s
  let w2 := if bad then 0 else (r2.1.getD 0).toNat
  let w3 := if bad then 0 else (r3.1.getD 0).toNat
  if take then
    match tallyAdd (s.tallyKind tile l ss) w2 w3 v with
    | none => s.bump Reg.talgFullcnt
    | some (a, b) => s.writeWords st i [BitVec.ofNat 64 a, BitVec.ofNat 64 b]
  else if bad then s.writeWords st i [0, 0]
  else s

/-- QUAL takes part in the tally (R43). -/
def included (qual : Byte) (tunc : Bool) : Bool := decide (128 ≤ qual.toNat) || (decide (64 ≤ qual.toNat) && tunc)

/-- A commit to slot `ss` of a lane, with the due position of its dispatch or none outside one (R18-R20, R387): the point
port's status (R389), EMPTY before HELD (R45, R82), and the state; a tagged byte gives QUAL 0x07 even to a NaN (R47, R390;
assumption 40). -/
def State.commitRecord (s : State) (lane ss : Nat) (due : Option Nat) (q : CommitReq) : Nat × State :=
  let e := s.mapEntry lane
  let t := mapTile e
  let l := mapLane e
  let g := s.ctxGroup t l
  let stamp := q.stamp.getD s.stampNow
  let wh := s.ctxWheel t l
  let ct : CommitTime := { ext := extend stamp.toNat s.w0, pos := due.getD (s.pos wh), wheel := wh }
  let cls := s.slotClass t l ss
  if cls = 0 || cls = 3 then (1, s)
  else if due.isNone && s.laneHeld lane then (2, s)
  else
    let s := s.beforeCommit lane g
    let owed := s.tally.pend.filter (fun p => p.lane == lane && !s.before g p.b p.bw0 ct) ++ s.armedSwitches lane g ct
    if s.snRoom t < owed.length then (3, (s.bump Reg.talgTwaitcnt).raise Page.talg 4)
    else
      let s := owed.foldl (fun s p => s.copyLane p) s
      let v := q.value.toNat
      let nan := cls == 2 && isNan v
      let qual : Byte := if q.tagged then 0x07 else if nan then 0x08 else q.qual
      let take := included qual (s.ctxTunc t l) && !q.tagged && !nan
      let late := s.lateFor lane g ct
      let k := s.tallyKind t l ss
      -- a late value goes to its open entry or is lost (R309, R310)
      -- one that comes after a snapshot's seal is lost to it, though the record takes it (R317, assumption 32)
      let s := match late, take with
        | some none, true => s.loseLate lane g
        | some (some en), true =>
          let r := s.foldEntry en k ss v
          if r.1 then r.2 else r.2.loseLate lane g
        | none, true => s.onlyIf (s.sealedAfter s.tally.pastSnap lane g ct) (·.loseLate lane g)
        | _, _ => s
      -- an open entry of a global snapshot takes it as well (R317)
      let s := if take then
          (s.tally.entries.filter (fun en => en.snap && en.lane == lane && s.before g en.b en.bw0 ct)).foldl
            (fun s en => (s.foldEntry en k ss v).2) s
        else s
      let s := s.tallyRecord lane t l ss v (take && late.isNone)
      let r := s.readWord (Store.tile t 0) (recWord l ss)
      let seq := match r.1 with
        | some d => (natField d.toNat 0 16 + 1) % 2 ^ 16
        | none => 0
      let w0 := v * 2 ^ 32 + qual.toNat * 2 ^ 24 + (q.flag.toNat / 4) * 2 ^ 18 + seq
      let w1 := stamp.toNat * 2 ^ 32 + (due.getD (s.pos wh)) % 2 ^ 32
      (0, (r.2.writeWords (Store.tile t 0) (recWord l ss) [BitVec.ofNat 64 w0, BitVec.ofNat 64 w1]).bump (Reg.tileCommits t))

/-! ### Host streams (R319-R326, R557) -/

/-- Bank `b` of a stream. -/
def StreamSt.bank (x : StreamSt) (b : Nat) : Bank := if b = 0 then x.bank0 else x.bank1
def StreamSt.setBank (x : StreamSt) (b : Nat) (k : Bank) : StreamSt :=
  if b = 0 then { x with bank0 := k } else { x with bank1 := k }

/-- First word of a bank in the stream SRAM. -/
def bankWord (n b : Nat) : Nat := 8192 * n + 4096 * b

/-- One byte of a record enters a bank; a tagged byte poisons the word (R392). A word begins as zeros (R321). -/
def State.putStreamByte (s : State) (base off : Nat) (b : Byte) (tag : Bool) : State :=
  let i := base + off / 8
  let w := s.rawWord Store.stream i
  if tag then s.putWord Store.stream i poisonWord
  else if off % 8 = 0 then s.writeWord Store.stream i (BitVec.ofNat 64 b.toNat)
  else if w = poisonWord then s
  else
    let d := (wordData w).toNat
    s.writeWord Store.stream i (BitVec.ofNat 64 (d % 2 ^ (8 * (off % 8)) + b.toNat * 2 ^ (8 * (off % 8))))

/-- The bytes of a record. -/
def State.putStreamBytes (s : State) (base off : Nat) : List (Byte × Bool) → State
  | [] => s
  | x :: xs => (s.putStreamByte base off x.1 x.2).putStreamBytes base (off + 1) xs

def State.streamOn (s : State) (n : Nat) : Bool := s.rb (Reg.strmScfg n) 0 && s.pageEn Page.strm
def State.streamDest (s : State) (n : Nat) : Nat := s.rf (Reg.strmScfg n) 1 2

/-- The filling bank closes (R320-R323): REASON 0 FULL, 1 TICKET with its due position, 2 EXPLICIT. -/
def State.closeBank (s : State) (n reason : Nat) (due : Option Nat) : State :=
  let x := s.stream n
  match x.fill with
  | none => s.bump (Reg.strmEmptycl n)
  | some b =>
    let k := x.bank b
    if k.len = 0 then s.bump (Reg.strmEmptycl n)
    else
      let seq := (s.rf (Reg.strmBseq n) 0 22 + 1) % 2 ^ 22
      let cpos := (due.getD s.w0) % 2 ^ 16
      let hdr := n + seq * 4 + k.len * 2 ^ 24 + ((k.len + 7) % 8 + 1) * 2 ^ 40 + reason * 2 ^ 44
        + b2n x.dropped * 2 ^ 46 + cpos * 2 ^ 48
      let st := if s.streamDest n = 3 then BankState.spilling else BankState.closed
      let x := x.setBank b { k with state := st, header := hdr, closedAt := s.time.fab, spillW0 := s.w0 }
      let o := 1 - b
      let free := (x.bank o).state == .empty
      let x := { x with fill := if free then some o else none, dropped := false }
      let x := if free then x.setBank o { x.bank o with len := 0 } else x
      let s := (s.setStream n x).wr (Reg.strmBseq n) (w32 seq)
      (s.raise Page.strm n).event Page.strm 0

/-- A bank has been drained (R321, R323): it may fill again. -/
def State.drainBank (s : State) (n b : Nat) : State :=
  let x := s.stream n
  let x := x.setBank b {}
  let x := if x.fill.isNone then { x with fill := some b } else x
  (s.setStream n x).raise Page.strm (4 + n)

/-- A TICKET or EXPLICIT close (R320, R557). -/
def State.closeStream (s : State) (n reason : Nat) (due : Option Nat) : State :=
  s.onlyIf (s.pageEn Page.strm) (·.closeBank n reason due)

/-- A due BCLOSE occurrence of a stream lands (R320). -/
def State.landClose (s : State) (n : Nat) : State :=
  s.land 8 n (s.pageLive Page.strm) (fun s a => s.closeStream n 1 (some a.due))

/-- An append with no filling bank is dropped (R321, R330). -/
def State.dropAppend (s : State) (n : Nat) : State :=
  let x := s.stream n
  let s := ((s.setb (Reg.strmSsta n) 22 true).bump (Reg.strmDrop n)).raise Page.strm (8 + n)
  if x.dropped then s
  else (s.setStream n { x with dropped := true }).blockAlarm Page.strm (s.rf Reg.strmAlprio 0 4) n 0x30

/-- An append of a record (R319-R321): the status (R392) and the state. The BCLOSE landings of the FAB cycle close the bank first. -/
def State.append (s : State) (n : Nat) (rec : List (Byte × Bool)) : Nat × State :=
  let s := (s.landClose n).landClose n
  if rec.length = 0 || 64 < rec.length || !s.streamOn n || (s.rb (Reg.strmScfg n) 3 && rec.length != 16) then (1, s)
  else
    let full := match (s.stream n).fill with
      | some b => decide (32768 < ((s.stream n).bank b).len + rec.length)
      | none => false
    let s := s.onlyIf full (·.closeBank n 0 none)
    match (s.stream n).fill with
    | none => (2, s.dropAppend n)
    | some b =>
      let k := (s.stream n).bank b
      let s := s.putStreamBytes (bankWord n b) k.len rec
      let s := s.setStream n ((s.stream n).setBank b { k with len := k.len + rec.length })
      let s := s.bump (Reg.strmAppcnt n)
      (0, s.onlyIf (decide (32768 ≤ k.len + rec.length)) (·.closeBank n 0 none))

/-- The oldest closed bank of a stream: the other closes first when both are closed and the sequence says so. -/
def State.closedBank (s : State) (n : Nat) : Option Nat :=
  let x := s.stream n
  let c0 := x.bank0.state == .closed
  let c1 := x.bank1.state == .closed
  let q := fun (b : Nat) => natField (x.bank b).header 2 22
  if c0 && c1 then some (if (q 1 + 2 ^ 22 - q 0) % 2 ^ 22 < 2 ^ 21 then 0 else 1)
  else if c0 then some 0 else if c1 then some 1 else none

/-- The bank of a stream in a given state. -/
def State.bankIn (s : State) (n : Nat) (st : BankState) : Option Nat :=
  let x := s.stream n
  if x.bank0.state = st then some 0 else if x.bank1.state = st then some 1 else none

/-- Set the state of a bank. -/
def State.setBankState (s : State) (n b : Nat) (st : BankState) : State :=
  let x := s.stream n
  s.setStream n (x.setBank b { x.bank b with state := st })

/-- A spill of a bank starts (R324, R325). -/
def State.startSpill (s : State) (n b : Nat) : State :=
  let x := s.stream n
  s.setStream n (x.setBank b { x.bank b with state := .spilling, spillW0 := s.w0 })

/-- SPILLTMO of a closed bank has passed with no drain begun (R323, R324): the spill begins, in a later FAB cycle than the one in which
SPILLTMO expires, whose drains win; in SLEEP it waits for the exit (R488). -/
def State.spillExpiry (s : State) (n : Nat) : State :=
  match s.closedBank n with
  | none => s
  | some b =>
    if s.pwr.state == .run && (s.rb (Reg.strmScfg n) 4 || s.streamDest n == 3) &&
        decide (usCycles (1000 * s.rf (Reg.strmSpilltmo n) 0 24) < s.time.fab - ((s.stream n).bank b).closedAt) then
      s.startSpill n b
    else s

/-- Words of a bank and whether one of them is poison: poison delivers its data bits (R322, R401). -/
def State.bankWords (s : State) (base : Nat) : Nat → (List DWord × Bool) × State
  | 0 => (([], false), s)
  | m + 1 =>
    let r := s.readWord Store.stream base
    let rest := r.2.bankWords (base + 1) m
    ((r.1.getD 0 :: rest.1.1, r.1.isNone || rest.1.2), rest.2)

/-- Words of a number of bytes. -/
def wordsFor (len : Nat) : Nat := (len + 7) / 8

/-- A word of the bank reads as poison. -/
def State.bankPoisoned (s : State) (n b : Nat) : Bool :=
  (List.range (wordsFor ((s.stream n).bank b).len)).any (fun i =>
    match checkWord (s.rawWord Store.stream (bankWord n b + i)) with
    | .good _ | .corrected _ => false
    | .poison | .uncorrectable => true)

/-- A bank's header with POISON (R322), its words and the state. -/
def State.readBank (s : State) (n b : Nat) : (Nat × List DWord) × State :=
  let k := (s.stream n).bank b
  let r := s.bankWords (bankWord n b) ((k.len + 7) / 8)
  let hdr := k.header ||| (b2n r.1.2 * 2 ^ 47)
  ((hdr, r.1.1), r.2)

/-! ### History records (R325, R326) -/

/-- A varint. -/
def varint : Nat → Nat → List Byte
  | 0, _ => []
  | f + 1, x => if x < 128 then [BitVec.ofNat 8 x] else BitVec.ofNat 8 (x % 128 + 128) :: varint f (x / 128)

/-- The zigzag of a number taken modulo 2^32 as signed (R326). -/
def zigzag (x : Int) : Nat :=
  let n := sintOf (natOf x 32) 32
  if 0 ≤ n then natOf (2 * n) 32 else natOf (-2 * n - 1) 32

/-- A FORMAT 1 item: point, QUAL, VALUE, STAMP, WPOS (R326). -/
structure Item where
  point : Nat
  qual : Nat
  value : Int
  stamp : Nat
  wpos : Nat
  deriving DecidableEq, Repr

/-- An item from its 16 bytes, taken as a number. -/
def itemOf (x : Nat) : Item :=
  { point := natField x 0 20, qual := natField x 24 8, value := sintOf (natField x 32 32) 32,
    stamp := natField x 64 32, wpos := natField x 96 32 }

/-- Items of a bank from its words. -/
def itemsOf : List DWord → List Item
  | a :: b :: rest => itemOf (a.toNat + b.toNat * 2 ^ 64) :: itemsOf rest
  | _ => []

/-- The items kept (R326): `kept` are those kept so far, newest first. -/
def keepItems (dband : Nat) : List Item → List Item → List Item
  | kept, [] => kept.reverse
  | kept, x :: xs =>
    let drop := match kept.find? (fun k => k.point == x.point) with
      | some k => k.qual == x.qual && decide ((x.value - k.value).natAbs ≤ dband) && xs.any (fun y => y.point == x.point)
      | none => false
    keepItems dband (if drop then kept else x :: kept) xs

/-- The code of the kept items in bank order (R326): `prev` the kept items before, newest first. -/
def codeItems : List Item → List Item → List Byte
  | _, [] => []
  | prev, x :: xs =>
    let p := prev.head?.getD { point := 0, qual := 0, value := 0, stamp := 0, wpos := 0 }
    let v := ((prev.find? (fun k => k.point == x.point)).map (·.value)).getD 0
    varint 5 (zigzag ((x.point : Int) - p.point)) ++ [BitVec.ofNat 8 x.qual]
      ++ varint 5 ((x.stamp + 2 ^ 32 - p.stamp) % 2 ^ 32) ++ varint 5 (zigzag (x.value - v))
      ++ varint 5 ((x.wpos + 2 ^ 32 - p.wpos) % 2 ^ 32) ++ codeItems (x :: prev) xs

/-- The 32 bytes before a history record's body (R325). -/
def State.historyHead (s : State) (n b : Nat) (poison : Bool) (items kept len : Nat) : List Byte :=
  let k := (s.stream n).bank b
  bytesOf 8 (k.header ||| (b2n poison * 2 ^ 47)) ++ bytesOf 1 (b2n (s.rb (Reg.strmScfg n) 3)) ++ bytesOf 1 0 ++ bytesOf 2 items
    ++ bytesOf 2 kept ++ bytesOf 2 0 ++ bytesOf 4 len ++ bytesOf 4 (s.rn (Reg.strmDband n)) ++ bytesOf 8 k.spillW0

/-- The coded words of bytes. -/
def codeBytes (bs : List Byte) : List CWord :=
  (List.range (wordsFor bs.length)).map (fun i => encodeWord (BitVec.ofNat 64 (ofBytes ((bs.drop (8 * i)).take 8))))

/-- The history record of a spilled bank as coded words (R325, R326): the Hopper makes the header and the body of FORMAT 1, and moves
the words of FORMAT 0 with their 72 bits as they stand (R397). -/
def State.historyRecord (s : State) (n b : Nat) : List CWord × State :=
  let k := (s.stream n).bank b
  if s.rb (Reg.strmScfg n) 3 then
    let r := s.readBank n b
    let items := itemsOf r.1.2
    let kept := keepItems (s.rn (Reg.strmDband n)) [] items
    let body := codeItems [] kept
    (codeBytes (s.historyHead n b (r.1.1.testBit 47) items.length kept.length body.length ++ body), r.2)
  else
    (codeBytes (s.historyHead n b (s.bankPoisoned n b) 0 0 k.len)
      ++ (List.range (wordsFor k.len)).map (fun i => s.rawWord Store.stream (bankWord n b + i)), s)

/-- A spill accepted: the bank counts as drained (R324). -/
def State.spillDone (s : State) (n b : Nat) : State :=
  ((s.bump (Reg.strmSpillcnt n)).raise Page.strm (12 + n)).drainBank n b

/-- A spill refused: the bank stays closed until the next SPILLTMO (R324). -/
def State.spillRefused (s : State) (n b : Nat) : State :=
  let x := s.stream n
  let s := s.setStream n (x.setBank b { x.bank b with state := .closed, closedAt := s.time.fab })
  ((s.bump (Reg.strmSpillerr n)).raise Page.strm (16 + n)).blockAlarm Page.strm (s.rf Reg.strmAlprio 0 4) n 0x31

/-- SSTA of a stream. -/
def State.ssta (s : State) (n : Nat) : Word :=
  let x := s.stream n
  let code := fun (k : Bank) => match k.state with
    | .empty => 0
    | .closed => 1
    | .draining => 2
    | .spilling => 3
  let len := match x.fill with
    | some b => (x.bank b).len
    | none => 0
  w32 (len % 2 ^ 16 + x.fill.getD 0 * 2 ^ 16 + b2n x.fill.isNone * 2 ^ 17 + code x.bank0 * 2 ^ 18 + code x.bank1 * 2 ^ 20)
    ||| (s.rd (Reg.strmSsta n) &&& 0x400000)

/-- A soft reset of STRM (R557). -/
def State.softResetStreams (s : State) : State := { s with streams := [] }

end Sys2Proof.Machine
end

