-- ==== Sys2Proof/Machine/Segments.lean ====
section
/-! DEFINITION. Segment and uplink ports under HPP: PLCA roles, the node table, reception, the value cache, poll bursts,
the mailboxes, the uplinks' links and batch trains (07 R230-R266, 08 R291-R299). -/

namespace Sys2Proof.Machine

/-! ### Ports: 0-15 segments, 16-17 uplinks (R271, R294) -/

/-- A register that both kinds of port have. -/
def portReg (p : Nat) (seg upl : Nat → Nat) : Nat := if p < 16 then seg p else upl (p - 16)

def isSeg (p : Nat) : Bool := decide (p < 16)
def portPage (p : Nat) : Nat := if p < 16 then Page.seg p else Page.upl (p - 16)
def portStore (p : Nat) : Store := if p < 16 then Store.segment p else Store.uplink (p - 16)

/-- The port is enabled and its block runs. -/
def State.portOn (s : State) (p : Nat) : Bool :=
  s.rb (portReg p (fun n => Reg.segSctl n) (fun u => Reg.uplUctl u)) 0 && s.pageLive (portPage p)

/-- SCTL.LISTEN (R237). -/
def State.listens (s : State) (p : Nat) : Bool := isSeg p && s.rb (Reg.segSctl p) 2

/-- The station address and the HPP multicast address, byte 0 in bits 7:0. -/
def State.stationAddr (s : State) (p : Nat) : Nat :=
  s.rn (portReg p (fun n => Reg.segSmacl n) (fun u => Reg.uplSmacl u))
    + s.rf (portReg p (fun n => Reg.segSmach n) (fun u => Reg.uplSmach u)) 0 16 * 2 ^ 32
def State.mcastAddr (s : State) (p : Nat) : Nat :=
  s.rn (portReg p (fun n => Reg.segMcastl n) (fun u => Reg.uplMcastl u))
    + s.rf (portReg p (fun n => Reg.segMcasth n) (fun u => Reg.uplMcasth u)) 0 16 * 2 ^ 32

/-- The HPP EtherType; the uplinks have no register for it: the segments' reset value (assumption 10). -/
def State.hppType (s : State) (p : Nat) : Nat := if p < 16 then s.rf (Reg.segEtype p) 0 16 else 0x88B5

/-! ### PLCA roles (R232-R237) -/

/-- The role is coordinator: ROLE, unless a foreign beacon or LISTEN makes the port a follower (R232, R236, R237). -/
def State.coordRole (s : State) (n : Nat) : Bool :=
  s.rb (Reg.segPlcacfg n) 1 && !(s.port n).coord2 && !s.rb (Reg.segSctl n) 2

/-- The port runs PLCA. -/
def State.plcaOn (s : State) (n : Nat) : Bool := s.portOn n && s.rb (Reg.segPlcacfg n) 0

/-- The port acts as coordinator: it has the role and runs PLCA. -/
def State.coordinates (s : State) (n : Nat) : Bool := s.plcaOn n && s.coordRole n

/-- The PLCA ID in use. -/
def State.plcaId (s : State) (n : Nat) : Nat :=
  if s.coordRole n then 0
  else if (s.port n).coord2 then s.rf (Reg.segPlcafb n) 16 6
  else s.rf (Reg.segPlcacfg n) 8 6

/-- STA of a segment. -/
def State.segSta (s : State) (n : Nat) : Word :=
  let x := s.port n
  w32 (b2n x.plcaok + b2n x.fallback * 2 + b2n (s.coordinates n) * 4 + b2n x.coord2 * 8
    + b2n (x.burst.any (fun b => b.opened.isSome)) * 16 + s.plcaId n * 256)

/-- An alarm of a segment or uplink (R259, R294). -/
def State.portAlarm (s : State) (p prio point kind : Nat) : State := s.blockAlarm (portPage p) prio point kind

/-- A PLCACFG write (R232, R236). -/
def State.writePlca (s : State) (n : Nat) (v : Word) : State :=
  let cnt := field v 16 7
  if (!bitOf v 1 && field v 8 6 == 0) || cnt == 0 || decide (64 < cnt) then s.raise (Page.seg n) 14
  else (s.wr (Reg.segPlcacfg n) (v &&& 0x7F3F03)).setPort n { s.port n with coord2 := false }

/-- The coordinator's beacon (R232, R237). -/
def State.sendBeacon (s : State) (n : Nat) : State :=
  if s.coordinates n then
    s.setPort n { s.port n with lastBeacon := s.time.fab, plcaok := true, fallback := false }
  else s

/-- A beacon heard (R235, R236). -/
def State.hearBeacon (s : State) (n : Nat) : State :=
  if !s.plcaOn n then s
  else
    let c := s.coordinates n
    let s := s.setPort n { s.port n with lastBeacon := s.time.fab, plcaok := true, fallback := false,
                                         coord2 := (s.port n).coord2 || c }
    s.onlyIf c (fun s => (s.raise (Page.seg n) 4).portAlarm n (s.rf (Reg.segAlprio n) 4 4) (64 * n) 0x24)

/-- A follower that hears no beacon for BCNLOSS µs falls back to CSMA/CD (R235). -/
def State.fallBack (s : State) (n : Nat) : State :=
  let x := s.port n
  if s.plcaOn n && !s.coordinates n && !x.fallback &&
      decide (usCycles (s.rf (Reg.segPlcafb n) 0 16) ≤ s.time.fab - x.lastBeacon) then
    ((s.setPort n { x with fallback := true, plcaok := false }).raise (Page.seg n) 5).portAlarm n
      (s.rf (Reg.segAlprio n) 8 4) (64 * n) 0x25
  else s

/-! ### Node and subscription records (R247-R252, R294) -/

/-- First word of a record in the port's store: behind the segment's 32 KiB buffer, and in the uplink's memory behind its
cache (assumption 11). -/
def recIndex (p k : Nat) : Nat := (if p < 16 then 4096 else 2048) + 4 * k

/-- A record: its four words. -/
structure NodeRec where
  w0 : Nat
  w1 : Nat
  w2 : Nat
  w3 : Nat
  deriving DecidableEq, Repr

def NodeRec.basept (r : NodeRec) : Nat := natField r.w1 0 20
def NodeRec.nch (r : NodeRec) : Nat := natField r.w1 20 8
def NodeRec.cbase (r : NodeRec) : Nat := natField r.w1 28 10
def NodeRec.mode (r : NodeRec) : Nat := natField r.w1 38 2
def NodeRec.authreq (r : NodeRec) : Bool := r.w1.testBit 40
def NodeRec.marken (r : NodeRec) : Bool := r.w1.testBit 41
def NodeRec.prio (r : NodeRec) : Nat := natField r.w1 42 4
def NodeRec.missmax (r : NodeRec) : Nat := max 1 (natField r.w1 46 4)
def NodeRec.state (r : NodeRec) : Nat := natField r.w1 50 3
def NodeRec.pubtmo (r : NodeRec) : Nat := natField r.w1 56 8
def NodeRec.lastseq (r : NodeRec) : Nat := natField r.w2 0 16
def NodeRec.rxctr (r : NodeRec) : Nat := natField r.w2 16 32
def NodeRec.miss (r : NodeRec) : Nat := natField r.w2 48 4
def NodeRec.authf (r : NodeRec) : Nat := natField r.w2 52 4
def NodeRec.txctr (r : NodeRec) : Nat := natField r.w3 32 32

/-- A field of a 64-bit number replaced. -/
def putNat (x lo n v : Nat) : Nat := x - natField x lo n * 2 ^ lo + v % 2 ^ n * 2 ^ lo

/-- A record as it stands, poison as zeros. -/
def State.node (s : State) (p k : Nat) : NodeRec :=
  let f := fun i => (s.peekWord (portStore p) (recIndex p k + i)).toNat
  { w0 := f 0, w1 := f 1, w2 := f 2, w3 := f 3 }

/-- A record is read for a frame: none if a word is poison (R401). -/
def State.readNode (s : State) (p k : Nat) : Option NodeRec × State :=
  let r := s.readWords (portStore p) (recIndex p k) 4
  match r.1 with
  | [some a, some b, some c, some d] => (some { w0 := a.toNat, w1 := b.toNat, w2 := c.toNat, w3 := d.toNat }, r.2)
  | _ => (none, r.2)

/-- A record replaced. -/
def State.putNode (s : State) (p k : Nat) (r : NodeRec) : State :=
  s.writeWords (portStore p) (recIndex p k)
    [BitVec.ofNat 64 r.w0, BitVec.ofNat 64 r.w1, BitVec.ofNat 64 r.w2, BitVec.ofNat 64 r.w3]

/-- The record, not UNUSED, of an identity. -/
def State.findNode (s : State) (p ident : Nat) : Option Nat :=
  (List.range 64).find? (fun k => let r := s.node p k; r.state != 0 && r.w0 == ident)

/-- Word of a cache entry (R253). -/
def cacheWord (c : Nat) : Nat := 2 * c

/-- The marks of R251: the cache entries of a record. -/
def State.markCache (s : State) (p : Nat) (r : NodeRec) (qual : Nat) : State :=
  (List.range r.nch).foldl (fun s i =>
    let c := cacheWord ((r.cbase + i) % 1024)
    let d := (s.peekWord (portStore p) c).toNat
    s.writeWord (portStore p) c (BitVec.ofNat 64 (putNat (putNat d 24 8 qual) 23 1 1))) s

/-- A record enters a state (R250, R251): the marks, the alarm, IRAW and the event of a state change. -/
def State.enterNode (s : State) (p k st : Nat) : State :=
  let r := s.node p k
  let s := s.putNode p k { r with w1 := putNat r.w1 50 3 st }
  let s := s.onlyIf (isSeg p) (·.event (portPage p) 2)
  if st = 2 then s
  else
    let qual := if st = 3 then 0x06 else if st = 4 then 0x41 else 0x09
    let s := s.markCache p r qual
    let s := if r.marken then (List.range r.nch).foldl (fun s i =>
        s.mark { point := r.basept + i, qual := BitVec.ofNat 8 qual, stale := true }) s else s
    let kind := if st = 3 then 0x22 else if st = 4 then 0x21 else 0x23
    let bit := if isSeg p then (if st = 3 then 2 else if st = 4 then 1 else 3) else (if st = 3 then 6 else 7)
    (s.portAlarm p r.prio r.basept kind).raise (portPage p) bit

/-- PUBTMO of a record counts from now (R252). -/
def State.setPubFrom (s : State) (p k : Nat) : State :=
  let x := s.port p
  s.setPort p { x with pubFrom := setNum x.pubFrom k s.time.fab }

/-- One miss of a record (R250, R252). -/
def State.countMiss (s : State) (p k : Nat) : State :=
  let r := s.node p k
  let m := min 15 (r.miss + 1)
  let s := s.putNode p k { r with w2 := putNat r.w2 48 4 m }
  let s := s.onlyIf (isSeg p) (·.bump (Reg.segMisscnt p))
  s.onlyIf (decide (r.missmax ≤ m) && (r.state == 1 || r.state == 2)) (·.enterNode p k 3)

/-- Nodes that count misses (R252). -/
def NodeRec.counts (r : NodeRec) : Bool := r.state == 1 || r.state == 2 || r.state == 3

/-- The words a NCMD or SCMD writes: ND0-ND3, MISSMAX 0 stored as 1, reserved bits as 0 (R7, R247, R248). -/
def State.ndWords (s : State) (p : Nat) : Nat × Nat :=
  let nd := fun i => portReg p (fun n => Reg.nodeNd n i) (fun u => Reg.uplSd u i)
  let w1 := putNat (s.rd64 (nd 2) (nd 3)) 53 3 0
  (s.rd64 (nd 0) (nd 1), if natField w1 46 4 = 0 then putNat w1 46 4 1 else w1)

/-- A record write is refused (R248; R294 less the PLCA test). -/
def State.badNode (s : State) (p k w0 w1 : Nat) : Bool :=
  let st := natField w1 50 3
  let nch := natField w1 20 8
  decide (1 < st) || (st != 0 && w0 == 0)
    || (List.range 64).any (fun j => j != k && (s.node p j).state != 0 && (s.node p j).w0 == w0)
    || decide (1024 < natField w1 28 10 + nch) || decide (1048576 < natField w1 0 20 + nch)
    || natField w1 38 2 == 3 || (isSeg p && k == s.plcaId p && st != 0)

/-- The index of NCMD or SCMD. -/
def State.nodeIndex (s : State) (p : Nat) : Nat :=
  s.rf (portReg p (fun n => Reg.nodeNidx n) (fun u => Reg.uplSidx u)) 0 6

/-- A READ fills ND0-ND7 or SD0-SD7, poison as all ones (R248, R455). -/
def State.nodeRead (s : State) (p : Nat) : State :=
  let r := s.readWords (portStore p) (recIndex p (s.nodeIndex p)) 4
  let nd := fun i => portReg p (fun n => Reg.nodeNd n i) (fun u => Reg.uplSd u i)
  ((List.range 4).zip r.1).foldl (fun s x => s.wr64 (nd (2 * x.1)) (nd (2 * x.1 + 1)) (x.2.getD (BitVec.allOnes 64)).toNat) r.2

/-- A WRITE sets words 0 and 1 and clears words 2 and 3, or is refused whole (R248). -/
def State.nodeWrite (s : State) (p : Nat) : State :=
  let k := s.nodeIndex p
  let w := s.ndWords p
  if s.badNode p k w.1 w.2 then
    if isSeg p then (s.setb (Reg.nodeNsta p) 1 true).raise (Page.node p) 0
    else (s.setb (Reg.uplSsta (p - 16)) 1 true).raise (portPage p) 11
  else (s.putNode p k { w0 := w.1, w1 := w.2, w2 := 0, w3 := 0 }).setPubFrom p k

/-- An NCMD or SCMD write: READ, else WRITE. -/
def State.ncmd (s : State) (p : Nat) (v : Word) : State :=
  let s := s.onlyIf (bitOf v 0) (·.nodeRead p)
  s.onlyIf (bitOf v 1) (·.nodeWrite p)

/-! ### Keys (R246) -/

/-- The key of a slot. -/
def State.key? (s : State) (p k : Nat) : Option (BitVec 128) := ((s.port p).keys.find? (fun x => x.1 == k)).map (·.2)

/-- KIDX. -/
def State.keyIndex (s : State) (p : Nat) : Nat :=
  s.rf (portReg p (fun n => Reg.nodeKidx n) (fun u => Reg.uplKidx u)) 0 7

/-- KEY0-KEY3 as a key: byte 0 in KEY0[7:0]; the key's first byte is its most significant. -/
def State.keyWords (s : State) (p : Nat) : BitVec 128 :=
  let bs := (List.range 4).flatMap (fun i =>
    bytesOf 4 (s.rn (portReg p (fun n => Reg.nodeKey n i) (fun u => Reg.uplKey u i))))
  BitVec.ofNat 128 (ofBytes bs.reverse)

/-- A key slot takes a key, or none. -/
def State.setKey (s : State) (p k : Nat) (key : Option (BitVec 128)) : State :=
  let x := s.port p
  let rest := x.keys.filter (fun y => y.1 != k)
  s.setPort p { x with keys := match key with
    | some v => (k, v) :: rest
    | none => rest }

/-- A KCMD write (R246): LOAD, then ERASE. -/
def State.kcmd (s : State) (p : Nat) (v : Word) : State :=
  let k := s.keyIndex p
  let s := s.onlyIf (bitOf v 0) (fun s => s.setKey p k (some (s.keyWords p)))
  s.onlyIf (bitOf v 1) (·.setKey p k none)

/-- KVAL word `i`. -/
def State.kval (s : State) (p i : Nat) : Word :=
  w32 (((s.port p).keys.filter (fun x => x.1 / 32 == i)).map (fun x => 2 ^ (x.1 % 32))).sum

/-- LIVE0, LIVE1 of a node page. -/
def State.liveWord (s : State) (n i : Nat) : Word :=
  w32 (((List.range 32).map (fun j => b2n ((s.node n (32 * i + j)).state == 2) * 2 ^ j)).foldl (· + ·) 0)

/-! ### Receive mailboxes (R266) -/

/-- Words of a byte list. -/
def bytesWords : Nat → List Byte → List DWord
  | 0, _ => []
  | n + 1, bs => if bs.isEmpty then [] else BitVec.ofNat 64 (ofBytes (bs.take 8)) :: bytesWords n (bs.drop 8)

/-- The first `len` bytes of words read, a poisoned one as zeros. -/
def wordBytes (len : Nat) (ws : List (Option DWord)) : List Byte :=
  (ws.flatMap (fun w => bytesOf 8 (w.getD 0).toNat)).take len

/-- A malformed or poisoned frame. -/
def State.badFrame (s : State) (p : Nat) : State := s.bump (portReg p (fun n => Reg.segBadfrm n) (fun u => Reg.uplBadfrm u))

/-- First word of a mailbox slot: the segment's receive ring, the uplink's frame memory behind its records (assumption 11). -/
def mailWord (p slot : Nat) : Nat := (if p < 16 then 2048 else 2560) + 16 * slot

/-- MBXHDR and MBXRX show the oldest frame held (R266); one with a poisoned word is dropped (R401). -/
def State.showOldest (s : State) (p : Nat) : List MailRx → State
  | [] => s.setPort p { s.port p with mail := [] }
  | m :: rest =>
    let r := s.readWords (portStore p) (mailWord p m.slot) (wordsFor m.len)
    if r.1.any (·.isNone) then (r.2.badFrame p).showOldest p rest
    else
      let hdr := m.plca + m.ty * 256 + m.len % 256 * 2 ^ 12 + b2n m.auth * 2 ^ 20 + b2n m.stranger * 2 ^ 21
      let body := wordBytes m.len r.1
      let s := r.2.setPort p { r.2.port p with mail := m :: rest }
      let s := s.wr (portReg p (fun n => Reg.segMbxhdr n) (fun u => Reg.uplMbxhdr u)) (w32 hdr)
      (List.range 32).foldl (fun s i =>
        s.wr (portReg p (fun n => Reg.segMbxrx n i) (fun u => Reg.uplMbxrx u i))
          (w32 (ofBytes ((body.drop (4 * i)).take 4)))) s

/-- MBXSTA.OVR (bit 5) or UNDR (bit 6) is set (R266). -/
def State.mailError (s : State) (p b : Nat) : State :=
  (s.setb (portReg p (fun n => Reg.segMbxsta n) (fun u => Reg.uplMbxsta u)) b true).raise (portPage p)
    (if isSeg p then 7 else 3)

/-- A frame enters the receive mailbox (R266): its body in a free slot. -/
def State.toMail (s : State) (p plca ty : Nat) (body : List Byte) (auth stranger : Bool) : State :=
  let held := (s.port p).mail
  match (List.range 16).find? (fun k => held.all (fun m => m.slot != k)) with
  | none => s.mailError p 5
  | some k =>
    if 128 < body.length then s.mailError p 5
    else
      let m : MailRx := { plca := plca, ty := ty, len := body.length, slot := k, auth := auth, stranger := stranger }
      let s := s.writeWords (portStore p) (mailWord p k) (bytesWords 16 body)
      let s := (s.setPort p { s.port p with mail := held ++ [m] }).raise (portPage p) (if isSeg p then 6 else 2)
      s.onlyIf held.isEmpty (·.showOldest p [m])

/-- A write to MBXPOP (R266). -/
def State.popMail (s : State) (p : Nat) : State :=
  match (s.port p).mail with
  | [] => s.mailError p 6
  | _ :: rest => s.showOldest p rest

/-- MBXSTA. -/
def State.mbxsta (s : State) (p : Nat) : Word :=
  putField (s.rd (portReg p (fun n => Reg.segMbxsta n) (fun u => Reg.uplMbxsta u))) 0 5 (s.port p).mail.length

/-! ### Frames sent (R240-R244, R270, R278-R281) -/

/-- The Ethernet header: destination and station address byte 0 first, the EtherType's most significant octet first (R240). -/
def State.etherHead (s : State) (p dst etype : Nat) : List Byte :=
  bytesOf 6 dst ++ bytesOf 6 (s.stationAddr p) ++ (bytesOf 2 etype).reverse

/-- The hub's identity: HIDL and HIDH, which the segments send as well (R296). -/
def State.hubIdentity (s : State) : Nat := s.rd64 (Reg.uplHidl 0) (Reg.uplHidh 0)

/-- The first 8 bytes of the CMAC (R244). -/
def authTag (key : BitVec 128) (msg : List Byte) : List Byte := (bytesOf 16 (Config.cmac key msg).toNat).reverse.take 8

/-- An HPP frame of the hub (R240, R244, R294): headers, body, and with a key the authenticator. -/
def State.hppBytes (s : State) (p dst ty seq ctr : Nat) (key : Option (BitVec 128)) (body : List Byte) : List Byte :=
  let signed := bytesOf 1 (16 + ty) ++ bytesOf 1 (b2n key.isSome) ++ bytesOf 2 body.length ++ bytesOf 8 s.hubIdentity
    ++ bytesOf 1 (if isSeg p then s.plcaId p else 0) ++ bytesOf 1 0 ++ bytesOf 2 seq ++ bytesOf 4 ctr ++ body
  s.etherHead p dst (s.hppType p) ++ signed ++ (key.map (fun k => authTag k signed)).getD []

/-- Bytes of a queued frame that stand in its slot; a PTP message is held as one word. -/
def txLen : TxItem → Nat
  | .poll n | .mail n | .ptpMail n => n
  | _ => 8

def isMail : TxItem → Bool
  | .mail .. => true
  | _ => false
def isPoll : TxItem → Bool
  | .poll .. => true
  | _ => false
def isPtpMail : TxItem → Bool
  | .ptpMail .. => true
  | _ => false

/-- A frame of HPP, which a soft reset of its SEG or UPL page takes from the queue. -/
def isHpp (i : TxItem) : Bool := isPoll i || isMail i

/-- A PTP event message (R273). -/
def isPtpEvent : TxItem → Bool
  | .sync .. | .delayReq .. | .pdelayReq .. | .pdelayResp .. => true
  | _ => false

/-- A PTP message that hardware sends and does not stamp (R273). -/
def isPtpFollow : TxItem → Bool
  | .delayResp .. | .followUp .. | .pdelayFollowUp .. => true
  | _ => false

/-- First word of a transmit slot: the segment's transmit queue, the uplink's frame memory (R238, R292, assumption 11). -/
def txWord (p slot : Nat) : Nat := if p < 16 then 3072 + 64 * slot else 4096 + 128 * slot

/-- The slot of an item: one each for the PTP mailbox, the POLL and the mailbox, the first free of 13 for a PTP message. -/
def State.txSlot (s : State) (p : Nat) (i : TxItem) : Option Nat :=
  if isPtpMail i then some 13
  else if isPoll i then some 14
  else if isMail i then some 15
  else (List.range 13).find? (fun k => (s.port p).txq.all (fun e => e.slot != k))

/-- An item is queued for the line with its bytes (R238, R293); a PTP message that finds no slot is dropped, which an uplink
counts in DROPBUF (assumption 41). -/
def State.queueTx (s : State) (p : Nat) (i : TxItem) (bs : List Byte := [0]) : State :=
  match s.txSlot p i with
  | none => s.onlyIf (!isSeg p) (·.bump (Reg.uplDropbuf (p - 16)))
  | some k =>
    let s := s.writeWords (portStore p) (txWord p k) (bytesWords 128 bs)
    s.setPort p { s.port p with txq := (s.port p).txq ++ [{ slot := k, item := i }] }

/-- TXFRM. -/
def State.countTx (s : State) (p : Nat) : State := s.bump (portReg p (fun n => Reg.segTxfrm n) (fun u => Reg.uplTxfrm u))

/-- The PTP addresses, byte 0 in bits 7:0: 01-1B-19-00-00-00, and 01-80-C2-00-00-0E of peer delay (R270). -/
def ptpPrimary : Nat := 0x000000191B01
def ptpPeer : Nat := 0x0E0000C28001

/-- PCFG.TWOSTEP. -/
def State.twoStep (s : State) (p : Nat) : Bool := s.rb (Reg.ptppPcfg p) 20

/-- The port identity of the device's port: clockIdentity and portNumber p + 1 (R271). -/
def State.portIdentity (s : State) (p : Nat) : Nat := s.rd64 Reg.ptpClkidl Reg.ptpClkidh * 2 ^ 16 + (p + 1)

/-- A queued PTP message as it goes out, egress time `t` in ns (R278, R279, R281): stamps and TXLAT are whole nanoseconds, so no
remainder goes to the correctionField. Fields that the spec does not name follow IEEE 1588 (assumption 12). -/
def State.ptpOut (s : State) (p : Nat) (i : TxItem) (t : Int) : Option PtpOut :=
  let two := s.twoStep p
  let msg (kind : PtpKind) (dst seqId : Nat) (twoStep : Bool) (time corr : Int) (requester : Nat) : PtpOut :=
    { kind := kind, dst := dst, domain := s.rf Reg.ptpCtl 8 7, seqId := seqId, twoStep := twoStep,
      source := s.portIdentity p, time := time, corr := corr, requester := requester }
  match i with
  | .sync q => some (msg .sync ptpPrimary q two (if two then 0 else t) 0 0)
  | .followUp q stamp => some (msg .followUp ptpPrimary q false stamp 0 0)
  | .delayReq q => some (msg .delayReq ptpPrimary q false 0 0 0)
  | .delayResp q t4 r c => some (msg .delayResp ptpPrimary q false t4 c r)
  | .pdelayReq q => some (msg .pdelayReq ptpPeer q false 0 0 0)
  | .pdelayResp q t2 r c => some (msg .pdelayResp ptpPeer q two (if two then t2 else 0) (if two then 0 else c + (t - t2) * 65536) r)
  | .pdelayFollowUp q stamp r c => some (msg .pdelayFollowUp ptpPeer q false stamp c r)
  | .poll _ | .mail _ | .ptpMail _ => none

/-- An entry goes out whole (R280): its frame joins `lastTx`, and TXFRM counts it; a poisoned word in its slot sends it with an
inverted FCS. `t` is the egress time of a PTP event message. -/
def State.sendTx (s : State) (p : Nat) (e : TxEntry) (t : Int := 0) : State :=
  let s := s.setPort p { s.port p with txq := (s.port p).txq.erase e }
  let r := s.readWords (portStore p) (txWord p e.slot) (wordsFor (txLen e.item))
  let bad := r.1.any (·.isNone)
  let s := r.2
  let frame := match s.ptpOut p e.item t with
    | some m => TxFrame.ptp m bad
    | none => TxFrame.bytes (wordBytes (txLen e.item) r.1) bad
  let s := s.setPort p { s.port p with lastTx := (s.port p).lastTx ++ [frame] }
  (s.onlyIf bad (·.bump Reg.ptppTxpois)).countTx p

/-- A transmission begins: the follow-ups ahead of any other frame have gone out by then (R238, R293). -/
def State.sendFollows (s : State) (p : Nat) : State :=
  ((s.port p).txq.filter (fun e => isPtpFollow e.item)).foldl (fun s e => s.sendTx p e)
    (s.setPort p { s.port p with lastTx := [] })

/-- The port may put a frame on the line; in safe acquisition the uplinks send none (R237, R478). -/
def State.maySend (s : State) (p : Nat) : Bool :=
  s.portOn p && !s.listens p && (isSeg p || ((s.port p).link && (s.port p).pausedTo.isNone && !s.pwr.cfgdef))

/-- The queued POLL may go out: with ALIGN, only after a beacon later than the landing, unless the port runs CSMA/CD (R261). -/
def State.pollReady (s : State) (p : Nat) : Bool :=
  let x := s.port p
  x.burst.all (fun b => !b.align || x.fallback || !s.plcaOn p || decide (b.landed < x.lastBeacon))

/-- The frame that goes to the line next (R234, R238, R293): one to be retried; then PTP event messages, the PTP mailbox, the POLL
and the mailbox. The follow-ups go ahead of it. -/
def State.lineHead (s : State) (p : Nat) : Option TxEntry :=
  let first (f : TxEntry → Bool) : Option TxEntry := (s.port p).txq.find? f
  (((first (fun e => e.tries != 0)).or (first (fun e => isPtpEvent e.item))).or (first (fun e => isPtpMail e.item))).or
    ((first (fun e => isPoll e.item && s.pollReady p)).or (first (fun e => isMail e.item)))

/-- The frame of a kind, where it is the one that goes to the line next and the port may send. -/
def State.lineFrame (s : State) (p : Nat) (f : TxItem → Bool) : Option TxEntry :=
  if s.maySend p then (s.lineHead p).filter (fun e => f e.item) else none

/-- The mailbox frame is finished: BUSY clears, TXDONE is set; DROP tells which (R265). -/
def State.mailDone (s : State) (p : Nat) (dropped : Bool) : State :=
  let a := portReg p (fun n => Reg.segTxsta n) (fun u => Reg.uplTxsta u)
  ((s.setb a 0 false).setb a 2 dropped).raise (portPage p) (if isSeg p then 8 else 4)

/-- IRAW.BURSTEND and the burst-end event (R262, R263). -/
def State.endBurst (s : State) (n : Nat) : State :=
  ((s.setPort n { s.port n with burst := none }).raise (Page.seg n) 10).event (Page.seg n) 0

/-- A frame is dropped after 16 attempts (R234, R263, R265, R281). -/
def State.dropTx (s : State) (n : Nat) (e : TxEntry) : State :=
  let s := s.setPort n { s.port n with txq := (s.port n).txq.erase e }
  let s := (s.bump (Reg.segColdrop n)).raise (Page.seg n) 12
  if isPoll e.item then (s.bump (Reg.segBurstfail n)).endBurst n
  else if isMail e.item then s.mailDone n true
  else if isPtpMail e.item then { s with ptp := { s.ptp with txBusy := false } }
  else s.bump Reg.ptppPtpdrop

/-- A collision aborts the transmission of the frame at the head, whose attempts count (R233, R234). -/
def State.collide (s : State) (n : Nat) : State :=
  match s.lineHead n with
  | none => s
  | some e =>
    let s := s.bump (Reg.segColcnt n)
    if 16 ≤ e.tries + 1 then s.dropTx n e
    else
      let q := (s.port n).txq.map (fun y => if y = e then { y with tries := y.tries + 1 } else y)
      s.setPort n { s.port n with txq := q }

/-- A mailbox frame has been sent; or dropped, which on a segment its sixteenth collision does (R234, R265). -/
def State.endMail (s : State) (p : Nat) (dropped : Bool) : State :=
  match s.lineFrame p isMail with
  | none => s
  | some e =>
    if dropped then s.onlyIf (isSeg p && e.tries == 15) (·.collide p)
    else ((s.sendFollows p).sendTx p e).mailDone p false

/-! ### TXCMD (R265, R296) -/

/-- The fields of a TXCMD: type, length, destination or record, multicast, AUTH. -/
structure TxCmd where
  ty : Nat
  len : Nat
  dst : Nat
  mcast : Bool
  auth : Bool
  deriving DecidableEq, Repr

/-- The fields of a written TXCMD (R265, R296). -/
def txCmdOf (p : Nat) (v : Word) : TxCmd :=
  if p < 16 then { ty := field v 0 4, len := field v 4 8, dst := field v 12 6, mcast := bitOf v 18, auth := bitOf v 19 }
  else { ty := field v 0 4, len := field v 4 10, dst := field v 16 6, mcast := false, auth := bitOf v 14 }

/-- The types a port's TXCMD sends (R265, R296). -/
def txAllowed (p ty : Nat) : Bool :=
  if p < 16 then [1, 3, 7, 8, 9].contains ty else [6, 7, 8, 9].contains ty

/-- MBXTX bytes. -/
def State.mailBody (s : State) (p len : Nat) : List Byte :=
  ((List.range (if p < 16 then 32 else 128)).flatMap (fun i =>
    bytesOf 4 (s.rn (portReg p (fun n => Reg.segMbxtx n i) (fun u => Reg.uplMbxtx u i))))).take len

/-- The key of a frame of the hub: the group key of a multicast frame while GKEYEN = 1, the record's where AUTH is set (R244). -/
def State.txKey (s : State) (p : Nat) (c : TxCmd) : Option (BitVec 128) := s.key? p (if c.mcast then 64 else c.dst)

/-- The frame carries an authenticator: a multicast one exactly under GKEYEN (R244). -/
def State.txAuth (s : State) (p : Nat) (c : TxCmd) : Bool := if c.mcast then s.rb (Reg.segAuthcfg p) 4 else c.auth

/-- The authentication counter of a frame of the hub: TXCTR + 1 of the record (R245); the spec gives none for the group
key or a poisoned record: a free value (assumption 4). -/
def State.takeCtr (s : State) (p : Nat) (c : TxCmd) : Nat × State :=
  if c.mcast then ((s.free 32).1.toNat, (s.free 32).2)
  else
    let r := s.readNode p c.dst
    match r.1 with
    | none => ((r.2.free 32).1.toNat, (r.2.free 32).2)
    | some n =>
      let ctr := (n.txctr + 1) % 2 ^ 32
      (ctr, r.2.putNode p c.dst { n with w3 := putNat n.w3 32 32 ctr })

/-- The destination of a frame of the hub: DMACL and DMACH on an uplink; on a segment the HPP multicast address, or the node's
address, which the spec holds nowhere: a free value (assumption 41). -/
def State.txDest (s : State) (p : Nat) (c : TxCmd) : Nat × State :=
  if !isSeg p then (s.rn (Reg.uplDmacl (p - 16)) + s.rf (Reg.uplDmach (p - 16)) 0 16 * 2 ^ 32, s)
  else if c.mcast then (s.mcastAddr p, s)
  else ((s.free 48).1.toNat, (s.free 48).2)

/-- The port's SEQ and the one after it. -/
def State.takeSeq (s : State) (p : Nat) : Nat × State :=
  let x := s.port p
  (x.hppSeq, s.setPort p { x with hppSeq := (x.hppSeq + 1) % 65536 })

/-- A TXCMD is refused (R265, R296). -/
def State.txRefused (s : State) (p : Nat) (c : TxCmd) : Bool :=
  s.rb (portReg p (fun n => Reg.segTxsta n) (fun u => Reg.uplTxsta u)) 0 || !txAllowed p c.ty
    || decide ((if p < 16 then 128 else 512) < c.len) || (s.txAuth p c && (s.txKey p c).isNone) || s.listens p

/-- A TXCMD write (R265, R296): the frame is built and queued; without link it is discarded (R298). -/
def State.txcmd (s : State) (p : Nat) (v : Word) : State :=
  let c := txCmdOf p v
  let a := portReg p (fun n => Reg.segTxsta n) (fun u => Reg.uplTxsta u)
  if s.txRefused p c then (s.setb a 1 true).raise (portPage p) (if isSeg p then 9 else 5)
  else
    let auth := s.txAuth p c
    let key := if auth then s.txKey p c else none
    let sq := s.takeSeq p
    let ct := if auth then sq.2.takeCtr p c else (0, sq.2)
    let d := ct.2.txDest p c
    let s := d.2.setb a 0 true
    let bs := s.hppBytes p d.1 c.ty sq.1 ct.1 key (s.mailBody p c.len)
    if isSeg p || (s.port p).link then s.queueTx p (.mail bs.length) bs
    else (s.bump (Reg.uplDropbuf (p - 16))).mailDone p true

/-! ### Reception (R240-R245, R256-R258, R294) -/

/-- Bytes `lo .. lo + n` as a number. -/
def bytesAt (bs : List Byte) (lo n : Nat) : Nat := ofBytes ((bs.drop lo).take n)

/-- The header of a frame's payload, if LEN fits the frame (R240, R244); a segment's PLCAID is 0 to 63, an uplink ignores it
(R294). -/
def parseHpp (seg : Bool) (bs : List Byte) : Option Hpp :=
  let len := bytesAt bs 2 2
  let flags := bytesAt bs 1 1
  let auth := flags.testBit 0
  if bs.length < 20 || bytesAt bs 0 1 / 16 != 1 || 1472 < len || bs.length < 20 + len + (if auth then 8 else 0) ||
      (seg && 63 < bytesAt bs 12 1) then none
  else some { ty := bytesAt bs 0 1 % 16, auth := auth, perstamp := flags.testBit 1, nfault := flags.testBit 2,
              src := bytesAt bs 4 8, plca := bytesAt bs 12 1, seq := bytesAt bs 14 2, ctr := bytesAt bs 16 4,
              body := (bs.drop 20).take len, signed := bs.take (20 + len), mac := (bs.drop (20 + len)).take 8 }

/-- The body length is right for the type (R241, R242). -/
def Hpp.lengthOk (f : Hpp) : Bool :=
  let n := f.body.length
  if f.ty = 2 then n == 8
  else if f.ty = 5 || f.ty = 6 then 6 ≤ n && (n - 6) % (if f.perstamp then 10 else 6) == 0
  else if f.ty = 7 then
    let k := bytesAt f.body 2 1
    1 ≤ k && k ≤ 20 && n == 4 + 6 * k
  else n == 4

/-- The types a port accepts (R241, R256, R294). -/
def rxAllowed (p ty : Nat) : Bool := if p < 16 then [2, 5, 6, 8, 9].contains ty else [6, 7, 8, 9].contains ty

/-- What reception finds in a frame before the node table is asked (R256, R230, R292). -/
inductive RxClass where
  | ptp
  | other
  | tagged
  | bad
  | hpp (f : Hpp)
  deriving DecidableEq, Repr

/-- The class of a frame (R256); an uplink takes 64 to 1,522 bytes, the 14 of the header and the FCS with them (R292). -/
def State.classify (s : State) (p : Nat) (f : Frame) : RxClass :=
  let len := f.payload.length + 18
  if f.vlan then .tagged
  else if !isSeg p && (len < 64 || 1522 < len) then .bad
  else if f.ethertype.toNat = 0x88F7 then .ptp
  else if f.ethertype.toNat ≠ s.hppType p then .other
  else if f.dst.toNat ≠ s.stationAddr p ∧ f.dst.toNat ≠ s.mcastAddr p then .other
  else
    match parseHpp (isSeg p) f.payload with
    | none => .bad
    | some h => if rxAllowed p h.ty && h.lengthOk then .hpp h else .bad

/-- The class is of the kind that a command names: a valid HPP message of a type, or anything else. -/
def RxClass.named (c : RxClass) (ty : Option Nat) : Bool :=
  match c with
  | .hpp h => ty == some h.ty
  | _ => ty.isNone

/-- The MAC takes a frame to this address: on a segment any, on an uplink the four of R292. -/
def State.macTakes (s : State) (p dst : Nat) : Bool :=
  isSeg p || dst == s.stationAddr p || dst == s.mcastAddr p || dst == ptpPrimary || dst == ptpPeer

/-- The port receives: it is on, and an uplink has link. -/
def State.receives (s : State) (p : Nat) : Bool := s.portOn p && (isSeg p || (s.port p).link)

/-- A frame taken by the MAC counts in RXFRM. -/
def State.countRx (s : State) (p : Nat) : State := s.bump (portReg p (fun n => Reg.segRxfrm n) (fun u => Reg.uplRxfrm u))

/-- A frame that finds the receive ring full (R238). -/
def State.dropFull (s : State) (p : Nat) : State := s.bump (portReg p (fun n => Reg.segDropbuf n) (fun u => Reg.uplDropbuf u))

/-- The stranger log (R258). -/
def State.logStranger (s : State) (n : Nat) (f : Hpp) (repl moved : Bool) (stamp : Word) : State :=
  let k := s.rf (Reg.segSlogwp n) 0 4
  let s := s.wr64 (Reg.segSlidl n k) (Reg.segSlidh n k) f.src
  let s := s.wr (Reg.segSlinfo n k) (w32 (f.plca + f.ty * 256 + b2n repl * 2 ^ 12 + b2n moved * 2 ^ 13))
  let s := s.wr (Reg.segSlstamp n k) stamp
  ((s.setf (Reg.segSlogwp n) 0 4 (k + 1)).raise (Page.seg n) 0).event (Page.seg n) 1

/-- The STRANGER alarm (R259, R294). -/
def State.strangerAlarm (s : State) (p plca : Nat) : State :=
  if p < 16 then s.onlyIf (!s.rb (Reg.segSctl p) 1) (·.portAlarm p (s.rf (Reg.segAlprio p) 0 4) (64 * p + plca) 0x20)
  else s.onlyIf (s.rb (Reg.uplUctl (p - 16)) 3) (·.portAlarm p 0 (64 * p) 0x20)

/-- The size of one entry of a REPLY or PUBLISH (R242). -/
def Hpp.entrySize (f : Hpp) : Nat := if f.perstamp then 10 else 6

/-- The entries of a REPLY or PUBLISH are written to the cache (R257). -/
def State.cacheEntries (s : State) (p : Nat) (r : NodeRec) (f : Hpp) (stamp : Nat) : State :=
  let n := (f.body.length - 6) / f.entrySize
  (List.range n).foldl (fun s i =>
    let o := 6 + f.entrySize * i
    let ch := bytesAt f.body o 1
    if r.nch ≤ ch then s.onlyIf (isSeg p) (·.bump (Reg.segChbad p))
    else
      let qual := if f.nfault then 5 else bytesAt f.body (o + 1) 1
      let st := if f.perstamp then bytesAt f.body (o + 6) 4 else bytesAt f.body 0 4
      let w0 := bytesAt f.body (o + 2) 4 * 2 ^ 32 + qual * 2 ^ 24 + 2 ^ 22 + f.seq
      s.writeWords (portStore p) (cacheWord ((r.cbase + ch) % 1024))
        [BitVec.ofNat 64 w0, BitVec.ofNat 64 (st * 2 ^ 32 + stamp % 2 ^ 32)]) s

/-- A REPLY is credited to the open burst, or late (R262). -/
def State.creditReply (s : State) (n k : Nat) (f : Hpp) (stamp : Int) : State :=
  let x := s.port n
  match x.burst with
  | some b =>
    let inWindow := match b.opened with
      | some o => decide ((o : Int) ≤ stamp) && decide (stamp < b.close)
      | none => false
    if bytesAt f.body 4 2 = b.number && inWindow then s.setPort n { x with burst := some { b with credited := k :: b.credited } }
    else s.bump (Reg.segLaterep n)
  | none => s.bump (Reg.segLaterep n)

/-- Whether a frame is authentic for record `k`, and whether only its CTR failed (R245). -/
def State.authentic (s : State) (p k : Nat) (r : NodeRec) (f : Hpp) : Bool × Bool :=
  if f.auth then
    match s.key? p k with
    | none => (false, false)
    | some key =>
      let ok := authTag key f.signed == f.mac
      (ok && decide (r.rxctr < f.ctr), ok && decide (f.ctr ≤ r.rxctr))
  else (!r.authreq, false)

/-- AUTHMAX; the uplinks have no register for it: the segments' reset value (assumption 10). -/
def State.authmax (s : State) (p : Nat) : Nat := if p < 16 then max 1 (s.rf (Reg.segAuthcfg p) 0 4) else 4

/-- A frame whose identity no record holds (R256, R294). -/
def State.strangerFrame (s : State) (p : Nat) (f : Hpp) (stamp : Word) : State :=
  if !isSeg p then
    ((s.bump (Reg.uplStrcnt (p - 16))).raise (portPage p) 8).strangerAlarm p 0
  else
    let j := s.node p f.plca
    let ann := f.ty == 2
    let live := j.state == 1 || j.state == 2 || j.state == 3 || j.state == 5
    if live && (ann || f.ty == 5 || f.ty == 6) then
      let s := ((s.enterNode p f.plca 4).bump (Reg.segReplcnt p)).logStranger p f true false stamp
      s.onlyIf ann (·.toMail p f.plca f.ty f.body false true)
    else
      let s := s.bump (Reg.segStrcnt p)
      if j.state = 4 then
        (s.logStranger p f true false stamp).onlyIf ann (·.toMail p f.plca f.ty f.body false true)
      else
        let s := s.logStranger p f false false stamp
        if s.rb (Reg.segSctl p) 1 then s.onlyIf ann (·.toMail p f.plca f.ty f.body false true)
        else s.strangerAlarm p f.plca

/-- A frame from a known identity (R256). -/
def State.nodeFrame (s : State) (p k : Nat) (f : Hpp) (stamp : Int) : State :=
  let rd := s.readNode p k
  match rd.1 with
  | none => rd.2.badFrame p
  | some r =>
    let s := rd.2
    let st := natOf stamp 32
    if r.state = 4 || r.state = 5 then s.onlyIf (isSeg p) (·.bump (Reg.segBlkdrop p))
    else
      let a := s.authentic p k r f
      if !a.1 then
        let s := (s.bump (portReg p (fun n => Reg.segAuthfail n) (fun u => Reg.uplAuthfail u))).raise (portPage p)
          (if isSeg p then 13 else 9)
        let s := s.onlyIf (a.2 && isSeg p) (·.bump (Reg.segReplay p))
        let n := min 15 (r.authf + 1)
        let s := s.putNode p k { r with w2 := putNat r.w2 52 4 n }
        s.onlyIf (decide (s.authmax p ≤ n)) (·.enterNode p k 5)
      else
        let w2 := putNat r.w2 52 4 0
        let w2 := if f.auth then putNat w2 16 32 f.ctr else w2
        let d := (f.seq + 65536 - r.lastseq) % 65536
        if r.state ≠ 1 && !(decide (1 ≤ d) && decide (d ≤ 32767)) then
          (s.putNode p k { r with w2 := w2 }).onlyIf (isSeg p) (·.bump (Reg.segOldrep p))
        else
          let w2 := putNat (putNat w2 0 16 f.seq) 48 4 0
          let s := s.putNode p k { r with w2 := w2, w3 := putNat r.w3 0 32 st }
          let s := s.onlyIf (r.state == 1 || r.state == 3) (·.enterNode p k 2)
          let s := s.onlyIf (f.ty == 5 || f.ty == 6) (·.cacheEntries p r f st)
          let s := s.onlyIf (f.ty == 5) (·.creditReply p k f stamp)
          let s := s.onlyIf (f.ty == 6) (·.setPubFrom p k)
          s.onlyIf (f.ty == 2 || f.ty == 7 || f.ty == 8 || f.ty == 9)
            (·.toMail p (if isSeg p then f.plca else k) f.ty f.body f.auth false)

/-- An HPP frame is looked up and handled (R256, R294). -/
def State.hppFrame (s : State) (p : Nat) (f : Hpp) (stamp : Int) : State :=
  match s.findNode p f.src with
  | some k =>
    if isSeg p && k != f.plca then
      let s := (s.bump (Reg.segIdmove p)).logStranger p f false true (w32 (natOf stamp 32))
      s.strangerAlarm p f.plca
    else s.nodeFrame p k f stamp
  | none => s.strangerFrame p f (w32 (natOf stamp 32))

/-- A frame received whole with a good FCS (R238, R239, R256): `ty` is the HPP type the command names, none for a frame
that is no valid HPP message; a frame of another class is no event of the command. Outside RUN a segment discards the frames of
HPP, malformed ones with them. -/
def State.receive (s : State) (p : Nat) (ty : Option Nat) (f : Frame) : State :=
  let c := s.classify p f
  if !s.receives p || !s.macTakes p f.dst.toNat || !c.named ty then s
  else
    let s := s.countRx p
    let asleep := isSeg p && s.pwr.state != .run
    if f.ringFull then s.dropFull p
    else match c with
      | .ptp => s
      | .other => s.onlyIf (isSeg p) (·.bump (Reg.segOther p))
      | .tagged => s.badFrame p
      | .bad => if asleep then s.bump (Reg.segSlpdrop p) else s.badFrame p
      | .hpp h =>
        if asleep then s.bump (Reg.segSlpdrop p)
        else
          let at_ := extend f.stamp.toNat s.w0 - s.rf (Reg.ptppRxlat p) 0 16
          s.setPort p { s.port p with arrived := (s.port p).arrived ++ [(h, at_)] }

/-- The HPP frames of the FAB cycle take effect, in order of arrival (R256): at the cycle's end, after its record writes (R248), or
before what the cycle asks of their outcome. -/
def State.takeFrames (s : State) (p : Nat) : State :=
  (s.port p).arrived.foldl (fun s f => s.hppFrame p f.1 f.2) (s.setPort p { s.port p with arrived := [] })

/-- PUBTMO has passed without an accepted PUBLISH (R239, R252), the frames of the FAB cycle taken first. -/
def State.pubExpiry (s : State) (p k : Nat) : State :=
  let s := s.takeFrames p
  let r := s.node p k
  if s.portOn p && s.pwr.state == .run && r.counts && (r.mode == 1 || r.mode == 2) && r.pubtmo != 0 &&
      decide (usCycles (1000 * r.pubtmo) ≤ s.time.fab - numAt (s.port p).pubFrom k) then
    (s.countMiss p k).setPubFrom p k
  else s

/-! ### Poll bursts (R260-R263) -/

/-- The body of a POLL: node mask, FIRST, COUNT and burst number (R242, R260). -/
def State.pollBody (s : State) (n d no : Nat) : List Byte :=
  bytesOf 8 (s.rd64 (Reg.segMaskl n d) (Reg.segMaskh n d)) ++ bytesOf 2 (s.rf (Reg.segBctl n d) 0 16) ++ bytesOf 2 no

/-- A POLL landing (R237, R260): with GKEYEN the POLL carries the group key's authenticator, where there is a valid group key
(R244, assumption 41). -/
def State.pollLanding (s : State) (n d : Nat) : State :=
  if 16 ≤ d || !s.portOn n || s.listens n then s.bump (Reg.segBadpoll n)
  else if (s.port n).burst.isSome then (s.bump (Reg.segPollbusy n)).raise (Page.seg n) 11
  else
    let no := (s.rf (Reg.segBurstno n) 0 16 + 1) % 65536
    let s := s.wr (Reg.segBurstno n) (w32 (no + d * 65536))
    let key := if s.rb (Reg.segAuthcfg n) 4 then s.key? n 64 else none
    let sq := s.takeSeq n
    let ctr := if key.isSome then sq.2.free 32 else (0, sq.2)
    let s := ctr.2
    let bs := s.hppBytes n (s.mcastAddr n) 4 sq.1 ctr.1.toNat key (s.pollBody n d no)
    let b : BurstSt := { number := no, desc := d, mask := s.rd64 (Reg.segMaskl n d) (Reg.segMaskh n d), landed := s.time.fab,
                         align := s.rb (Reg.segBctl n d) 16, opened := none, close := 0, credited := [] }
    (s.setPort n { s.port n with burst := some b }).queueTx n (.poll bs.length) bs

/-- The POLL has gone out (R261, R262): its transmit stamp, and the window from now. -/
def State.pollSent (s : State) (n : Nat) (stamp : Nat) : State :=
  match s.lineFrame n isPoll, (s.port n).burst with
  | some e, some b =>
    let s := (s.sendFollows n).sendTx n e
    let s := s.wr (Reg.segPolltx n) (w32 (stamp + s.rf (Reg.ptppTxlat n) 0 16))
    s.setPort n { s.port n with burst := some { b with
      opened := some s.w0, close := s.w0 + 1000 * s.rf (Reg.segBtmo n b.desc) 0 20 } }
  | _, _ => s

/-- The burst's window closes, after the replies of the FAB cycle (R262); in SLEEP no node counts a miss (R239). -/
def State.closeBurst (s : State) (n : Nat) : State :=
  let s := s.takeFrames n
  match (s.port n).burst with
  | none => s
  | some b =>
    if b.opened.isNone || s.w0 < b.close then s
    else
      let missed := (List.range 64).filter (fun k => b.mask.testBit k && (s.node n k).counts && !b.credited.contains k)
      ((if s.pwr.state = .run then missed else []).foldl (fun s k => s.countMiss n k) s).endBurst n

/-! ### Uplinks (R291-R299) -/

/-- Link comes up (R291); a VSER fault holds the uplinks without link (R501). -/
def State.linkUp (s : State) (u : Nat) : State :=
  let x := s.port (16 + u)
  if x.link || s.pageOff (Page.upl u) || s.rb Reg.monVsta 12 then s
  else
    let s := (s.setPort (16 + u) { x with link := true }).setb (Reg.uplUsta u) 1 false
    (s.raise (Page.upl u) 0).event (Page.upl u) 0

/-- Link is lost: what waits is discarded and counted (R298). -/
def State.linkDown (s : State) (u : Nat) : State :=
  let x := s.port (16 + u)
  if !x.link then s
  else
    let s := s.setPort (16 + u) { x with link := false, txq := [], pausedTo := none, train := x.train.map (fun t => (t.1, 0)) }
    let s := (s.bump (Reg.uplLinkcnt u)).bumpBy (Reg.uplDropbuf u) x.txq.length
    let s := s.onlyIf (x.txq.any (fun e => isMail e.item)) (·.mailDone (16 + u) true)
    let s := if x.txq.any (fun e => isPtpMail e.item) then { s with ptp := { s.ptp with txBusy := false } } else s
    (s.raise (Page.upl u) 1).event (Page.upl u) 0

/-- USTA. -/
def State.usta (s : State) (u : Nat) : Word :=
  let x := s.port (16 + u)
  s.rd (Reg.uplUsta u) ||| w32 (b2n x.link + b2n x.pausedTo.isSome * 4 + b2n x.link * 8)

/-- A PAUSE frame of `t` quanta of 512 bit times (R292). -/
def State.pause (s : State) (u t : Nat) : State :=
  let x := s.port (16 + u)
  if s.portOn (16 + u) && x.link && s.rb (Reg.uplUctl u) 1 then
    s.setPort (16 + u) { x with pausedTo := if t = 0 then none else some (s.time.fab + t * 1024 / 5) }
  else s

/-- The pause time runs out (R292). -/
def State.endPause (s : State) (u : Nat) : State :=
  let x := s.port (16 + u)
  if x.pausedTo.any (fun t => decide (t ≤ s.time.fab)) then s.setPort (16 + u) { x with pausedTo := none } else s

/-- The stream whose bank an uplink sends next: the lowest-numbered with a closed bank (R297, R323). -/
def State.batchStream (s : State) (u : Nat) : Option (Nat × Nat) :=
  (List.range 4).findSome? (fun n =>
    if s.streamDest n = 1 + u then (s.closedBank n).map (fun b => (n, b)) else none)

/-- Fragment `k` of `total` of a bank (R297): its frame's bytes and the state after its words are read. -/
def State.fragment (s : State) (u n b k total : Nat) : List Byte × State :=
  let bk := (s.stream n).bank b
  let size := min 1488 (bk.len - 1488 * k)
  let r := s.bankWords (bankWord n b + 186 * k) (wordsFor size)
  let hdr := bk.header ||| (b2n (s.bankPoisoned n b) * 2 ^ 47)
  let dst := s.rn (Reg.uplBdmacl u) + s.rf (Reg.uplBdmach u) 0 16 * 2 ^ 32
  (s.etherHead (16 + u) dst (s.rf (Reg.uplBetype u) 0 16) ++ bytesOf 2 k ++ bytesOf 2 total ++ bytesOf 8 hdr
    ++ wordBytes size (r.1.1.map some), r.2)

/-- A batch fragment goes out (R293, R297): the train's first takes the bank, its last drains it. -/
def State.sendFragment (s : State) (u : Nat) : State :=
  let p := 16 + u
  let x := s.port p
  if !(s.maySend p && s.rb (Reg.uplUctl u) 2 && (s.lineHead p).isNone) then s
  else
    let cur : Option (Nat × Nat × Nat) := match x.train with
      | some (n, k) => (s.bankIn n .draining).map (fun b => (n, b, k))
      | none => (s.batchStream u).map (fun nb => (nb.1, nb.2, 0))
    match cur with
    | none => s.setPort p { x with train := none }
    | some (n, b, k) =>
      let s := ((s.sendFollows p).setBankState n b .draining).bump (Reg.uplBatfrm u)
      let total := (((s.stream n).bank b).len + 1487) / 1488
      let fr := s.fragment u n b k total
      let s := (fr.2.setPort p { fr.2.port p with lastTx := (fr.2.port p).lastTx ++ [TxFrame.bytes fr.1 false] }).countTx p
      if k + 1 < total then s.setPort p { s.port p with train := some (n, k + 1) }
      else
        let s := (s.setPort p { s.port p with train := none }).drainBank n b
        (s.raise (Page.upl u) 10).event (Page.upl u) 1

/-- The words of a cache entry, poison as all ones (R253, R455), as the frames of the FAB cycle leave it. -/
def State.cacheRead (s : State) (p c : Nat) : List Word × State :=
  let s := s.takeFrames p
  let r := s.readWords (portStore p) (cacheWord c) 2
  (r.1.flatMap (fun d => let x := (d.getD (BitVec.allOnes 64)).toNat; [lo32 x, hi32 x]), r.2)

end Sys2Proof.Machine
end

