-- ==== Sys2Proof/Machine/Time.lean ====
section
/-! DEFINITION. Plant time and its servo, the PTP ports and their messages, the PTP mailbox, the epoch and capture latches
and the global period boundary (08 R268-R289, 10 R345). -/

namespace Sys2Proof.Machine

/-! ### Plant time (R268, R269) -/

/-- The servo's adjustment, in 2^-32 ns per ns. -/
def State.adj (s : State) : Int := sfield (s.rd Reg.ptpAdj) 0 32

/-- NET edges within the FAB cycle that follows the present one (01, Clock domains). -/
def netEdges (fab : Nat) : Nat := (fab + 1) * 5 / 16 - fab * 5 / 16

/-- W0 takes a value, or stops at the largest with WHL0.STA.END (R90). -/
def State.setW0 (s : State) (w : Nat) : State :=
  if w > posMax then State.setb { s with time := { s.time with w0 := posMax } } (Reg.whlSta 0) 8 true
  else { s with time := { s.time with w0 := w } }

/-- W0 advances by 8 × (1 + ADJ × 2^-32) ns at each NET cycle, accumulated exactly (R268). -/
def State.advanceW0 (s : State) : State :=
  let a : Nat := (2 ^ 32 + s.adj).toNat * 8 * netEdges s.time.fab
  let x := s.time.w0Frac + a
  State.setW0 { s with time := { s.time with fab := s.time.fab + 1, w0Frac := x % 2 ^ 32 } } (s.time.w0 + x / 2 ^ 32)

/-- Seconds and nanoseconds of a W0 value (R268). -/
def secOf (w : Nat) : Nat := w / 1000000000
def nsecOf (w : Nat) : Nat := w % 1000000000

/-! ### Ports (R271, R272) -/

/-- The state a PTP port behaves in (R272): 0 DISABLED, 1 LISTENING, 2 MASTER, 3 SLAVE, 4 PASSIVE. CTL.EN and the
enable of the PTP page are the block's own (assumption 12). -/
def State.ptpState (s : State) (p : Nat) : Nat :=
  if !(s.rb Reg.ptpCtl 0 && s.pageLive Page.ptp) || 18 ≤ p then 0
  else if p < 16 then
    if s.pageOff (Page.seg p) then 0
    else if s.listens p || !s.portOn p then 1
    else s.rf (Reg.ptppPcfg p) 0 3
  else if s.portOn p && (s.port p).link then s.rf (Reg.ptppPcfg p) 0 3
  else 0

/-- A segment that only listens sends nothing (R237, R272). -/
def State.ptpMute (s : State) (p : Nat) : Bool := decide (p < 16) && (s.listens p || !s.portOn p)

/-- PCFG.DMECH: peer to peer. -/
def State.ptpP2p (s : State) (p : Nat) : Bool := s.rb (Reg.ptppPcfg p) 3
/-- The port whose PCFG says SLAVE (R272). -/
def State.slavePort? (s : State) : Option Nat := (List.range 18).find? (fun p => s.rf (Reg.ptppPcfg p) 0 3 == 3)

/-- FAB cycles of a message interval of 2^n s (R272). -/
def logCycles (n : Int) : Nat := if 0 ≤ n then 400000000 * 2 ^ n.toNat else 400000000 / 2 ^ (-n).toNat

/-- LOGSYNC and LOGDREQ. -/
def State.logSync (s : State) (p : Nat) : Int := sfield (s.rd (Reg.ptppPcfg p)) 4 8
def State.logDreq (s : State) (p : Nat) : Int := sfield (s.rd (Reg.ptppPcfg p)) 12 8

/-- A PTP frame is received (R238, R256, R270, R272, R292): RXFRM counts it, a full ring drops it; a disabled port drops it, a
frame to neither PTP address is none of PTP (assumption 12), one of another domain counts in DOMDROP; `f` takes any other. -/
def State.ptpFrame (s : State) (p : Nat) (m : PtpMsg) (f : State → State) : State :=
  let here := s.receives p
  if !s.macTakes p m.dst.toNat then s
  else
    let s := s.onlyIf here (·.countRx p)
    if here && m.ringFull then s.dropFull p
    else if s.ptpState p = 0 || !(m.dst.toNat == ptpPrimary || m.dst.toNat == ptpPeer) then s
    else if m.domain.toNat ≠ s.rf Reg.ptpCtl 8 7 then s.bump Reg.ptppDomdrop
    else f s

/-- The receive stamp of a message, RXLAT taken off (R275). -/
def State.ptpRx (s : State) (p : Nat) (m : PtpMsg) : Int := (m.stamp.toNat : Int) - s.rf (Reg.ptppRxlat p) 0 16

/-- LRXS: the STAMP of an event message received. -/
def State.setLrxs (s : State) (p : Nat) (m : PtpMsg) : State := s.wr (Reg.ptppLrxs p) (w32 (natOf (s.ptpRx p m) 32))

/-- The correctionField in whole ns, to nearest (assumption 12). -/
def msgCorr (m : PtpMsg) : Int := roundDiv m.correction.toInt 65536

/-! ### Servo and holdover (R282-R288) -/

/-- A signed number in a register, saturating. -/
def sat32s (x : Int) : Word := w32 (natOf (clampInt (-(2 ^ 31)) (2 ^ 31 - 1) x) 32)

/-- Parts per million in units of ADJ, truncated. -/
def ppmUnits (n : Nat) : Nat := n * 2 ^ 32 / 1000000

/-- LOCK is cleared (R285). -/
def State.clearLock (s : State) : State :=
  let s := { s with ptp := { s.ptp with lockRun := 0 } }
  s.onlyIf (s.rb Reg.ptpSta 1) (fun s => (s.setb Reg.ptpSta 1 false).raise Page.ptp 1)

/-- The LOCK rule after an accepted Sync with offset `o` (R285). -/
def State.lockRule (s : State) (o : Int) : State :=
  let thr := s.rn Reg.ptpLockthr
  let run := if o.natAbs < thr then s.ptp.lockRun + 1 else 0
  let s := { s with ptp := { s.ptp with lockRun := run } }
  if 4 * thr ≤ o.natAbs then s.clearLock
  else if 8 ≤ run && !s.rb Reg.ptpSta 1 then ((s.setb Reg.ptpSta 1 true).raise Page.ptp 0).event Page.ptp 1
  else s

/-- A forward step of W0 by `d` ns (R283, R284), which SCALED wheels follow in the same cycle (R105): what falls due in the
span is handled as late, not swept. -/
def State.stepW0 (s : State) (d : Nat) : State :=
  let s := [1, 2, 3].foldl State.followW0 (s.setW0 (s.w0 + d))
  (s.bump Reg.ptpStepcnt).raise Page.ptp 3

/-- The rate that would remove `o` in the interval since the previous accepted Sync (R283); with none, or an interval of
0, a free value (assumption 4). -/
def State.servoRate (s : State) (o : Int) : Int :=
  match s.ptp.lastSync with
  | none => Config.servoQuot o
  | some f =>
    let d := s.time.fab - f
    if d = 0 then Config.servoQuot o else floorDiv (o * 2 ^ 33) (5 * d)

/-- The servo at an accepted Sync with offset `o` (R283-R286). -/
def State.servo (s : State) (o : Int) : State :=
  let s :=
    if o < -(s.rn Reg.ptpStepthr : Int) ∧ s.rb Reg.ptpCtl 1 then (s.stepW0 o.natAbs).clearLock
    else
      let s := s.onlyIf (decide ((s.rn Reg.ptpBackmax : Int) < o)) (fun s => (s.setb Reg.ptpSta 3 true).raise Page.ptp 4)
      let u := s.servoRate o
      let top : Int := ppmUnits 1000
      let fint := clampInt (-top) top (sfield (s.rd Reg.ptpFint) 0 32 - floorDiv u (2 ^ s.rf Reg.ptpServo 8 5))
      let low : Int := ppmUnits (s.rf Reg.ptpSlewmax 0 11)
      let adj := clampInt (-low) top (fint - floorDiv u (2 ^ s.rf Reg.ptpServo 0 5))
      ((s.wr Reg.ptpFint (w32 (natOf fint 32))).wr Reg.ptpAdj (w32 (natOf adj 32))).lockRule o
  let s := ((s.wr Reg.ptpOffset (sat32s o)).setb Reg.ptpSta 0 true).setb Reg.ptpSta 2 false
  let s := s.bump Reg.ptpSyncrx
  { s with ptp := { s.ptp with lastSync := some s.time.fab } }

/-- A Sync is accepted on the SLAVE port: the offset o = t2 - t1 - MPD - corr - ASYM (R282). -/
def State.acceptSync (s : State) (p : Nat) (t1 t2 corr : Int) : State :=
  let x := s.port p
  let s := s.setPort p { x with wantFu := none, lastT := some (t1, t2) }
  s.servo (t2 - t1 - x.mpd - corr - sfield (s.rd (Reg.ptppAsym p)) 0 32)

/-- Holdover is entered (R286): ADJ holds at FINT. -/
def State.enterHold (s : State) : State :=
  if s.rb Reg.ptpSta 2 then s
  else
    let s := (s.setb Reg.ptpSta 2 true).clearLock
    ((s.wr Reg.ptpAdj (s.rd Reg.ptpFint)).raise Page.ptp 2).event Page.ptp 2

/-- A case of R286 holds: no SLAVE, a SLAVE without link, or no accepted Sync for LOSSTMO µs. -/
def State.holdDue (s : State) : Bool :=
  match s.slavePort? with
  | none => true
  | some p =>
    (decide (16 ≤ p) && !(s.portOn p && (s.port p).link))
      || decide (usCycles (s.rf Reg.ptpLosstmo 0 24) ≤ s.time.fab - s.ptp.lastSync.getD 0)

/-- Holdover where a case of R286 holds. -/
def State.hold (s : State) : State :=
  if s.rb Reg.ptpCtl 0 && s.pageLive Page.ptp && s.holdDue then s.enterHold else s

/-- A FINT write seeds the integral path and the frequency that W0 runs at while nothing steers it (R288); it is held to the
range of ADJ, as R283 holds FINT (R300, assumption 12). -/
def State.writeFint (s : State) (v : Word) : State :=
  let top : Int := ppmUnits 1000
  let f := w32 (natOf (clampInt (-top) top (sfield v 0 32)) 32)
  let s := s.wr Reg.ptpFint f
  s.onlyIf (s.rb Reg.ptpSta 2 || !s.rb Reg.ptpSta 0) (·.wr Reg.ptpAdj f)

/-! ### Event messages (R272, R273, R278-R282) -/

/-- A Sync received (R282, R283). -/
def State.ptpSync (s : State) (p : Nat) (m : PtpMsg) : State :=
  s.ptpFrame p m fun s =>
    let s := s.setLrxs p m
    if s.ptpState p ≠ 3 then s
    else if m.twoStep then s.setPort p { s.port p with wantFu := some (m.seqId.toNat, s.ptpRx p m, m.correction.toInt) }
    else s.acceptSync p m.time.toNat (s.ptpRx p m) (msgCorr m)

/-- A Follow_Up received: it completes the two-step Sync of its sequenceId (R282). -/
def State.ptpFollowUp (s : State) (p : Nat) (m : PtpMsg) : State :=
  s.ptpFrame p m fun s =>
    match (s.port p).wantFu with
    | some (sq, t2, c) =>
      if s.ptpState p = 3 ∧ sq = m.seqId.toNat then
        s.acceptSync p m.time.toNat t2 (roundDiv (c + m.correction.toInt) 65536)
      else s
    | none => s

/-- A Delay_Req received: a MASTER answers with its receive stamp (R272). -/
def State.ptpDelayReq (s : State) (p : Nat) (m : PtpMsg) : State :=
  s.ptpFrame p m fun s =>
    let s := s.setLrxs p m
    s.onlyIf (s.ptpState p == 2) (·.queueTx p (.delayResp m.seqId.toNat (natOf (s.ptpRx p m) 64) m.requester.toNat m.correction.toInt))

/-- MPD takes the first measure whole and then an eighth of the difference (R282). -/
def State.takeDelay (s : State) (p : Nat) (m : Int) : State :=
  let x := s.port p
  let d := if x.mpdValid then x.mpd + floorDiv (m - x.mpd) 8 else m
  let s := s.setPort p { x with mpd := d, mpdValid := true }
  (s.wr (Reg.ptppPmpd p) (sat32s d)).setb (Reg.ptppPsta p) 1 true

/-- A Delay_Resp received under E2E: m = ((t2 - t1) + (t4 - t3)) / 2 (R282). -/
def State.ptpDelayResp (s : State) (p : Nat) (m : PtpMsg) : State :=
  s.ptpFrame p m fun s =>
    let x := s.port p
    match x.dreqSent, x.lastT with
    | some (sq, t3), some (t1, t2) =>
      if s.ptpState p = 3 ∧ !s.ptpP2p p ∧ sq = m.seqId.toNat ∧ m.requester.toNat = s.portIdentity p then
        (s.setPort p { x with dreqSent := none }).takeDelay p (floorDiv ((t2 - t1) + ((m.time.toNat : Int) - t3)) 2)
      else s
    | _, _ => s

/-- A Pdelay_Req received is answered; a segment that only listens sends no answer (R272, R279). -/
def State.ptpPdelayReq (s : State) (p : Nat) (m : PtpMsg) : State :=
  s.ptpFrame p m fun s =>
    let s := s.setLrxs p m
    s.onlyIf (!s.ptpMute p) (·.queueTx p (.pdelayResp m.seqId.toNat (natOf (s.ptpRx p m) 64) m.requester.toNat m.correction.toInt))

/-- A Pdelay_Resp, or its follow-up, received on an uplink: the peer delay ((t4 - t1) - (t3 - t2) - corrections) / 2, with
t3 - t2 in the correctionField of a one-step response (R279, R282). -/
def State.ptpPdelayResp (s : State) (p : Nat) (m : PtpMsg) (fu : Bool) : State :=
  s.ptpFrame p m fun s =>
    let s := s.onlyIf (!fu) (·.setLrxs p m)
    let x := s.port p
    match x.pdreqSent with
    | none => s
    | some (sq, t1) =>
      if isSeg p || !s.ptpP2p p || sq != m.seqId.toNat || m.requester.toNat != s.portIdentity p then s
      else if fu then
        match x.pdresp with
        | none => s
        | some (t2, t4, c) =>
          (s.setPort p { x with pdreqSent := none, pdresp := none }).takeDelay p
            (floorDiv ((t4 - t1) - ((m.time.toNat : Int) - t2) - roundDiv (c + m.correction.toInt) 65536) 2)
      else if m.twoStep then
        s.setPort p { x with pdresp := some ((m.time.toNat : Int), s.ptpRx p m, m.correction.toInt) }
      else (s.setPort p { x with pdreqSent := none, pdresp := none }).takeDelay p (floorDiv ((s.ptpRx p m - t1) - (msgCorr m)) 2)

/-- An interval has passed since `last`. -/
def State.sendDue (s : State) (last : Option Nat) (n : Int) : Bool :=
  match last with
  | none => true
  | some t => decide (t + logCycles n ≤ s.time.fab)

/-- A MASTER's Sync interval expires (R272). -/
def State.syncSend (s : State) (p : Nat) : State :=
  let x := s.port p
  if s.ptpState p = 2 ∧ s.sendDue x.lastSync (s.logSync p) then
    (s.setPort p { x with lastSync := some s.time.fab, seqSync := (x.seqSync + 1) % 65536 }).queueTx p (.sync x.seqSync)
  else s

/-- A SLAVE's Delay_Req interval expires under E2E (R272). -/
def State.delayReqSend (s : State) (p : Nat) : State :=
  let x := s.port p
  if s.ptpState p = 3 ∧ !s.ptpP2p p ∧ s.sendDue x.lastDreq (s.logDreq p) then
    (s.setPort p { x with lastDreq := some s.time.fab, seqDreq := (x.seqDreq + 1) % 65536 }).queueTx p
      (.delayReq x.seqDreq)
  else s

/-- An uplink's peer delay interval expires (R273). -/
def State.pdelayReqSend (s : State) (u : Nat) : State :=
  let p := 16 + u
  let x := s.port p
  if s.ptpState p ≠ 0 ∧ s.ptpP2p p then
    (s.setPort p { x with seqPdreq := (x.seqPdreq + 1) % 65536, pdresp := none }).queueTx p (.pdelayReq x.seqPdreq)
  else s

/-- The port's own record of an event message that has gone out with egress time `t` (R281). -/
def State.eventSent (s : State) (p : Nat) (i : TxItem) (t : Int) : State :=
  let mark := fun (s : State) (sq : Nat) =>
    (s.wr (Reg.ptppLtxs p) (w32 (natOf t 32))).setf (Reg.ptppPsta p) 16 16 sq
  match i with
  | .sync sq => (mark s sq).onlyIf (s.twoStep p) (·.queueTx p (.followUp sq t))
  | .delayReq sq => let s := mark s sq; s.setPort p { s.port p with dreqSent := some (sq, t) }
  | .pdelayReq sq => let s := mark s sq; s.setPort p { s.port p with pdreqSent := some (sq, t) }
  | .pdelayResp sq _ r c => (mark s sq).onlyIf (s.twoStep p) (·.queueTx p (.pdelayFollowUp sq t r c))
  | _ => s

/-- A PTP event message has gone out whole with transmit stamp `stamp` (R275, R277, R281). -/
def State.ptpSent (s : State) (p stamp : Nat) : State :=
  match s.lineFrame p isPtpEvent with
  | none => s
  | some e =>
    let t : Int := (stamp : Int) + s.rf (Reg.ptppTxlat p) 0 16
    ((s.sendFollows p).sendTx p e t).eventSent p e.item t

/-! ### PTP mailbox (R274) -/

/-- PMBXHDR and PMBXRX show the oldest message. -/
def State.showPtpMail (s : State) : State :=
  match s.ptp.mail with
  | [] => s
  | (p, st, bs) :: _ =>
    let s := s.wr Reg.ptpPmbxhdr (w32 (p + (bs.length - 1) % 256 * 32 + st % 65536 * 65536))
    (List.range 64).foldl (fun s i => s.wr (Reg.ptpPmbxrx i) (w32 (ofBytes ((bs.drop (4 * i)).take 4)))) s

/-- PMBXSTA.OVR (4), UNDR (5) or REJ (6) is set. -/
def State.ptpMailError (s : State) (b : Nat) : State := (s.setb Reg.ptpPmbxsta b true).raise Page.ptp 7

/-- A general message received: kept, or dropped with OVR when eight are held or it is over 256 bytes. -/
def State.ptpGeneral (s : State) (p : Nat) (m : PtpMsg) : State :=
  s.ptpFrame p m fun s =>
    if 8 ≤ s.ptp.mail.length || 256 < m.bytes.length then s.ptpMailError 4
    else
      let empty := s.ptp.mail.isEmpty
      let s := { s with ptp := { s.ptp with mail := s.ptp.mail ++ [(p, natOf (s.ptpRx p m) 16, m.bytes)] } }
      (s.raise Page.ptp 6).onlyIf empty (·.showPtpMail)

/-- A write to PMBXPOP. -/
def State.popPtpMail (s : State) : State :=
  match s.ptp.mail with
  | [] => s.ptpMailError 5
  | _ :: rest => State.showPtpMail { s with ptp := { s.ptp with mail := rest } }

/-- PMBXSTA. -/
def State.pmbxsta (s : State) : Word :=
  putBit (putField (s.rd Reg.ptpPmbxsta) 0 4 s.ptp.mail.length) 7 s.ptp.txBusy

/-- A PTXCMD write: the bytes of PMBXTX are queued behind an Ethernet header (R270), or refused (R274). -/
def State.ptxcmd (s : State) (v : Word) : State :=
  let p := field v 0 5
  if s.ptp.txBusy || s.ptpState p == 0 then s.ptpMailError 6
  else
    let msg := ((List.range 64).flatMap (fun i => bytesOf 4 (s.rn (Reg.ptpPmbxtx i)))).take (field v 5 8 + 1)
    let bs := s.etherHead p ptpPrimary 0x88F7 ++ msg
    State.queueTx { s with ptp := { s.ptp with txBusy := true } } p (.ptpMail bs.length) bs

/-- The message of a PTXCMD leaves its port (R274). -/
def State.ptpMailSent (s : State) : State :=
  match (List.range 18).findSome? (fun p => (s.lineFrame p isPtpMail).map (fun e => (p, e))) with
  | none => s
  | some (p, e) =>
    let s := (s.sendFollows p).sendTx p e
    { s with ptp := { s.ptp with txBusy := false } }

/-! ### Writes, latches and views -/

/-- A PCFG write: refused whole where it would make a second SLAVE; a reserved PSTATE keeps the field (R8), the intervals
are held to their spans (R9, R272). -/
def State.writePtpPcfg (s : State) (p : Nat) (v : Word) : State :=
  let st := field v 0 3
  if st = 3 ∧ s.slavePort?.any (· != p) then s.raise Page.ptp 5
  else
    let ls := clampInt (-7) 4 (sfield v 4 8)
    let ld := clampInt (-7) 6 (sfield v 12 8)
    let v := putField (putField (v &&& 0x1FFFFF) 4 8 (natOf ls 8)) 12 8 (natOf ld 8)
    let v := if 5 ≤ st then putField v 0 3 (s.rf (Reg.ptppPcfg p) 0 3) else v
    let was := s.slavePort?
    let s := s.wr (Reg.ptppPcfg p) v
    s.onlyIf (was.isSome && s.slavePort?.isNone) (·.hold)

/-- STA. -/
def State.ptpSta (s : State) : Word :=
  let v := s.rd Reg.ptpSta
  match s.slavePort? with
  | some p => putField (putBit v 4 true) 5 5 p
  | none => v

/-- MPD of the SLAVE port. -/
def State.ptpMpd (s : State) : Word :=
  match s.slavePort? with
  | some p => s.rd (Reg.ptppPmpd p)
  | none => 0

/-- PSTA: UP, MPDVALID and the sequenceId of LTXS. -/
def State.ptpPsta (s : State) (p : Nat) : Word := putBit (s.rd (Reg.ptppPsta p)) 0 (s.ptpState p != 0)

/-- W0[31:0] passes to 0: EPOCHW, EPOCHS, EPOCHSH and EPOCHNS latch as one (R289). -/
def State.epochWrap (s : State) : State :=
  let hi := s.w0 / 2 ^ 32
  if hi ≤ s.ptp.epochSeen then s
  else
    let w := hi * 2 ^ 32
    let s := { s with ptp := { s.ptp with epochSeen := hi } }
    let s := (s.wr Reg.ptpEpochw (w32 hi)).wr Reg.ptpEpochs (lo32 (secOf w))
    (s.wr Reg.ptpEpochsh (w32 (secOf w / 2 ^ 32 % 65536))).wr Reg.ptpEpochns (w32 (nsecOf w))

/-- PTP time passes a whole second (R336). -/
def State.ptpSecond (s : State) : State :=
  if secOf s.w0 ≤ s.ptp.secSeen then s
  else State.event { s with ptp := { s.ptp with secSeen := secOf s.w0 } } Page.ptp 0

/-- The capture task (R336). -/
def State.capture0 (s : State) : State := (s.wr64 Reg.ptpCapl Reg.ptpCaph s.w0).raise Page.ptp 8

/-- A frame with a bad FCS on an uplink (R292). -/
def State.badFcs (s : State) (p : Nat) : State :=
  if !s.portOn p then s
  else if isSeg p then s
  else s.onlyIf (s.port p).link (·.bump (Reg.uplCrcerr (p - 16)))

/-- A link partner signals 10 or 100 Mb/s or half duplex (R291). -/
def State.speedError (s : State) (u : Nat) : State :=
  if s.pageOff (Page.upl u) then s else (s.linkDown u).setb (Reg.uplUsta u) 1 true

/-! ### The global period boundary (R345) -/

/-- W0 reaches P: every group of GSNAPEN takes a boundary. -/
def State.takeBoundary (s : State) : State :=
  match s.boundary with
  | none => s
  | some p =>
    if s.w0 < p then s
    else
      (bitsBelow (s.rf Reg.talgGscfg 0 16) 16).foldl
        (fun s g => s.boundaryAt g (if s.groupWheel g = 0 then p else s.high (s.groupWheel g)) p)
        { s with boundary := none }

/-- A firing of channel 254 reaches the LEAT block: refused before the previous P has passed. -/
def State.setBoundary (s : State) : State :=
  let s := s.takeBoundary
  if !s.pageEn Page.leat then s
  else if s.boundary.isSome then (s.bump Reg.leatBndbusy).raise Page.leat 3
  else
    let p := ceilDiv (s.w0 + 256) 64 * 64
    { s with boundary := some p }.wr64 Reg.leatBposl Reg.leatBposh p

end Sys2Proof.Machine
end

