-- ==== Sys2Proof/Machine/Flash.lean ====
section
/-! DEFINITION. The flash controller: geometry, block table, erase intents, bad blocks, commands and suspension, the history
spill, start-up recovery; the JRN page, the scrubber and the tile SRAM test (12 R403-R441). -/

namespace Sys2Proof.Machine

/-! ### Geometry (R414-R416) -/

/-- First word of page `p` of block `b`. -/
def flashWord (b p : Nat) : Nat := (b * 256 + p) * 2048

/-- Words of a command's page: a page of the main array, or a unit of a parameter sector (R414, R441). -/
def FlashCmd.words (c : FlashCmd) : Nat := if c.param then 256 else 2048
/-- Store and first word of a command's page. -/
def FlashCmd.store (c : FlashCmd) : Store := if c.param then Store.flashParam else Store.flashMain
def FlashCmd.word (c : FlashCmd) : Nat := if c.param then c.block * 2048 + c.page * 256 else flashWord c.block c.page
/-- Number of a page in the list of programmed pages. -/
def FlashCmd.key (c : FlashCmd) : Nat := if c.param then 2 ^ 24 + 8 * c.block + c.page else c.block * 256 + c.page

/-- A page has been programmed since its erase. -/
def State.pageProgrammed (s : State) (key : Nat) : Bool := Sparse.get (fun _ => false) s.flash.programmed key
def State.setProgrammed (s : State) (key : Nat) : State :=
  { s with flash := { s.flash with programmed := Sparse.set (fun _ => false) s.flash.programmed key true } }

/-- Mode of a block since its erase (R416). -/
def State.blockMode (s : State) (b : Nat) : Nat := Sparse.get (fun _ => 0) s.flash.modes b
def modePslc (m : Nat) : Bool := m.testBit 0
def modeStripe (m : Nat) : Bool := m.testBit 1
def modePguard (m : Nat) : Bool := m.testBit 2

/-- The parity page of a STRIPE block, and the payload pages (R416). -/
def isPayload (m p : Nat) : Bool :=
  p != 0 && decide (p < 256) && (!modePslc m || p % 2 == 0) && !(modeStripe m && decide (254 ≤ p))

/-- The payload pages of a mode. -/
def payloadPages (m : Nat) : List Nat := (List.range 256).filter (isPayload m)

/-- The first payload page at or after `p`, 256 for none. -/
def nextPayload (m p : Nat) : Nat := ((payloadPages m).find? (fun q => decide (p ≤ q))).getD 256

/-! ### Block and sector tables (R409, R421, R441) -/

/-- A 32-bit table entry in the journal: two to a word. -/
def State.tabEnt (s : State) (base i : Nat) : Nat := natField (s.peekWord Store.journal (base + i / 2)).toNat (32 * (i % 2)) 32
def State.setTabEnt (s : State) (base i v : Nat) : State :=
  let d := (s.peekWord Store.journal (base + i / 2)).toNat
  s.writeWord Store.journal (base + i / 2) (BitVec.ofNat 64 (putNat d (32 * (i % 2)) 32 v))

/-- The block table's entry and the sector table's. -/
def State.blockEnt (s : State) (b : Nat) : Nat := s.tabEnt 0x200 b
def State.sectEnt (s : State) (i : Nat) : Nat := s.tabEnt 0x2200 i
def State.setBlockEnt (s : State) (b v : Nat) : State := s.setTabEnt 0x200 b v
def State.setSectEnt (s : State) (i v : Nat) : State := s.setTabEnt 0x2200 i v

def entCount (e : Nat) : Nat := natField e 0 16
def entNext (e : Nat) : Nat := natField e 16 9
def entInflight (e : Nat) : Bool := e.testBit 25
def entState (e : Nat) : Nat := natField e 26 2
def entUse (e : Nat) : Nat := natField e 28 4

/-- A block or sector that takes no PROG or ERASE (R422, R441). -/
def State.flashBad (s : State) (c : FlashCmd) : Bool :=
  if c.param then (s.sectEnt c.block).testBit 17 else entState (s.blockEnt c.block) != 0

/-! ### Erase intents and stamps (R418, R434) -/

/-- The next intent slot is written (R412, R434): state 1 ERASING, 2 DONE, 3 FAILED. -/
def State.writeIntent (s : State) (param : Bool) (b count st : Nat) : State :=
  let f := s.flash
  let slot := (f.intentSlot + 1) % 16
  let gen := (f.intentGen + 1) % 2 ^ 32
  let w := b + b2n param * 2 ^ 14 + count % 2 ^ 16 * 2 ^ 16 + st * 2 ^ 32
  let s := s.writeRotating 0x20 slot gen [BitVec.ofNat 64 w]
  { s with flash := { f with intentSlot := slot, intentGen := gen } }

/-- The erase stamp (R418). -/
def stampWords (b count use mode w0 : Nat) : List DWord :=
  let x := 0xA5 + mode % 8 * 256 + use * 2 ^ 11 + count % 2 ^ 16 * 2 ^ 16 + b * 2 ^ 32
  let ws : List DWord := [BitVec.ofNat 64 x, BitVec.ofNat 64 w0, 0]
  ws ++ [BitVec.ofNat 64 (crcWords ws).toNat]

/-- Words of a main block or parameter sector return to erased (R434). -/
def State.clearFlash (s : State) (param : Bool) (b : Nat) : State :=
  let lo := if param then wordKey Store.flashParam (b * 2048) else wordKey Store.flashMain (flashWord b 0)
  let n := if param then 2048 else 256 * 2048
  let pk := if param then 2 ^ 24 + 8 * b else b * 256
  let pn := if param then 8 else 256
  { s with
    flashWords := s.flashWords.filter (fun w => !(decide (lo ≤ w.1) && decide (w.1 < lo + n)))
    flash := { s.flash with
      programmed := s.flash.programmed.filter (fun x => !(decide (pk ≤ x.1) && decide (x.1 < pk + pn)))
      torn := s.flash.torn.filter (fun x => !(decide (pk ≤ x) && decide (x < pk + pn))) } }

/-- The header of a programmed page (R415). -/
def pageHeader (page use first tag : Nat) : Nat := page + use * 2 ^ 9 + first % 2 ^ 16 * 2 ^ 16 + tag % 2 ^ 16 * 2 ^ 32

/-- The spare area of a page (R415): the copy of the block's stamp from page 0, the header, data 0. -/
def State.writeSpare (s : State) (b p use first tag : Nat) : State :=
  let s := s.moveWords Store.flashMain (flashWord b 0 + 2016) Store.flashMain (flashWord b p + 2016) 4
  s.writeWords Store.flashMain (flashWord b p + 2020)
    (BitVec.ofNat 64 (pageHeader p use first tag) :: List.replicate 27 0)

/-- The stamp page of a block: payload 0, the stamp, its own header (R415, R418). -/
def State.writeStamp (s : State) (b count use mode : Nat) : State :=
  let s := s.writeWords Store.flashMain (flashWord b 0) (List.replicate 2016 0)
  let s := s.writeWords Store.flashMain (flashWord b 0 + 2016)
    (stampWords b count use mode s.w0 ++ BitVec.ofNat 64 (pageHeader 0 use 0xFFFF 0) :: List.replicate 27 0)
  s.setProgrammed (b * 256)

/-- Wear units of an erase (R419). -/
def wearUnits (mode : Nat) : Nat := if modePslc mode then 1 else 3

/-- A block's erase ends well: stamp, entry, intent DONE, the counts of wear (R418, R419, R434). -/
def State.finishErase (s : State) (b count use mode : Nat) : State :=
  let old := entCount (s.blockEnt b)
  let s := (s.clearFlash false b).writeStamp b count use mode
  let s := { s with flash := { s.flash with modes := Sparse.set (fun _ => 0) s.flash.modes b mode } }
  let s := s.setBlockEnt b (count + nextPayload mode 1 * 2 ^ 16 + use * 2 ^ 28)
  let s := s.writeIntent false b count 2
  let s := s.onlyIf (decide (old ≤ 27000) && decide (27000 < count)) (·.raise Page.flc 4)
  s.onlyIf (decide (s.rf Reg.flcEcntmax 0 16 < count)) (·.wr Reg.flcEcntmax (w32 count))

/-- A sector's erase ends well. -/
def State.finishSector (s : State) (i count : Nat) : State :=
  ((s.clearFlash true i).setSectEnt i count).writeIntent true i count 2

/-! ### Bad blocks (R421, R422) -/

/-- The journal header with BBTGEN; its bit layout is the model's (assumption 13). -/
def State.writeJournalHeader (s : State) (gen : Nat) : State :=
  let s := s.writeWord Store.journal 0 (BitVec.ofNat 64 (1 + gen % 2 ^ 32 * 2 ^ 32))
  let crc := crcWords ((List.range 31).map (fun i => s.peekWord Store.journal i))
  s.writeWord Store.journal 31 (BitVec.ofNat 64 crc.toNat)

/-- The journal header is present. -/
def State.journalHeaderOk (s : State) : Bool :=
  (s.peekWord Store.journal 0).toNat % 2 ^ 32 == 1
    && (s.peekWord Store.journal 31).toNat == (crcWords ((List.range 31).map (fun i => s.peekWord Store.journal i))).toNat

/-- Copy `i` of the bad-block table where it is valid: its generation and its words of STATE (R421). -/
def State.bbtCopy? (s : State) (i : Nat) : Option (Nat × List DWord) :=
  if s.pageProgrammed (2 ^ 24 + 8 * i) then
    let w0 := s.peekWord Store.flashParam (i * 2048)
    let ws := (List.range 512).map (fun j => s.peekWord Store.flashParam (i * 2048 + 2 + j))
    if (s.peekWord Store.flashParam (i * 2048 + 1)).toNat = (crcWords (w0 :: ws)).toNat then some (natField w0.toNat 32 32, ws)
    else none
  else none

/-- Generation of copy `i` of the bad-block table. -/
def State.bbtGen? (s : State) (i : Nat) : Option Nat := (s.bbtCopy? i).map (·.1)

/-- STATE of 32 blocks as one word of the table (R421). -/
def State.bbtWord (s : State) (k : Nat) : DWord :=
  BitVec.ofNat 64 (((List.range 32).map (fun j => entState (s.blockEnt (32 * k + j)) * 4 ^ j)).foldl (· + ·) 0)

/-- Copy `copy` of the bad-block table is erased and written from the journal's STATE with a generation (R421, R434). -/
def State.writeBbt (s : State) (copy gen : Nat) : State :=
  let n := natField (s.sectEnt copy) 0 17 + 1
  let s := (s.writeIntent true copy n 1).finishSector copy n
  let w0 : DWord := BitVec.ofNat 64 (gen % 2 ^ 32 * 2 ^ 32)
  let ws := (List.range 512).map s.bbtWord
  let crc : DWord := BitVec.ofNat 64 (crcWords (w0 :: ws)).toNat
  let s := s.writeWords Store.flashParam (copy * 2048) (w0 :: crc :: ws)
  (List.range 3).foldl (fun s u => s.setProgrammed (2 ^ 24 + 8 * copy + u)) s

/-- The older copy of the bad-block table is rewritten with generation + 1, recorded as BBTGEN (R422). -/
def State.rewriteBbt (s : State) : State :=
  let ga := s.bbtGen? 0
  let gb := s.bbtGen? 1
  let (copy, gen) := match ga, gb with
    | none, none => (0, 1)
    | none, some b => (0, b + 1)
    | some a, none => (1, a + 1)
    | some a, some b => if 0 ≤ sdiffMod a b 32 then (1, a + 1) else (0, b + 1)
  (s.writeBbt copy gen).writeJournalHeader gen

/-- STATE of every block as a copy of the table gives it goes to the journal (R423). -/
def State.adoptBbt (s : State) (ws : List DWord) : State :=
  (List.range 16384).foldl (fun s b =>
    let st := natField (ws.getD (b / 32) 0).toNat (2 * (b % 32)) 2
    s.onlyIf (entState (s.blockEnt b) != st) (fun s => s.setBlockEnt b (putNat (s.blockEnt b) 26 2 st))) s

/-- The bad-block table is reconciled at start-up (R423): the newer of the journal's BBTGEN and the valid copy of higher
generation is adopted, and a copy that is older or invalid is rewritten. -/
def State.reconcileBbt (s : State) : State :=
  let j := natField (s.peekWord Store.journal 0).toNat 32 32
  let a := s.bbtCopy? 0
  let b := s.bbtCopy? 1
  let best := match a, b with
    | some x, some y => if 0 ≤ sdiffMod x.1 y.1 32 then some x else some y
    | some x, none => some x
    | none, y => y
  let r := match best with
    | some x => if 0 < sdiffMod x.1 j 32 then (x.1, (s.adoptBbt x.2).writeJournalHeader x.1) else (j, s)
    | none => (j, s)
  let t := if a.map (·.1) = some r.1 then r.2 else r.2.writeBbt 0 r.1
  if b.map (·.1) = some r.1 then t else t.writeBbt 1 r.1

/-- A block becomes grown bad (2) or worn (3); a sector becomes bad (R422, R441). -/
def State.markBad (s : State) (c : FlashCmd) (st : Nat) : State :=
  if c.param then s.setSectEnt c.block (putNat (s.sectEnt c.block) 17 1 1)
  else
    let e := s.blockEnt c.block
    let s := s.onlyIf (decide (entState e < 2)) (fun s => s.setf Reg.flcGrownbad 0 14 (s.rf Reg.flcGrownbad 0 14 + 1))
    ((s.setBlockEnt c.block (putNat e 26 2 st)).rewriteBbt).raise Page.flc 2

/-! ### Completions (R426) -/

/-- FSTA.OVR (14) or UNDR (15), and DROP. -/
def State.flashLost (s : State) (b : Nat) : State :=
  let s := s.onlyIf (b == 14) (fun s => s.setf Reg.flcFsta 16 16 (s.rf Reg.flcFsta 16 16 + 1))
  (s.setb Reg.flcFsta b true).raise Page.flc 6

/-- A command ends with a completion entry; the queue holds 32 (assumption 13). -/
def State.flashEnd (s : State) (c : FlashCmd) (status : Nat) (dur durlo : Bool := false) (corrected : Nat := 0) : State :=
  let w0 := c.ctag + status * 2 ^ 8 + b2n dur * 2 ^ 12 + b2n durlo * 2 ^ 13 + min corrected 65535 * 2 ^ 16
  let w1 := (if c.param then c.block * 8 + c.page else c.block * 256 + c.page) + b2n c.param * 2 ^ 22 + c.req * 2 ^ 24
  if 32 ≤ s.flash.doneq.length then s.flashLost 14
  else
    let s := { s with flash := { s.flash with doneq := s.flash.doneq ++ [(w32 w0, w32 w1)] } }
    let s := s.raise Page.flc 0
    s.onlyIf (!(status == 0 || status == 1 || status == 3)) (·.raise Page.flc 1)

/-- A read of FDONE0 pops a completion: FDONE0, FDONE1 and the state (R426). -/
def State.popFlash (s : State) : (Word × Word) × State :=
  match s.flash.doneq with
  | [] => (s.flash.lastDone, s.flashLost 15)
  | d :: rest => (d, { s with flash := { s.flash with doneq := rest, lastDone := d } })

/-- FSTA. -/
def State.fsta (s : State) : Word :=
  let f := s.flash
  let v := putField (putField (s.rd Reg.flcFsta) 0 6 f.queue.length) 6 6 f.doneq.length
  putBit (putBit v 12 (f.running.any (fun c => c.op == 3))) 13 f.suspended.isSome

/-! ### Starting a command (R417, R419, R420, R425, R430) -/

/-- First word and number of words that a READ transfers (R425). -/
def FlashCmd.span (c : FlashCmd) : Nat × Nat :=
  if c.param then (0, 256)
  else match c.xfer with
    | 0 => (0, 2016)
    | 1 => (2016, 32)
    | _ => (0, 2048)

/-- Words between the page and the target. -/
def FlashCmd.moved (c : FlashCmd) : Nat := if c.op = 1 then c.span.2 else if c.param then 256 else 2016

/-- A PROG whose source is the staging buffer (R438). -/
def FlashCmd.staged (c : FlashCmd) : Bool := c.req == 2

/-- The target tile of FCMD1. -/
def FlashCmd.tile (c : FlashCmd) : Nat := c.target % 128
/-- The word of its data SRAM. -/
def FlashCmd.targetWord (c : FlashCmd) : Nat := 0x9000 + c.target / 128

/-- A target on a retired tile or past the working store (R425). -/
def State.badTarget (s : State) (c : FlashCmd) : Bool :=
  !c.staged && (s.retired c.tile || decide (4096 < c.target / 128 + c.moved))

/-- The mode bits of an ERASE. -/
def FlashCmd.mode (c : FlashCmd) : Nat := b2n c.pslc + b2n c.stripe * 2 + b2n c.pguard * 4

/-- The count of an ERASE (R419, R434). -/
def State.eraseCount (s : State) (c : FlashCmd) : Nat :=
  if c.param then natField (s.sectEnt c.block) 0 17 + 1 else entCount (s.blockEnt c.block) + wearUnits c.mode

/-- The status that refuses a command as it starts, if any (R417, R419, R422, R425). -/
def State.flashRefusal (s : State) (c : FlashCmd) : Option Nat :=
  let m := s.blockMode c.block
  let e := s.blockEnt c.block
  let guarded := c.param && decide (c.block < 2) && c.req == 3
  match c.op with
  | 1 => if s.badTarget c then some 10 else none
  | 2 =>
    if guarded || s.badTarget c then some 10
    else if s.flashBad c then some 7
    else if c.param then (if s.pageProgrammed c.key then some 9 else none)
    else if !isPayload m c.page || decide (c.page < entNext e) then some 9
    else none
  | 3 =>
    if guarded then some 10
    else if s.flashBad c then some 7
    else if !c.param && decide (30000 < s.eraseCount c) then some 8
    else none
  | 6 => none
  | 7 =>
    if c.param || !modeStripe m then some 11
    else if s.flashBad c then some 7
    else if 254 < entNext e then some 9
    else none
  | _ => some 11

/-- The XOR of word `i` of the programmed pages of a block other than page `p` (R427, R429). -/
def State.stripeXor (s : State) (b p i : Nat) : CWord :=
  ((List.range 256).filter (fun q => q != p && s.pageProgrammed (b * 256 + q))).foldl
    (fun w q => w ^^^ s.rawWord Store.flashMain (flashWord b q + i)) 0

/-- Put a page's words one by one. -/
def State.putWords (s : State) (st : Store) (i : Nat) : List CWord → State
  | [] => s
  | w :: ws => (s.putWord st i w).putWords st (i + 1) ws

/-- The parity page of a block (R429). -/
def State.writeParity (s : State) (b : Nat) : State :=
  (s.putWords Store.flashMain (flashWord b 254) ((List.range 2048).map (s.stripeXor b 254))).setProgrammed (b * 256 + 254)

/-- INFLIGHT of a block (R428). -/
def State.setInflight (s : State) (b : Nat) (next : Nat) (on : Bool) : State :=
  s.setBlockEnt b (putNat (putNat (s.blockEnt b) 16 9 next) 25 1 (b2n on))

/-- A PROG's payload leaves its source for the page (R401, R425, R438). -/
def State.programPage (s : State) (c : FlashCmd) : State :=
  let s := if c.staged then
      (List.range 2016).foldl (fun s i =>
        s.putWord Store.flashMain (c.word + i)
          (if i < s.flash.stageLen then s.rawWord Store.staging ((s.flash.stageRd + i) % 8192) else 0)) s
    else s.moveWords (Store.tile c.tile 0) c.targetWord c.store c.word c.moved
  let s := s.onlyIf (!c.param) (·.writeSpare c.block c.page (entUse (s.blockEnt c.block)) c.first c.tag)
  s.setProgrammed c.key

/-- The controller begins a command that no rule refuses. -/
def State.runFlash (s : State) (c : FlashCmd) : State :=
  let go := fun (s : State) => { s with flash := { s.flash with running := some c } }
  match c.op with
  | 1 => go ((s.bump Reg.flcReads).wakeServed c.tile)
  | 2 =>
    let s := s.onlyIf (!c.staged && !c.param) (·.wakeServed c.tile)
    let s := s.onlyIf (!c.param) (·.setInflight c.block c.page true)
    let s := (s.programPage c).bump Reg.flcProgs
    go (s.onlyIf s.flash.suspended.isSome (fun s => { s with flash := { s.flash with suspProg := true } }))
  | 3 =>
    let s := (s.writeIntent c.param c.block (s.eraseCount c) 1).bump Reg.flcErases
    let recent := s.time.fab :: s.flash.eraseAt.filter (fun t => decide (s.time.fab ≤ t + 400000000))
    let s := s.onlyIf (!c.param) (fun s => { s with flash := { s.flash with eraseAt := recent } })
    go { s with flash := { s.flash with suspCount := 0, rateWaited := false } }
  | 7 => go (((s.setInflight c.block 254 true).writeParity c.block).bump Reg.flcProgs)
  | _ => (s.markBad c 2).flashEnd c 0

/-- Erases of the main array started within the last second (R420). -/
def State.recentErases (s : State) : Nat :=
  (s.flash.eraseAt.filter (fun t => decide (s.time.fab ≤ t + 400000000))).length

/-- The command that may start now (R424, R430, R431): the head of the queue; during a suspension the first READ of
another block, or one PROG of another; beside a running erase a READ of another block that suspends it. -/
def State.runnable? (s : State) : Option FlashCmd :=
  let f := s.flash
  let other := fun (e c : FlashCmd) => !(c.block == e.block && c.param == e.param)
  match f.running, f.suspended with
  | some e, none =>
    if e.op = 3 ∧ s.rb Reg.flcFctl 1 ∧ f.suspCount < s.rf Reg.flcFctl 4 8 then
      match f.queue with
      | c :: _ => if c.op = 1 ∧ other e c then some c else none
      | [] => none
    else none
  | some _, some _ => none
  | none, some e => f.queue.find? (fun c => other e c && (c.op == 1 || (c.op == 2 && !f.suspProg)))
  | none, none => f.queue.head?

/-- A READ of the suspended block ends at once: poison in every word of its target (R431). -/
def State.refuseRead (s : State) (c : FlashCmd) : State :=
  if s.badTarget c then s.flashEnd c 10
  else
    let s := (s.wakeServed c.tile).putWords (Store.tile c.tile 0) c.targetWord (List.replicate c.moved poisonWord)
    (s.bump Reg.flcSuspblk).flashEnd c 4

/-- The running erase is suspended (R430). -/
def State.suspendErase (s : State) (e : FlashCmd) : State :=
  let f := s.flash
  let mine := fun (c : FlashCmd) => c.op == 1 && c.block == e.block && c.param == e.param
  let s := { s with flash := { f with running := none, suspended := some e, suspCount := f.suspCount + 1,
                                      suspProg := false, resumeWanted := false,
                                      queue := f.queue.filter (fun c => !mine c) } }
  (f.queue.filter mine).foldl (fun s c => s.refuseRead c) (s.bump Reg.flcSuspcnt)

/-- The suspended erase goes on where RESUME asks, or with AUTOSUSP where nothing that may run is queued (R430). -/
def State.autoResume (s : State) : State :=
  match s.flash.running, s.flash.suspended with
  | none, some e =>
    if s.pwr.target.isNone && s.pwr.state == .run &&
        (s.flash.resumeWanted || (s.rb Reg.flcFctl 1 && s.runnable?.isNone)) then
      { s with flash := { s.flash with running := some e, suspended := none, resumeWanted := false } }
    else s
  | _, _ => s

/-- The controller may issue to the die. -/
def State.flashOn (s : State) : Bool := s.rb Reg.flcFctl 0 && s.pageLive Page.flc && !s.flash.stopped

/-! ### Posting (R424, R425, R430) -/

/-- The command in FCMD0-FCMD3. -/
def State.flashCmdOf (s : State) (v : Word) : FlashCmd :=
  let a := s.rd Reg.flcFcmd0
  let b := s.rd Reg.flcFcmd1
  let d := s.rd Reg.flcFcmd2
  let param := bitOf a 24
  { req := 3, op := field v 0 4, param := param, block := if param then field a 0 5 else field a 0 14,
    page := if param then field a 14 3 else field a 14 8, target := field b 0 19, xfer := field b 19 2,
    first := field d 0 16, tag := field d 16 16, pslc := bitOf v 4, stripe := bitOf v 5, pguard := bitOf v 6,
    use := field v 7 4, ctag := field v 16 8 }

/-- A SUSPEND at the end of the FAB cycle of its post: an erase that completes in that cycle is over (R430, R432). -/
def State.postSuspend (s : State) (c : FlashCmd) : State :=
  match s.flash.running with
  | some e =>
    if e.op = 3 ∧ s.flash.suspCount < s.rf Reg.flcFctl 4 8 then ((s.suspendErase e).flashEnd c 0).autoResume
    else s.flashEnd c 12
  | none => s.flashEnd c 12

/-- A RESUME at the end of the FAB cycle of its post (R430). -/
def State.postResume (s : State) (c : FlashCmd) : State :=
  if s.flash.suspended.isSome then
    State.autoResume (State.flashEnd { s with flash := { s.flash with resumeWanted := true } } c 0)
  else s.flashEnd c 12

/-- The SUSPENDs and RESUMEs of the FAB cycle, in order (R430, R432). -/
def State.takeAsks (s : State) : State :=
  match s.flash.asks with
  | [] => s
  | cs => cs.foldl (fun s c => if c.op = 4 then s.postSuspend c else s.postResume c) { s with flash := { s.flash with asks := [] } }

/-- A command is admitted to the queue (R424). -/
def State.admitFlash (s : State) (c : FlashCmd) : State :=
  if 32 ≤ s.flash.queue.length then s.onlyIf (c.req == 3) (·.flashLost 14)
  else { s with flash := { s.flash with queue := s.flash.queue ++ [c] } }

/-- A write of FCMD3 posts a command; a reserved USE keeps the field (R8, R425). -/
def State.postFlash (s : State) (v : Word) : State :=
  let u := field v 7 4
  let v := if 3 ≤ u then putField v 7 4 (s.rf Reg.flcFcmd3 7 4) else v
  let s := s.wr Reg.flcFcmd3 v
  let c := s.flashCmdOf v
  if 32 ≤ s.flash.queue.length then s.flashLost 14
  else if !s.rb Reg.flcFctl 0 || !s.pageEn Page.flc then s.flashEnd c 13
  else if c.op = 0 || 8 ≤ c.op then s.flashEnd c 11
  else if c.op = 4 ∨ c.op = 5 then { s with flash := { s.flash with asks := s.flash.asks ++ [c] } }
  else if c.op = 1 ∧ s.flash.suspended.any (fun e => e.block == c.block && e.param == c.param) then s.refuseRead c
  else s.admitFlash c

/-- The pages that a command under way leaves torn when it is cut off (R433, R436). -/
def FlashCmd.tears (c : FlashCmd) : List Nat :=
  match c.op with
  | 2 => [c.key]
  | 3 => if c.param then (List.range 8).map (2 ^ 24 + 8 * c.block + ·) else (List.range 256).map (c.block * 256 + ·)
  | 7 => [c.block * 256 + 254]
  | _ => []

/-- What is torn when the die's work is cut off here. -/
def FlashSt.cutOff (f : FlashSt) : List Nat := (f.torn ++ (f.running.toList ++ f.suspended.toList).flatMap (·.tears)).eraseDups

/-- FCTL.EN is cleared or power fails: every command not complete ends ABORTED (R426, R433). -/
def State.abortFlash (s : State) : State :=
  let f := s.flash
  let all := f.running.toList ++ f.suspended.toList ++ f.queue ++ f.asks
  all.foldl (fun s c => s.flashEnd c 13)
    { s with flash := { f with running := none, suspended := none, queue := [], asks := [], resumeWanted := false, torn := f.cutOff } }

/-- An FCTL write: SUSPMAX 0 stores 1; clearing EN aborts. -/
def State.writeFctl (s : State) (v : Word) : State :=
  let v := if field v 4 8 = 0 then putField v 4 8 1 else v
  let s := s.wr Reg.flcFctl (v &&& 0xFF3)
  s.onlyIf (!bitOf v 0) (·.abortFlash)

/-! ### History ring (R438-R440) -/

def State.histOn (s : State) : Bool := s.rb Reg.flcHcfg 0
/-- The mode of HCFG as mode bits. -/
def State.histMode (s : State) : Nat := b2n (s.rb Reg.flcHcfg 1) + b2n (s.rb Reg.flcHcfg 3) * 2 + b2n (s.rb Reg.flcHcfg 2) * 4
def State.hblk0 (s : State) : Nat := s.rf Reg.flcHblk 0 14
def State.hblk1 (s : State) : Nat := s.rf Reg.flcHblk 16 14
/-- The ring block after `b`. -/
def State.histNext (s : State) (b : Nat) : Nat := if b + 1 < s.hblk1 then b + 1 else s.hblk0
/-- The block of HWPTR and its page. -/
def State.histBlock (s : State) : Nat := s.rf Reg.flcHwptr 8 14
def State.histPage (s : State) : Nat := s.rf Reg.flcHwptr 0 8

/-- Words the ring still takes: the current block's free payload pages, and the blocks up to HOLD (R439). -/
def State.histRoom (s : State) : Nat :=
  let n := s.hblk1 - s.hblk0
  let pp := payloadPages s.histMode
  let cur := (pp.filter (fun p => decide (max 1 s.histPage ≤ p))).length
  let blocks := (s.rf Reg.flcHold 0 14 + n - s.histBlock + n - 1) % max 1 n
  2016 * (cur + pp.length * blocks)

/-- A HCFG write (R440); enabling history at a ring that HWPTR lies outside starts it at HBLK0. -/
def State.writeHcfgFlash (s : State) (v : Word) : State :=
  if s.histOn then s
  else
    let s := s.wr Reg.flcHcfg (v &&& 0x1F)
    if bitOf v 0 && (decide (s.histBlock < s.hblk0) || decide (s.hblk1 ≤ s.histBlock)) then
      let s := ((s.wr Reg.flcHwptr (w32 (s.hblk0 * 256))).wr Reg.flcHold (w32 s.hblk0)).wr Reg.flcHdur (w32 (s.hblk0 * 256))
      { s with flash := { s.flash with histReady := false } }
    else s

/-- The state of the history ring goes to the journal; the layout of its word is the model's (assumption 13). -/
def State.saveHistory (s : State) : State :=
  let f := s.flash
  let slot := (f.histSlot + 1) % 16
  let gen := (f.histGen + 1) % 2 ^ 32
  let s := s.writeRotating 0xA0 slot gen [BitVec.ofNat 64 (s.rn Reg.flcHwptr + s.rn Reg.flcHold * 2 ^ 32)]
  { s with flash := { f with histSlot := slot, histGen := gen } }

/-- A command of the history ring. -/
def State.histCmd (s : State) (op block page first : Nat) : FlashCmd :=
  { req := 2, op := op, param := false, block := block, page := page, target := 0, xfer := 0, first := first, tag := 0,
    pslc := s.rb Reg.flcHcfg 1, stripe := s.rb Reg.flcHcfg 3, pguard := s.rb Reg.flcHcfg 2, use := 1, ctag := 0 }

/-- The oldest block is given up: HLOST counts it and HOLD advances (R439). -/
def State.loseHistory (s : State) (b : Nat) : State :=
  if s.rf Reg.flcHold 0 14 = b then (s.bump Reg.flcHlost).wr Reg.flcHold (w32 (s.histNext b)) else s

/-- The spill engine asks for admission to the queue: none of its own commands waits or runs, and a page of words is staged
(R424, R438). -/
def State.wantsHistory (s : State) : Bool :=
  let f := s.flash
  !(f.running.toList ++ f.suspended.toList ++ f.queue).any (fun c => c.req == 2) && s.histOn && decide (2016 ≤ f.stageLen)

/-- The controller's next history command, when none of its own waits or runs: the erase of the block at HWPTR, the erase
of the next block before the last payload page, or a page of staged words (R438). -/
def State.pumpHistory (s : State) : State :=
  let f := s.flash
  let b := s.histBlock
  let p := s.histPage
  let nb := s.histNext b
  let mayLose := s.rf Reg.flcHold 0 14 != nb || s.rb Reg.flcHcfg 4
  if !s.wantsHistory then s
  else if p = 0 then s.admitFlash (s.histCmd 3 b 0 0xFFFF)
  else if nextPayload s.histMode (p + 1) = 256 ∧ !f.histReady ∧ nb ≠ b ∧ mayLose then
    (s.loseHistory nb).admitFlash (s.histCmd 3 nb 0 0xFFFF)
  else
    let first := (f.stageStarts.find? (fun x => decide (x < 2016))).getD 0xFFFF
    s.admitFlash (s.histCmd 2 b p first)

/-- A history command has completed (R438, R439). -/
def State.histDone (s : State) (c : FlashCmd) (dur : Bool) : State :=
  if c.req ≠ 2 then s
  else
    let b := s.histBlock
    let s := match c.op with
      | 3 =>
        if c.block = b ∧ s.histPage = 0 then s.wr Reg.flcHwptr (w32 (b * 256 + nextPayload s.histMode 1))
        else { s with flash := { s.flash with histReady := true } }
      | 2 =>
        let f := s.flash
        let s := { s with flash := { f with
          stageRd := (f.stageRd + 2016) % 8192, stageLen := f.stageLen - 2016,
          stageStarts := (f.stageStarts.filter (fun x => decide (2016 ≤ x))).map (· - 2016) } }
        let q := nextPayload s.histMode (c.page + 1)
        let s :=
          if q < 256 then s.wr Reg.flcHwptr (w32 (b * 256 + q))
          else
            let nb := s.histNext b
            let s := s.onlyIf (modeStripe s.histMode) (·.admitFlash (s.histCmd 7 b 254 0xFFFF))
            let at0 := if f.histReady then nextPayload s.histMode 1 else 0
            State.wr { s with flash := { s.flash with histReady := false } } Reg.flcHwptr (w32 (nb * 256 + at0))
        s.onlyIf dur (fun s => s.wr Reg.flcHdur (s.rd Reg.flcHwptr))
      | _ => s
    (s.saveHistory).pumpHistory

/-- The FLC takes a spilled bank's record into its staging buffer, or refuses it (R439): the record must fit the 64 KiB
buffer and the ring. -/
def State.offerSpill (s : State) (n b : Nat) : State :=
  let r := s.historyRecord n b
  let words := r.1.length
  let room := decide (r.2.flash.stageLen + words ≤ 8192)
  let ring := decide (r.2.hblk0 < r.2.hblk1) &&
    (r.2.rb Reg.flcHcfg 4 || decide (r.2.flash.stageLen + words ≤ r.2.histRoom))
  if r.2.rb Reg.flcFctl 0 && r.2.pageLive Page.flc && r.2.histOn && room && ring then
    let s := r.2
    let f := s.flash
    let s := ((List.range words).zip r.1).foldl (fun s x =>
      s.putWord Store.staging ((f.stageRd + f.stageLen + x.1) % 8192) x.2) s
    let s := { s with flash := { s.flash with stageLen := f.stageLen + words, stageStarts := f.stageStarts ++ [f.stageLen] } }
    (s.spillDone n b).pumpHistory
  else ((s.bump Reg.flcSprej).onlyIf (!(room && ring)) (·.raise Page.flc 3)).spillRefused n b

/-! ### Checkpoint sets (R492) -/

/-- Good blocks of checkpoint set `k`: the lower half of CKBLK's blocks is set A. -/
def State.ckSet (s : State) (k : Nat) : List Nat :=
  let b0 := s.rf Reg.flcCkblk 0 14
  let n := s.rf Reg.flcCkblk 16 14
  let h := n / 2
  let bs := if k = 0 then (List.range h).map (b0 + ·) else (List.range (n - h)).map (b0 + h + ·)
  bs.filter (fun b => decide (b < 16384) && entState (s.blockEnt b) == 0)

/-- The set that the last valid checkpoint does not use. -/
def State.idleSet (s : State) : Nat :=
  match s.pwr.ck with
  | some c => 1 - c.set
  | none => 0

/-- PWR asks for admission to the queue: a block of the idle set is to be erased and none of its own commands waits or runs
(R424, R492). -/
def State.wantsCk (s : State) : Bool :=
  let f := s.flash
  !f.ckLeft.isEmpty && !(f.running.toList ++ f.suspended.toList ++ f.queue).any (fun c => c.req == 1)

/-- The next block of the idle set is erased; at the end CKSTA.READY is set (R492). -/
def State.pumpCk (s : State) : State :=
  match s.flash.ckLeft with
  | [] => s
  | b :: _ =>
    if !s.wantsCk then s
    else s.admitFlash { s.histCmd 3 b 0 0xFFFF with req := 1, pslc := true, stripe := false, pguard := false, use := 2 }

/-- The idle set is erased. -/
def State.ckReady (s : State) : State :=
  (s.wr Reg.pwrCksta (putField (s.rd Reg.pwrCksta) 2 2 1)).raise Page.pwr 3

/-- PWR starts to erase the idle set after a start (R492). -/
def State.startCkErase (s : State) : State :=
  let bs := s.ckSet s.idleSet
  let s := s.wr Reg.pwrCksta (putField (putField (s.rd Reg.pwrCksta) 2 2 2) 16 16 bs.length)
  if bs.isEmpty then s.ckReady else State.pumpCk { s with flash := { s.flash with ckLeft := bs } }

/-- An erase of the idle set has ended (R492). -/
def State.ckErased (s : State) (c : FlashCmd) : State :=
  if c.req ≠ 1 then s
  else
    let rest := s.flash.ckLeft.erase c.block
    let s := { s with flash := { s.flash with ckLeft := rest } }
    if rest.isEmpty then s.ckReady else s.pumpCk

/-! ### The next command (R420, R424) -/

/-- The next command starts, or ends refused, or waits for ERATE (R420, R424). -/
def State.startNext (s : State) : State :=
  match s.runnable? with
  | none => s
  | some c =>
    if !s.flashOn || s.pwr.target.isSome then s
    else if c.op = 3 ∧ !c.param ∧ (s.flashRefusal c).isNone ∧ max 1 (s.rf Reg.flcErate 0 8) ≤ s.recentErases then
      if s.flash.rateWaited then s
      else State.bump { s with flash := { s.flash with rateWaited := true } } Reg.flcRatew
    else
      let s := match s.flash.running with
        | some e => s.suspendErase e
        | none => s
      let s := { s with flash := { s.flash with queue := s.flash.queue.erase c } }
      match s.flashRefusal c with
      | some st =>
        let s := s.onlyIf (st == 8) (·.markBad c 3)
        (s.flashEnd c st).autoResume
      | none => s.runFlash c

/-- PWR (1) and the spill engine (2) are admitted as far as the queue has room, in the order of its list where both ask (R26,
R424). -/
def State.admitEngines (s : State) : State :=
  if 32 ≤ s.flash.queue.length then s
  else
    let g := s.grant resFlash ((if s.wantsCk then [1] else []) ++ (if s.wantsHistory then [2] else []))
    g.1.foldl (fun s r => if r = 1 then s.pumpCk else s.pumpHistory) g.2

/-- The next command starts; the engines take the room it leaves in the queue (R424). -/
def State.startFlash (s : State) : State :=
  if s.pwr.target.isSome && !s.pwr.entering then s else s.startNext.admitEngines

/-! ### Ends of operations (R427-R429, R434) -/

/-- Read results word by word: what the target takes, corrected words, poison words, uncorrectable words. -/
structure ReadSum where
  out : List CWord
  corrected : Nat
  poison : Nat
  bad : Nat
  deriving DecidableEq, Repr

/-- Check the words of a page as the die delivers them (R427). -/
def sumRead : List CWord → ReadSum
  | [] => { out := [], corrected := 0, poison := 0, bad := 0 }
  | w :: ws =>
    let r := sumRead ws
    match checkWord w with
    | .good _ => { r with out := w :: r.out }
    | .corrected d => { r with out := encodeWord d :: r.out, corrected := r.corrected + 1 }
    | .poison => { r with out := poisonWord :: r.out, poison := r.poison + 1 }
    | .uncorrectable => { r with out := poisonWord :: r.out, bad := r.bad + 1 }

/-- The running command, if it has operation `op`. -/
def State.runningOp (s : State) (op : Nat) : Option FlashCmd := s.flash.running.filter (fun c => c.op == op)

/-- Nothing runs any more. -/
def State.idleDie (s : State) : State := { s with flash := { s.flash with running := none } }

/-- The words of a command's page: those of a torn page are free values (R436). -/
def State.pageWords (s : State) (c : FlashCmd) : List CWord × State :=
  if s.flash.torn.contains c.key then
    let r := s.free (72 * c.words)
    ((List.range c.words).map (fun i => (r.1 >>> (72 * i)).truncate 72), r.2)
  else ((List.range c.words).map (fun i => s.rawWord c.store (c.word + i)), s)

/-- A READ ends (R427): `flips` are the bits the die delivers inverted, by word of the page; `ldpc` its own failure. -/
def State.endRead (s : State) (flips : List (Nat × CWord)) (ldpc : Bool) : State :=
  match s.runningOp 1 with
  | none => s
  | some c =>
    if !s.flashOn then s
    else
      let s := (s.wakeServed c.tile).idleDie
      let put := fun (s : State) (ws : List CWord) =>
        s.putWords (Store.tile c.tile 0) c.targetWord ((ws.drop c.span.1).take c.span.2)
      if !s.pageProgrammed c.key && !s.flash.torn.contains c.key then
        ((put s (List.replicate c.words (encodeWord (BitVec.allOnes 64)))).flashEnd c 1).autoResume
      else
        let flip := fun (i : Nat) => ((flips.find? (fun x => x.1 == i)).map (·.2)).getD 0
        let page := s.pageWords c
        let s := page.2
        let r := sumRead ((List.range c.words).map (fun i => page.1.getD i 0 ^^^ flip i))
        let s := (s.bumpBy (Reg.hdrErrcnt Page.flc) r.corrected).bumpBy Reg.eccPreadcnt r.poison
        if r.bad = 0 ∧ !ldpc then ((put s r.out).flashEnd c 0 false false r.corrected).autoResume
        else if !c.param ∧ modeStripe (s.blockMode c.block) ∧ s.pageProgrammed (c.block * 256 + 254) then
          ((put s ((List.range 2048).map (s.stripeXor c.block c.page))).flashEnd c 3 false false r.corrected).autoResume
        else
          (((put s r.out).logError c.store c.word false).flashEnd c 2 false false r.corrected).autoResume

/-- Durability of a programmed page (R428): DUR and DURLO. -/
def State.durability (s : State) (c : FlashCmd) : Bool × Bool :=
  let m := s.blockMode c.block
  if c.param || modePslc m || !modePguard m then (true, false)
  else if c.page % 2 = 0 then (false, false) else (true, true)

/-- A PROG ends (R428): well, or failed, and then the block is grown bad. -/
def State.endProg (s : State) (ok : Bool) : State :=
  match s.runningOp 2 with
  | none => s
  | some c =>
    if !s.flashOn then s
    else
      let s := s.idleDie
      let s := s.onlyIf (!c.param) (·.setInflight c.block (c.page + 1) false)
      let d := s.durability c
      if ok then (((s.flashEnd c 0 d.1 d.2).histDone c d.1)).autoResume
      else ((s.markBad c 2).flashEnd c 5).autoResume

/-- A CLOSE ends (R428, R429). -/
def State.endClose (s : State) (ok : Bool) : State :=
  match s.runningOp 7 with
  | none => s
  | some c =>
    if !s.flashOn then s
    else
      let s := (s.idleDie).setInflight c.block 255 false
      let d := s.durability { c with page := 254 }
      if ok then ((s.flashEnd c 0 d.1 d.2).histDone c d.1).autoResume
      else ((s.markBad c 2).flashEnd c 5).autoResume

/-- An ERASE ends (R422, R434). -/
def State.endErase (s : State) (ok : Bool) : State :=
  match s.runningOp 3 with
  | none => s
  | some c =>
    if !s.flashOn then s
    else
      let n := s.eraseCount c
      let s := s.idleDie
      if ok then
        let s := if c.param then s.finishSector c.block n else s.finishErase c.block n c.use c.mode
        ((s.flashEnd c 0).histDone c true).ckErased c
      else (((s.markBad c 2).writeIntent c.param c.block n 3).flashEnd c 6).ckErased c

/-! ### Start-up recovery (R423, R435-R437) -/

/-- Slot `i` of a rotating record of `n` words with its generation, where it is valid (R412). -/
def State.rotating? (s : State) (base n i : Nat) : Option (List DWord × Nat) :=
  let found := (List.range n).map (fun j => checkWord (s.rawWord Store.journal (base + i * n + j)))
  let good := found.all (fun f => match f with
    | .good _ => true
    | .corrected _ => true
    | _ => false)
  let ws := (List.range n).map (fun j => s.peekWord Store.journal (base + i * n + j))
  let g := (ws.getLastD 0).toNat
  if good && rotatingSlot (ws.take (n - 1)) (g % 2 ^ 32) == ws then some (ws.take (n - 1), g % 2 ^ 32) else none

/-- The newest valid slot of a rotating record: its number, words and generation (R412). -/
def State.newest? (s : State) (base n : Nat) : Option (Nat × List DWord × Nat) :=
  (List.range 16).foldl (fun best i =>
    match s.rotating? base n i, best with
    | some (ws, g), some (j, vs, h) => if 0 < sdiffMod g h 32 then some (i, ws, g) else some (j, vs, h)
    | some (ws, g), none => some (i, ws, g)
    | none, b => b) none

/-- Blocks and sectors whose newest intent is ERASING (R435): word 0 of those slots. -/
def State.openIntents (s : State) : List Nat :=
  let slots := (List.range 16).filterMap (fun i => (s.rotating? 0x20 2 i).map (fun x => ((x.1.headD 0).toNat, x.2)))
  (slots.filter (fun x => natField x.1 32 2 == 1 &&
    !slots.any (fun y => natField y.1 0 15 == natField x.1 0 15 && decide (0 < sdiffMod y.2 x.2 32)))).map (·.1)

/-- Erase again what the intent names, with the count it holds (R435). -/
def State.eraseAgain (s : State) (w : Nat) : State :=
  let b := natField w 0 14
  let n := natField w 16 16
  let s := s.writeIntent (w.testBit 14) b n 1
  let s := if w.testBit 14 then s.finishSector b n
           else s.finishErase b n (entUse (s.blockEnt b)) (s.blockMode b)
  s.setf Reg.flcReerase 0 16 (s.rf Reg.flcReerase 0 16 + 1)

/-- The main blocks of which a word is listed: every other block is fully erased. -/
def State.usedBlocks (s : State) : List Nat :=
  ((s.flashWords.filter (fun w => w.1 / 2 ^ 40 == Store.flashMain)).map (fun w => w.1 % 2 ^ 40 / (256 * 2048))).eraseDups

/-- A copy of the stamp is valid: its count, mode and use (R418). -/
def State.stampAt? (s : State) (b p : Nat) : Option (Nat × Nat × Nat) :=
  let ws := (List.range 4).map (fun i => s.peekWord Store.flashMain (flashWord b p + 2016 + i))
  let x := (ws.headD 0).toNat
  if natField x 0 8 = 0xA5 ∧ natField x 32 14 = b ∧ (ws.getLastD 0).toNat = (crcWords (ws.take 3)).toNat then
    some (natField x 16 16, natField x 8 3, natField x 11 4)
  else none

/-- The stamp of a block: the copy on its lowest programmed page whose copy is valid (R418). -/
def State.stampOf? (s : State) (b : Nat) : Option (Nat × Nat × Nat) :=
  (List.range 256).findSome? (fun p => if s.pageProgrammed (b * 256 + p) then s.stampAt? b p else none)

/-- A block without a valid stamp is factory bad by byte 0 of the spare area of page 0 (R423). -/
def State.factoryBad (s : State) (b : Nat) : Bool :=
  (s.stampOf? b).isNone && (s.peekWord Store.flashMain (flashWord b 0 + 2016)).toNat % 256 == 0

/-- A stamped or factory-bad block at the scan (R423). -/
def State.scanBlock (s : State) (b : Nat) : State :=
  match s.stampOf? b with
  | some (n, m, u) =>
    let top := ((List.range 256).filter (fun p => s.pageProgrammed (b * 256 + p))).foldl max 0
    let s := { s with flash := { s.flash with modes := Sparse.set (fun _ => 0) s.flash.modes b m } }
    s.setBlockEnt b (n + (top + 1) * 2 ^ 16 + u * 2 ^ 28)
  | none => s.onlyIf (s.factoryBad b) (·.setBlockEnt b (2 ^ 26))

/-- The blocks of which the block table holds an entry that is not 0, and their neighbours of one word. -/
def State.tableBlocks (s : State) : List Nat :=
  let ks := s.words.filter (fun w => decide (wordKey Store.journal 0x200 ≤ w.1) && decide (w.1 < wordKey Store.journal 0x2200))
  ks.flatMap (fun w => [2 * (w.1 - wordKey Store.journal 0x200), 2 * (w.1 - wordKey Store.journal 0x200) + 1])

/-- ECNTMAX and GROWNBAD as the block table has them. -/
def State.countTable (s : State) : State :=
  let es := s.tableBlocks.map s.blockEnt
  (s.wr Reg.flcEcntmax (w32 ((es.map entCount).foldl max 0))).wr Reg.flcGrownbad
    (w32 (es.filter (fun e => decide (2 ≤ entState e))).length)

/-- An indeterminate block that the scan finds is erased again; no count of it is readable (R437). -/
def State.eraseIndet (s : State) (b : Nat) : State :=
  let n := s.rf Reg.flcEcntmax 0 16 + 3
  let s := (s.writeIntent false b n 1).finishErase b n 0 0
  let r := s.rd Reg.flcReerase
  s.wr Reg.flcReerase (putField (putField r 0 16 (field r 0 16 + 1)) 16 16 (field r 16 16 + 1))

/-- The block table is built by a scan (R423). -/
def State.scanFlash (s : State) : State :=
  let lo := wordKey Store.journal 0x200
  let s := { s with words := s.words.filter (fun w => !(decide (lo ≤ w.1) && decide (w.1 < lo + 8192))) }
  let bs := s.usedBlocks
  let s := (bs.foldl (fun s b => s.scanBlock b) s).countTable
  let indet := bs.filter (fun b => (s.stampOf? b).isNone && !s.factoryBad b)
  (indet.foldl (fun s b => s.eraseIndet b) s).rewriteBbt

/-- The block whose entry says INFLIGHT (R435): its page and, of an upper MLC page, its lower page are read; what a torn
page reads as is a free value (assumption 4). -/
def State.recoverInflight (s : State) (b : Nat) : State :=
  let e := s.blockEnt b
  let p := entNext e
  let m := s.blockMode b
  let lower := !modePslc m && p % 2 == 1
  let r := s.free 2
  let q := r.2.free 2
  let s := if lower then q.2 else r.2
  let res := p + r.1.toNat * 2 ^ 9 + (if lower then q.1.toNat * 2 ^ 11 + 2 ^ 13 else 0)
  let s := (s.wr Reg.flcBrblk (w32 (b + 2 ^ 31))).wr Reg.flcBrres (w32 res)
  s.setInflight b (p + 1) false

/-- The blocks whose table entry is not 0 and says INFLIGHT. -/
def State.inflightBlocks (s : State) : List Nat := s.tableBlocks.filter (fun b => entInflight (s.blockEnt b))

/-- The controller recovers before it admits a command (R435). -/
def State.recoverFlash (s : State) : State :=
  let f := s.flash
  let clean : FlashSt :=
    { f with queue := [], running := none, suspended := none, suspCount := 0, suspProg := false, resumeWanted := false, asks := [],
             stopped := false, doneq := [], eraseAt := [], rateWaited := false, stageRd := 0, stageLen := 0,
             stageStarts := [], histReady := false, ckLeft := [] }
  let s := { s with flash := clean }
  let known := s.journalHeaderOk
  let s := if known then s.countTable else s.scanFlash
  let s := match s.newest? 0x20 2 with
    | some (i, _, g) => { s with flash := { s.flash with intentSlot := i, intentGen := g } }
    | none => { s with flash := { s.flash with intentSlot := 15, intentGen := 0 } }
  let again := s.openIntents
  let s := again.foldl (fun s w => s.eraseAgain w) s
  let torn := s.inflightBlocks
  let s := torn.foldl (fun s b => s.recoverInflight b) s
  let s := s.onlyIf known (·.reconcileBbt)
  let s := match s.newest? 0xA0 2 with
    | some (i, ws, g) =>
      let x := (ws.headD 0).toNat
      let s := { s with flash := { s.flash with histSlot := i, histGen := g } }
      ((s.wr Reg.flcHwptr (w32 (natField x 0 22))).wr Reg.flcHold (w32 (natField x 32 14))).wr Reg.flcHdur
        (w32 (natField x 0 22))
    | none => { s with flash := { s.flash with histSlot := 15, histGen := 0 } }
  s.onlyIf (!again.isEmpty || !torn.isEmpty) (·.raise Page.flc 5)

/-! ### JRN page (R411) -/

/-- A read of JDATL: the low half of word JADDR, its high half latched, POISON (R411, R455). -/
def State.readJdatl (s : State) (req : Nat) : Word × State :=
  let r := s.readWord Store.journal (s.rf Reg.jrnJaddr 0 19)
  let s := r.2.setb Reg.jrnJsta 1 r.1.isNone
  let x := (r.1.getD (BitVec.allOnes 64)).toNat
  (lo32 x, { s with jshadow := Sparse.set (fun _ => 0) s.jshadow req (hi32 x) })

/-- A read of JDATH: the latched half; JADDR steps. -/
def State.readJdath (s : State) (req : Nat) : Word × State :=
  (Sparse.get (fun _ => 0) s.jshadow req, s.setf Reg.jrnJaddr 0 19 (s.rf Reg.jrnJaddr 0 19 + 1))

/-- The JRN page may write word `i` (R409, R411). -/
def State.mayWriteJournal (s : State) (i : Nat) : Bool :=
  (decide (0x8000 ≤ i) && decide (i < 0x20000)) || (decide (0x60000 ≤ i) && s.rb Reg.jrnJctl 0) || s.rb Reg.jrnJctl 1

/-- A write of JDATH: the word is written from the staged half, or refused with JSTA.REJ; JADDR steps with a write. -/
def State.writeJdath (s : State) (v : Word) : State :=
  let i := s.rf Reg.jrnJaddr 0 19
  if s.mayWriteJournal i then
    let s := s.writeWord Store.journal i (BitVec.ofNat 64 (join64 s.jstaged v))
    (s.bump Reg.jrnJwrcnt).setf Reg.jrnJaddr 0 19 (i + 1)
  else (s.setb Reg.jrnJsta 0 true).raise Page.jrn 0

/-- A JCTL write: MAINT is set only while HOP.HCTL.EN and FLC.FCTL.EN are 0 (R411). -/
def State.writeJctl (s : State) (v : Word) : State :=
  let ok := !s.rb Reg.hopHctl 0 && !s.rb Reg.flcFctl 0
  s.wr Reg.jrnJctl (putBit (v &&& 3) 1 (bitOf v 1 && (ok || s.rb Reg.jrnJctl 1)))

/-! ### Scrubber, log and SRAM test (R403-R407) -/

/-- Stores in the order of R403 that the scrubber covers: the flash die's are left out. -/
def scrubbed (st : Store) : Bool := (decide (st < 1024) && decide (st % 8 < 5)) || (decide (1024 ≤ st) && decide (st ≤ 1048)) || st == 1051

/-- A word at the scrubber: its good data or the corrected word written back (R405). -/
def State.scrubWord (s : State) (st : Store) (i : Nat) : State :=
  match checkAt st (s.rawWord st i) with
  | .good _ => s
  | .poison => s.bump Reg.eccPreadcnt
  | .corrected d => ((s.setRaw st i (encodeAt st d)).bump (Reg.hdrErrcnt (storePage st).1)).bump Reg.eccScrcor
  | .uncorrectable => (s.readWord st i true).2

/-- The scrubber reads word `i` of store `st` (R405): a gated tile is skipped and counted once per pass, at its first word;
the last word of the last store ends a pass. -/
def State.scrub (s : State) (st : Store) (i : Nat) : State :=
  if !s.rb Reg.eccScrub 0 || !s.pageLive Page.ecc || !scrubbed st || storeSize st ≤ i then s
  else
    let s := (s.setb Reg.eccScrsta 0 true)
    let s :=
      if st < 1024 && !(s.tile (st / 8)).awake then s.onlyIf (st % 8 == 0 && i == 0) (·.bump Reg.eccScrskip)
      else s.scrubWord st i
    let s := { s with scrubAt := some (st, i) }
    s.onlyIf (st == 1051 && i + 1 == storeSize st)
      (fun s => (s.setf Reg.eccScrsta 16 16 (s.rf Reg.eccScrsta 16 16 + 1)).raise Page.ecc 1)

/-- A write of a page number to ELCLR: the errors of this FAB cycle are logged anew (R403). -/
def State.clearLog (s : State) (v : Word) : State :=
  let a := Reg.hdrErrlog (field v 0 14)
  match s.errs.filter (fun e => e.1 == field v 0 14) with
  | [] => s.clrReg a 0xC0000000
  | e :: rest => s.wr a (putBit e.2 30 (!rest.isEmpty))

/-- A write of MBIST (R407); while a test runs it changes nothing (assumption 13). -/
def State.startMbist (s : State) (v : Word) : State :=
  let t := field v 0 7
  if s.rb Reg.eccMbsta 0 then s
  else
  let s := s.wr Reg.eccMbist (w32 t)
  if !bitOf v 8 then s
  else if !s.retired t || !(s.lanesOn t).isEmpty || s.coreRun (2 * t) || s.coreRun (2 * t + 1) then s.setf Reg.eccMbsta 1 2 3
  else (s.wr Reg.eccMbsta 1).wakeServed t

/-- The test ends (R407): every word of the tile is data 0, the tile is gated. -/
def State.endMbist (s : State) (pass : Bool) (fail : Nat) : State :=
  if !s.rb Reg.eccMbsta 0 then s
  else
    let t := s.rf Reg.eccMbist 0 7
    let s := { s with words := s.words.filter (fun w => w.1 / 2 ^ 40 / 8 != t) }
    let s := s.wr Reg.eccMbsta (w32 ((if pass then 1 else 2) * 2 + (if pass then 0 else fail % 65536) * 65536))
    (s.gateTile t).raise Page.ecc 2

end Sys2Proof.Machine
end

