-- ==== Sys2Proof/Machine/Power.lean ====
section
/-! DEFINITION. The general pins, the AON clock, wakes, SLEEP and the quiescence before it, the health monitors, the watchdog
and the reset of the part (14 R471-R502, 15 R512, R527, R528). -/

namespace Sys2Proof.Machine

/-! ### General pins (R527, R528) -/

/-- The pin is an output. -/
def State.gpioOut (s : State) (n : Nat) : Bool := s.rb Reg.gpioGdir n && s.pageEn Page.gpio

/-- An edge of a ball is seen in GIN (R527); an output's ball is at its GOUT level. The page is off in SLEEP (R528). -/
def State.gpioEdge (s : State) (n : Nat) (level : Bool) : State :=
  if s.pageOff Page.gpio || s.rb Reg.gpioGin n == level || (s.gpioOut n && s.rb Reg.gpioGout n != level) then s
  else
    let s := (s.setb Reg.gpioGin n level).bump Reg.gpioGedgcnt
    let s := s.raise Page.gpio (if level then n else 16 + n)
    s.onlyIf (s.pageEn Page.gpio) (·.pushEv (.gev n level))

/-- A task activation on a pin's channel (R527): TACT 0 set, 1 clear, 2 toggle. -/
def State.gpioTask (s : State) (n : Nat) : State :=
  let old := s.rb Reg.gpioGout n
  s.setb Reg.gpioGout n (match s.rf (Reg.gpioGev n) 11 2 with
    | 0 => true
    | 1 => false
    | _ => !old)

/-! ### The real-time clock (R269, R498) -/

/-- RTCCMD (R498): SET loads RTCSL and RTCSH in the next AON cycle; SYNC arms a load at the next whole second of PTP time. -/
def State.rtccmd (s : State) (v : Word) : State :=
  let sec := s.rn Reg.pwrRtcsl + s.rf Reg.pwrRtcsh 0 16 * 2 ^ 32
  let s := s.onlyIf (bitOf v 0) (fun s =>
    { s with rtc := { s.rtc with set := some sec, valid := true } })
  s.onlyIf (bitOf v 1) (fun s => { s with rtc := { s.rtc with sync := some (secOf s.w0 + 1), valid := true } })

/-- The whole second that SYNC waits for has come (R498). -/
def State.rtcSyncLoad (s : State) : State :=
  match s.rtc.sync with
  | none => s
  | some n =>
    if s.pwr.state = .hibernate ∨ secOf s.w0 < n then s
    else { s with rtc := { s.rtc with sec := n % 2 ^ 48, sub := 0, acc := 0, sync := none, alarmed := false } }

/-! ### State views (R485, R486) -/

/-- DOZE: HCTL.EN and HCTL.GATE (R485). -/
def State.pstate (s : State) : Word :=
  let st := match s.pwr.state with
    | .run => if s.doze then 1 else 0
    | _ => 2
  w32 (st + b2n s.pwr.target.isSome * 4 + b2n (!s.pwr.reload.isEmpty) * 8)

/-- PSSTA. -/
def State.pssta (s : State) : Word :=
  let st := match s.pwr.state with
    | .run => 0
    | .sleep => 2
    | .hibernate => 3
  putBit (putField (s.rd Reg.pwrPssta) 0 2 st) 2 s.pwr.target.isSome

/-- CKSTA and CKGEN: the checkpoint's fields (14, PWR page). -/
def State.cksta (s : State) : Word :=
  match s.pwr.ck with
  | some c => if c.valid then putField (putField (putBit (s.rd Reg.pwrCksta) 0 true) 1 1 c.set) 8 8 c.tiles else s.rd Reg.pwrCksta
  | none => s.rd Reg.pwrCksta
def State.ckgen (s : State) : Word :=
  match s.pwr.ck with
  | some c => if c.valid then w32 c.gen else 0
  | none => 0

/-! ### Wakes (R489, R494) -/

/-- Task `n` of a TILE page is activated: EVPEND.TASKn of both cores (R375). -/
def State.tileTask (s : State) (t n : Nat) : State :=
  (s.coreEvent (2 * t) (1 + n)).coreEvent (2 * t + 1) (1 + n)

/-- The watchdog restarts from TMO (R474). -/
def State.kickDog (s : State) : State :=
  { s with mon := { s.mon with wd := usCycles (1000 * max 1 (s.rf Reg.devWdctl 0 16)), warned := false } }

/-- A converter with EN = 1 restarts as if EN had gone from 0 to 1 (R489). -/
def State.restartCnv (s : State) (g : Nat) : State :=
  let v := s.rd (Reg.cnvCctl g)
  if bitOf v 0 then ((s.stopCnv g).writeCctl g (putBit v 0 false)).writeCctl g v else s

/-- The tiles and clusters that the Hopper's policy keeps awake wake (R489, assumption 36): in DOZE those it may not gate. -/
def State.wakeKept (s : State) : State :=
  if s.doze then (List.range 128).foldl (fun s t => s.onlyIf (s.keptAwake t && !s.retired t) (·.wakeTile t)) s else s.wakeAll

/-- SLEEP, or an attempt at it, ends: everything that stopped runs again (R489). -/
def State.resumeRun (s : State) : State :=
  let s := State.wakeKept { s with pwr := { s.pwr with state := .run, target := none, entering := false } }
  let s := (List.range 8).foldl (fun s g => s.restartCnv g) s
  ((s.autoResume).kickDog).tileTask 0 0

/-- WAKESRC names a wake source (R489). -/
def State.setWakesrc (s : State) (src : Nat) : State :=
  (s.wr Reg.pwrWakesrc (w32 (2 ^ src))).noteSet Reg.pwrWakesrc (w32 (2 ^ src))

/-- SLEEP ends (R489): IRAW.WOKE, WAKESRC. -/
def State.exitSleep (s : State) (src : Nat) : State :=
  ((s.setWakesrc src).raise Page.pwr 0).resumeRun

/-- The last word of the checkpoint's body in the journal (R493). -/
def ckLastWord : Nat := 0x5947F

/-- HIBERNATE entry is aborted: the checkpoint is left invalid, its body's last word changed (R491, assumption 18), and the
idle set not fully erased where the tiles' data were being written. -/
def State.spoilCk (s : State) : State :=
  let s := s.onlyIf s.pwr.entering (·.setb Reg.pwrCksta 2 false)
  let s := s.writeWord Store.journal ckLastWord (~~~ s.peekWord Store.journal ckLastWord)
  { s with pwr := { s.pwr with ck := s.pwr.ck.map (fun c => { c with valid := false }) } }

/-- A wake in the AON cycle of a cold start from HIBERNATE is a cause of that start too (R472). -/
def State.addWakeCause (s : State) : State :=
  s.onlyIf (s.pwr.causes.any (fun c => c.hib && c.aon == s.rtc.aon)) (fun s =>
    (s.setb Reg.devRstcause 7 true).setb Reg.devRsthist 7 true)

/-- An enabled wake source asserts (R489, R491, R494): 0 WAKE0, 1 WAKE1, 2 RTC, 3 LEAT, 4 HOST, 5 MON. -/
def State.wake (s : State) (src : Nat) : State :=
  match s.pwr.state, s.pwr.target with
  | .sleep, _ => s.exitSleep src
  | .hibernate, _ =>
    State.setWakesrc { s with pwr := { s.pwr with woken := true, pwren := true,
                                                  causes := some ⟨0x80, s.rtc.aon, true⟩ } } src
  | .run, some .hibernate => (((s.setWakesrc src).raise Page.pwr 2).spoilCk).resumeRun
  | .run, some _ => (s.setWakesrc src).setb Reg.pwrPssta 8 true
  | .run, none => s.addWakeCause

/-- The wake pin stands at its configured level. -/
def State.pinAsserted (s : State) (i : Nat) : Bool := s.pwr.wakeLevel.testBit i == s.rb Reg.pwrWakecfg (3 * i + 1)

/-- The debounced level of a wake pin changes: its event, and a wake where it is enabled (R489). -/
def State.wakeEdge (s : State) (i : Nat) : State :=
  let s := { s with pwr := { s.pwr with wakeLevel := s.pwr.wakeLevel ^^^ 2 ^ i } }
  if s.pinAsserted i then (s.event Page.pwr i).onlyIf (s.rb Reg.pwrWakecfg (3 * i)) (·.wake i) else s

/-- AON cycles for which a wake pin must hold a level (14, WAKECFG). -/
def State.debounce (s : State) : Nat := s.rf Reg.pwrWakecfg 16 4

/-- The ball of a wake pin changes level: its level counts at once, or after the debounce. -/
def State.wakePin (s : State) (i : Nat) (level : Bool) : State :=
  if s.pwr.wakeRaw.testBit i == level then s
  else
    let differs := s.pwr.wakeLevel.testBit i != level
    let s := { s with pwr := { s.pwr with wakeRaw := s.pwr.wakeRaw ^^^ 2 ^ i,
                                          wakeHold := setNum s.pwr.wakeHold i (if differs then s.debounce else 0) } }
    s.onlyIf (differs && s.debounce == 0) (·.wakeEdge i)

/-- One AON cycle of a wake pin's debounce. -/
def State.tickWake (s : State) (i : Nat) : State :=
  let n := numAt s.pwr.wakeHold i
  if n = 0 then s
  else (State.onlyIf { s with pwr := { s.pwr with wakeHold := setNum s.pwr.wakeHold i (n - 1) } } (n == 1)) (·.wakeEdge i)

/-- A write of WAKECFG: a pin that it enables by level and that stands at that level wakes the device. -/
def State.writeWakecfg (s : State) (v : Word) : State :=
  [0, 1].foldl (fun s i => s.onlyIf (s.rb Reg.pwrWakecfg (3 * i) && !s.rb Reg.pwrWakecfg (3 * i + 2) && s.pinAsserted i
    && (s.pwr.state != .run || s.pwr.target.isSome)) (·.wake i)) (s.wr Reg.pwrWakecfg v)

/-- A new AON cycle: the RTC goes on, or takes the seconds of SET, and the wake pins are debounced (R498). -/
def State.aonCycle (s : State) : State :=
  let r := s.rtc
  let r := match r.set with
    | some n => { r with sec := n, sub := 0, set := none, alarmed := false }
    | none =>
      if r.sub + 1 < 32768 then { r with sub := r.sub + 1 }
      else { r with sub := 0, sec := (r.sec + 1) % 2 ^ 48, alarmed := false }
  [0, 1].foldl State.tickWake { s with rtc := { r with aon := r.aon + 1 } }

/-- One FAB cycle of the AON clock of 32.768 kHz. -/
def State.tickRtc (s : State) : State :=
  let a := s.rtc.acc + 32
  if a < 390625 then { s with rtc := { s.rtc with acc := a } }
  else State.aonCycle { s with rtc := { s.rtc with acc := a - 390625 } }

/-- The RTC seconds equal the alarm while ALMEN = 1 (R498). -/
def State.alarmDue (s : State) : Bool :=
  s.rb Reg.pwrAlmh 31 && !s.rtc.alarmed
    && s.rtc.sec == s.rn Reg.pwrAlml + s.rf Reg.pwrAlmh 0 16 * 2 ^ 32

/-- The RTC alarm fires. -/
def State.rtcAlarm (s : State) : State :=
  if !s.alarmDue then s
  else
    let s := { s with rtc := { s.rtc with alarmed := true } }
    ((s.raise Page.pwr 4).event Page.pwr 2).onlyIf (s.rb Reg.pwrWakecfg 6) (·.wake 2)

/-- A MON interrupt wakes from SLEEP (R489). -/
def State.monAsserted (s : State) : Bool :=
  s.rb Reg.pwrWakecfg 8 && (s.rd (Reg.hdrIraw Page.mon) &&& s.rd (Reg.hdrIena Page.mon)) != 0
def State.monWake (s : State) : State :=
  s.onlyIf ((s.pwr.state == .sleep || s.pwr.target == some .sleep) && s.monAsserted) (·.wake 5)

/-! ### Requests and quiescence (R486, R487) -/

/-- A wake source enabled for the requested state is asserted. -/
def State.wakePending (s : State) (hib : Bool) : Bool :=
  [0, 1].any (fun i => s.rb Reg.pwrWakecfg (3 * i) && !s.rb Reg.pwrWakecfg (3 * i + 2) && s.pinAsserted i)
    || (s.rb Reg.pwrWakecfg 6 && s.rb Reg.pwrAlmh 31 && s.rtc.sec == s.rn Reg.pwrAlml + s.rf Reg.pwrAlmh 0 16 * 2 ^ 32)
    || (!hib && s.monAsserted)

/-- Tiles that a checkpoint saves (R491). -/
def State.savedTiles (s : State) : List Nat := (List.range 128).filter (fun t => !s.retired t)

/-- The code that refuses a request, 0 for none; where several hold, the first of the table (R486). -/
def State.psreqRefusal (s : State) (hib : Bool) : Nat :=
  if s.pwr.target.isSome || s.pwr.booting || s.pwr.state != .run then 1
  else if hib && !s.rb Reg.pwrCksta 2 then 2
  else if hib && decide (127 * (s.ckSet s.idleSet).length < 21 * s.savedTiles.length) then 3
  else if s.wakePending hib then 4
  else if hib && s.pwr.cfgdef then 5
  else if hib && !s.rb Reg.flcFctl 0 then 6
  else 0

/-- A request is refused (R486). -/
def State.refusePs (s : State) (code : Nat) : State := (s.setf Reg.pwrPssta 4 4 code).raise Page.pwr 1

/-- Quiescence begins (R487): armed occurrences return to their entries, a running erase is suspended. -/
def State.quiesce (s : State) (tgt : PwrState) : State :=
  let s := s.unarmAll
  let s := { s with pwr := { s.pwr with target := some tgt, since := s.time.fab } }
  let s := s.setb Reg.pwrPssta 8 false
  match s.flash.running with
  | some e => if e.op = 3 ∧ s.flash.suspCount < s.rf Reg.flcFctl 4 8 then s.suspendErase e else s
  | none => s

/-- A PSREQ write (R486, R489): `host` tells a write by the host. A reserved value keeps the field (R8). -/
def State.psreq (s : State) (host : Bool) (v : Word) : State :=
  let x := field v 0 2
  if x = 1 then s
  else
    let s := s.wr Reg.pwrPsreq (w32 x)
    if x = 0 then s.onlyIf (host && (s.pwr.state == .sleep || s.pwr.target == some .sleep)) (·.wake 4)
    else if x = 2 ∧ s.pwr.state = .sleep then s
    else
      let code := s.psreqRefusal (x == 3)
      if code = 0 then s.quiesce (if x = 3 then .hibernate else .sleep) else s.refusePs code

/-- The core is quiescent (R487). -/
def State.coreQuiet (s : State) (k : Nat) : Bool :=
  let c := s.core k
  c.disp.isNone && (!s.coreRun k || s.coreDmode k || c.wait != .none)

/-- The device has quiesced (R487). -/
def State.quiet (s : State) : Bool :=
  s.hop.migs.isEmpty && s.flash.running.isNone && (List.range 256).all s.coreQuiet

/-- Every tile and cluster is gated (R488). -/
def State.gateAll (s : State) : State :=
  let s := (List.range 128).foldl (fun s t => s.gateTile t) s
  (List.range 8).foldl (fun s c => s.setCluster c { s.cluster c with awake := false, waking := false, asked := false }) s

/-- SLEEP is entered: the uplinks stop with the UPL domain, a SLAVE uplink leaves the servo in holdover, every pulse channel is
INACTIVE (R219, R288, R488). -/
def State.enterSleep (s : State) : State :=
  let latched := s.rb Reg.pwrPssta 8
  let s := (s.linkDown 0).linkDown 1
  let s := s.onlyIf (s.slavePort?.any (fun p => decide (16 ≤ p))) (·.hold)
  let s := s.idlePulses false
  let s := State.gateAll { s with pwr := { s.pwr with state := .sleep, target := none } }
  s.onlyIf latched (·.exitSleep (s.rn Reg.pwrWakesrc).log2)

/-- HIBERNATE entry closes and spills every stream; a refused spill loses the bank (R491). -/
def State.spillAll (s : State) : State :=
  (List.range 4).foldl (fun s n =>
    let s := s.closeBank n 2 none
    (List.range 2).foldl (fun s _ =>
      match s.closedBank n, s.bankIn n .spilling with
      | some b, _ | none, some b =>
        let s := s.startSpill n b
        let r := s.offerSpill n b
        if ((r.stream n).bank b).state = .closed then (r.bump Reg.pwrLostbank).drainBank n b else r
      | none, none => s) s) s

/-- Quiescence is reached (R487, R488, R491). -/
def State.quiescent (s : State) : State :=
  match s.pwr.target with
  | none => s
  | some tgt =>
    if s.pwr.entering || !s.quiet then s
    else if tgt = .sleep then s.enterSleep
    else State.spillAll { s with pwr := { s.pwr with entering := true } }

/-- Quiescence is not reached within SLPTMO µs: BUSY, dispatching resumes (R487). -/
def State.quiesceTimeout (s : State) : State :=
  if s.pwr.target.isSome && !s.pwr.entering && !s.quiet &&
      decide (s.pwr.since + usCycles (s.rf Reg.pwrSlptmo 0 20) ≤ s.time.fab) then
    (State.autoResume { s with pwr := { s.pwr with target := none } }).refusePs 1
  else s

/-! ### Reset of the part (R471-R473) -/

/-- Registers of the AON domain that every start but POR's keeps (R473), and those that show a ball. -/
def aonRegs : List Nat :=
  [Reg.pwrWakecfg, Reg.pwrWakesrc, Reg.pwrRtcsl, Reg.pwrRtcsh, Reg.pwrAlml, Reg.pwrAlmh, Reg.devRsthist]

/-- The store words that no reset changes, beside the flash die: those of the journal (R473). -/
def isKept (key : Nat) : Bool := key / 2 ^ 40 == Store.journal

/-- The level of the debug port: fuse DBGLVL, an OPEN raised to CHAL by PRODLOCK (R536). -/
def State.dbgLevel (s : State) : Nat :=
  if s.fuses.dbglvl = 0 ∧ s.fuses.prodlock then 1 else s.fuses.dbglvl

/-- Causes that asserted in this AON cycle already, beside `cause` (R472). -/
def State.causesWith (s : State) (cause : Nat) : Nat :=
  match s.pwr.causes with
  | some c => if c.aon = s.rtc.aon then c.bits ||| cause else cause
  | none => cause

/-- The device was in HIBERNATE in this AON cycle. -/
def State.wasHib (s : State) : Bool :=
  s.pwr.state == .hibernate || s.pwr.causes.any (fun c => c.hib && c.aon == s.rtc.aon)

/-- The device resets with causes `cause` (bits of RSTCAUSE), beside those of the same AON cycle; `por` resets the AON domain
too; THSD keeps PWREN low for 1 s (R471-R473). What the environment drives stays as it is: ball levels and the weirs' inputs. W0 starts at the RTC's seconds (R269). -/
def State.deviceReset (s : State) (cause : Nat) (por : Bool) : State :=
  let z := State.reset
  let cause := s.causesWith cause
  let rtc : RtcSt := if por then {} else { s.rtc with sync := none }
  let hist := if por then 0 else s.rn Reg.devRsthist
  let w0 := rtc.sec * 1000000000
  let s1 : State := { z with
    pending := s.pending
    words := s.words.filter (fun w => isKept w.1)
    flashWords := s.flashWords
    flash := { ({} : FlashSt) with programmed := s.flash.programmed, modes := s.flash.modes, torn := s.flash.cutOff }
    wheels := [1, 2, 3].foldl (fun l n =>
      Sparse.set (fun _ => ({} : WheelSt)) l n
        { ({} : WheelSt) with levA := (s.wheel n).levA, levB := (s.wheel n).levB, levZ := (s.wheel n).levZ }) []
    weirs := (List.range 16).foldl (fun l w =>
      Sparse.set (fun _ => ({} : WeirSt)) l w { ({} : WeirSt) with x := (s.weir w).x }) []
    tripBall := s.tripBall
    time := { fab := 0, w0 := w0, w0Frac := 0 }
    ptp := { ({} : PtpSt) with secSeen := rtc.sec, epochSeen := w0 / 2 ^ 32 }
    rtc := rtc
    fuses := s.fuses
    pwr := { ({} : PwrSt) with
      wakeRaw := s.pwr.wakeRaw, wakeLevel := s.pwr.wakeLevel, wakeHold := s.pwr.wakeHold,
      offUntil := if cause.testBit 6 then usCycles 1000000 else 0, causes := some ⟨cause, rtc.aon, s.wasHib⟩ }
    dbg := { ({} : DbgSt) with unlocked := s.dbgLevel == 0, challenges := s.dbg.challenges }
    rdata := s.rdata
    freeCtr := s.freeCtr }
  let s1 := if por then s1 else aonRegs.foldl (fun t a => t.wr a (s.rd a)) s1
  let s1 := s1.wr Reg.gpioGin (s.rd Reg.gpioGin)
  (s1.wr Reg.devRstcause (w32 cause)).wr Reg.devRsthist (w32 (hist ||| cause))

/-! ### Watchdog (R474) -/

/-- The watchdog counts: not while a core is halted under DLCTL.WDFRZ (R474, R542). -/
def State.dogRuns (s : State) : Bool :=
  s.rb Reg.devWdctl 16 && s.pwr.state == .run && !(s.rb Reg.dbgcDlctl 3 && s.cores.any (fun c => c.2.halted))

/-- One FAB cycle of the watchdog. -/
def State.tickDog (s : State) : State :=
  if s.dogRuns then { s with mon := { s.mon with wd := s.mon.wd - 1 } } else s

/-- Half of TMO has passed. -/
def State.dogWarns (s : State) : Bool :=
  s.dogRuns && !s.mon.warned && decide (2 * s.mon.wd ≤ usCycles (1000 * max 1 (s.rf Reg.devWdctl 0 16)))

/-- WDWARN. -/
def State.wdwarn (s : State) : State :=
  if s.dogWarns then State.raise { s with mon := { s.mon with warned := true } } Page.dev 0 else s

/-- WDOG: the count reaches 0. -/
def State.wdog (s : State) : State :=
  if s.dogRuns && s.mon.wd == 0 then s.deviceReset 8 false else s

/-- A WDCTL write: TMO 0 stores 1; the count starts from the TMO written (assumption 14). -/
def State.writeWdctl (s : State) (v : Word) : State :=
  let v := if field v 0 16 = 0 then putField v 0 16 1 else v
  (s.wr Reg.devWdctl (v &&& 0x1FFFF)).kickDog

/-- WDCNT: ms remaining. -/
def State.wdcnt (s : State) : Word := w32 (ceilDiv s.mon.wd 400000)

/-! ### Health monitors (R499-R502) -/

/-- A limit of TLIM in units of 0.25 °C. -/
def State.tlim (s : State) (i : Nat) : Int := 4 * (s.rf Reg.monTlim (8 * i) 8 : Nat)

/-- The throttle level of a cluster after a sample (R500): up at once, down one level at a time. -/
def throttleLevel (old : Nat) (t tthr thys : Int) : Nat :=
  let up := if tthr + 20 ≤ t then 2 else if tthr ≤ t then 1 else 0
  if old < up then up
  else if old = 2 then (if t < tthr + 20 - thys then 1 else 2)
  else if old = 1 then (if t < tthr - thys then 0 else 1)
  else 0

/-- The WARN and TTRIP bits of one sensor (R499). -/
def State.judgeTemp (s : State) (i : Nat) : State :=
  let warn := decide (s.tlim 0 ≤ s.temp i)
  let was := s.rb Reg.monTsta i
  let s := (s.setb Reg.monTsta i warn).setb Reg.monTsta (9 + i) (decide (s.tlim 2 ≤ s.temp i))
  s.onlyIf (warn && !was) (·.raise Page.mon 0)

/-- The throttle level of a cluster becomes `n`: its core cycles so far are kept and go on at the new clock (R500). -/
def State.setThrottle (s : State) (c n : Nat) : State :=
  (s.setCluster c { s.cluster c with cycBase := s.coreCyc (32 * c), cycFrom := s.time.fab }).setf Reg.monThrlvl (2 * c) 2 n

/-- The throttle level of cluster `c` follows its sensor (R500). -/
def State.throttle (s : State) (c : Nat) : State :=
  let old := s.rf Reg.monThrlvl (2 * c) 2
  let n := throttleLevel old (s.temp c) (s.tlim 1) (s.tlim 3)
  let s := if n = old then s else s.setThrottle c n
  s.onlyIf (decide (old < n)) (fun s => (s.bumpBy Reg.monThrcnt (n - old)).raise Page.mon 1)

/-- The sensors against TLIM (R499, R500) and the clusters that become hot or cool (R65). -/
def State.checkTemps (s : State) : State :=
  let s := (List.range 9).foldl State.judgeTemp s
  let s := ((List.range 8).foldl State.throttle s).checkHot
  let s := s.onlyIf (s.rf Reg.monTsta 9 9 != 0) (fun s =>
    ((s.onlyIf (!s.rb Reg.monTsta 24) (·.raise Page.mon 2)).setb Reg.monTsta 24 true).checkTrips)
  let hot := s.rb Reg.monTsta 17
  let s := s.onlyIf (hot && !s.mon.aot) (fun s => (s.raise Page.mon 6).excOff)
  { s with mon := { s.mon with aot := hot } }

/-- A temperature sample of TEMP0-TEMP8 (R499); a sensor at 140 °C or more resets the device (R471). -/
def State.tempSample (s : State) (ts : List Int) : State :=
  if s.pwr.state = .hibernate then s
  else if ts.any (fun t => decide (560 ≤ t)) then s.deviceReset 64 false
  else (((List.range 9).zip ts).foldl (fun s x => s.wr (Reg.monTemp x.1) (w32 (natOf x.2 11))) s).checkTemps

/-- A write to THCLR (R499). -/
def State.thclr (s : State) (v : Word) : State :=
  if bitOf v 0 && (List.range 9).all (fun i => decide (s.temp i < s.tlim 2 - s.tlim 3)) then s.setb Reg.monTsta 24 false else s

/-- A TLIM write: the sensors' last readings are held against it (R499). -/
def State.writeTlim (s : State) (v : Word) : State :=
  if field v 0 8 ≤ field v 8 8 ∧ field v 8 8 < field v 16 8 ∧ field v 16 8 ≤ 130 then (s.wr Reg.monTlim v).checkTemps
  else s.raise Page.mon 7

/-- Nominal, warn and fault level of a rail in mV (R501); VAON has no nominal and its fault is VPORA, at most 1.50 V. -/
def railLevels (r : Nat) : Nat × Nat × Nat :=
  match r with
  | 0 => (750, 713, 675)
  | 1 => (850, 808, 765)
  | 2 => (5000, 4750, 4500)
  | 3 => (1800, 1710, 1620)
  | 4 => (1000, 950, 900)
  | 5 => (3300, 3135, 2970)
  | 6 => (3300, 3135, 2970)
  | _ => (0, 1600, 1500)

/-- The rail stands below its warn level or above 110 % of its nominal (R501). -/
def railWarns (r mv : Nat) : Bool :=
  let l := railLevels r
  decide (mv < l.2.1) || (l.1 != 0 && decide (11 * l.1 < 10 * mv))

/-- The rail is monitored: in HIBERNATE only VAON is (R501). -/
def State.railSeen (s : State) (r : Nat) : Bool := s.pwr.state != .hibernate || r == 7

/-- A rail crosses its warn level (R501). -/
def State.railWarn (s : State) (r mv : Nat) : State :=
  if s.railSeen r && railWarns r mv then
    let was := s.rb Reg.monVsta r
    ((s.wr (Reg.monVmon r) (w32 (mv % 65536))).setb Reg.monVsta r true).onlyIf (!was) (·.raise Page.mon 3)
  else s

/-- A rail crosses its fault level and its response is taken (R501): a BOR or POR is a command of its own. -/
def State.railFault (s : State) (r mv : Nat) : State :=
  if s.railSeen r && decide (mv < (railLevels r).2.2) then
    let s := s.onlyIf (!s.rb Reg.monVsta r) (·.raise Page.mon 3)
    let s := ((s.wr (Reg.monVmon r) (w32 (mv % 65536))).setb Reg.monVsta r true).setb Reg.monVsta (8 + r) true
    let s := (s.bump Reg.monVfcnt).raise Page.mon 4
    let s := if s.mon.lowAt.any (·.1 == r) then s else { s with mon := { s.mon with lowAt := (r, s.time.fab) :: s.mon.lowAt } }
    if r = 2 then State.excOff { s with mon := { s.mon with vddaFault := true } }
    else if r = 4 then (s.linkDown 0).linkDown 1
    else if r = 6 then State.abortFlash { s with flash := { s.flash with stopped := true } }
    else s
  else s

/-- A rail has recovered (R501): its bits follow it. -/
def State.railRecover (s : State) (r mv : Nat) : State :=
  if s.railSeen r then
    let fault := decide (mv < (railLevels r).2.2)
    let s := (s.wr (Reg.monVmon r) (w32 (mv % 65536))).setb Reg.monVsta r (railWarns r mv)
    let s := s.setb Reg.monVsta (8 + r) (s.rb Reg.monVsta (8 + r) && fault)
    let s := if fault then s else { s with mon := { s.mon with lowAt := s.mon.lowAt.filter (·.1 != r) } }
    if r = 2 then { s with mon := { s.mon with vddaFault := s.mon.vddaFault && fault } }
    else if r = 6 then { s with flash := { s.flash with stopped := s.flash.stopped && fault } }
    else s
  else s

/-- A ring-oscillator count completes (R502). -/
def State.procCount (s : State) (c n : Nat) : State :=
  if s.pwr.state = .hibernate then s
  else
    let s := s.wr (Reg.monProc c) (w32 (n % 65536))
    s.onlyIf (decide (n < s.rf Reg.monProcmin 0 16)) (·.raise Page.mon 5)

/-! ### PGOOD (R512) -/

/-- PGOOD falls: from boot phase 3 on the journal takes no new word; in HIBERNATE the ball is ignored. -/
def State.pgoodFall (s : State) : State :=
  if s.pwr.state = .hibernate || decide (s.rf Reg.bootBsta 0 4 < 3) || s.pwr.pgoodFell.isSome then s
  else { s with pwr := { s.pwr with pgoodFell := some s.time.fab } }

/-- PGOOD returns: within tBOR, 2 µs, the journal writes that wait resume in order; later is a BOR (R512). -/
def State.pgoodReturn (s : State) : State :=
  match s.pwr.pgoodFell with
  | none => s
  | some f =>
    if f + usCycles 2 ≤ s.time.fab then s.deviceReset 4 false
    else s.jwait.foldl (fun s x => s.putWord Store.journal x.1 x.2) { s with jwait := [], pwr := { s.pwr with pgoodFell := none } }

/-- BOR: VDD, VDDS, VDDAL or VIO at its fault level, or PGOOD low, for tBOR (2 µs), outside HIBERNATE (R471). -/
def State.bor (s : State) : State :=
  let long (f : Nat) : Bool := decide (f + usCycles 2 ≤ s.time.fab)
  let rail := s.mon.lowAt.any (fun x => [0, 1, 3, 5].contains x.1 && long x.2)
  let low := s.pwr.pgoodFell.any long
  if s.pwr.state != .hibernate && (rail || low) then s.deviceReset 4 false else s

end Sys2Proof.Machine
end

