-- ==== Sys2Proof/Machine/Leat.lean ====
section
/-! DEFINITION. The leat: channels, coalescing and storms, task activation, routing writes, the events of a FAB cycle on their
way to the channels, and the settling of a command (10 R331-R348, R556, R561). -/

namespace Sys2Proof.Machine

/-! ### Channel registers -/

/-- The registers of channel `ch`: on the LEAT page for 0-15, on the LEATC pages for the rest (10, LEATC pages). -/
def chanReg (ch off : Nat) : Nat :=
  if ch < 16 then Page.leat * 1024 + 0x100 + 0x10 * ch + off
  else (Page.leatc ((ch - 16) / 60)) * 1024 + 0x040 + 0x10 * ((ch - 16) % 60) + off

def ccfgReg (ch : Nat) : Nat := chanReg ch 0
def firecntReg (ch : Nat) : Nat := chanReg ch 4
def coalReg (ch : Nat) : Nat := chanReg ch 8
def cstaReg (ch : Nat) : Nat := chanReg ch 12

/-- The CCFG in force: the oldest value that still holds (R344). -/
def State.ccfg (s : State) (ch : Nat) : Word :=
  match (s.chan ch).ccfgOld.find? (fun x => decide (s.net < x.2)) with
  | some x => x.1
  | none => s.rd (ccfgReg ch)

/-- A CCFG write (R344): REFR 0 stores 1; the old value holds until the first NET cycle that begins at or after the end of
the FAB cycle. -/
def State.writeCcfg (s : State) (ch : Nat) (v : Word) : State :=
  let v := if field v 1 13 = 0 then putField v 1 13 1 else v
  let x := s.chan ch
  let old := x.ccfgOld.filter (fun y => decide (s.net < y.2)) ++ [(s.rd (ccfgReg ch), ceilDiv (5 * (s.time.fab + 1)) 16)]
  (s.setChan ch { x with ccfgOld := old }).wr (ccfgReg ch) (v &&& 0x7FFF)

/-- The channel is masked by a storm (R342). -/
def State.masked (s : State) (ch : Nat) : Bool := s.rb (Reg.leatStorm (ch / 32)) (ch % 32)

/-! ### Sources (R334, R561) -/

/-- The kinds of page with an EVSEL, and with an EVIN (R336). -/
def hasEvsel : PageClass → Bool
  | .whl | .cnv | .fil | .pls | .trip | .seg | .ptp | .upl | .talg | .strm | .alq | .pwr => true
  | _ => false
def hasEvin : PageClass → Bool
  | .whl | .cnv | .trip | .ptp | .tile | .pwr => true
  | _ => false

/-- Pages that drive events through EVSEL. -/
def evselPages : List Nat := pageRanges.flatMap (fun r => if hasEvsel r.2.2.1 then (List.range r.2.1).map (r.1 + ·) else [])

/-- SRCN: enabled routes that name the channel as an event's destination, saturating (R561). -/
def State.srcn (s : State) (ch : Nat) : Nat :=
  let sel := (evselPages.flatMap (fun p =>
    let v := s.rd (Reg.hdrEvsel p)
    (List.range 4).filter (fun e => bitOf v (8 + e) && field v 0 8 + e == ch))).length
  let wev := ((List.range 16).map (fun w =>
    let v := s.rd (Reg.weirWev (w / 8) (w % 8))
    ((List.range 3).filter (fun i => bitOf v (24 + i) && field v (8 * i) 8 == ch)).length)).sum
  let gev := ((List.range 12).map (fun n =>
    let v := s.rd (Reg.gpioGev n)
    if field v 0 8 = ch then b2n (bitOf v 8) + b2n (bitOf v 9) else 0)).sum
  min 255 (sel + wev + gev)

/-- CSTA. -/
def State.csta (s : State) (ch : Nat) : Word :=
  let v := putBit (s.rd (cstaReg ch)) 0 (s.masked ch)
  let v := putBit v 1 (decide (s.net < (s.chan ch).refrEnd))
  putField (putBit v 2 (bitOf (s.ccfg ch) 0 || s.pwr.state == .sleep)) 8 8 (s.srcn ch)

/-- CSTA as it reads: while its page is held, SRCN and MASKED as latched (R315). -/
def State.heldCsta (s : State) (ch : Nat) : Word :=
  if s.rb (Reg.hdrSnapsta (cstaReg ch / 1024)) 0 then putField (s.csta ch) 8 24 (field (Sparse.get regReset s.held (cstaReg ch)) 8 24) else s.csta ch

/-! ### The global snapshot (R314-R318) -/

/-- Whether a register is a counter that a snapshot latches (R315); HOP.PGSTA holds PCOPY (R560). -/
def isCounter (addr : Nat) : Bool :=
  match regRow? addr with
  | some (r, _) => r.counter || addr == Reg.hdrPgsta Page.hop
  | none => false

/-- The channels of a page of the leat. -/
def pageChans (page : Nat) : List Nat := (List.range 256).filter (fun ch => cstaReg ch / 1024 == page)

/-- A page's counters are latched (R315, R316), SRCN and MASKED of the leat's CSTA with them. -/
def State.latchPage (s : State) (page gseq : Nat) (isLocal : Bool) : State :=
  let old := s.held.filter (fun r => r.1 / 1024 != page)
  let now := s.regs.filter (fun r => r.1 / 1024 == page && isCounter r.1) ++ (pageChans page).map (fun ch => (cstaReg ch, s.csta ch))
  let s := { s with held := now.foldr (fun (r : Nat × Word) h => Sparse.set regReset h r.1 r.2) old }
  let a := Reg.hdrSnapsta page
  let ovwr := s.rb a 0 || s.rb a 2
  s.wr a (w32 (1 + b2n isLocal * 2 + b2n ovwr * 4 + gseq % 2 ^ 16 * 2 ^ 16))

/-- A page's held counters are released (R316). -/
def State.releasePage (s : State) (page : Nat) : State :=
  { s with held := s.held.filter (fun r => r.1 / 1024 != page) }.wr (Reg.hdrSnapsta page) 0

/-- A write of SNAP (R316). -/
def State.writeSnap (s : State) (page : Nat) (v : Word) : State :=
  let s := s.onlyIf (bitOf v 1) (·.releasePage page)
  s.onlyIf (bitOf v 0) (·.latchPage page 0 true)

/-- Every listed page (R546). -/
def allPages : List Nat := pageRanges.flatMap (fun r => (List.range r.2.1).map (fun i => r.1 + i))

/-- W0 reaches S: every page latches; outside RUN those whose blocks run (R315, R318). -/
def State.latchAll (s : State) : State :=
  match s.tally.gsnap with
  | none => s
  | some p =>
    if s.w0 < p || s.tally.latched then s
    else
      let seq := s.rn Reg.talgGsseq
      (allPages.filter (fun pg => s.pwr.state == .run || !s.pageOff pg)).foldl (fun s pg => s.latchPage pg seq false)
        { s with tally := { s.tally with latched := true } }

/-- W0 has reached S: pages latch and groups take their entries (R315, R317, R318). -/
def State.passSnapshot (s : State) : State :=
  match s.tally.gsnap with
  | none => s
  | some p =>
    if s.w0 < p then s
    else
      let seq := s.rn Reg.talgGsseq
      let s := s.latchAll
      let s := { s with tally := { s.tally with gsnap := none, latched := false } }
      if s.pwr.state != .run then s.bump Reg.talgGsskip
      else
        let s := s.raise Page.talg 1
        -- an entry copied before its boundary's landing at the same position serves both (R308)
        let s := (s.tally.entries.filter (fun e => !e.snap && e.b == p && s.groupWheel e.group == 0 &&
          s.rb Reg.talgGscfg e.group)).foldl (fun s e => s.setEntryField e.tile e.slot 0 22 1 1) s
        let lanes := s.seated.filter (fun x => s.rb Reg.talgGscfg (s.ctxGroup (mapTile x.2) (mapLane x.2)))
        let shares := fun (l g : Nat) => s.groupWheel g == 0 &&
          (s.tally.pend.any (fun q => !q.snap && q.lane == l && q.b == p) ||
            s.tally.entries.any (fun e => !e.snap && e.lane == l && e.b == p))
        let pend := s.tally.pend.map (fun q =>
          if !q.snap && q.b == p && s.groupWheel q.group == 0 && s.rb Reg.talgGscfg q.group then { q with gsnap := true } else q)
        let new := (lanes.filter (fun x => !shares x.1 (s.ctxGroup (mapTile x.2) (mapLane x.2)))).map (fun x =>
          let g := s.ctxGroup (mapTile x.2) (mapLane x.2)
          ({ lane := x.1, group := g, snap := true, gsnap := false,
             b := if s.groupWheel g = 0 then p else s.high (s.groupWheel g), bw0 := some p, seq := seq } : Pend))
        { s with tally := { s.tally with pend := pend ++ new } }

/-- An activation of channel 255 reaches the LEAT block (R314). -/
def State.takeSnapshot (s : State) : State :=
  let s := s.passSnapshot
  match s.tally.gsnap with
  | some _ => s.bump Reg.talgGsbusy
  | none =>
    let p := ceilDiv (s.w0 + 256) 64 * 64
    ({ s with tally := { s.tally with gsnap := some p } }.bump Reg.talgGsseq).wr64 Reg.talgGsl Reg.talgGsh p

/-! ### Task inputs (R335, R336, R346) -/

/-- A task input acts, or the firing is discarded and counted in OFFDROP (R346). -/
def State.activate (s : State) (page : Nat) (f : State → State) : State :=
  if s.pageLive page then f s else s.bump Reg.leatOffdrop

/-- Task `n` of a page takes channel `ch` (R335). -/
def State.takes (s : State) (page n ch : Nat) : Bool :=
  let v := s.rd (Reg.hdrEvin page)
  bitOf v (16 * n + 8) && field v (16 * n) 8 == ch

/-- What one task input does. -/
def State.task (s : State) (page n ch : Nat) (f : State → State) : State :=
  s.onlyIf (s.takes page n ch) (·.activate page f)

/-- The wake task of PWR works in every state (R489, R494). -/
def State.wakeTask (s : State) (ch : Nat) : State :=
  s.onlyIf (s.takes Page.pwr 0 ch && s.rb Reg.pwrWakecfg 7) (·.wake 3)

/-- A firing reaches every task input that names the channel (R331, R336); no order among them is given: page order. -/
def State.activateAll (s : State) (ch : Nat) : State :=
  let s := s.wakeTask ch
  if s.pwr.state = .hibernate then s
  else
    let s := (List.range 4).foldl (fun s n =>
      s.task (Page.whl n) 0 ch (fun s => s.stepWheel n (s.rn (Reg.whlStepinc n)))) s
    let s := (List.range 8).foldl (fun s g =>
      (s.task (Page.cnv g) 0 ch (·.scanGo g true)).task (Page.cnv g) 1 ch (·.csync g)) s
    let s := (List.range 16).foldl (fun s c =>
      let v := s.rd (Reg.plsPlev c)
      let s := s.onlyIf (bitOf v 16 && field v 0 8 == ch) (·.activate Page.pls (·.askPulse c .set))
      s.onlyIf (bitOf v 17 && field v 8 8 == ch) (·.activate Page.pls (·.askPulse c .clr))) s
    let s := s.task Page.trip 0 ch (fun s => s.tripEvent 20 (s.rf Reg.tripLtmask 0 16))
    let s := s.task Page.ptp 0 ch (·.capture0)
    let s := (List.range 12).foldl (fun s n =>
      let v := s.rd (Reg.gpioGev n)
      s.onlyIf (bitOf v 10 && field v 0 8 == ch) (·.activate Page.gpio (·.gpioTask n))) s
    let s := (List.range 128).foldl (fun s t =>
      (s.task (Page.tile t) 0 ch (·.tileTask t 0)).task (Page.tile t) 1 ch (·.tileTask t 1)) s
    let s := s.onlyIf (ch == 254) (·.setBoundary)
    s.onlyIf (ch == 255 && s.pageEn Page.leat) (·.takeSnapshot)

/-! ### An event reaches a channel (R338, R342, R346, R347) -/

/-- MASKED counts, saturating. -/
def State.countMasked (s : State) (ch : Nat) : State := s.bumpSat (cstaReg ch) 16 16

/-- Firings in the last 1,000 ns on the NET clock, 125 cycles (R342). -/
def recentFires (now : Nat) (fs : List Nat) : List Nat := fs.filter (fun t => decide (now ≤ t + 125) && decide (t < now))

/-- An event reaches a channel: masked, merged, masking, or a firing. -/
def State.reach (s : State) (ch : Nat) : State :=
  let x := s.chan ch
  let now := s.net
  if s.pwr.state = .hibernate then
    if 8 ≤ ch || now < x.refrEnd then s
    else (s.setChan ch { x with refrEnd := now + 3815 }).activateAll ch
  else if s.masked ch then s.countMasked ch
  else if now < x.refrEnd then s.bump (coalReg ch)
  else
    let c := s.ccfg ch
    let fires := recentFires now x.fires
    if bitOf c 14 && decide (s.rf Reg.leatLctl 0 8 ≤ fires.length) then
      ((s.setb (Reg.leatStorm (ch / 32)) (ch % 32) true).raise Page.leat 2).countMasked ch
    else
      let s := s.setChan ch { x with refrEnd := now + field c 1 13, fires := now :: fires }
      (s.bump (firecntReg ch)).activateAll ch

/-- The channel that an event drives by the routing as it stands (R334, R203, R527). -/
def State.evChan (s : State) (ev : LeatEv) : Option Nat :=
  match ev with
  | .chan ch => some ch
  | .sel page e =>
    let v := s.rd (Reg.hdrEvsel page)
    if bitOf v (8 + e) && decide (field v 0 8 + e ≤ 255) then some (field v 0 8 + e) else none
  | .wev w i =>
    let v := s.rd (Reg.weirWev (w / 8) (w % 8))
    if bitOf v (24 + i) then some (field v (8 * i) 8) else none
  | .gev n rise =>
    let v := s.rd (Reg.gpioGev n)
    if bitOf v (if rise then 8 else 9) then some (field v 0 8) else none

/-- The events of the FAB cycle reach their channels, and what that raises, at most `n` events: after the routing writes and unmask
writes of the cycle (R344). -/
def State.drain : Nat → State → State
  | 0, s => s
  | n + 1, s =>
    match s.evq with
    | [] => s
    | ev :: rest =>
      let s := { s with evq := rest }
      State.drain n (match s.evChan ev with
        | some ch => s.reach ch
        | none => s)

/-- A command settles: a monitor interrupt wakes, then occurrences that have fallen due are noted with the slots their dispatchers ask
for (assumption 15). -/
def State.settle (s : State) : State := s.monWake.noteFalls.noteWaits

/-! ### Software firing and unmasking (R337, R343) -/

/-- FIREMn fires every channel of its mask. -/
def State.fireMask (s : State) (n : Nat) (v : Word) : State := (bitsBelow v.toNat 32).foldl (fun s b => s.pushCh (32 * n + b)) s

/-- A write of 1 to STORMn bits unmasks their channels: MASKED clears, the storm window is empty (R343). -/
def State.unmask (s : State) (n : Nat) (v : Word) : State :=
  (bitsBelow v.toNat 32).foldl (fun s b =>
    let ch := 32 * n + b
    if !s.masked ch then s
    else
      let s := (s.setb (Reg.leatStorm n) b false).setf (cstaReg ch) 16 16 0
      s.setChan ch { s.chan ch with fires := [] }) s

/-! ### Routing (R334, R341, R561) -/

/-- TRIP.EVIN names a channel that TRIP event 0 drives (R341). -/
def tripLoop (evsel evin : Word) : Bool := bitOf evsel 8 && bitOf evin 8 && field evsel 0 8 == field evin 0 8

/-- A routing write that would close the combinational loop is ignored (R341). -/
def State.refuseLoop (s : State) (page off : Nat) : State :=
  ((s.wr Reg.leatCyclog (w32 (page + off * 2 ^ 14))).bump Reg.leatRejcnt).raise Page.leat 0

/-- An EVSEL write (R334, R341). -/
def State.writeEvsel (s : State) (page : Nat) (v : Word) : State :=
  let v := v &&& 0xFFF
  if (List.range 4).any (fun e => bitOf v (8 + e) && decide (255 < field v 0 8 + e)) then s.raise Page.leat 1
  else if page = Page.trip ∧ tripLoop v (s.rd (Reg.hdrEvin page)) then s.refuseLoop page 0x020
  else s.wr (Reg.hdrEvsel page) v

/-- An EVIN write (R335, R341). -/
def State.writeEvin (s : State) (page : Nat) (v : Word) : State :=
  let v := v &&& 0x01FF01FF
  if page = Page.trip ∧ tripLoop (s.rd (Reg.hdrEvsel page)) v then s.refuseLoop page 0x024
  else s.wr (Reg.hdrEvin page) v

/-- A GEV write: a reserved TACT keeps the field (R8, R527). -/
def State.writeGev (s : State) (n : Nat) (v : Word) : State :=
  let v := v &&& 0x1FFF
  let v := if field v 11 2 = 3 then putField v 11 2 (s.rf (Reg.gpioGev n) 11 2) else v
  s.wr (Reg.gpioGev n) v

end Sys2Proof.Machine
end

