-- ==== Sys2Proof/Machine/Tile.lean ====
section
/-! DEFINITION. The tile of chapter 11 beside its instructions: cores starting, stopping and faulting (R379), dispatches
arriving, starting and ending (R382-R385), instruction SRAM (R351) and the views of the TILE and CLU pages. Core `k` is
core k mod 2 of tile k div 2. -/

namespace Sys2Proof.Machine

/-- Byte `i` of a number replaced. -/
def putByte (x i : Nat) (v : Byte) : Nat := putNat x (8 * i) 8 v.toNat

/-! ### The write buffer (R367) -/

/-- Bytes written into a word of a store (R381, R398): a tagged byte, or a word that holds poison, leaves poison. -/
def State.landStore (s : State) (e : WriteEntry) : State :=
  let r := s.readWord e.st e.word
  match r.1 with
  | none => r.2.putWord e.st e.word poisonWord
  | some d =>
    if e.bytes.any (fun b => b.2.2) then r.2.putWord e.st e.word poisonWord
    else r.2.writeWord e.st e.word (BitVec.ofNat 64 (e.bytes.foldl (fun d b => putByte d b.1 b.2.1) d.toNat))

/-- The oldest entry of a core's write buffer drains. -/
def State.drainStore (s : State) (k : Nat) : State :=
  match (s.core k).wbuf with
  | [] => s
  | e :: rest => (s.onCore k (fun c => { c with wbuf := rest })).landStore e

/-- Every entry of a core's write buffer drains, in order: what follows the stores acts after them. -/
def State.drainStores (s : State) (k : Nat) : State := (List.range (s.core k).wbuf.length).foldl (fun s _ => s.drainStore k) s

/-! ### The end of a dispatch, stops and faults (R379, R385) -/

/-- A dispatch ends on core `k`: its stores have taken effect, its lane is free, LASTWU is written, an open commit of the
core closes (R385). -/
def State.endDispatch (s : State) (k : Nat) : State :=
  match (s.core k).disp with
  | none => s
  | some r =>
    let t := k / 2
    let wu := min 0xFFFF (ceilDiv (s.core k).busy 16)
    let s := s.drainStores k
    let s := s.setCtx7 t r.lidx (s.ctxDispcnt t r.lidx) wu (s.ctxOvrun t r.lidx)
    s.onCore k (fun c => { c with disp := none, ppoint := none })

/-- A core stops at its instruction boundary; its dispatch, if any, ends (R385). -/
def State.haltCore (s : State) (k : Nat) : State :=
  (s.endDispatch k).onCore k (fun c => { c with running := false, wait := .none })

/-- The CCTL register of core `k`. -/
def cctlReg (k : Nat) : Nat := if k % 2 = 0 then Reg.tileCctl0 (k / 2) else Reg.tileCctl1 (k / 2)

/-- A fault: the core stops until CCTL is written with RUN = 1 (R379). -/
def State.faultCore (s : State) (k : Nat) : State :=
  ((s.haltCore k).onCore k (fun c => { c with fault := true })).raise (Page.tile (k / 2)) (2 + k % 2)

/-- TRAPCNT of a core saturates at 0xFFFF. -/
def State.countTrap (s : State) (k : Nat) : State := s.bumpSat (Reg.tileTrapcnt (k / 2)) (16 * (k % 2)) 16

/-- A trap with cause `cause` at address `pc` of the instruction `word`; with INTRAP = 1 or TVEC.EN = 0 it is a fault
(R378, R379). -/
def State.trap (s : State) (k cause : Nat) (word : BitVec 24) : State :=
  let c := s.core k
  if c.intrap || !c.tvec.getLsbD 15 then s.faultCore k
  else
    let s := s.onCore k (fun c => { c with tpc := c.pc, tword := word, tcause := cause, intrap := true,
                                           pc := c.tvec.truncate 13 })
    (s.countTrap k).raise (Page.tile (k / 2)) (k % 2)

/-- A core starts without a dispatch at its ENTRY address, outside any trap (R379, assumption 16). -/
def State.startCore (s : State) (k : Nat) : State :=
  let e := if k % 2 = 0 then s.rd (Reg.tileEntry0 (k / 2)) else s.rd (Reg.tileEntry1 (k / 2))
  s.onCore k (fun c => { c with pc := e.truncate 13, running := true, wait := .none, intrap := false })

/-- A CCTL write: RUN = 0 stops the core, RUN = 1 clears FAULT, and with DMODE = 0 starts a core that is not running
(R379, R385). RUN = 0 ends a halt of the debug port (R542). -/
def State.writeCctlCore (s : State) (k : Nat) (v : Word) : State :=
  let s := s.wr (cctlReg k) (v &&& 3)
  if !bitOf v 0 then (s.haltCore k).onCore k (fun c => { c with halted := false, haltReq := 0, wpHit := false, atBkpt := false })
  else
    let s := s.onCore k (fun c => { c with fault := false })
    s.onlyIf (!bitOf v 1 && !(s.core k).running) (·.startCore k)

/-! ### Instruction SRAM (R351) -/

/-- The instruction word at an address of core `k`, none for an uncorrectable word, which puts the tile into
retire-pending (R86, R351). -/
def State.fetchWord (s : State) (k : Nat) (a : BitVec 13) : Option (BitVec 24) × State :=
  let r := s.readWord (Store.tile (k / 2) (3 + k % 2)) a.toNat
  (r.1.map (·.truncate 24), r.2)

/-- IMADDR of a tile: its core and address, and the register stepped by one access. -/
def State.imCore (s : State) (t : Nat) : Nat := 2 * t + s.rf (Reg.tileImaddr t) 16 1
def State.imAddr (s : State) (t : Nat) : Nat := s.rf (Reg.tileImaddr t) 0 13
def State.stepImaddr (s : State) (t : Nat) : State := s.setf (Reg.tileImaddr t) 0 13 (s.imAddr t + 1)

/-- A read of IMDATA (TILE page): poison reads as all ones (R455). -/
def State.readImdata (s : State) (t : Nat) : Word × State :=
  let r := s.readWord (Store.tile t (3 + s.imCore t % 2)) (s.imAddr t)
  let v : Word := match r.1 with
    | some d => (d.truncate 24 : BitVec 24).zeroExtend 32
    | none => 0xFFFFFFFF
  (v, r.2.stepImaddr t)

/-- A write of IMDATA: refused with IMREJ while the core has RUN = 1 or a dispatch. Every access steps IMADDR. -/
def State.writeImdata (s : State) (t : Nat) (v : Word) : State :=
  let k := s.imCore t
  if s.coreRun k || (s.core k).disp.isSome then (s.raise (Page.tile t) 4).stepImaddr t
  else (s.writeWord (Store.tile t (3 + k % 2)) (s.imAddr t) ((v &&& 0xFFFFFF).zeroExtend 64)).stepImaddr t

/-! ### Dispatches (R382, R383) -/

/-- The program table entry of a dispatch's lane at tile `t`. -/
def State.dispProg (s : State) (t : Nat) (d : Disp) : BitVec 15 :=
  s.prog t (s.ctxProg t (mapLane (s.mapEntry d.lane)))

/-- Core `c` of the tile may run the dispatch as far as CORE and the VALID bits go (R382). -/
def State.permits (s : State) (t : Nat) (d : Disp) (c : Nat) : Bool :=
  (s.dispProg t d).getLsbD (13 + c) && (d.core == 0 || d.core == c + 1)

/-- The oldest dispatch on its way to a tile. -/
def State.nextArrival (s : State) (t : Nat) : Option Disp := (s.sent.find? (fun x => x.1 == t)).map (·.2)

/-- A dispatch among those of its FAB cycle, by ascending logical lane (R382). -/
def insertLane (d : Disp) : List Disp → List Disp
  | [] => [d]
  | x :: xs => if d.lane < x.lane then d :: x :: xs else x :: insertLane d xs

/-- A dispatch arrives at an awake tile that takes dispatches: it is among those that enter the queue at the end of the FAB
cycle, or ends at once as NOPROG (R382). A tile not yet reloaded after HIBERNATE takes none (R496). -/
def State.arrive (s : State) (t : Nat) : State :=
  match s.nextArrival t with
  | none => s
  | some d =>
    if !(s.tileAwake t && s.pageEn (Page.tile t)) || s.pwr.reload.contains t then s
    else
      let s := { s with sent := s.sent.erase (t, d) }
      if s.permits t d 0 || s.permits t d 1 then s.setTile t { s.tile t with arrivals := insertLane d (s.tile t).arrivals }
      else (s.bump (Reg.tileNoprog t)).raise (Page.tile t) 6

/-- The arrivals of the FAB cycle enter the dispatch queues (R382). -/
def State.landArrivals (s : State) : State :=
  (s.tiles.map (·.1)).foldl (fun s t => s.onlyIf (!(s.tile t).arrivals.isEmpty)
    (·.setTile t { s.tile t with dq := (s.tile t).dq ++ (s.tile t).arrivals, arrivals := [] })) s

/-- A core is free to take a dispatch: RUN = 1, DMODE = 1, none running, not faulted, not halted (R382). -/
def State.coreFree (s : State) (k : Nat) : Bool :=
  s.coreRun k && s.coreDmode k && !(s.core k).running && !(s.core k).fault && !(s.core k).halted

/-- The dispatch a core takes: the oldest it may run (R382). -/
def State.takes? (s : State) (k : Nat) : Option Disp :=
  if s.coreFree k then (s.tile (k / 2)).dq.find? (fun d => s.permits (k / 2) d (k % 2)) else none

/-- The general registers at the start of a dispatch at tile lane index `l` (R383). -/
def startRegs (l : Nat) : List Byte :=
  let p1 := l % 16 * 0x800
  let p2 := 0x8000 + l % 64 * 0x100
  [BitVec.ofNat 8 l, 0, BitVec.ofNat 8 p1, BitVec.ofNat 8 (p1 / 256), BitVec.ofNat 8 p2, BitVec.ofNat 8 (p2 / 256),
   0, 0, 0, 0, 0, 0, 0, 0xE0, 0, 0xE0]

/-- A dispatch starts on core `k` (R51, R383). -/
def State.startDispatch (s : State) (k : Nat) (d : Disp) : State :=
  let t := k / 2
  let l := mapLane (s.mapEntry d.lane)
  let s := s.setTile t { s.tile t with dq := (s.tile t).dq.erase d }
  let pc := s.dispProg t d
  let s := s.setLastdue t l d.due
  let s := s.setCtx7 t l (s.ctxDispcnt t l + 1) (s.ctxLastwu t l) (s.ctxOvrun t l)
  let s := s.bump (if k % 2 = 0 then Reg.tileDispn0 t else Reg.tileDispn1 t)
  s.onCore k (fun c => { c with
    running := true, wait := .none, pc := pc.truncate 13, g := startRegs l, gTag := 0, abnk := l / 16, bbnk := 16 + l / 64,
    lk := 0, lact := 0, busy := 0, intrap := false,
    disp := some { d := d, lidx := l, start := s.w0, budgetTaken := false } })

/-- The lower of the tile's free cores that may run a queued dispatch takes the oldest (R382). -/
def State.dispatchStart (s : State) (t : Nat) : State :=
  if !(s.tileAwake t && s.pageEn (Page.tile t)) then s
  else
    match s.takes? (2 * t), s.takes? (2 * t + 1) with
    | some d, _ => s.startDispatch (2 * t) d
    | none, some d => s.startDispatch (2 * t + 1) d
    | none, none => s

/-! ### Views -/

/-- CSTA of core `k`. -/
def State.cstaCore (s : State) (k : Nat) : Word :=
  let c := s.core k
  w32 (b2n c.running + b2n (c.wait != .none) * 2 + b2n c.intrap * 4 + b2n c.fault * 8 + b2n c.halted * 16
    + b2n c.disp.isSome * 32 + c.pc.toNat * 256)

/-- PTDAT of entry PTIDX. -/
def State.ptdat (s : State) (t : Nat) : Word := (s.prog t (s.rf (Reg.tilePtidx t) 0 12)).zeroExtend 32
def State.writePtdat (s : State) (t : Nat) (v : Word) : State :=
  { s with ptab := Sparse.set (fun _ => 0) s.ptab (t * 4096 + s.rf (Reg.tilePtidx t) 0 12) (v.truncate 15) }

/-- GSTA of cluster `c`. -/
def State.gsta (s : State) (c : Nat) : Word :=
  let tiles := ((List.range 16).map (fun i => b2n (s.tileAwake (16 * c + i)) * 2 ^ i)).sum
  w32 (tiles + b2n (s.cluster c).awake * 2 ^ 16 + b2n (s.cluster c).waking * 2 ^ 17)

end Sys2Proof.Machine
end

