-- ==== Sys2Proof/Machine/RegBus.lean ====
section
/-! DEFINITION. The register pages as every requester reaches them: the common header, the access codes, the latched
shadows, the writes and reads that act on a block, page enables, locks and soft resets (13 R443-R455, R9, R8). -/

namespace Sys2Proof.Machine

/-! ### Pages -/

/-- The host register port as requester (R452); the debug port is 256 and core k of tile c.t is 2 × (16c + t) + k. -/
abbrev hostReq : Nat := 257

/-- The lock that governs a page's RWL registers: HOPLIM1's also governs HOPLIM0 (R71, R446). -/
def State.lockedFor (s : State) (page : Nat) : Bool :=
  s.locked page || (page == Page.hoplim0 && s.locked Page.hoplim1)

/-- Registers a page of a repeated kind does not have: WHL0 has only its position, rate and status, the second WEIR page
no sample tick, the third coefficient page of an engine only 96 registers (03 WHL pages, 06, R179). -/
def absentReg (cls : PageClass) (i off : Nat) : Bool :=
  match cls with
  | .whl => i == 0 && !([0x044, 0x048, 0x04C, 0x050, 0x054, 0x088].contains off)
  | .weir => i == 1 && (off == 0x144 || off == 0x148)
  | .fcoe => i % 3 == 2 && decide (0x1C0 ≤ off)
  | _ => false

/-- PGID (R445, R546). -/
def pgid (page : Nat) : Word :=
  match pageRanges.find? (fun r => r.1 ≤ page && page < r.1 + r.2.1) with
  | none => 0
  | some r => w32 (r.2.2.2 * 2 ^ 16 + (page - r.1) * 2 ^ 8 + 1)

/-- PGCAP: the instance parameters each chapter gives. -/
def pgcap (cls : PageClass) (i : Nat) : Nat :=
  match cls with
  | .hop => 8 + 16 * 2 ^ 4 + 128 * 2 ^ 9 + 4 * 2 ^ 17
  | .hoplim0 => 0
  | .hoplim1 => 0
  | .whl => i + b2n (i != 0) * 2 ^ 2
  | .mrc => i
  | .mrg => 8 + 16 * 2 ^ 4 + 14 * 2 ^ 12 + 255 * 2 ^ 20
  | .cnv => i + 3 * 2 ^ 3 + 4 * 2 ^ 5 + i / 4 * 2 ^ 8
  | .exc => 8 + 16 * 2 ^ 4 + 4 * 2 ^ 9
  | .fil => i + 4 * 2 + 383 * 2 ^ 4 + 10 * 2 ^ 13 + 255 * 2 ^ 17
  | .fcoe => i / 3 + i % 3 * 2
  | .weir => i + 8 * 2 + 16 * 2 ^ 5
  | .pls => 16
  | .trip => 16 + 22 * 2 ^ 5
  | .seg => i + 16 * 2 ^ 4 + 64 * 2 ^ 9 + 16 * 2 ^ 16
  | .node => i + 1024 * 2 ^ 4 + 65 * 2 ^ 15
  | .ptp => 18 + 2 ^ 5
  | .ptpp => 18
  | .upl => i + 64 * 2 + 1024 * 2 ^ 8
  | .talg => 16 + 131 * 2 ^ 5
  | .strm => 4 + 15 * 2 ^ 3
  | .alq => 2047 + 16 * 2 ^ 12
  | .leat => 256 + 8 * 2 ^ 9 + 125 * 2 ^ 13
  | .leatc => i + (16 + 60 * i) * 2 ^ 2
  | .tile => 2 + 320 * 2 ^ 2 + 24 * 2 ^ 11 + 127 * 2 ^ 16 + 0x10 * 2 ^ 24
  | .clu => i + 16 * 2 ^ 3
  | .flc => 14 + 255 * 2 ^ 5 + 32 * 2 ^ 13 + 32 * 2 ^ 19
  | .jrn => 524288
  | .ecc => 16
  | .hpt => 2 + 8 * 2 ^ 2 + 100 * 2 ^ 6 + 63 * 2 ^ 13
  | .dev => 8 + 16 * 2 ^ 4 + 16 * 2 ^ 9 + 8 * 2 ^ 14 + 2 * 2 ^ 18
  | .boot => 2
  | .mon => 9 + 8 * 2 ^ 4 + 8 * 2 ^ 8
  | .pwr => 2 + 8 * 2 ^ 2
  | .gpio => 12
  | .dbgc => 4 + 2 * 2 ^ 3 + 50 * 2 ^ 5

/-- The block status in PGSTA[31:8]: PCOPY on HOP (R560), the start-up flags on DEV (14, DEV page). -/
def State.blockStatus (s : State) (cls : PageClass) : Nat :=
  match cls with
  | .hop => s.rf (Reg.hdrPgsta Page.hop) 8 24 * 2 ^ 8
  | .dev => b2n s.pwr.cfgdef * 2 ^ 8 + b2n s.pwr.restored * 2 ^ 9 + b2n s.pwr.hostload * 2 ^ 10 + b2n s.pwr.ftest * 2 ^ 11
  | _ => 0

/-- PGSTA (R447): SRBUSY stands until the FAB cycle of the soft reset ends (assumption 17). -/
def State.pgsta (s : State) (cls : PageClass) (page : Nat) : Word :=
  let off := s.pageOff page
  w32 (b2n (s.pageEn page && !off) + b2n (s.srbusy.contains page) * 2 + b2n (s.lockedFor page && s.locked page) * 2 ^ 2 + b2n off * 2 ^ 3 + s.blockStatus cls)

/-- IOUT (R445). -/
def State.iout (s : State) (page : Nat) : Word := s.rd (Reg.hdrIraw page) &&& s.rd (Reg.hdrIena page)

/-- HPT.IPAGE: the lowest page that asserts HIRQ (R469). -/
def State.ipage (s : State) : Word :=
  match allPages.foldl (fun best p =>
      if s.rb (Reg.hdrPgctl p) 3 && s.iout p != 0 && (match best with | none => true | some q => decide (p < q)) then some p
      else best) none with
  | none => 0x80000000
  | some p => w32 p

/-- HIRQ is driven low; at high impedance during start-up and in HIBERNATE (R469). -/
def State.hirqLow (s : State) : Bool := !s.pwr.booting && s.pwr.state != .hibernate && s.ipage != 0x80000000

/-! ### Shadows (R453) -/

/-- A requester's shadow takes a value. -/
def State.latch (s : State) (req addr : Nat) (v : Word) : State :=
  { s with shadows := Sparse.set (fun _ => 0) s.shadows (req * 2 ^ 24 + addr) v }

/-- A requester's shadow, 0 if it has made no latching read. -/
def State.shadow (s : State) (req addr : Nat) : Word := Sparse.get (fun _ => 0) s.shadows (req * 2 ^ 24 + addr)

/-- Shadows of consecutive registers from `addr`. -/
def State.latchMany (s : State) (req addr : Nat) : List Word → State
  | [] => s
  | v :: vs => (s.latch req addr v).latchMany req (addr + 4) vs

/-- Consecutive registers from `addr` take values: the block's own shadows (R196). -/
def State.wrMany (s : State) (addr : Nat) : List Word → State
  | [] => s
  | v :: vs => (s.wr addr v).wrMany (addr + 4) vs

/-! ### Reads (R450-R455) -/

/-- The word behind a register that reads a store (R401, R455): its store and index. -/
def State.backing? (s : State) (req addr : Nat) : Option (Store × Nat) :=
  let off := addr % 1024
  match pageKind? (addr / 1024) with
  | some (.hop, _) => if off = 0x0AC then some (Store.laneMap, s.rf Reg.hopMapidx 0 14 / 4) else none
  | some (.fil, e) =>
    if 0x074 ≤ off ∧ off < 0x084 then some (Store.filter e, s.ringSelected e + (off - 0x074) / 8)
    else if 0x100 ≤ off ∧ off < 0x200 then
      some (Store.filter e, newWord ((off - 0x100) / 0x40) ((off - 0x100) / 0x10 % 4) + off / 8 % 2)
    else none
  | some (.fcoe, i) =>
    let b := coefPlace (i % 3) off
    some (Store.filter (i / 3), coefWord b.1 (b.2 / 8))
  | some (.node, p) =>
    if 0x094 ≤ off ∧ off < 0x0A4 then
      some (portStore p, cacheWord (field (s.shadow req (Reg.nodeCidx p)) 0 10) + (off - 0x094) / 8)
    else none
  | some (.upl, u) =>
    if 0x0B4 ≤ off ∧ off < 0x0C4 then
      some (portStore (16 + u), cacheWord (field (s.shadow req (Reg.uplCidx u)) 0 10) + (off - 0x0B4) / 8)
    else none
  | some (.alq, _) =>
    if off = 0x04C ∨ off = 0x054 then s.nextAlarm.map (fun a => (Store.alarm, a.1)) else none
  | some (.jrn, _) => if off = 0x048 then some (Store.journal, s.rf Reg.jrnJaddr 0 19) else none
  | some (.tile, t) => if off = 0x06C then some (Store.tile t (3 + s.imCore t % 2), s.imAddr t) else none
  | _ => none

/-- A register's backing word is poison (R380, R401). -/
def State.regPoison (s : State) (req addr : Nat) : Bool :=
  match s.backing? req addr with
  | none => false
  | some (st, i) =>
    match checkAt st (s.rawWord st i) with
    | .poison => true
    | .uncorrectable => true
    | _ => false

/-- A 64-bit value read low word first: the low word returned, the high word latched (R454). -/
def State.readPair (s : State) (req hi x : Nat) : Word × State := (lo32 x, s.latch req hi (hi32 x))

/-- A register's value without a side effect, by its kind of page, instance, offset and index in its row. -/
def State.view (s : State) (req : Nat) (cls : PageClass) (i off n addr : Nat) : Word :=
  match cls, off with
  | .hop, 0x074 => s.mvsta
  | .hop, 0x07C => s.shadow req addr
  | .hop, 0x0B4 => w32 s.pinCount
  | .hop, 0x0C0 => s.hsta
  | .whl, 0x048 => s.shadow req addr
  | .whl, 0x050 => s.shadow req addr
  | .whl, 0x054 => w32 (s.wheelRate i)
  | .whl, 0x088 => s.wheelSta i
  | .mrc, 0x048 => s.shadow req addr
  | .mrc, 0x04C => s.shadow req addr
  | .mrc, 0x058 => w32 (s.laneCount i)
  | .mrc, 0x05C => w32 (s.ticketCount i)
  | .mrc, 0x080 => w32 (s.waitCount i)
  | .mrg, 0x074 => w32 s.liveTickets
  | .cnv, 0x08C => s.cnvSta i
  | .cnv, 0x090 => s.cnvLastr i
  | .fil, 0x058 => s.filSta i
  | .fil, 0x05C => w32 (s.macload i)
  | .weir, 0x140 => s.wsta i
  | .pls, 0x240 => s.plvl
  | .trip, 0x094 => s.srcnow
  | .seg, 0x06C => s.segSta i
  | .seg, 0x078 => s.mbxsta i
  | .node, 0x084 => s.kval i 0
  | .node, 0x088 => s.kval i 1
  | .node, 0x08C => s.kval i 2
  | .node, 0x090 => s.shadow req addr
  | .node, 0x0A4 => s.liveWord i 0
  | .node, 0x0A8 => s.liveWord i 1
  | .ptp, 0x06C => s.ptpMpd
  | .ptp, 0x070 => s.ptpSta
  | .ptp, 0x078 => s.shadow req addr
  | .ptp, 0x07C => s.shadow req addr
  | .ptp, 0x080 => s.shadow req addr
  | .ptp, 0x084 => s.shadow req addr
  | .ptp, 0x08C => s.shadow req addr
  | .ptp, 0x090 => s.shadow req addr
  | .ptp, 0x094 => s.shadow req addr
  | .ptp, 0x09C => s.shadow req addr
  | .ptp, 0x0AC => s.pmbxsta
  | .upl, 0x060 => s.usta i
  | .upl, 0x0A8 => s.kval (16 + i) 0
  | .upl, 0x0AC => s.kval (16 + i) 1
  | .upl, 0x0B0 => s.shadow req addr
  | .upl, 0x0D4 => s.mbxsta (16 + i)
  | .talg, 0x24C => s.shadow req addr
  | .alq, 0x050 => s.shadow req addr
  | .alq, 0x058 => s.shadow req addr
  | .alq, 0x05C => w32 s.alarms.length
  | .leat, 0x09C => s.shadow req addr
  | .tile, 0x048 => s.cstaCore (2 * i)
  | .tile, 0x04C => s.cstaCore (2 * i + 1)
  | .tile, 0x064 => s.ptdat i
  | .tile, 0x070 => w32 ((s.tile i).dq.length + (s.tile i).arrivals.length)
  | .tile, 0x090 => w32 (s.lanesOn i).length
  | .tile, 0x190 => s.snsta i
  | .clu, 0x040 => s.gsta i
  | .flc, 0x054 => s.fsta
  | .flc, 0x05C => s.shadow req addr
  | .hpt, 0x054 => s.ipage
  | .dev, 0x050 => s.pstate
  | .dev, 0x068 => s.wdcnt
  | .pwr, 0x044 => s.pssta
  | .pwr, 0x064 => s.shadow req addr
  | .pwr, 0x068 => s.shadow req addr
  | .pwr, 0x074 => s.cksta
  | .pwr, 0x078 => s.ckgen
  | .dbgc, 0x040 =>
    w32 (s.dbgLevel % 4 + b2n s.dbg.unlocked * 4 + b2n s.dbg.pend.isSome * 8) ||| (s.rd addr &&& 0x10)
  | .hoplim1, _ =>
    if 0x0A0 ≤ off ∧ off < 0x120 then s.tlcnt n else if 0x120 ≤ off then w32 (numAt s.hop.load n) else s.rd addr
  | .pls, _ => if off % 32 = 0x14 then s.psta n else s.rd addr
  | .ptpp, _ => if off < 0x280 ∧ off % 32 = 0x18 then s.ptpPsta n else s.rd addr
  | .strm, _ => if off < 0x140 ∧ off % 64 = 0x10 then s.ssta n else s.rd addr
  | .alq, _ => if 0x060 ≤ off ∧ off < 0x080 then w32 (s.alarmLevel n) else s.rd addr
  | .talg, _ => if off < 0x240 ∧ (off % 32 = 0x08 ∨ off % 32 = 0x10) then s.shadow req addr else s.rd addr
  | .leat, _ => if 0x100 ≤ off ∧ off % 16 = 12 then s.heldCsta n else s.rd addr
  | .leatc, _ => if off % 16 = 12 then s.heldCsta (16 + 60 * i + n) else s.rd addr
  | .dbgc, _ =>
    if 0x05C ≤ off then w32 (((List.range 32).map (fun b => b2n (s.core (32 * n + b)).halted * 2 ^ b)).foldl (· + ·) 0)
    else s.rd addr
  | _, _ => s.rd addr

/-- A read of a block register that pops, steps, latches or reads a store; any other is its view (R450). -/
def State.readBlock (s : State) (req : Nat) (cls : PageClass) (i off n addr : Nat) : Word × State :=
  match cls, off with
  | .hop, 0x078 => let r := s.popDone; (r.1.w0, r.2.latch req Reg.hopMvdone1 r.1.w1)
  | .hop, 0x0AC =>
    let lane := s.rf Reg.hopMapidx 0 14
    let r := s.readWord Store.laneMap (lane / 4)
    match r.1 with
    | none => (0xFFFFFFFF, r.2)
    | some d => (w32 (natField d.toNat (16 * (lane % 4)) 16), r.2)
  | .whl, 0x044 => s.readPair req (Reg.whlPosh i) (s.pos i)
  | .whl, 0x04C => s.readPair req (Reg.whlHighh i) (s.high i)
  | .mrc, 0x044 =>
    (s.duehValue i, (s.latch req (Reg.mrcDuepl i) (lo32 (s.duePosition i))).latch req (Reg.mrcDueph i) (hi32 (s.duePosition i)))
  | .fil, 0x074 =>
    let r := s.recordWords i (s.ringSelected i)
    (r.1.headD 0, r.2.wrMany (Reg.filRrd i 1) (r.1.drop 1))
  | .fil, _ =>
    if 0x100 ≤ off ∧ off % 16 = 0 then
      let r := s.recordWords i (newWord ((off - 0x100) / 0x40) ((off - 0x100) / 0x10 % 4))
      (r.1.headD 0, r.2.wrMany (addr + 4) (r.1.drop 1))
    else (s.view req cls i off n addr, s)
  | .fcoe, _ =>
    let b := coefPlace (i % 3) off
    let r := s.readWord (Store.filter (i / 3)) (coefWord b.1 (b.2 / 8))
    match r.1 with
    | none => (0xFFFFFFFF, r.2)
    | some d => (w32 (natField d.toNat (8 * (b.2 % 8)) 32), r.2)
  | .node, 0x094 =>
    let r := s.cacheRead i (field (s.shadow req (Reg.nodeCidx i)) 0 10)
    (r.1.headD 0, r.2.latchMany req (addr + 4) (r.1.drop 1))
  | .node, _ => if 0x094 < off ∧ off < 0x0A4 then (s.shadow req addr, s) else (s.view req cls i off n addr, s)
  | .upl, 0x0B4 =>
    let r := s.cacheRead (16 + i) (field (s.shadow req (Reg.uplCidx i)) 0 10)
    (r.1.headD 0, r.2.latchMany req (addr + 4) (r.1.drop 1))
  | .upl, _ => if 0x0B4 < off ∧ off < 0x0C4 then (s.shadow req addr, s) else (s.view req cls i off n addr, s)
  | .ptp, 0x074 =>
    let w := s.w0
    let sec := secOf w
    (lo32 w, s.latchMany req (Reg.ptpTimeh) [hi32 w, lo32 sec, hi32 sec, w32 (nsecOf w)])
  | .ptp, 0x088 =>
    (s.rd addr, s.latchMany req Reg.ptpEpochs [s.rd Reg.ptpEpochs, s.rd Reg.ptpEpochsh, s.rd Reg.ptpEpochns])
  | .ptp, 0x098 => (s.rd addr, s.latch req Reg.ptpCaph (s.rd Reg.ptpCaph))
  | .talg, 0x248 => (s.rd addr, s.latch req Reg.talgGsh (s.rd Reg.talgGsh))
  | .talg, _ =>
    if off < 0x240 ∧ (off % 32 = 0x04 ∨ off % 32 = 0x0C) then (s.rd addr, s.latch req (addr + 4) (s.rd (addr + 4)))
    else (s.view req cls i off n addr, s)
  | .alq, 0x04C => let r := s.popAlarm; r.2.readPair req Reg.alqPoph r.1.toNat
  | .alq, 0x054 => let r := s.peekAlarm; r.2.readPair req Reg.alqPeekh r.1.toNat
  | .leat, 0x098 => (s.rd addr, s.latch req Reg.leatBposh (s.rd Reg.leatBposh))
  | .tile, 0x06C => s.readImdata i
  | .flc, 0x058 => let r := s.popFlash; (r.1.1, r.2.latch req Reg.flcFdone1 r.1.2)
  | .jrn, 0x048 => s.readJdatl req
  | .jrn, 0x04C => s.readJdath req
  | .pwr, 0x060 =>
    (lo32 s.rtc.sec,
      (s.latch req Reg.pwrRtch (hi32 s.rtc.sec ||| w32 (b2n s.rtc.valid * 2 ^ 31))).latch req Reg.pwrRtcsub (w32 s.rtc.sub))
  | _, _ => (s.view req cls i off n addr, s)

/-- A read of a header register (R445). -/
def State.readHeader (s : State) (cls : PageClass) (i page off : Nat) : Word :=
  match off with
  | 0x000 => pgid page
  | 0x004 => w32 (pgcap cls i)
  | 0x00C =>
    let v := s.pgsta cls page
    if cls = .hop ∧ s.rb (Reg.hdrSnapsta page) 0 then putField v 8 24 (field (Sparse.get regReset s.held (Reg.hdrPgsta page)) 8 24)
    else v
  | 0x018 => s.iout page
  | 0x01C => 0
  | 0x030 => 0
  | 0x028 =>
    if s.rb (Reg.hdrSnapsta page) 0 then Sparse.get regReset s.held (Reg.hdrErrcnt page) else s.rd (Reg.hdrErrcnt page)
  | _ => s.rd (page * 1024 + off)

/-- An access to a gated TILE page wakes the tile and is served after the wake (R353). -/
def State.wakeForAccess (s : State) (cls : PageClass) (i page : Nat) : State :=
  s.onlyIf (cls == .tile && s.pageOff page) (·.wakeServed i)

/-- No access to the page reaches its block (R444, R463, R488). -/
def State.pageDark (s : State) (cls : PageClass) (page : Nat) : Bool :=
  s.pageOff page && !(cls == .tile && s.pwr.state == .run)

/-- RTWORDS and RTWAIT of a CLU page: no rule gives the fabric's traffic, so a read is a free value (11, CLU pages; assumption
36). -/
def routerCount (cls : PageClass) (off : Nat) : Bool := cls == .clu && (off == 0x054 || off == 0x058)

/-- A read of a register by a requester (R444, R450, R455). -/
def State.readReg (s : State) (req addr : Nat) : Word × State :=
  let page := addr / 1024
  let off := addr % 1024
  match pageKind? page with
  | none => (0, s)
  | some (cls, i) =>
    if s.pageDark cls page then (0, s)
    else
      let s := s.wakeForAccess cls i page
      if cls == .tile && s.pwr.reload.contains i && decide (0x008 ≤ off) then (regReset addr, s)
      else if s.srbusy.contains page && decide (0x008 ≤ off) && off != 0x00C then (regReset addr, s)
      else if off < 0x40 then (s.readHeader cls i page off, s)
      else
        match rowAt (blockRows cls) off with
        | none => (0, s)
        | some (r, n) =>
          if absentReg cls i off || r.access == .wo then (0, s)
          else if routerCount cls off then s.free 32
          else if r.counter && s.rb (Reg.hdrSnapsta page) 0 then (Sparse.get regReset s.held addr, s)
          else s.readBlock req cls i off n addr

/-! ### Spans and reserved encodings (R8, R9) -/

/-- A field held to a span (R9). -/
def spanField (v : Word) (lo n least most : Nat) : Word := putField v lo n (clampNat least most (field v lo n))

/-- A field whose written value is reserved keeps its old value (R8). -/
def keepField (old v : Word) (lo n : Nat) (bad : Nat → Bool) : Word :=
  if bad (field v lo n) then putField v lo n (field old lo n) else v

/-- What a stored register takes of a written value: the spans of R9 and the reserved encodings of R8. -/
def State.fitValue (s : State) (cls : PageClass) (off addr : Nat) (v : Word) : Word :=
  match cls, off with
  | .hop, 0x044 => spanField v 0 20 100 1000000
  | .hop, 0x054 => spanField v 0 20 8000 1048575
  | .whl, 0x06C => spanField (spanField v 0 5 22 30) 8 6 26 32
  | .mrc, 0x054 => spanField v 0 16 1000 65535
  | .node, 0x06C => spanField v 0 7 0 64
  | .upl, 0x090 => spanField v 0 7 0 64
  | .ecc, 0x064 => spanField (spanField v 0 7 0 71) 8 7 0 71
  | .ptp, 0x04C => spanField (spanField v 0 5 0 16) 8 5 0 24
  | .ptp, 0x054 => spanField v 0 11 1 1000
  | .alq, 0x040 => spanField v 1 11 0 1024
  | .flc, 0x048 => keepField (s.rd addr) v 19 2 (· == 3)
  | .flc, 0x060 => spanField v 0 8 1 255
  | .ecc, 0x040 => spanField v 16 16 1 65535
  | .hpt, 0x040 => spanField (keepField (s.rd addr) v 0 2 (2 ≤ ·)) 2 5 2 31
  | .seg, 0x048 => spanField v 0 8 16 255
  | .seg, 0x064 => spanField v 0 4 1 15
  | .hoplim0, _ => if 25000000 < v.toNat then 0x017D7840 else v
  | .hoplim1, _ => if off < 0x060 then spanField v 0 5 1 16 else v
  | .exc, _ => if 0x0E4 ≤ off ∧ off < 0x104 then clampXlim v else v
  | .pls, _ =>
    if off % 32 = 0x04 then spanField v 0 24 1 0xFFFFFF
    else if off % 32 = 0x0C then spanField v 0 9 0 256
    else v
  | _, _ => v

/-! ### Writes that act on a block -/

/-- A write to a RETIRE register: the bits written as 1 clear, and the map is to be journaled; ignored while HOPLIM1 is
locked (R87). -/
def State.clearRetire (s : State) (addr : Nat) (v : Word) : State :=
  let v := s.clears addr v
  if s.locked Page.hoplim1 || s.rd addr &&& v == 0 then s
  else { s.clrReg addr v with hop := { s.hop with retMapDirty := true } }

/-- A LINES write re-derives a SHAFT wheel's subcount where it changes the value (R554). -/
def State.writeLines (s : State) (n : Nat) (v : Word) : State :=
  let moved := s.rf (Reg.whlLines n) 0 16 != field v 0 16
  ((s.wr (Reg.whlLines n) (v &&& 0xFFFF)).onlyIf (moved && s.wheelSrc n == 1) (·.deriveShaft n)).checkRcap n

/-- An SDIV write re-takes SBASE and SORG (R105). -/
def State.writeSdiv (s : State) (n : Nat) (v : Word) : State :=
  (s.wr (Reg.whlSdiv n) v).onlyIf (s.wheelSrc n == 3) (·.startScaled n)

/-- DLCTL (16, DBGC page): RELOCK locks the port (R538). -/
def State.writeDlctl (s : State) (v : Word) : State :=
  let s := s.wr Reg.dbgcDlctl (v &&& 0xE)
  if bitOf v 0 then { s with dbg := { s.dbg with unlocked := false } } else s

/-- HCFG takes a value; what it was before rules the frames under way (R456). -/
def State.setHcfg (s : State) (v : Word) : State :=
  State.wr { s with host := { s.host with cfgWas := s.rd Reg.hptHcfg } } Reg.hptHcfg v

/-- A write to a MBXPOP, SCANGO, CLOSE or other bit that acts when written as 1. -/
def State.strobe (s : State) (v : Word) (f : State → State) : State := s.onlyIf (bitOf v 0) f

/-- A write that passed its access code takes effect at its block; a register with no behaviour of its own takes its
value (R450). -/
def State.writeBlock (s : State) (req : Nat) (cls : PageClass) (i off n addr : Nat) (v : Word) : State :=
  match cls, off with
  | .hop, 0x040 => s.writeHctl v
  | .hop, 0x06C => s.wr addr v
  | .hop, 0x070 => s.postMove v
  | .hop, 0x080 => s.startPointRead v
  | .hop, 0x0AC => s.writeMap v
  | .hop, 0x0B0 => s.clearPin (field v 0 14)
  | .whl, 0x040 => s.writeWheelCfg i v
  | .whl, 0x05C => s.writeLines i v
  | .whl, 0x058 => (s.wr addr v).checkRcap i
  | .whl, 0x078 => s.writeSdiv i v
  | .whl, 0x080 => s.stepWheel i v.toNat
  | .whl, 0x084 => s.rebase i v.toNat
  | .mrg, 0x064 => s.calcmd v
  | .cnv, 0x040 => s.writeCctl i v
  | .cnv, 0x044 => s.writeInsel i v
  | .cnv, 0x048 => s.writeImode i v
  | .cnv, 0x04C => s.writeRng i v
  | .cnv, 0x05C => s.writeBurn i v
  | .cnv, 0x060 => s.strobe v (·.scanGo i false)
  | .exc, 0x040 => if s.pwr.cfgdef then s else s.writeXctl v
  | .exc, 0x108 => s.strobe v (·.excRearm)
  | .fil, 0x050 => s.writeBank addr v
  | .fil, 0x054 => s.writeBank addr v
  | .trip, 0x088 => s.tripEvent 19 (field v 0 16)
  | .trip, 0x08C => s.rearm (field v 0 16)
  | .seg, 0x040 => if s.pwr.cfgdef then s else s.wr addr v
  | .seg, 0x044 => s.writePlca i v
  | .seg, 0x070 => s.txcmd i v
  | .seg, 0x080 => s.strobe v (·.popMail i)
  | .node, 0x064 => s.ncmd i v
  | .node, 0x080 => s.kcmd i v
  | .node, 0x090 => s.latch req addr v
  | .ptp, 0x064 => s.writeFint v
  | .ptp, 0x0B4 => s.strobe v (·.popPtpMail)
  | .ptp, 0x0B8 => s.ptxcmd v
  | .upl, 0x088 => s.ncmd (16 + i) v
  | .upl, 0x0A4 => s.kcmd (16 + i) v
  | .upl, 0x0B0 => s.latch req addr v
  | .upl, 0x0C4 => s.txcmd (16 + i) v
  | .upl, 0x0DC => s.strobe v (·.popMail (16 + i))
  | .alq, 0x044 => s.latch req addr v
  | .alq, 0x048 => s.noteAlarm (postOrder req) (v ++ s.shadow req Reg.alqPostl)
  | .leat, 0x044 => s.pushCh (field v 0 8)
  | .tile, 0x040 => s.writeCctlCore (2 * i) v
  | .tile, 0x044 => s.writeCctlCore (2 * i + 1) v
  | .tile, 0x064 => s.writePtdat i v
  | .tile, 0x06C => s.writeImdata i v
  | .tile, 0x180 => s.writeSnbase i false v
  | .tile, 0x184 => s.writeSnbase i true v
  | .tile, 0x18C => s.writeSnrd i v
  | .flc, 0x040 => s.writeFctl v
  | .flc, 0x050 => s.postFlash v
  | .flc, 0x064 => s.writeHcfgFlash v
  | .flc, 0x068 => if s.rb Reg.flcHcfg 0 then s else s.wr addr v
  | .hpt, 0x040 => s.setHcfg (s.fitValue cls off addr v)
  | .jrn, 0x040 => s.writeJctl v
  | .jrn, 0x048 => { s with jstaged := v }
  | .jrn, 0x04C => s.writeJdath v
  | .ecc, 0x058 => s.clearLog v
  | .ecc, 0x068 => s.startMbist v
  | .dev, 0x05C => if field v 0 16 = 0xD1E5 then s.deviceReset 16 false else s
  | .dev, 0x060 => s.writeWdctl v
  | .dev, 0x064 => if field v 0 16 = 0xA5C3 then s.kickDog else s
  | .boot, 0x048 => s.strobe v (fun s => { s with pwr := { s.pwr with goWanted := true } })
  | .mon, 0x064 => s.writeTlim v
  | .mon, 0x06C => s.thclr v
  | .pwr, 0x040 => s.psreq (req == hostReq) v
  | .pwr, 0x04C => s.writeWakecfg v
  | .pwr, 0x05C => s.rtccmd v
  | .pwr, 0x06C => { s.wr addr v with rtc := { s.rtc with alarmed := false } }
  | .pwr, 0x070 => { s.wr addr v with rtc := { s.rtc with alarmed := false } }
  | .gpio, 0x048 => s.orReg Reg.gpioGout v
  | .gpio, 0x04C => s.clrReg Reg.gpioGout v
  | .dbgc, 0x044 => s.writeDlctl v
  | .hoplim1, _ => if 0x080 ≤ off ∧ off < 0x090 then s.clearRetire addr v else s.wr addr (s.fitValue cls off addr v)
  | .cnv, _ =>
    if 0x064 ≤ off ∧ off < 0x078 then s.writeTrim i n false v
    else if 0x078 ≤ off ∧ off < 0x08C then s.writeTrim i n true v
    else s.wr addr v
  | .exc, _ =>
    if 0x044 ≤ off ∧ off < 0x084 then s.writeExcp n v
    else if 0x084 ≤ off ∧ off < 0x0A4 then s.writeChsel n v
    else s.wr addr (s.fitValue cls off addr v)
  | .fil, _ => if 0x040 ≤ off ∧ off < 0x050 then s.writePath (4 * i + n) v else s.wr addr v
  | .fcoe, _ => s.writeBank addr v
  | .weir, _ =>
    if off < 0x140 then
      match off % 32 with
      | 0x00 => s.writeWcfg (8 * i + n) v
      | 0x04 => s.writeWthr (8 * i + n) false v
      | 0x08 => s.writeWthr (8 * i + n) true v
      | 0x14 => s.startTest (8 * i + n) (bitOf v 0) (bitOf v 1)
      | _ => s.wr addr v
    else s.wr addr v
  | .pls, _ => if off % 32 = 0 then s.writePcfg n v else s.wr addr (s.fitValue cls off addr v)
  | .trip, _ => s.writeTrip addr v 0xFFFFFFFF
  | .node, _ => if 0x054 ≤ off ∧ off < 0x064 then s else s.wr addr (s.fitValue cls off addr v)
  | .upl, _ => if 0x078 ≤ off ∧ off < 0x088 then s else s.wr addr (s.fitValue cls off addr v)
  | .ptpp, _ => if off < 0x280 ∧ off % 32 = 0 then s.writePtpPcfg n v else s.wr addr v
  | .strm, _ => if off < 0x140 ∧ off % 64 = 0x0C then s.strobe v (·.closeStream n 2 none) else s.wr addr v
  | .leat, _ =>
    if 0x048 ≤ off ∧ off < 0x068 then s.fireMask n v
    else if 0x068 ≤ off ∧ off < 0x088 then s.unmask n v
    else if 0x100 ≤ off ∧ off % 16 = 0 then s.writeCcfg n v
    else s.wr addr v
  | .leatc, _ => s.writeCcfg (16 + 60 * i + n) v
  | .gpio, _ => if 0x058 ≤ off ∧ off < 0x088 then s.writeGev n v else s.wr addr v
  | _, _ => s.wr addr (s.fitValue cls off addr v)

/-! ### IRAW and its companions (R445, R449) -/

/-- Status bits that a write of 1 to an IRAW bit clears with it, as the block's chapter states. -/
def State.clearCompanions (s : State) (cls : PageClass) (i : Nat) (v : Word) : State :=
  match cls with
  | .hop => s.clearHopFlags v
  | .whl => (s.onlyIf (bitOf v 8) (·.setb (Reg.whlSta i) 6 false)).onlyIf (bitOf v 11) (·.setb (Reg.whlSta i) 9 false)
  | .cnv => s.onlyIf (bitOf v 6) (·.setb (Reg.cnvSta i) 16 false)
  | .exc => s.onlyIf (bitOf v 0) (·.clrReg Reg.excXsta 0xFF)
  | .seg =>
    (s.onlyIf (bitOf v 7) (·.clrReg (Reg.segMbxsta i) 0x60)).onlyIf (bitOf v 9) (·.setb (Reg.segTxsta i) 1 false)
  | .node => s.onlyIf (bitOf v 0) (·.setb (Reg.nodeNsta i) 1 false)
  | .upl =>
    ((s.onlyIf (bitOf v 3) (·.clrReg (Reg.uplMbxsta i) 0x60)).onlyIf (bitOf v 5) (·.setb (Reg.uplTxsta i) 1 false)).onlyIf
      (bitOf v 11) (·.setb (Reg.uplSsta i) 1 false)
  | .ptp =>
    (s.onlyIf (bitOf v 4) (·.setb Reg.ptpSta 3 false)).onlyIf (bitOf v 7) (·.clrReg Reg.ptpPmbxsta 0x70)
  | .strm => (List.range 4).foldl (fun s n => s.onlyIf (bitOf v (8 + n)) (·.setb (Reg.strmSsta n) 22 false)) s
  | .alq => s.onlyIf (bitOf v 2) (·.clrReg Reg.alqSta 3)
  | .flc => s.onlyIf (bitOf v 6) (·.clrReg Reg.flcFsta 0xC000)
  | .jrn => s.onlyIf (bitOf v 0) (·.setb Reg.jrnJsta 0 false)
  | _ => s

/-- A write of 1 to IRAW bits clears them and their companions, but those set in the same FAB cycle (R449). -/
def State.clearIraw (s : State) (cls : PageClass) (i page : Nat) (v : Word) : State :=
  let v := s.clears (Reg.hdrIraw page) v
  (s.clrReg (Reg.hdrIraw page) v).clearCompanions cls i v

/-- A write to ISET sets the IRAW bits the block has (R445). -/
def State.setIraw (s : State) (cls : PageClass) (page : Nat) (v : Word) : State :=
  (s.orReg (Reg.hdrIraw page) (v &&& irawMask cls)).noteSet (Reg.hdrIraw page) (v &&& irawMask cls)

/-! ### Soft reset (R448) -/

/-- The pages whose soft reset is refused. -/
def noSoftReset (cls : PageClass) (i : Nat) : Bool :=
  match cls with
  | .dev | .boot | .pwr | .dbgc | .jrn => true
  | .tile => i == 0
  | _ => false

/-- A register keeps its value across a soft reset of its page: RWL under LOCK, LOCK itself, what the chapters keep
(R163, R343, R499, R553), and GIN, which shows the balls. -/
def State.keepsReset (s : State) (cls : PageClass) (page addr : Nat) : Bool :=
  let off := addr % 1024
  off == 0x008 ||
  (match rowAt (blockRows cls) off with
   | some (r, _) => r.access == .rwl && s.lockedFor page
   | none => false) ||
  (match cls with
   | .leat => decide (0x068 ≤ off) && decide (off < 0x088)
   | .gpio => off == 0x050
   | .hoplim1 => decide (0x080 ≤ off) && decide (off < 0x0A0)
   | .seg => s.pwr.cfgdef && off == 0x040
   | _ => false)

/-- A page's registers return to their reset values. -/
def State.resetRegs (s : State) (cls : PageClass) (page : Nat) : State :=
  let lock := s.locked page
  let s := { s with
    regs := s.regs.filter (fun r => r.1 / 1024 != page || s.keepsReset cls page r.1),
    held := s.held.filter (fun r => r.1 / 1024 != page),
    shadows := s.shadows.filter (fun r => r.1 % 2 ^ 24 / 1024 != page) }
  (s.wr (Reg.hdrPgctl page) (w32 (1 + b2n lock * 4))).clearOrders page

/-- The retired-tile map comes back from the journal's newest record (R86, R412). -/
def State.loadRetired (s : State) : State :=
  let ws := match s.newest? 0x40 4 with
    | some (_, ws, _) => ws
    | none => []
  let r (i : Nat) : Word := w32 ((ws.getD (i / 2) 0).toNat / 2 ^ (32 * (i % 2)))
  (List.range 4).foldl (fun s i => s.wr (Reg.hoplim1Retire i) (r i)) s

/-- The keys of a port as the image gave them. -/
def State.imageKeys (s : State) (p : Nat) : List (Nat × BitVec 128) :=
  (s.pwr.imgKeys.filter (fun k => k.1 / 256 == p)).map (fun k => (k.1 % 256, k.2))

/-- The program table of a tile returns to the image's. -/
def State.reloadPtab (s : State) (t : Nat) : State :=
  let rest := s.ptab.filter (fun e => e.1 / 4096 != t)
  { s with ptab := (s.pwr.imgPtab.filter (fun e => e.1 / 4096 == t)).foldl (fun m e => Sparse.set (fun _ => 0) m e.1 e.2) rest }

/-- The state of a block that its registers expose, at a soft reset of its page (R448 and the rules it names). -/
def State.resetBlock (s : State) (cls : PageClass) (i : Nat) : State :=
  match cls with
  | .hop => s.softResetHopper
  | .hoplim1 => s.loadRetired
  | .whl => s.softResetWheel i
  | .cnv => (s.stopCnv i).setCnv i {}
  | .exc => (List.range 8).foldl (fun s g => s.chop g) ((List.range 8).foldl (fun s k => s.drive k) s)
  | .fil =>
    (List.range 4).foldl (fun s k =>
      let g := 4 * i + k
      let s := s.setSlot g {}
      (List.range 4).foldl (fun s n => s.writeWords (Store.filter i) (newWord k n) [0, 0]) s) s |>.restartEngine i
  | .fcoe => s.clearCoefs (i / 3) (i % 3)
  | .weir =>
    ((List.range 8).foldl (fun s n =>
      let w := 8 * i + n
      s.setWeir w { ({} : WeirSt) with x := (s.weir w).x }) s).checkTrips
  | .pls => s.idlePulses true
  | .seg =>
    let x := s.port i
    s.setPort i { x with burst := none, arrived := [], mail := [], txq := x.txq.filter (fun e => !isHpp e.item),
                         coord2 := false, fallback := false, plcaok := false, lastBeacon := s.time.fab }
  | .node => s.setPort i { s.port i with keys := s.imageKeys i }
  | .upl =>
    let x := s.port (16 + i)
    let s := match x.train with
      | some (n, _) =>
        match s.bankIn n .draining with
        | some b => s.setBankState n b .closed
        | none => s
      | none => s
    s.setPort (16 + i) { x with arrived := [], mail := [], txq := x.txq.filter (fun e => !isHpp e.item), link := false, pausedTo := none,
                                train := none, keys := s.imageKeys (16 + i) }
  | .ptp =>
    (List.range 18).foldl
      (fun s p => s.setPort p { s.port p with txq := (s.port p).txq.filter (fun e => !isPtpMail e.item) })
      { s with ptp := { ({} : PtpSt) with secSeen := s.ptp.secSeen, epochSeen := s.ptp.epochSeen } }
  | .ptpp =>
    (List.range 18).foldl (fun s p =>
      s.setPort p { s.port p with seqSync := 0, seqDreq := 0, seqPdreq := 0, lastSync := none, lastDreq := none,
                                  wantFu := none, lastT := none, dreqSent := none, pdreqSent := none, pdresp := none,
                                  mpd := 0, mpdValid := false }) s
  | .strm => s.softResetStreams
  | .alq => s.softResetAlarms
  | .leat => (List.range 16).foldl (fun s ch => s.setChan ch {}) s
  | .leatc => (List.range 60).foldl (fun s k => s.setChan (16 + 60 * i + k) {}) s
  | .tile =>
    let s := (List.range 2).foldl (fun s c =>
      (s.haltCore (2 * i + c)).onCore (2 * i + c) (fun x => { x with fault := false, intrap := false, halted := false })) s
    let s := s.setTile i { s.tile i with dq := [], arrivals := [], snHeld := 0 }
    let s := { s with tally := { s.tally with entries := s.tally.entries.filter (fun e => e.tile != i) } }
    s.reloadPtab i
  | .hpt => { s with host := { s.host with cfgWas := regReset Reg.hptHcfg } }
  | .flc => { s with flash := { s.flash with queue := [], asks := [], doneq := [], lastDone := (0, 0) } }
  | _ => s

/-- A soft reset of a page (R448): SRBUSY stands until the FAB cycle ends. -/
def State.softResetPage (s : State) (cls : PageClass) (i page : Nat) : State :=
  let s := { s with srbusy := s.srbusy ++ [page] }
  let x := s.rd Reg.excXsta
  let th := s.rb Reg.monTsta 24
  let untripped := (List.range 16).filter (fun n => !s.tripped n)
  let s := s.onlyIf (cls == .mon) (fun s => (List.range 8).foldl (fun s c => s.setThrottle c 0) s)
  let s := (s.resetRegs cls page).resetBlock cls i
  match cls with
  | .exc => s.setb Reg.excXsta 24 (bitOf x 24)
  | .mon => s.setb Reg.monTsta 24 th
  | .trip => (untripped.foldl (fun s n => s.tripPulse n) s).checkTrips
  | _ => s

/-! ### PGCTL (R446) -/

/-- EN of a page is fixed at 1. -/
def enFixed (cls : PageClass) (i : Nat) : Bool :=
  match cls with
  | .dev | .hpt | .boot | .mon | .pwr | .dbgc | .trip | .jrn | .ecc => true
  | .whl | .tile | .clu => i == 0
  | _ => false

/-- EN of a page takes a value: a converter stops, or starts as if CCTL.EN had risen. -/
def State.setPageEn (s : State) (cls : PageClass) (i page : Nat) (on : Bool) : State :=
  if enFixed cls i || s.pageEn page == on then s
  else
    let s := s.setb (Reg.hdrPgctl page) 0 on
    match cls with
    | .cnv => if on then s.restartCnv i else s.stopCnv i
    | .fil => s.onlyIf on (·.restartEngine i)
    | _ => s

/-- A PGCTL write: the soft reset first, then EN, LOCK and HIRQ as written (R446, R448). -/
def State.writePgctl (s : State) (cls : PageClass) (i page : Nat) (v : Word) : State :=
  let s := s.onlyIf (bitOf v 1 && !noSoftReset cls i) (·.softResetPage cls i page)
  let s := s.setPageEn cls i page (bitOf v 0)
  let s := s.onlyIf (bitOf v 2) (·.setb (Reg.hdrPgctl page) 2 true)
  s.setb (Reg.hdrPgctl page) 3 (bitOf v 3)

/-- A PGCTL write by a requester: the soft reset of HPT waits for the end of the host frame that asks for it (13, HPT
page). -/
def State.requestPgctl (s : State) (req : Nat) (cls : PageClass) (i page : Nat) (v : Word) : State :=
  if cls = .hpt ∧ bitOf v 1 ∧ req = hostReq then { s with host := { s.host with ctlWrite := some v } }
  else s.writePgctl cls i page v

/-- A write to a header register. -/
def State.writeHeader (s : State) (req : Nat) (cls : PageClass) (i page off : Nat) (v : Word) : State :=
  match off with
  | 0x008 => s.requestPgctl req cls i page v
  | 0x010 => s.clearIraw cls i page v
  | 0x014 => s.wr (Reg.hdrIena page) (v &&& irawMask cls)
  | 0x01C => s.setIraw cls page v
  | 0x020 => if hasEvsel cls then s.writeEvsel page v else s
  | 0x024 => if hasEvin cls then s.writeEvin page v else s
  | 0x030 => s.writeSnap page v
  | _ => s

/-! ### One register write (R444, R450) -/

/-- A write of a register by a requester. -/
def State.writeReg (s : State) (req addr : Nat) (v : Word) : State :=
  let page := addr / 1024
  let off := addr % 1024
  match pageKind? page with
  | none => s
  | some (cls, i) =>
    if s.pageDark cls page || s.srbusy.contains page then s
    else
      let s := s.wakeForAccess cls i page
      if off < 0x40 then s.writeHeader req cls i page off v
      else
        match rowAt (blockRows cls) off with
        | none => s
        | some (r, n) =>
          if absentReg cls i off then s
          else
            match r.access with
            | .ro => s
            | .rwl => if s.lockedFor page then s else s.writeBlock req cls i off n addr (v &&& r.mask)
            | .rw1c =>
              if cls == .leat || cls == .hoplim1 then s.writeBlock req cls i off n addr (v &&& r.mask)
              else s.clrReg addr (s.clears addr v)
            | _ => s.writeBlock req cls i off n addr (v &&& r.mask)

/-- The writes of several requesters to one register in one FAB cycle, in the order of the register's list (R452). -/
def State.writeAll (s : State) (addr : Nat) (ws : List (Nat × Word)) : State :=
  let g := s.grant (resReg addr) (ws.map (·.1))
  g.1.foldl (fun s r => match ws.find? (fun w => w.1 == r) with
    | some w => s.writeReg r addr w.2
    | none => s) g.2

end Sys2Proof.Machine
end

