-- ==== Sys2Proof/Machine/Boot.lean ====
section
/-! DEFINITION. Start-up (14 R475-R484), the lane-map replay (R413, R55), the firmware container, the configuration image
(R477-R479), and the HIBERNATE checkpoint with its restore (R491-R497). Choices: assumption 18. -/

namespace Sys2Proof.Machine

/-! ### Phases -/

/-- BSTA.PHASE and the flags DONE and FAIL. -/
def State.bootPhase (s : State) (n : Nat) : State := s.setf Reg.bootBsta 0 4 n

/-- Phase 2: PWREN is driven high, after its second low where it must have one (R471, R476). -/
def State.coldStart (s : State) : State :=
  if s.pwr.booting && !s.pwr.pwren && s.rf Reg.bootBsta 0 4 ≤ 2 && decide (s.pwr.offUntil ≤ s.time.fab) then
    State.bootPhase { s with pwr := { s.pwr with pwren := true, onAt := s.time.fab } } 2
  else s

/-- PGOOD has not risen within tPGTO: PWREN goes low for 1 s and the step repeats (R476). -/
def State.pgoodTimeout (s : State) : State :=
  if s.pwr.booting && s.pwr.pwren && s.rf Reg.bootBsta 0 4 == 2 then
    { s with pwr := { s.pwr with pwren := false, offUntil := s.time.fab + usCycles 1000000 } }
  else s

/-- The straps as BSTA keeps them, and how the start finds its container (R475): 1 and 3 host-load, 2 factory test, which a
blown PRODLOCK turns into a normal start. -/
def State.takeStraps (s : State) (mode : Nat) : State :=
  let rej := mode == 3 || (mode == 2 && s.fuses.prodlock)
  let s := (s.setf Reg.bootBsta 6 2 mode).setb Reg.bootBsta 8 rej
  { s with pwr := { s.pwr with hostload := mode == 1 || mode == 3, ftest := mode == 2 && !rej } }

/-! ### The configuration check (R477) -/

/-- A journal word as the check reads it: none for poison or an uncorrectable word. -/
def State.journalWord? (s : State) (i : Nat) : Option DWord :=
  match checkWord (s.rawWord Store.journal i) with
  | .good d => some d
  | .corrected d => some d
  | _ => none

/-- Consecutive journal words, none if one cannot be read. -/
def State.journalWords? (s : State) (i n : Nat) : Option (List DWord) :=
  ((List.range n).map (fun j => s.journalWord? (i + j))).foldr
    (fun w r => match w, r with
      | some d, some ds => some (d :: ds)
      | _, _ => none) (some [])

/-- Word 0 of the configuration region. -/
def cfgWord : Nat := 0x60000

/-- The bytes of the configuration image, where LENGTH is in its span and no word is poison (R477). -/
def State.configBytes? (s : State) : Option (List Byte) :=
  match s.journalWord? cfgWord with
  | none => none
  | some h =>
    let len := natField h.toNat 0 32
    if len < 8 ∨ 1048568 < len then none
    else (s.journalWords? (cfgWord + 1) (ceilDiv len 8)).map (fun ws => (ws.flatMap (fun w => bytesOf 8 w.toNat)).take len)

/-- The check passes. -/
def State.configOk (s : State) : Bool :=
  match s.journalWord? cfgWord, s.configBytes? with
  | some h, some bs => (crc32c bs).toNat == natField h.toNat 32 32
  | _, _ => false

/-- Phase 4: the check, CFGLEN and CFGCRC; a failure leads to safe acquisition (R478). Its reads count in the journal's page
(R402). -/
def State.checkConfig (s : State) : State :=
  let len := match s.journalWord? cfgWord with
    | some h => natField h.toNat 0 32
    | none => 0
  let crc := match s.configBytes? with
    | some bs => (crc32c bs).toNat
    | none => 0
  let ok := s.configOk
  let n := if len < 8 ∨ 1048568 < len then 0 else ceilDiv len 8
  let s := (s.readWords Store.journal cfgWord (n + 1)).2
  let s := ((s.bootPhase 4).wr Reg.bootCfglen (w32 len)).wr Reg.bootCfgcrc (w32 crc)
  { s with pwr := { s.pwr with cfgdef := !ok } }

/-! ### Lane-map replay (R413, R55) -/

/-- First journal word of base `b`, and the words of its header. -/
def mapBaseWord (b : Nat) : Nat := 0x4000 + 0x1000 * b
def mapHeadWord (b : Nat) : Nat := 0x80 + 2 * b

/-- Generation, CRC and log sequence of a base's header, where it can be read. -/
def State.mapHead? (s : State) (b : Nat) : Option (Nat × Nat × Nat) :=
  match s.journalWord? (mapHeadWord b), s.journalWord? (mapHeadWord b + 1) with
  | some h, some q => some (natField h.toNat 0 32, natField h.toNat 32 32, natField q.toNat 0 32)
  | _, _ => none

/-- A base is valid: its header reads and its CRC matches, or one of its words is poisoned, of which R413 takes the rest
(assumption 18). A generation of 0 is a base never written. -/
def State.mapBaseValid (s : State) (b : Nat) : Bool :=
  match s.mapHead? b with
  | none => false
  | some (gen, crc, _) =>
    gen != 0 &&
    match s.journalWords? (mapBaseWord b) 4096 with
    | none => true
    | some ws => (crcWords ws).toNat == crc

/-- The base that start-up takes: of the valid ones, that of the newer generation. -/
def State.mapBase? (s : State) : Option Nat :=
  match s.mapBaseValid 0, s.mapBaseValid 1 with
  | true, true =>
    let g (b : Nat) : Nat := ((s.mapHead? b).map (·.1)).getD 0
    if 0 < sdiffMod (g 1) (g 0) 32 then some 1 else some 0
  | true, false => some 0
  | false, true => some 1
  | false, false => none

/-- The PIN bits of the four entries of a map word: 0 at every start (R53). -/
def pinBits : DWord := 0x0080008000800080

/-- Entries of a base word: the chosen base's, the other's where it is poisoned, or lanes not VALID and NOPLACE. -/
def State.loadMapWord (s : State) (b i : Nat) : State :=
  let r := s.readWord Store.journal (mapBaseWord b + i)
  let s := r.2
  match r.1 with
  | some d => s.writeWord Store.laneMap i (d &&& ~~~ pinBits)
  | none =>
    match if s.mapBaseValid (1 - b) then s.journalWord? (mapBaseWord (1 - b) + i) else none with
    | some d => s.writeWord Store.laneMap i (d &&& ~~~ pinBits)
    | none => (s.writeWord Store.laneMap i 0).raise Page.hop 2

/-- Replay the log words after sequence `seq`, stopping at the first gap or poisoned word: the lanes they wrote, each with
a number that falls as the log goes on, and the sequence reached. -/
def State.replayLog (s : State) (seq : Nat) (late : List (Nat × Nat)) : Nat → List (Nat × Nat) × Nat × State
  | 0 => (late, seq, s)
  | fuel + 1 =>
    let next := (seq + 1) % 2 ^ 32
    let r := s.readWord Store.journal (0x6000 + next % 4096)
    let s := r.2
    match r.1 with
    | none => (late, seq, s)
    | some d =>
      if natField d.toNat 32 32 != next then (late, seq, s)
      else
        let lane := natField d.toNat 0 14
        (s.setMapEntry lane (natField d.toNat 16 16 &&& 0xFF7F)).replayLog next (setNum late lane (fuel + 1)) fuel

/-- Two lanes in one seat (R55): the lane of the later log word keeps it; with neither from the log, both lose it. -/
def State.resolveSeats (s : State) (late : List (Nat × Nat)) : State :=
  let seats := s.seated
  let loses (x : Nat × Nat) : Bool := seats.any (fun y => y.1 != x.1 && seatOf (mapTile y.2) (mapLane y.2) == seatOf (mapTile x.2) (mapLane x.2)
    && (match numAt late x.1, numAt late y.1 with
        | 0, _ => true
        | a, b => decide (0 < b) && decide (b < a)))
  (seats.filter loses).foldl (fun s x => (s.setMapEntry x.1 (x.2 % 2 ^ 15)).raise Page.hop 2) s

/-- The lane map at start-up (R413, R55): every lane not VALID where no base is valid. The replay numbers fall as the log
goes on. -/
def State.replayMap (s : State) : State :=
  let s := { s with words := s.words.filter (fun w => w.1 / 2 ^ 40 != Store.laneMap) }
  match s.mapBase? with
  | none => { s with flash := { s.flash with mapLogSeq := 0, mapLogAt := 0, mapBaseNewer := 0, mapGen := 0 } }
  | some b =>
    let h := (s.mapHead? b).getD (0, 0, 0)
    let s := (List.range 4096).foldl (fun s i => s.loadMapWord b i) s
    let r := s.replayLog h.2.2 [] 4096
    let s := { r.2.2 with flash := { r.2.2.flash with
      mapLogSeq := r.2.1, mapLogAt := (r.2.1 + 2 ^ 32 - h.2.2) % 2 ^ 32, mapBaseNewer := b, mapGen := h.1 } }
    s.resolveSeats r.1

/-! ### The checkpoint in the journal (R493) -/

/-- First journal words of the checkpoint: its header, the Millrace, the registers, the records of the ports, wheels and MPD;
words of its body. -/
def ckHeadWord : Nat := 0x20000
def ckMillWord : Nat := 0x20200
def ckRegWord : Nat := 0x50300
def ckNodeWord : Nat := 0x58200
def ckTimeWord : Nat := 0x59400
def ckBodyLen : Nat := 0x39280

/-- CRC-32C of the body; poison counts as zeros. -/
def State.ckBodyCrc (s : State) : BitVec 32 :=
  crcWords ((List.range ckBodyLen).map (fun i => s.peekWord Store.journal (ckMillWord + i)))

/-- Every word of the body can be read. -/
def State.ckBodyReads (s : State) : Bool := (s.journalWords? ckMillWord ckBodyLen).isSome

/-- The header, where it can be read and its CRC matches: generation 0 is a header never written (assumption 18). -/
def State.ckHead? (s : State) : Option (List DWord) :=
  match s.journalWord? ckHeadWord with
  | none => none
  | some h =>
    if natField h.toNat 0 32 = 0 then none
    else (s.journalWords? ckHeadWord 512).filter (fun ws =>
      (crcWords (ws.take 511)).toNat == natField (ws.getD 511 0).toNat 0 32)

/-- The checkpoint is valid: header CRC and body CRC both match (R493). -/
def State.ckValid (s : State) : Bool :=
  s.ckHead?.any (fun ws => s.ckBodyReads && s.ckBodyCrc.toNat == natField (ws.getD 132 0).toNat 32 32)

/-- Tiles saved, by the header's mask. -/
def State.ckTiles (s : State) : List Nat :=
  (List.range 128).filter (fun t => (s.peekWord Store.journal (ckHeadWord + 2 + t / 64)).toNat.testBit (t % 64))

/-- Start-up looks for the checkpoint (R492, R495). -/
def State.findCk (s : State) : State :=
  { s with pwr := { s.pwr with ck := s.ckHead?.map (fun ws =>
      let h := (ws.getD 0 0).toNat
      ⟨natField h 0 32, natField h 32 1, s.ckTiles.length, s.ckValid⟩) } }

/-- Phase 5: flash recovery, the lane map, the retired-tile map; retired tiles stay gated (R86, R485). A factory test scans
the blocks (R475). -/
def State.recoverStores (s : State) : State :=
  let s := (s.findCk.bootPhase 5).recoverFlash
  let s := (s.onlyIf s.pwr.ftest (·.scanFlash)).replayMap
  let s := s.loadRetired
  let s := match s.newest? 0x40 4 with
    | some (i, _, g) => { s with flash := { s.flash with retSlot := i, retGen := g } }
    | none => s
  (List.range 127).foldl (fun s t => s.onlyIf (s.retired (t + 1)) (·.gateTile (t + 1))) s

/-! ### The container (R480-R484) -/

/-- Where a copy of the container lies: the words of a store, `per` to each run that begins at a listed word. -/
structure CopyPlace where
  store : Store
  runs : List Nat
  per : Nat
  /-- Bytes the copy may have. -/
  room : Nat
  deriving DecidableEq, Repr

/-- The copy in the journal firmware region. -/
def journalCopy : CopyPlace := { store := Store.journal, runs := [0x8000], per := 98304, room := 786432 }

/-- Programmable pages of the blocks a descriptor names, those of blocks not good skipped (R480). -/
def State.copyPages (s : State) (first count : Nat) (pslc : Bool) : List (Nat × Nat) :=
  (((List.range count).map (first + ·)).filter (fun b => decide (b < 16384) && entState (s.blockEnt b) == 0)).flatMap
    (fun b => (payloadPages (b2n pslc)).map (fun p => (b, p)))

/-- Flash copy `k` by its descriptor, none where the descriptor fails (R480). -/
def State.flashCopy? (s : State) (k : Nat) : Option CopyPlace :=
  let base := (2 + k) * 2048
  if !s.pageProgrammed (2 ^ 24 + 8 * (2 + k)) then none
  else
    match checkWord (s.rawWord Store.flashParam base), checkWord (s.rawWord Store.flashParam (base + 1)) with
    | .good d, .good c | .good d, .corrected c | .corrected d, .good c | .corrected d, .corrected c =>
      let x := d.toNat
      if (crcWords [d]).toNat != natField c.toNat 0 32 then none
      else
        let pages := s.copyPages (natField x 0 14) (natField x 16 14) (x.testBit 31)
        let len := natField x 32 32
        let used := pages.take (ceilDiv len 16128)
        if used.any (fun bp => !s.pageProgrammed (bp.1 * 256 + bp.2)) then none
        else some { store := Store.flashMain, runs := used.map (fun bp => flashWord bp.1 bp.2), per := 2016,
                    room := min len (used.length * 16128) }
    | _, _ => none

/-- Word `i` of a copy. -/
def CopyPlace.at (c : CopyPlace) (i : Nat) : Nat := c.runs.getD (i / c.per) 0 + i % c.per

/-- The first `n` words of a copy as bytes, none if one cannot be read; reads count in the store's page (R402). -/
def State.copyBytes (s : State) (c : CopyPlace) (n : Nat) : Option (List Byte) × State :=
  (List.range n).foldl (fun r i =>
    let w := r.2.readWord c.store (c.at i)
    match r.1, w.1 with
    | some bs, some d => (some (bs ++ bytesOf 8 d.toNat), w.2)
    | _, _ => (none, w.2)) (some [], s)

/-- `n` bytes at offset `k`, little-endian. -/
def leAt (bs : List Byte) (k n : Nat) : Nat := ofBytes ((bs.drop k).take n)

/-- The code of a header, 1 for one that passes (R481, R483). -/
def State.headerCode (s : State) (h : List Byte) (room : Nat) : Nat :=
  let nsect := leAt h 6 2
  let len := leAt h 8 4
  let part := leAt h 12 2
  let key := leAt h 15 1
  if leAt h 0 4 != 0x434C5948 then 3
  else if leAt h 4 2 != 1 || nsect == 0 || decide (64 < nsect) || len % 8 != 0 || decide (786432 < len) || decide (room < len)
      || decide (len < 128 + 24 * nsect) || leAt h 24 40 != 0 then 4
  else if part != 0xFFFF && part != s.rf 0x040 0 16 then 5
  else if leAt h 14 1 < s.rf Reg.bootMingen 0 8 then 6
  else if 1 < key || s.rb Reg.bootKeyrev key then 7
  else 1

/-- One section (R481). -/
structure Section where
  ty : Nat
  flags : Nat
  off : Nat
  len : Nat
  crc : Nat
  target : Nat
  dest : Nat
  deriving DecidableEq, Repr

/-- The section table of a container. -/
def sectionsOf (bs : List Byte) : List Section :=
  (List.range (leAt bs 6 2)).map (fun i =>
    let k := 64 + 24 * i
    { ty := leAt bs k 1, flags := leAt bs (k + 1) 1, off := leAt bs (k + 4) 4, len := leAt bs (k + 8) 4,
      crc := leAt bs (k + 12) 4, target := leAt bs (k + 16) 4, dest := leAt bs (k + 20) 4 })

/-- Bytes of a section. -/
def Section.bytes (x : Section) (bs : List Byte) : List Byte := (bs.drop x.off).take x.len

/-- A section within its container and its target memory, of a known type and a whole number of items (R481, R482). -/
def Section.ok (x : Section) (total : Nat) : Bool :=
  x.flags == 0 && decide (x.off + x.len ≤ total) &&
  match x.ty with
  | 1 => x.len % 3 == 0 && decide (x.dest + x.len / 3 ≤ 8192)
  | 2 => x.len % 4 == 0 && decide (x.dest + x.len / 4 ≤ 4096)
  | 3 => decide (x.dest + x.len ≤ 32768)
  | 4 => x.len == 5 && x.target == 0 && x.dest == 0
  | _ => false

/-- The code of a whole container whose header passes (R483): section CRCs, the signature, the sections. -/
def State.bodyCode (s : State) (bs : List Byte) : Nat :=
  let len := leAt bs 8 4
  let ss := sectionsOf bs
  let pub := if leAt bs 15 1 = 0 then s.fuses.pubkey0 else s.fuses.pubkey1
  if ss.any (fun x => decide (x.off + x.len ≤ len) && (crc32c (x.bytes bs)).toNat != x.crc) then 8
  else if !Config.ed25519 pub (bs.take (len - 64)) (BitVec.ofNat 512 (leAt bs (len - 64) 64)) then 9
  else if !ss.all (fun x => x.ok len) || (ss.filter (fun x => x.ty == 4)).length != 1 then 10
  else 1

/-- A copy is read and checked: its code and bytes (R483). -/
def State.checkCopy (s : State) (c : CopyPlace) : Nat × List Byte × State :=
  let h := if c.room < 64 then (none, s) else s.copyBytes c 8
  match h.1 with
  | none => (2, [], h.2)
  | some hb =>
    let code := h.2.headerCode hb c.room
    if code != 1 then (code, [], h.2)
    else
      let r := h.2.copyBytes c (leAt hb 8 4 / 8)
      match r.1 with
      | none => (2, [], r.2)
      | some bs => (r.2.bodyCode bs, bs, r.2)

/-- Copy `k` is tried (0 A, 1 B, 2 journal): BDIAG, and its bytes where it passes. -/
def State.tryCopy (s : State) (k : Nat) : Option (List Byte) × State :=
  match if k = 2 then some journalCopy else s.flashCopy? k with
  | none => (none, s.setf Reg.bootBdiag (4 * k) 4 2)
  | some c =>
    let r := s.checkCopy c
    let s := r.2.2.setf Reg.bootBdiag (4 * k) 4 r.1
    (if r.1 = 1 then some r.2.1 else none, s)

/-- The first of the copies that passes, and its number (R475, R476 step 6). -/
def State.findCopy (s : State) : List Nat → Option (Nat × List Byte) × State
  | [] => (none, s)
  | k :: ks =>
    let r := s.tryCopy k
    match r.1 with
    | some bs => (some (k, bs), r.2)
    | none => r.2.findCopy ks

/-- Tiles a section goes to (R482). -/
def State.sectionTiles (s : State) (x : Section) : List Nat :=
  let t := x.target % 128
  if x.ty ≠ 3 ∧ t = 127 then (List.range 128).filter (fun t => !s.retired t) else [t]

/-- A CODE section into one core's instruction SRAM. -/
def State.loadCode (s : State) (t c first : Nat) (bs : List Byte) : State :=
  (List.range (bs.length / 3)).foldl (fun s i =>
    s.writeWord (Store.tile t (3 + c)) (first + i) (BitVec.ofNat 64 (leAt bs (3 * i) 3))) s

/-- A PTAB section into one tile's program table, which the soft resets of later restore (R448). -/
def State.loadPtab (s : State) (t first : Nat) (bs : List Byte) : State :=
  (List.range (bs.length / 4)).foldl (fun s i =>
    let v : BitVec 15 := BitVec.ofNat 15 (leAt bs (4 * i) 4)
    let k := t * 4096 + first + i
    { s with ptab := Sparse.set (fun _ => 0) s.ptab k v,
             pwr := { s.pwr with imgPtab := Sparse.set (fun _ => 0) s.pwr.imgPtab k v } }) s

/-- A DATA section into one tile's working store, byte by byte. -/
def State.loadData (s : State) (t first : Nat) (bs : List Byte) : State :=
  (List.range bs.length).foldl (fun s i =>
    let w := 0x9000 + (first + i) / 8
    let d := (s.peekWord (Store.tile t 0) w).toNat
    s.writeWord (Store.tile t 0) w (BitVec.ofNat 64 (putNat d (8 * ((first + i) % 8)) 8 (leAt bs i 1)))) s

/-- One section is loaded (R482). -/
def State.loadSection (s : State) (bs : List Byte) (x : Section) : State :=
  let data := x.bytes bs
  let ts := s.sectionTiles x
  match x.ty with
  | 1 => ts.foldl (fun s t => [0, 1].foldl (fun s c => s.onlyIf (x.target.testBit (8 + c)) (·.loadCode t c x.dest data)) s) s
  | 2 => ts.foldl (fun s t => s.loadPtab t x.dest data) s
  | 3 => ts.foldl (fun s t => s.loadData t x.dest data) s
  | _ => (s.wr (Reg.tileEntry0 0) (w32 (leAt data 0 2 % 8192))).wr (Reg.tileEntry1 0) (w32 (leAt data 2 2 % 8192))

/-- Byte 4 bit 0 of the START section. -/
def startsCore1 (bs : List Byte) : Bool :=
  (sectionsOf bs).any (fun x => x.ty == 4 && (leAt (x.bytes bs) 4 1).testBit 0)

/-- Phase 7: every section, CGEN, CLEN and the copy in BSTA (R484). -/
def State.loadContainer (s : State) (k : Nat) (bs : List Byte) : State :=
  let s := (sectionsOf bs).foldl (fun s x => s.loadSection bs x) (s.bootPhase 7)
  let s := s.wr Reg.bootCgen (w32 (leAt bs 14 1 + leAt bs 15 1 * 2 ^ 8 + leAt bs 6 2 * 2 ^ 16))
  (s.wr Reg.bootClen (w32 (leAt bs 8 4))).setf Reg.bootBsta 9 2 k

/-! ### The configuration image (R478, R479) -/

/-- The code that refuses a write frame of `n` words at `addr` once it is whole (R466): PAGEX, ALIGN, OVFL, NOPAGE, PGOFF. -/
def State.frameRefusal (s : State) (fixed : Bool) (addr n : Nat) : Nat :=
  if !fixed && decide (1024 < addr % 1024 + 4 * n) then 4
  else if addr % 4 ≠ 0 then 5
  else if 64 < n then 6
  else
    match pageKind? (addr / 1024) with
    | none => 7
    | some (cls, _) => if s.pageDark cls (addr / 1024) then 8 else 0

/-- A record that would be refused: counted, the first with its index (R479). -/
def State.rejectRecord (s : State) (i : Nat) : State :=
  let s := s.onlyIf (!s.rb Reg.bootCfgfirst 31) (·.wr Reg.bootCfgfirst (w32 (i % 2 ^ 24 + 2 ^ 31)))
  s.bump Reg.bootCfgrej

/-- Item `j` of 32 bits of a record's data words. -/
def item32 (ws : List DWord) (j : Nat) : Word := w32 ((ws.getD (j / 2) 0).toNat >>> (32 * (j % 2)))

/-- Data words of a record by its kind, count and address; none for a reserved kind or space (R479). -/
def recordWords? (kind n addr : Nat) : Option Nat :=
  match kind with
  | 1 => some ((n + 1) / 2)
  | 2 => match natField addr 16 2 with
    | 0 => some (4 * n)
    | 1 => some (2 * n)
    | 2 => some n
    | _ => none
  | 3 => some (2 * n)
  | 4 => some (2 * n)
  | 5 => some n
  | _ => none

/-- PAGE: the values as one WR frame (R467); a GO in it is not taken. -/
def State.applyPage (s : State) (addr n : Nat) (ws : List DWord) : Option State :=
  if n = 0 ∨ s.frameRefusal false addr n ≠ 0 then none
  else some ((List.range n).foldl (fun s j => s.writeReg hostReq (addr + 4 * j) (item32 ws j)) s)

/-- CAL: entries through MRG; the record is refused whole if one of them is (assumption 18). -/
def State.applyCal (s : State) (addr n : Nat) (ws : List DWord) : Option State :=
  let k := match natField addr 16 2 with
    | 0 => 4
    | 1 => 2
    | _ => 1
  (List.range n).foldl (fun (o : Option State) i =>
    match o with
    | none => none
    | some s =>
      let s := s.wr Reg.mrgCalidx (w32 ((addr % 2 ^ 16 + i) % 2 ^ 16 + natField addr 16 2 * 2 ^ 16))
      let s := (List.range k).foldl (fun s j =>
        s.wr64 (Reg.mrgCald (2 * j)) (Reg.mrgCald (2 * j + 1)) (ws.getD (k * i + j) 0).toNat) s
      let s : State := State.calcmd (s.setf Reg.mrgCalsta 0 2 0) 2
      if decide (addr % 2 ^ 16 + i < 2 ^ 16) && !s.rb Reg.mrgCalsta 1 then some s else none) (some s)

/-- NODE: records through ND or SD (R248); the record is refused whole if one of them is. -/
def State.applyNode (s : State) (addr n : Nat) (ws : List DWord) : Option State :=
  let p := addr % 32
  let first := natField addr 8 6
  if 17 < p ∨ 64 < first + n then none
  else
    (List.range n).foldl (fun (o : Option State) i =>
      match o with
      | none => none
      | some s =>
        let nd := fun j => portReg p (fun n => Reg.nodeNd n j) (fun u => Reg.uplSd u j)
        let s := s.wr (portReg p (fun n => Reg.nodeNidx n) (fun u => Reg.uplSidx u)) (w32 (first + i))
        let s := (s.wr64 (nd 0) (nd 1) (ws.getD (2 * i) 0).toNat).wr64 (nd 2) (nd 3) (ws.getD (2 * i + 1) 0).toNat
        let w := s.ndWords p
        if s.badNode p (first + i) w.1 w.2 then none else some (s.nodeWrite p)) (some s)

/-- A key from its two words: byte 0 in [7:0] of the first; the key's first byte is its most significant. -/
def keyOf (a b : DWord) : BitVec 128 :=
  (bytesOf 8 a.toNat ++ bytesOf 8 b.toNat).foldl (fun k x => k <<< 8 ||| x.setWidth 128) 0

/-- KEY: keys of a port (R246). -/
def State.applyKey (s : State) (addr n : Nat) (ws : List DWord) : Option State :=
  let p := addr % 32
  let first := natField addr 8 7
  if 17 < p ∨ 65 < first + n then none
  else some ((List.range n).foldl (fun s i =>
    let key := keyOf (ws.getD (2 * i) 0) (ws.getD (2 * i + 1) 0)
    let s := s.setKey p (first + i) (some key)
    { s with pwr := { s.pwr with imgKeys := Sparse.set (fun _ => 0) s.pwr.imgKeys (p * 256 + first + i) key } }) s)

/-- LCTX: the Load fields of a lane's context at its seat (R49, R51); a lane without a seat has none. -/
def State.applyContext (s : State) (addr n : Nat) (ws : List DWord) : Option State :=
  let lane := addr % 2 ^ 14
  let e := s.mapEntry lane
  if n ≠ 32 ∨ !mapValid e then none
  else
    let st := Store.tile (mapTile e) 0
    let i := ctxWord (mapLane e)
    let load : List Nat := [0, 1] ++ (List.range 24).map (8 + ·)
    let mask (j : Nat) : Nat := if j = 0 then 0xFFFF0FFF0FF33FFF else if j = 1 then 0x3FFFFFFFF else 2 ^ 64 - 1
    some (load.foldl (fun s j => s.writeWord st (i + j) (BitVec.ofNat 64 ((ws.getD j 0).toNat &&& mask j))) s)

/-- One record (R479). -/
def State.applyRecord (s : State) (kind n addr : Nat) (ws : List DWord) : Option State :=
  match kind with
  | 1 => s.applyPage (addr % 2 ^ 24) n ws
  | 2 => s.applyCal addr n ws
  | 3 => s.applyNode addr n ws
  | 4 => s.applyKey addr n ws
  | 5 => s.applyContext addr n ws
  | _ => none

/-- The records in order (R479), of those that `only` takes: an END, a reserved kind or the end of the image ends it. A
refused record leaves no trace but its count. -/
def State.applyRecords (s : State) (only : Nat → Bool) (ws : List DWord) (i : Nat) : Nat → State
  | 0 => s
  | fuel + 1 =>
    match ws with
    | [] => s
    | h :: rest =>
      let kind := natField h.toNat 0 8
      let n := natField h.toNat 8 24
      let addr := natField h.toNat 32 32
      if kind = 0 then s
      else
        match recordWords? kind n addr with
        | none => s.onlyIf (only kind) (·.rejectRecord i)
        | some k =>
          if rest.length < k then s.onlyIf (only kind) (·.rejectRecord i)
          else
            let s := if only kind then (match s.applyRecord kind n addr (rest.take k) with
                | some t => t
                | none => s.rejectRecord i) else s
            s.applyRecords only (rest.drop k) (i + 1) fuel

/-- The words of the configuration image. -/
def State.configWords (s : State) : List DWord :=
  match s.journalWord? cfgWord with
  | none => []
  | some h => (s.journalWords? (cfgWord + 1) (natField h.toNat 0 32 / 8)).getD []

/-- The registers through which records pass return to what they held. -/
def State.keepingWindows (s : State) (f : State → State) : State :=
  let windows := [Reg.mrgCalidx, Reg.mrgCalsta] ++ (List.range 8).map Reg.mrgCald
    ++ (List.range 16).flatMap (fun n => Reg.nodeNidx n :: (List.range 8).map (Reg.nodeNd n))
    ++ (List.range 2).flatMap (fun u => Reg.uplSidx u :: (List.range 8).map (Reg.uplSd u))
  let t := f s
  windows.foldl (fun t a => t.wr a (s.rd a)) t

/-- Phase 8 of a cold start with a configuration image. A GO that a record writes is not taken. -/
def State.applyConfig (s : State) : State :=
  let ws := s.configWords
  let s := s.keepingWindows (·.applyRecords (fun _ => true) ws 0 ws.length)
  { s with pwr := { s.pwr with goWanted := false } }

/-- Factory defaults: safe acquisition (R478). -/
def State.applyDefaults (s : State) : State :=
  let s := { s with words := s.words.filter (fun w => w.1 / 2 ^ 40 != Store.laneMap) }
  let s := (List.range 16).foldl (fun s n => s.wr (Reg.segSctl n) 5) s
  let s := (List.range 8).foldl (fun s g => s.writeCctl g 1) s
  (List.range 8).foldl (fun s g => s.writePath g 0x14) s

/-- The records of seats that hold lanes (R37): zeros, with QUAL by whether the slot is configured. -/
def State.initRecords (s : State) : State :=
  s.seated.foldl (fun s x =>
    let t := mapTile x.2
    let l := mapLane x.2
    (List.range 64).foldl (fun s ss =>
      let q := if s.slotClass t l ss = 0 then 0x01 else 0x42
      s.writeWords (Store.tile t 0) (recWord l ss) [BitVec.ofNat 64 (q * 2 ^ 24), 0, 0, 0]) s) s

/-! ### The end of a start (R476 steps 8 and 9) -/

/-- What ends every start: BSTA.DONE, BOOTUS, the Hopper's first period with the dispatch counts it starts from (R57, R58),
the erase of the idle checkpoint set (R492). -/
def State.endBoot (s : State) : State :=
  let s := { s with pwr := { s.pwr with booting := false, restoring := false },
                    hop := { s.hop with lastEval := s.time.fab, lastRegular := s.time.fab, busy := [], cnt0 := s.dispCounts } }
  let s := (s.bootPhase 9).setb Reg.bootBsta 4 true
  (s.wr Reg.bootBootus (w32 (s.time.fab / 400))).startCkErase

/-- Steps 8 and 9 of a cold start: records or defaults, then core 0 of tile 0.00, and core 1 where START says so. -/
def State.finishCold (s : State) (bs : List Byte) : State :=
  let s := s.bootPhase 8
  let s := if s.pwr.cfgdef then s.applyDefaults else s.applyConfig
  let s := s.initRecords
  let s := s.writeCctlCore 0 1
  (s.onlyIf (startsCore1 bs) (·.writeCctlCore 1 1)).endBoot

/-! ### The checkpoint (R491-R493) -/

/-- Registers that the checkpoint keeps, in ascending order of pages and table lines: RW or RWL, EN, LOCK and HIRQ of PGCTL
among them (R493). -/
def ckRegs : List Nat :=
  pageRanges.flatMap (fun r => (List.range r.2.1).flatMap (fun i =>
    ((headerRows ++ blockRows r.2.2.1).filter (fun w => w.access == .rw || w.access == .rwl)).flatMap (fun w =>
      (List.range w.count).map (fun j => 1024 * (r.1 + i) + w.off + w.stride * j))))

/-- The registers into the journal, two to a word, and back: not those of the host port, nor of AON (R493, R495). -/
def State.saveRegs (s : State) : State :=
  (List.range (ceilDiv ckRegs.length 2)).foldl (fun s j =>
    s.writeWord Store.journal (ckRegWord + j)
      (BitVec.ofNat 64 (s.rn (ckRegs.getD (2 * j) 0) + s.rn (ckRegs.getD (2 * j + 1) 0) * 2 ^ 32))) s
def State.restoreRegs (s : State) : State :=
  let s := (List.range ckRegs.length).foldl (fun s j =>
    let a := ckRegs.getD j 0
    s.onlyIf (a / 1024 != Page.hpt && !aonRegs.contains a) (·.wr a
      (w32 ((s.peekWord Store.journal (ckRegWord + j / 2)).toNat >>> (32 * (j % 2)))))) s
  (List.range 128).foldl (fun s t => s.wr (Reg.tileSnwr t) (s.rd (Reg.tileSnrd t))) s

/-- Position and HIGH of W1-W3 and the MPD of the ports into the journal (R493). -/
def State.saveTimes (s : State) : State :=
  let ws := ([1, 2, 3].flatMap (fun n => let w := s.wheel n
    [BitVec.ofNat 64 w.pos, BitVec.ofNat 64 w.high, BitVec.ofNat 64 w.turnSeen])) ++
    (List.range 18).map (fun p => BitVec.ofNat 64 (natOf (s.port p).mpd 64)) ++
    [BitVec.ofNat 64 (((List.range 18).map (fun p => b2n (s.port p).mpdValid * 2 ^ p)).sum)]
  s.writeWords Store.journal ckTimeWord ws

/-- Pages of a set in pSLC mode, in order. -/
def ckPage (blocks : List Nat) (p : Nat) : Nat × Nat := (blocks.getD (p / 127) 0, (payloadPages 1).getD (p % 127) 0)

/-- One tile's data SRAM into 21 pages from page index `p` of the set (R491). -/
def State.saveTile (s : State) (blocks : List Nat) (t p : Nat) : State :=
  (List.range 21).foldl (fun s j =>
    let bp := ckPage blocks (p + j)
    let b := bp.1
    let n := min 2016 (40960 - 2016 * j)
    let s := s.moveWords (Store.tile t 0) (2016 * j) Store.flashMain (flashWord b bp.2) n
    let s := s.writeWords Store.flashMain (flashWord b bp.2 + n) (List.replicate (2016 - n) 0)
    let s := (s.writeSpare b bp.2 2 (2016 * j) t).setProgrammed (b * 256 + bp.2)
    s.setBlockEnt b (putNat (putNat (s.blockEnt b) 16 9 (bp.2 + 1)) 28 4 2)) s

/-- One tile's data SRAM back from where the checkpoint's header says that it lies in the set's good blocks. -/
def State.loadTile (s : State) (t : Nat) : State :=
  let place := (s.peekWord Store.journal (ckHeadWord + 4 + t)).toNat
  let blocks := s.ckSet (natField (s.peekWord Store.journal ckHeadWord).toNat 32 1)
  let b := (blocks.findIdx? (· == natField place 0 14)).getD 0
  let p := 127 * b + ((payloadPages 1).findIdx? (· == natField place 16 8)).getD 0
  (List.range 21).foldl (fun s j =>
    let bp := ckPage blocks (p + j)
    s.moveWords Store.flashMain (flashWord bp.1 bp.2) (Store.tile t 0) (2016 * j) (min 2016 (40960 - 2016 * j))) s

/-- The records of the ports into the journal and back; MISS returns as 0 (R495). -/
def State.saveNodes (s : State) : State :=
  (List.range 18).foldl (fun s p => s.moveWords (portStore p) (recIndex p 0) Store.journal (ckNodeWord + 256 * p) 256) s
def State.loadNodes (s : State) : State :=
  (List.range 18).foldl (fun s p =>
    let s := s.moveWords Store.journal (ckNodeWord + 256 * p) (portStore p) (recIndex p 0) 256
    (List.range 64).foldl (fun s k => s.putNode p k { s.node p k with w2 := putNat (s.node p k).w2 48 4 0 }) s) s

/-- The header's words but its last: generation and set, W0, the mask of the tiles saved, each tile's first block and page, the
body's bytes and CRC-32C (R493, assumption 18). -/
def State.ckHeader (s : State) (gen set : Nat) (blocks tiles : List Nat) : List DWord :=
  let mask := (tiles.map (2 ^ ·)).sum
  let place (t : Nat) : Nat := match tiles.findIdx? (· == t) with
    | some i => (ckPage blocks (21 * i)).1 + (ckPage blocks (21 * i)).2 * 2 ^ 16
    | none => 0
  ([gen + set * 2 ^ 32, s.w0, mask % 2 ^ 64, mask / 2 ^ 64] ++ (List.range 128).map place ++
    [8 * ckBodyLen + s.ckBodyCrc.toNat * 2 ^ 32] ++ List.replicate 378 0).map (BitVec.ofNat 64)

/-- The body into the journal, then the header with its own CRC-32C in its last word (R491, R493). -/
def State.saveCk (s : State) (gen set : Nat) (blocks tiles : List Nat) : State :=
  let s := ((s.moveWords Store.millrace 0 Store.journal ckMillWord 196864).saveRegs.saveNodes).saveTimes
  let h := s.ckHeader gen set blocks tiles
  s.writeWords Store.journal ckHeadWord (h ++ [BitVec.ofNat 64 (crcWords h).toNat])

/-- HIBERNATE entry is complete: the data and the body are written, then the header, and PWREN goes low (R491). -/
def State.endHibernateEntry (s : State) : State :=
  if !s.pwr.entering || s.flash.running.isSome || !s.flash.queue.isEmpty then s
  else
    let set := s.idleSet
    let blocks := s.ckSet set
    let tiles := s.savedTiles
    let gen := ((s.pwr.ck.map (·.gen)).getD 0 + 1) % 2 ^ 32
    let s := (List.range tiles.length).foldl (fun s i => s.saveTile blocks (tiles.getD i 0) (21 * i)) s
    let s := s.saveCk gen set blocks tiles
    let s := (s.bump Reg.pwrHibcnt).setb Reg.pwrCksta 2 false
    { s with pwr := { s.pwr with state := .hibernate, target := none, entering := false, pwren := false, woken := false,
                                 ck := some ⟨gen, set, tiles.length, true⟩ } }

/-! ### Restore (R495-R497) -/

/-- A wheel at a restore: its position and HIGH, the levels of its balls, then a source switch to its source (R497). -/
def State.restoreWheel (s : State) (n : Nat) : State :=
  let w := s.wheel n
  let at' (j : Nat) : Nat := (s.peekWord Store.journal (ckTimeWord + 3 * (n - 1) + j)).toNat
  let s := s.setWheel n { ({} : WheelSt) with
    pos := at' 0, high := at' 1, turnSeen := at' 2, levA := w.levA, levB := w.levB, levZ := w.levZ }
  s.startSource n (s.wheelSrc n)

/-- Late entries that are due already, which SKIPALL treats as LATE = 0 (R497). -/
def State.skippable (s : State) : List Nat :=
  ((s.entKeys.filterMap s.ent).filter (fun e => e.late && e.en && decide (e.due ≤ s.high e.wheel))).map (·.key)

/-- The MPD of the ports at a restore (R493). -/
def State.restoreMpd (s : State) : State :=
  let valid := (s.peekWord Store.journal (ckTimeWord + 27)).toNat
  (List.range 18).foldl (fun s p => s.onlyIf (valid.testBit p) (fun s =>
    s.setPort p { s.port p with mpd := (s.peekWord Store.journal (ckTimeWord + 9 + p)).toInt, mpdValid := true })) s

/-- The end of a restore (R495, R496, R497, R269): the keys of the image, registers, records, wheels, tile 0.00; cores with
RUN = 1 and DMODE = 0 start; the other tiles are reloaded in the background. -/
def State.finishRestore (s : State) : State :=
  let ws := s.configWords
  let s := s.applyRecords (· == 4) ws 0 ws.length
  let s := s.restoreRegs.loadNodes
  let s := s.moveWords Store.journal ckMillWord Store.millrace 0 196864
  let s := (s.loadTile 0).restoreMpd
  let w0 := max s.w0 ((s.peekWord Store.journal (ckHeadWord + 1)).toNat + 1)
  let s := { s with time := { s.time with w0 := w0 }, ptp := { s.ptp with secSeen := w0 / 1000000000, epochSeen := w0 / 2 ^ 32 },
                    pwr := { s.pwr with restored := true, reload := s.ckTiles.filter (· != 0) } }
  let s := [1, 2, 3].foldl State.restoreWheel s
  let s := (List.range 8).foldl State.restartCnv s
  let s := (List.range 8).foldl State.applyPreset s
  let s := s.checkTrips.kickDog
  let s := (List.range 256).foldl (fun s k => s.onlyIf (s.coreRun k && !s.coreDmode k) (·.startCore k)) s
  let s := if s.rb Reg.pwrRcfg 0 then { s with mill := { s.mill with skip := s.skippable } } else s
  s.endBoot

/-- The background reload takes the next tile; the last sets IRAW.RELOAD (R496). A dispatch held for it counts. -/
def State.tileReload (s : State) : State :=
  match s.pwr.reload with
  | t :: rest =>
    let s := s.loadTile t
    let s := s.bumpBy Reg.pwrRstlate (s.sent.filter (fun d => d.1 == t)).length
    let s := { s with pwr := { s.pwr with reload := rest } }
    s.onlyIf rest.isEmpty (·.raise Page.pwr 5)
  | [] => s

/-! ### Step 6 and what starts it -/

/-- Step 6 with the copies to try: the first that passes is loaded and the start ends; FAIL where none does (R476). -/
def State.bootFrom (s : State) (copies : List Nat) : State :=
  let s := (s.bootPhase 6).setb Reg.bootBsta 5 false
  let r := s.findCopy copies
  match r.1 with
  | none => r.2.setb Reg.bootBsta 5 true
  | some (k, bs) =>
    let s := r.2.loadContainer k bs
    if s.pwr.restoring then s.finishRestore else s.finishCold bs

/-- Step 6 by the start mode: a normal start tries A, B and the journal; the others wait for GO (R475). -/
def State.bootFind (s : State) : State :=
  if s.pwr.hostload || s.pwr.ftest then s.bootPhase 6 else s.bootFrom [0, 1, 2]

/-- PGOOD is high in phase 2, sampled from tPGS (1 ms) after PWREN: the straps are sampled, and steps 3 to 6 follow (R475, R476,
R512). -/
def State.pgoodHigh (s : State) (mode : Nat) : State :=
  if s.pwr.booting && s.pwr.pwren && s.rf Reg.bootBsta 0 4 == 2 && decide (s.pwr.onAt + usCycles 1000 ≤ s.time.fab) then
    (((s.takeStraps mode).checkConfig).recoverStores).bootFind
  else s

/-- A wake in HIBERNATE restores, or cold-starts with CKBAD where the configuration check fails or the checkpoint is not
valid (R494, R495). -/
def State.restore (s : State) (mode : Nat) : State :=
  if s.pwr.state != .hibernate || !s.pwr.woken then s
  else
    let good := s.configOk && s.ckValid
    if !good then s.deviceReset 0x180 false
    else
      let s := s.deviceReset 0x80 false
      let s := { s with pwr := { s.pwr with pwren := true, restoring := true } }
      (((s.takeStraps mode).checkConfig).recoverStores).bootFind

/-- A GO written during step 6 restarts it from the journal copy (R475, R476); at any other time it does nothing. -/
def State.takeGo (s : State) : State :=
  if !s.pwr.goWanted then s
  else
    let s := { s with pwr := { s.pwr with goWanted := false } }
    s.onlyIf (s.pwr.booting && s.rf Reg.bootBsta 0 4 == 6) (·.bootFrom [2])

/-- The soft reset of HPT that a host frame asked for takes effect (13, HPT page). -/
def State.applyCtl (s : State) : State :=
  match s.host.ctlWrite with
  | none => s
  | some v => State.writePgctl { s with host := { s.host with ctlWrite := none } } .hpt 0 Page.hpt v

/-- A write on the register bus by a requester, with the start that it may set off; outside a frame's commit a soft reset
of HPT follows at once. -/
def State.busWrite (s : State) (req addr : Nat) (v : Word) : State :=
  let s := (s.writeReg req addr v).takeGo
  s.onlyIf s.host.commit.isEmpty (·.applyCtl)

/-- The writes of several requesters to one register in one FAB cycle, with the start that one may set off. -/
def State.busWriteAll (s : State) (addr : Nat) (ws : List (Nat × Word)) : State :=
  let s := (s.writeAll addr ws).takeGo
  s.onlyIf s.host.commit.isEmpty (·.applyCtl)

end Sys2Proof.Machine
end

