-- ==== Sys2Proof/Machine/HostPort.lean ====
section
/-! DEFINITION. The host register port and the stream port (13 R456-R469): frames received whole, their tests and commit,
reads with read-ahead and wrap, the port reset, the stream sources. A frame is one command; how its bits travel in modes
1-1-1 and 8-8-8 is below the model (assumption 19). -/

namespace Sys2Proof.Machine

/-! ### CRC-8 (R462) -/

/-- One bit of the CRC. -/
def crc8Bit (c : Byte) : Byte := if c.getLsbD 7 then (c <<< 1) ^^^ 0x07#8 else c <<< 1

/-- One byte of the CRC. -/
def crc8Byte (c b : Byte) : Byte :=
  let c := c ^^^ b
  crc8Bit (crc8Bit (crc8Bit (crc8Bit (crc8Bit (crc8Bit (crc8Bit (crc8Bit c)))))))

/-- CRC-8 of bytes in the order sent (R462). -/
def crc8 (bs : List Byte) : Byte := bs.foldl crc8Byte 0

/-! ### Frames -/

/-- The port is powered: not in HIBERNATE, and in a start not before step 6 (R463, R475). -/
def State.hostLive (s : State) : Bool :=
  s.pwr.state != .hibernate && !(s.pwr.booting && decide (s.rf Reg.bootBsta 0 4 < 6))

/-- A frame is counted (HPT.FRMCNT). -/
def State.countFrame (s : State) : State := s.bump Reg.hptFrmcnt

/-- HSTA bit `b` is set. -/
def State.hostFlag (s : State) (b : Nat) : State := s.set1 Reg.hptHsta b

/-- CRCEN for a frame, `early` where its select was asserted before HCFG's last change (R456). -/
def State.frameCrc (s : State) (early : Bool) : Bool := bitOf (if early then s.host.cfgWas else s.rd Reg.hptHcfg) 7

/-- The bit of HSTA for a reason code (R466). -/
def reasonBit : Nat → Nat
  | 7 => 8
  | 8 => 9
  | c => c

/-- A write frame is refused (R466): REJCNT, the reason's bit, IRAW.REJ, LASTREJ; a bad CRC counts in CRCERR. -/
def State.refuseFrame (s : State) (addr code : Nat) : State :=
  let s := s.onlyIf (code == 3) (·.bump Reg.hptCrcerr)
  let s := ((s.bump Reg.hptRejcnt).hostFlag (reasonBit code)).raise Page.hpt 0
  s.wr Reg.hptLastrej (w32 (addr % 2 ^ 24 + code * 2 ^ 24))

/-- The words of a byte string, least significant byte first (R457). -/
def wordsOf (bs : List Byte) : List Word := (List.range (bs.length / 4)).map (fun i => w32 (ofBytes ((bs.drop (4 * i)).take 4)))

/-- The code of a write frame, 0 where every test passes, the first of the table where several fail (R466). `bs` are the
bytes after the command byte, `cut` tells a release within a byte. -/
def State.frameCode (s : State) (crcen : Bool) (cmd : Byte) (bs : List Byte) (cut : Bool) : Nat :=
  let m := bs.length - 3
  let n := m / 4
  if bs.length < 3 then 1
  else if cut || (if crcen then m % 4 != 1 else m % 4 != 0) then 2
  else if crcen && crc8 (cmd :: bs.take (3 + 4 * n)) != bs.getD (3 + 4 * n) 0 then 3
  else s.frameRefusal (cmd == 3) (ofBytes (bs.take 3)) n

/-- The words of a frame join the commit queue, the last of them marked (R467). -/
def commitWords (fixed : Bool) (addr : Nat) (ws : List Word) : List (Nat × Word × Bool) :=
  (List.range ws.length).map (fun i => (if fixed then addr else addr + 4 * i, ws.getD i 0, i + 1 == ws.length))

/-- A write frame at the release of HSEL0 (R466): committed, refused whole, or without data words. -/
def State.writeFrame (s : State) (early : Bool) (cmd : Byte) (bs : List Byte) (cut : Bool) : State :=
  if !s.hostLive then s
  else
    let s := s.countFrame
    let addr := ofBytes (bs.take 3)
    let code := s.frameCode (s.frameCrc early) cmd bs cut
    let m := bs.length - 3
    if 3 ≤ bs.length ∧ !cut ∧ (m = 0 ∨ (m = 1 ∧ s.frameCrc early)) then s
    else if code ≠ 0 then s.refuseFrame addr code
    else { s with host := { s.host with commit := s.host.commit ++ commitWords (cmd == 3) addr (wordsOf (bs.drop 3 |>.take (4 * (m / 4)))) } }

/-- One committed word takes effect (R467); the last of a frame lets a soft reset of HPT it asked for act. -/
def State.applyWord (s : State) : State :=
  match s.host.commit with
  | [] => s
  | (addr, v, last) :: rest =>
    let s := State.busWrite { s with host := { s.host with commit := rest } } hostReq addr v
    s.onlyIf last (·.applyCtl)

/-- A committed word is applied, one in a FAB cycle (R467). -/
def State.applyNext (s : State) : State :=
  if s.host.appliedAt = some s.time.fab ∨ s.host.commit.isEmpty then s
  else State.applyWord { s with host := { s.host with appliedAt := some s.time.fab } }

/-- Every word committed so far takes effect: what a read waits for (R465). -/
def State.applyAll (s : State) : Nat → State
  | 0 => s
  | n + 1 => s.applyWord.applyAll n

/-! ### Reads (R461, R463-R465) -/

/-- The registers the port never reads ahead into (R464). -/
def popRegister (addr : Nat) : Bool :=
  addr == Reg.alqPopl || addr == Reg.hopMvdone0 || addr == Reg.flcFdone0 || addr == Reg.jrnJdath

/-- One read of the port: 0 with PGOFF for a block unpowered or gated (R463). -/
def State.portRead (s : State) (addr : Nat) : Word × State :=
  match pageKind? (addr / 1024) with
  | some (cls, _) => if s.pageDark cls (addr / 1024) then (0, s.hostFlag 9) else s.readReg hostReq addr
  | none => s.readReg hostReq addr

/-- The address of word `i` of a read frame, and whether it lies past a wrap (R465). -/
def readAddr (fixed : Bool) (addr i : Nat) : Nat × Bool :=
  if fixed then (addr, false)
  else (addr / 1024 * 1024 + (addr % 1024 + 4 * i) % 1024, decide (1024 ≤ addr % 1024 + 4 * i))

/-- Word `i` of a read frame. -/
def State.readWordAt (s : State) (fixed : Bool) (addr i : Nat) : Word × State :=
  let a := readAddr fixed addr i
  let s := s.onlyIf a.2 (fun s => (s.hostFlag 0).raise Page.hpt 1)
  s.portRead a.1

/-- `n` words from word `i` on, in order. -/
def State.readFrom (s : State) (fixed : Bool) (addr : Nat) : Nat → Nat → List Word × State
  | _, 0 => ([], s)
  | i, n + 1 =>
    let r := s.readWordAt fixed addr i
    let rest := r.2.readFrom fixed addr (i + 1) n
    (r.1 :: rest.1, rest.2)

/-- The words read ahead and not sent: their side effects stand (R464); a register that pops stops the read-ahead. -/
def State.readAhead (s : State) (fixed : Bool) (addr : Nat) : Nat → Nat → State
  | _, 0 => s
  | i, n + 1 =>
    if popRegister (readAddr fixed addr i).1 then s
    else (s.readWordAt fixed addr i).2.readAhead fixed addr (i + 1) n

/-- The CRC after each unit of bytes, from the CRC so far (R462). -/
def crcChain (c : Byte) : List (List Byte) → List Byte
  | [] => []
  | u :: us => let d := u.foldl crc8Byte c; d :: crcChain d us

/-- Words sent to the host (HPT.RDWORDS), with CRCEN = 1 each followed by its CRC; `head` are the bytes of command and address
(R462). -/
def State.sendWords (s : State) (crcen : Bool) (head : List Byte) (ws : List Word) : State :=
  { s.bumpBy Reg.hptRdwords ws.length with
    rdata := ws, host := { s.host with crcs := if crcen then crcChain (crc8 head) (ws.map (fun w => bytesOf 4 w.toNat)) else [] } }

/-- Stream words sent, each followed by its CRC (R462, R468). -/
def State.sendStream (s : State) (crcen : Bool) (head : List Byte) (ds : List DWord) : State :=
  let ws := ds.flatMap (fun d => [lo32 d.toNat, hi32 d.toNat])
  { s.bumpBy Reg.hptRdwords ws.length with
    rdata := ws, host := { s.host with crcs := if crcen then crcChain (crc8 head) (ds.map (fun d => bytesOf 8 d.toNat)) else [] } }

/-- Command and address bytes of a frame. -/
def frameHead (cmd : Byte) (addr : Nat) : List Byte := cmd :: bytesOf 3 addr

/-- A read frame of `n` words sent whole with `ahead` more read ahead when it was released (R461, R464, R465): at most 8. -/
def State.readFrame (s : State) (early fixed : Bool) (head : List Byte) (addr n ahead : Nat) : State :=
  if !s.hostLive then s
  else
    let crcen := s.frameCrc early
    let s := s.countFrame
    let s := s.applyAll s.host.commit.length
    if addr % 4 ≠ 0 then (s.hostFlag 5).sendWords crcen head (List.replicate n 0)
    else
      let r := s.readFrom fixed addr 0 n
      let s := r.2.sendWords crcen head r.1
      s.readAhead fixed addr n (min ahead 8)

/-- RDSTA: HPT.HSTA, `n` times; the frame has no address (R459). -/
def State.readStatus (s : State) (early : Bool) (n : Nat) : State := s.readFrame early true [0x05] Reg.hptHsta n 0

/-- A read word was not ready within tRTO (R465): all ones are sent, the read completes and its value is discarded. -/
def State.readTimeout (s : State) (addr : Nat) : State :=
  if !s.hostLive then s
  else
    let s := s.applyAll s.host.commit.length
    (((s.portRead addr).2.hostFlag 11).raise Page.hpt 2).sendWords false [] [0xFFFFFFFF]

/-- A port reset (R460): HCFG returns to its reset value; a frame of which the words are still in the buffer is never a
command, so there is nothing to discard (assumption 19). -/
def State.portReset (s : State) : State :=
  if !s.hostLive then s
  else ((s.countFrame.setHcfg (regReset Reg.hptHcfg)).hostFlag 13).raise Page.hpt 3

/-- An invalid command (R459). -/
def State.badCommand (s : State) : State :=
  if !s.hostLive then s else (s.countFrame.hostFlag 7).raise Page.hpt 4

/-- Both selects asserted (R458). -/
def State.selectCollision (s : State) : State := s.hostFlag 10

/-! ### The stream port (R468) -/

/-- `n` 64-bit words of a stream source: `rest` are those still to come of bank `b`, which is drained with the last. -/
def State.streamWords (s : State) (k : Nat) (rest : List DWord) (b : Nat) : Nat → List DWord × State
  | 0 => ([], s)
  | n + 1 =>
    match rest with
    | w :: ws =>
      let s := s.onlyIf ws.isEmpty (·.drainBank k b)
      let r := s.streamWords k ws b n
      (w :: r.1, r.2)
    | [] =>
      match if s.streamDest k = 0 then s.closedBank k else none with
      | some c =>
        let x := s.readBank k c
        let s := x.2.onlyIf x.1.2.isEmpty (·.drainBank k c)
        let r := s.streamWords k x.1.2 c n
        (BitVec.ofNat 64 x.1.1 :: r.1, r.2)
      | none =>
        let s := s.onlyIf (s.streamDest k != 0) (·.hostFlag 12)
        let r := s.streamWords k [] 0 n
        (BitVec.ofNat 64 k :: r.1, r.2)

/-- The words of a frame are read after the FAB cycle of its command: every entry held is visible to their pops (R329, R461). -/
def State.laterCycle (s : State) : State := { s.landAlarms with alarmCyc := {} }

/-- `n` words of the alarm-queue source: `left` entries of the last count word are still to come. -/
def State.alarmWords (s : State) (left : Nat) : Nat → List DWord × State
  | 0 => ([], s)
  | n + 1 =>
    if left = 0 then
      let c := if s.alarmsOn then s.alarms.length else 0
      let r := s.alarmWords c n
      (BitVec.ofNat 64 c :: r.1, r.2)
    else
      let e := s.laterCycle.popAlarm
      let r := e.2.alarmWords (left - 1) n
      (e.1 :: r.1, r.2)

/-- An RD frame on HSEL1 of `n` stream words (R461, R468). -/
def State.streamFrame (s : State) (early : Bool) (addr n : Nat) : State :=
  if !s.hostLive then s
  else if addr / 32 ≠ 0 ∨ 4 < natField addr 2 3 then s.badCommand
  else
    let crcen := s.frameCrc early
    let s := s.countFrame
    if addr % 4 ≠ 0 then (s.hostFlag 5).sendStream crcen (frameHead 0x0B addr) (List.replicate n 0)
    else
      let r := if natField addr 2 3 = 4 then s.alarmWords 0 n else s.streamWords (natField addr 2 3) [] 0 n
      r.2.sendStream crcen (frameHead 0x0B addr) r.1

end Sys2Proof.Machine
end

