-- ==== Sys2Proof/Machine/Operands.lean ====
section
/-! DEFINITION. The operands of the Nimlor core (11 R354-R367, R380, R381, R386-R394): fields of an instruction word,
registers and pairs with their poison tags, special registers, the core's address map, the tile devices and the page
window. Core `k` of the part is core k mod 2 of tile k div 2. -/

namespace Sys2Proof.Machine

/-! ### Fields of an instruction word (R360) -/

/-- The 24 bits as a number. -/
def fOp (w : BitVec 24) : Nat := natField w.toNat 18 6
def fD (w : BitVec 24) : Nat := natField w.toNat 14 4
def fA (w : BitVec 24) : Nat := natField w.toNat 10 4
def fB (w : BitVec 24) : Nat := natField w.toNat 6 4
def fC (w : BitVec 24) : Nat := natField w.toNat 2 4
def fFn (w : BitVec 24) : Nat := natField w.toNat 0 6
/-- imm8 of format I, and of L8 and BI. -/
def fImmI (w : BitVec 24) : Byte := BitVec.ofNat 8 (natField w.toNat 2 8)
def fImmL (w : BitVec 24) : Byte := BitVec.ofNat 8 (natField w.toNat 6 8)
/-- Pairs of PR, PI and LP; of M; of BP; of JR, LO and WTU. -/
def fPd (w : BitVec 24) : Nat := natField w.toNat 15 3
def fPa (w : BitVec 24) : Nat := natField w.toNat 12 3
def fPb (w : BitVec 24) : Nat := natField w.toNat 9 3
def fPaM (w : BitVec 24) : Nat := natField w.toNat 11 3
def fPaB (w : BitVec 24) : Nat := natField w.toNat 15 3
def fPbB (w : BitVec 24) : Nat := natField w.toNat 12 3
def fPaLo (w : BitVec 24) : Nat := natField w.toNat 13 3
/-- imm16 of LIP: bit 15 is OP[0]. -/
def fImm16 (w : BitVec 24) : BitVec 16 := BitVec.ofNat 16 (natField w.toNat 18 1 * 2 ^ 15 + natField w.toNat 0 15)
def fSimm12 (w : BitVec 24) : Int := sintOf w.toNat 12
/-- Special register number of format S. -/
def fSr (w : BitVec 24) : Nat := natField w.toNat 6 8
/-- Mode, scale and x of format M. -/
def fMode (w : BitVec 24) : Nat := natField w.toNat 9 2
def fSc (w : BitVec 24) : Nat := natField w.toNat 7 2
def fX (w : BitVec 24) : Nat := natField w.toNat 0 7
/-- Registers of the branch formats: B and BI read a from [17:14], B reads b from [13:10]. -/
def fBrA (w : BitVec 24) : Nat := natField w.toNat 14 4
def fBrB (w : BitVec 24) : Nat := natField w.toNat 10 4
def fBit (w : BitVec 24) : Nat := natField w.toNat 11 3
/-- Loop level, and the n and k fields of SYS. -/
def fLevel (w : BitVec 24) : Nat := natField w.toNat 16 2

/-! ### Registers and pairs (R354) -/

/-- Bit `i` of a set of tags replaced. -/
def putTag (m i : Nat) (b : Bool) : Nat := m % 2 ^ i + b2n b * 2 ^ i + m / 2 ^ (i + 1) * 2 ^ (i + 1)

/-- Register gi. -/
def CoreSt.reg (c : CoreSt) (i : Nat) : Byte := c.g.getD i 0
/-- The poison tag of gi. -/
def CoreSt.tag (c : CoreSt) (i : Nat) : Bool := c.gTag.testBit i
/-- Register gi takes a value and a tag. -/
def CoreSt.setReg (c : CoreSt) (i : Nat) (v : Byte) (tag : Bool) : CoreSt :=
  { c with g := c.g.set i v, gTag := putTag c.gTag i tag }
/-- Pair pn: g(2n+1):g(2n). -/
def CoreSt.pair (c : CoreSt) (n : Nat) : BitVec 16 := c.reg (2 * n + 1) ++ c.reg (2 * n)
/-- Either register of a pair is tagged. -/
def CoreSt.pairTag (c : CoreSt) (n : Nat) : Bool := c.tag (2 * n) || c.tag (2 * n + 1)
/-- Pair pn takes a value and the tags of its low and high registers. -/
def CoreSt.setPair (c : CoreSt) (n : Nat) (v : BitVec 16) (lo hi : Bool) : CoreSt :=
  (c.setReg (2 * n) (v.truncate 8) lo).setReg (2 * n + 1) (BitVec.ofNat 8 (v.toNat / 256)) hi

/-! ### The multiplier's completion (R364, R370) -/

/-- One operation completes: MP and its tags (R364, R380). -/
def CoreSt.mulDone (c : CoreSt) (o : MulOp) : CoreSt :=
  let ua := o.a.toNat
  let ub := o.b.toNat
  let ss : Int := o.a.toInt * o.b.toInt
  let p : BitVec 32 := match o.fn with
    | 0 => BitVec.ofNat 32 (ua * ub)
    | 1 => BitVec.ofInt 32 ss
    | 2 => BitVec.ofInt 32 (o.a.toInt * ub)
    | 3 => c.mp + BitVec.ofNat 32 (ua * ub)
    | 4 => c.mp + BitVec.ofInt 32 ss
    | _ => 0
  let tag := o.tag || ((o.fn == 3 || o.fn == 4) && c.mpTag != 0)
  { c with mp := p, mpTag := if tag then 15 else 0 }

/-- Operations issued at least four core cycles ago have completed, in issue order (R370). -/
def CoreSt.retireMul (c : CoreSt) (now : Nat) : CoreSt :=
  let done := c.mulq.filter (fun o => decide (o.issued + 4 ≤ now))
  { done.foldl (fun c o => c.mulDone o) c with mulq := c.mulq.filter (fun o => !decide (o.issued + 4 ≤ now)) }

/-! ### Special registers (R355) -/

/-- Reserved numbers. -/
def srReserved (n : Nat) : Bool := n == 0x1F || n == 0x32 || n == 0x33 || decide (0x38 ≤ n)
/-- Numbers an MTS may not write. -/
def srReadOnly (n : Nat) : Bool := n ≤ 1 || decide (0x2C ≤ n)

/-- Byte `i` of a number. -/
def byteOf (x i : Nat) : Byte := BitVec.ofNat 8 (x / 2 ^ (8 * i))

/-- The loop registers of a level at byte `j` of its six: start, end, count. -/
def CoreSt.loopByte (c : CoreSt) (lv j : Nat) : Byte :=
  byteOf ((if j < 2 then c.lps else if j < 4 then c.lpe else c.lpc).getD lv 0) (j % 2)

/-- What an MFS of a number reads, and its tag: core `k`, `now` the core cycle. -/
def CoreSt.sr (c : CoreSt) (k n : Nat) : Byte × Bool :=
  if n = 0x00 then (0x10, false)
  else if n = 0x01 then (BitVec.ofNat 8 k, false)
  else if n = 0x02 then (BitVec.ofNat 8 c.abnk, false)
  else if n = 0x03 then (BitVec.ofNat 8 c.bbnk, false)
  else if n < 0x06 then (byteOf c.pwin (n - 0x04), false)
  else if n < 0x08 then (byteOf c.lk.toNat (n - 0x06), false)
  else if n < 0x0C then (byteOf c.mp.toNat (n - 0x08), c.mpTag.testBit (n - 0x08))
  else if n < 0x1E then (c.loopByte ((n - 0x0C) / 6) ((n - 0x0C) % 6), false)
  else if n = 0x1E then (BitVec.ofNat 8 c.lact, false)
  else if n < 0x28 then (byteOf c.wtg.toNat (n - 0x20), false)
  else if n = 0x28 then (BitVec.ofNat 8 c.evpend, false)
  else if n = 0x29 then (BitVec.ofNat 8 c.evmsk, false)
  else if n < 0x2C then (byteOf c.tvec.toNat (n - 0x2A), false)
  else if n < 0x2F then (byteOf c.tword.toNat (n - 0x2C), false)
  else if n = 0x2F then (BitVec.ofNat 8 (c.tcause + b2n c.intrap * 128), false)
  else if n < 0x32 then (byteOf c.tpc.toNat (n - 0x30), false)
  else (byteOf c.cycLatch (n - 0x34), false)

/-- An MFS of 0x34 latches CYC first. -/
def CoreSt.latchCyc (c : CoreSt) (now n : Nat) : CoreSt := if n = 0x34 then { c with cycLatch := now % 2 ^ 32 } else c

/-- The bits a value may hold: reserved bits lie outside a register's stated span (R355, assumption 20). -/
def srBits (n : Nat) : Nat :=
  if n = 0x02 then 0x0F else if n = 0x03 then 0x1F else if n = 0x05 then 0x3F else if n = 0x07 then 0x1F
  else if n = 0x1E then 0x07 else if n = 0x28 ∨ n = 0x29 then 0x1F else if n = 0x2B then 0x9F
  else if 0x0C ≤ n ∧ n < 0x1E ∧ ((n - 0x0C) % 6 = 1 ∨ (n - 0x0C) % 6 = 3) then 0x1F
  else 0xFF

/-- A byte is written into a special register. -/
def CoreSt.setSr (c : CoreSt) (n : Nat) (v : Byte) : CoreSt :=
  if n = 0x02 then { c with abnk := v.toNat }
  else if n = 0x03 then { c with bbnk := v.toNat }
  else if n < 0x06 then { c with pwin := putByte c.pwin (n - 0x04) v }
  else if n < 0x08 then { c with lk := BitVec.ofNat 16 (putByte c.lk.toNat (n - 0x06) v) }
  else if n < 0x0C then { c with mp := BitVec.ofNat 32 (putByte c.mp.toNat (n - 0x08) v), mpTag := putTag c.mpTag (n - 0x08) false }
  else if n < 0x1E then
    let lv := (n - 0x0C) / 6
    let j := (n - 0x0C) % 6
    if j < 2 then { c with lps := c.lps.set lv (putByte (c.lps.getD lv 0) j v) }
    else if j < 4 then { c with lpe := c.lpe.set lv (putByte (c.lpe.getD lv 0) (j - 2) v) }
    else { c with lpc := c.lpc.set lv (putByte (c.lpc.getD lv 0) (j - 4) v) }
  else if n = 0x1E then { c with lact := v.toNat }
  else if n < 0x28 then { c with wtg := BitVec.ofNat 64 (putByte c.wtg.toNat (n - 0x20) v) }
  else if n = 0x28 then { c with evpend := c.evpend &&& (255 - v.toNat) }
  else if n = 0x29 then { c with evmsk := v.toNat }
  else { c with tvec := BitVec.ofNat 16 (putByte c.tvec.toNat (n - 0x2A) v) }

/-- An MTS of these bytes traps RESOP: a reserved or RO number, or a value out of its register's span (R355). -/
def CoreSt.srRefuses (c : CoreSt) (bs : List (Nat × Byte)) : Bool :=
  let after := bs.foldl (fun c x => c.setSr x.1 x.2) c
  bs.any (fun x => srReserved x.1 || srReadOnly x.1 || x.2.toNat &&& (255 - srBits x.1) != 0)
    || decide (9 < after.abnk) || decide (19 < after.bbnk) || decide (0x3FFC < after.pwin)

/-- Bytes are written into special registers. One for MP gives way to a multiplier result of the same cycle (R371). -/
def CoreSt.writeSrs (c : CoreSt) (now : Nat) (bs : List (Nat × Byte)) : CoreSt :=
  let lands := c.mulq.any (fun o => o.issued + 3 == now)
  bs.foldl (fun c x => if lands && decide (0x08 ≤ x.1) && decide (x.1 < 0x0C) then c else c.setSr x.1 x.2) c

/-! ### The core's address map (R356) -/

/-- What a data address reaches: a store byte, a device byte by its offset, or a byte of a page register. -/
inductive Place where
  | mem (st : Store) (byte : Nat)
  | dev (o : Nat)
  | page (reg : Nat) (b : Nat)
  deriving DecidableEq, Repr

/-- The place of an address, modulo 2^16. -/
def CoreSt.place (c : CoreSt) (k a : Nat) : Place :=
  let a := a % 65536
  let t := k / 2
  if a < 0x8000 then .mem (Store.tile t 0) (c.abnk * 0x8000 + a)
  else if a < 0xC000 then .mem (Store.tile t 0) (c.bbnk * 0x4000 + (a - 0x8000))
  else if a < 0xE000 then .mem (Store.tile t (1 + k % 2)) (a - 0xC000)
  else if a < 0xF000 then .dev (a - 0xE000)
  else
    let o := a - 0xF000
    .page ((c.pwin + o / 1024) * 1024 + o % 1024 / 4 * 4) (o % 4)

/-- A watchpoint watches an address for loads (1) or stores (2) (R543, R544). -/
def CoreSt.watched (c : CoreSt) (kind a : Nat) : Bool :=
  [0, 1].any (fun i =>
    let w := (c.wpc.getD i 0).toNat
    let n := natField w 0 4
    (natField w 4 2 &&& kind != 0) && a % 65536 / 2 ^ n == (c.wpa.getD i 0).toNat / 2 ^ n)

/-- An access touches an address. -/
def State.touch (s : State) (k kind a : Nat) : State :=
  s.onlyIf ((s.core k).watched kind a) (·.onCore k (fun c => { c with wpHit := true }))

/-! ### The write buffer (R367) -/

/-- The newest byte that the buffer holds for a byte of a word, with its tag. -/
def CoreSt.buffered? (c : CoreSt) (st word b : Nat) : Option (Byte × Bool) :=
  c.wbuf.foldl (fun acc e =>
    if e.st == st && e.word == word then
      match e.bytes.find? (fun x => x.1 == b) with
      | some x => some x.2
      | none => acc
    else acc) none

/-- A byte enters the buffer: in the newest entry of the same instruction where `join` holds and the word is the same, else in
an entry of its own. -/
def CoreSt.bufferByte (c : CoreSt) (join : Bool) (st word b : Nat) (v : Byte) (tag : Bool) : CoreSt :=
  match c.wbuf.getLast? with
  | some e =>
    if join && e.st == st && e.word == word then { c with wbuf := c.wbuf.dropLast ++ [{ e with bytes := e.bytes ++ [(b, v, tag)] }] }
    else { c with wbuf := c.wbuf ++ [{ st := st, word := word, bytes := [(b, v, tag)] }] }
  | none => { c with wbuf := [{ st := st, word := word, bytes := [(b, v, tag)] }] }

/-! ### Tile devices (R357) -/

/-- Offsets of the tile devices. -/
abbrev Dev.ppslot : Nat := 0x00
abbrev Dev.pppt : Nat := 0x01
abbrev Dev.ppval : Nat := 0x04
abbrev Dev.ppqual : Nat := 0x08
abbrev Dev.ppflag : Nat := 0x09
abbrev Dev.ppstmp : Nat := 0x0A
abbrev Dev.ppcmd : Nat := 0x0E
abbrev Dev.ppsta : Nat := 0x0F
abbrev Dev.alpt : Nat := 0x20
abbrev Dev.alkind : Nat := 0x23
abbrev Dev.alpri : Nat := 0x24
abbrev Dev.alstmp : Nat := 0x25
abbrev Dev.alcmd : Nat := 0x29
abbrev Dev.aplen : Nat := 0x60
abbrev Dev.apstr : Nat := 0x61
abbrev Dev.apcmd : Nat := 0x62
abbrev Dev.apsta : Nat := 0x63
abbrev Dev.apbuf : Nat := 0x80
abbrev Dev.wz : Nat := 0xE0

/-- The bits of a RW device byte that a store sets; none elsewhere (R7, R357). -/
def devMask (o : Nat) : Nat :=
  if o = 0x00 then 0x3F else if o = 0x03 then 0x0F else if o = 0x09 then 0xFC else if o < 0x0E then 0xFF
  else if o < 0x20 then 0 else if o = 0x22 then 0x0F else if o = 0x24 then 0x8F else if o < 0x29 then 0xFF
  else if o = 0x60 then 0x7F else if o = 0x61 then 0x03 else if 0x80 ≤ o ∧ o < 0xC0 then 0xFF else 0

/-- Device bytes that take a tagged byte: PPVAL, PPQUAL, PPFLAG, PPSTMP and APBUF (R381). -/
def devTakesTag (o : Nat) : Bool := (decide (0x04 ≤ o) && decide (o < 0x0E)) || (decide (0x80 ≤ o) && decide (o < 0xC0))

/-- A device byte and its tag. -/
def CoreSt.devByte (c : CoreSt) (o : Nat) : Byte := Sparse.get (fun _ => 0) c.dev o
def CoreSt.devTagged (c : CoreSt) (o : Nat) : Bool := Sparse.get (fun _ => false) c.devTag o
/-- `n` device bytes from `o` on as a number, little-endian. -/
def CoreSt.devNat (c : CoreSt) (o n : Nat) : Nat := ofBytes ((List.range n).map (fun i => c.devByte (o + i)))
/-- The descriptor of the running dispatch (R384). -/
def CoreSt.descByte (c : CoreSt) (j : Nat) : Byte :=
  match c.disp with
  | none => 0
  | some r =>
    let d := r.d
    if j < 2 then byteOf d.lane j
    else if j = 2 then BitVec.ofNat 8 r.lidx
    else if j = 3 then BitVec.ofNat 8 (d.wheel + b2n d.ticket * 4 + b2n d.late * 8 + b2n d.held * 16 + b2n d.woke * 32)
    else if j < 12 then byteOf d.due (j - 4)
    else if j = 12 then BitVec.ofNat 8 d.cog
    else if j < 16 then 0
    else if j < 20 then byteOf d.sentAt (j - 16)
    else if j < 24 then byteOf r.start (j - 20)
    else 0

/-- A load of a device byte: TW0 and THIGHn latch at their byte 0 (R394). -/
def State.loadDev (s : State) (k o : Nat) : Byte × State :=
  if o = Dev.ppsta ∨ o = Dev.alsta ∨ o = Dev.apsta then ((s.core k).devByte o, s)
  else if 0x40 ≤ o ∧ o < 0x60 then ((s.core k).descByte (o - 0x40), s)
  else if 0xC0 ≤ o ∧ o < 0xE0 then
    let n := (o - 0xC0) / 8
    let s := s.onlyIf (o % 8 == 0) (·.onCore k (fun c => { c with twLatch := c.twLatch.set n (s.high n) }))
    (byteOf ((s.core k).twLatch.getD n 0) (o % 8), s)
  else if devMask o = 0 then (0, s)
  else ((s.core k).devByte o, s)

/-! ### The point port (R386-R390) -/

/-- PPSTA: status and POISONED (R389). -/
def State.setPpsta (s : State) (k st : Nat) (poisoned : Bool) : State :=
  s.onCore k (·.setDev Dev.ppsta (BitVec.ofNat 8 (st + b2n poisoned * 128)) false)

/-- Any of the device bytes from `o` on is tagged. -/
def CoreSt.devAnyTag (c : CoreSt) (o n : Nat) : Bool := (List.range n).any (fun i => c.devTagged (o + i))

/-- The commit the port's registers describe (R387, R390): a tagged PPSTMP counts only when a stamp is supplied
(assumption 20). -/
def CoreSt.commitReq (c : CoreSt) : CommitReq :=
  let stag := c.ppstmpSet && c.devAnyTag Dev.ppstmp 4
  let value := ofBytes ((List.range 4).map (fun i => if c.devTagged (Dev.ppval + i) then 0 else c.devByte (Dev.ppval + i)))
  { value := w32 value
    qual := c.devByte Dev.ppqual
    flag := if c.devTagged Dev.ppflag then 0 else c.devByte Dev.ppflag
    stamp := if c.ppstmpSet && !stag then some (w32 (c.devNat Dev.ppstmp 4)) else none
    tagged := c.devAnyTag Dev.ppval 6 || stag }

/-- A commit to slot `ss` of a lane: its status, and after an accepted one PPFLAG reads 0 and no stamp counts as
supplied (R387, R389). -/
def State.pointCommit (s : State) (k lane ss : Nat) : State :=
  let q := (s.core k).commitReq
  let due := match (s.core k).disp with
    | some r => if r.d.lane = lane then some r.d.due else none
    | none => none
  let r := s.commitRecord lane ss due q
  let s := r.2.setPpsta k r.1 (q.tagged && r.1 == 0)
  s.onlyIf (r.1 == 0) (·.onCore k (fun c => { c.setDev Dev.ppflag 0 false with ppstmpSet := false }))

/-- COMMIT: the slot PPSLOT of the running dispatch's lane, or NODISP. -/
def State.portCommit (s : State) (k : Nat) : State :=
  match (s.core k).disp with
  | none => s.setPpsta k 5 false
  | some r => s.pointCommit k r.d.lane (((s.core k).devByte Dev.ppslot).toNat % 64)

/-- OPEN (R388): an open before it closes; HELD and UNMAPPED refuse it; a gated seat's tile wakes first (R353). -/
def State.portOpen (s : State) (k : Nat) : State :=
  let p := (s.core k).devNat Dev.pppt 3 % 2 ^ 20
  let s := s.onCore k (fun c => { c with ppoint := none })
  if !mapValid (s.mapEntry (p / 64)) then s.setPpsta k 4 false
  else if s.laneHeld (p / 64) then s.setPpsta k 2 false
  else
    let s := s.wakeServed (mapTile (s.mapEntry (p / 64)))
    (s.onCore k (fun c => { c with ppoint := some { point := p, accepted := s.coreCyc k, lapsed := false, fab := s.time.fab } })).setPpsta
      k 0 false

/-- CMTPT: the opened point, NOOPEN or LAPSED; the open stands until CLOSE, a further OPEN, the end of the dispatch or its
lapse (R385, R388). -/
def State.portCmtpt (s : State) (k : Nat) : State :=
  match (s.core k).ppoint with
  | none => s.setPpsta k 6 false
  | some o =>
    if o.lapsed || decide (o.accepted + 4096 ≤ s.coreCyc k) then
      (s.onCore k (fun c => { c with ppoint := some { o with lapsed := true } })).setPpsta k 7 false
    else if !mapValid (s.mapEntry (o.point / 64)) then s.setPpsta k 4 false
    else s.pointCommit k (o.point / 64) (o.point % 64)

/-- CLOSE abandons the open. -/
def State.portClose (s : State) (k : Nat) : State := (s.onCore k (fun c => { c with ppoint := none })).setPpsta k 0 false

/-- An open that was accepted 4,096 core cycles ago lapses (R388). -/
def State.lapse (s : State) (k : Nat) : State :=
  match (s.core k).ppoint with
  | none => s
  | some o => s.onlyIf (decide (o.accepted + 4096 ≤ s.coreCyc k))
      (·.onCore k (fun c => { c with ppoint := some { o with lapsed := true } }))

/-! ### Appends, alarms, word zero (R392-R394) -/

/-- An APCMD write (R392). -/
def State.coreAppend (s : State) (k : Nat) : State :=
  let c := s.core k
  let n := c.devNat Dev.aplen 1
  let bytes : List (Byte × Bool) := (List.range n).map (fun i => (c.devByte (Dev.apbuf + i), c.devTagged (Dev.apbuf + i)))
  let r := s.append (c.devNat Dev.apstr 1) bytes
  r.2.onCore k (·.setDev Dev.apsta (BitVec.ofNat 8 r.1) false)

/-- An ALCMD post (R393, R330). Its stamp counts as supplied for this post only. -/
def State.coreAlarm (s : State) (k : Nat) : State :=
  let c := s.core k
  let p := c.devNat Dev.alpt 3 % 2 ^ 20
  let pri := (c.devByte Dev.alpri).toNat
  let stamp : Word := if c.alstmpSet then w32 (c.devNat Dev.alstmp 4) else s.stampNow
  let s := s.onCore k (fun c => { c with alstmpSet := false })
  let e := s.mapEntry (p / 64)
  let here := mapValid e && mapTile e == k / 2
  let slot := s.slotByte (mapTile e) (mapLane e) (p % 64) 2
  if here && !slot.testBit 4 then (s.bump Reg.alqDiscnt).setAlsta k 1
  else if !here && pri.testBit 7 then s.setAlsta k 3
  else
    let prio := if pri.testBit 7 then slot % 16 else pri % 16
    s.noteAlarm k (alarmEntry prio p (c.devByte Dev.alkind).toNat stamp) (some k)

/-- A store to the high byte of WZ zeroes the word that holds the address formed, outside devices and page window
(R394). -/
def State.wordZero (s : State) (k : Nat) (hi : Byte) : State :=
  let c := s.core k
  match c.place k (c.wzlo + hi.toNat * 256) with
  | .mem st b => s.writeWord st (b / 8) 0
  | _ => s

/-- A store to a device byte, behind the core's earlier stores (R357, R367, R386, R392-R394). -/
def State.storeDev (s : State) (k o : Nat) (v : Byte) (tag : Bool) : State :=
  let s := s.drainStores k
  if o = Dev.ppcmd then
    (match v.toNat with
     | 1 => s.portCommit k
     | 2 => s.portOpen k
     | 3 => s.portCmtpt k
     | 4 => s.portClose k
     | _ => s)
  else if o = Dev.alcmd then s.onlyIf (v.getLsbD 0) (·.coreAlarm k)
  else if o = Dev.apcmd then s.onlyIf (v.getLsbD 0) (·.coreAppend k)
  else if o = Dev.wz then s.onCore k (fun c => { c with wzlo := v.toNat })
  else if o = Dev.wz + 1 then s.wordZero k v
  else if devMask o = 0 then s
  else
    s.onCore k (fun c =>
      let c := c.setDev o (v &&& BitVec.ofNat 8 (devMask o)) tag
      { c with ppstmpSet := c.ppstmpSet || (decide (0x0A ≤ o) && decide (o < 0x0E)),
               alstmpSet := c.alstmpSet || (decide (0x25 ≤ o) && decide (o < 0x29)) })

/-! ### Memory and the page window (R356, R358, R359, R380, R381) -/

/-- The core's oldest posted page write takes effect (R17, R359). -/
def State.ackPosted (s : State) (k : Nat) : State :=
  match (s.core k).posted with
  | [] => s
  | (a, v) :: rest => (s.onCore k (fun c => { c with posted := rest })).busWrite k a v

/-- Every posted page write of the core takes effect, in order. -/
def State.ackAll (s : State) (k : Nat) : Nat → State
  | 0 => s
  | n + 1 => (s.ackPosted k).ackAll k n

/-- A load of a byte of a page register (R358, R359). -/
def State.loadPage (s : State) (k reg b : Nat) : (Byte × Bool) × State :=
  let s := s.ackAll k (s.core k).posted.length
  if b = 0 then
    let tag := s.regPoison k reg
    let r := s.readReg k reg
    ((r.1.truncate 8, tag), r.2.onCore k (fun c => { c with shadow := some (reg, r.1), shadowTag := tag }))
  else
    match (s.core k).shadow with
    | some (a, v) => ((if a = reg then byteOf v.toNat b else 0, a == reg && (s.core k).shadowTag), s)
    | none => ((0, false), s)

/-- A store of a byte of a page register: staged, or with byte 3 issued (R358). -/
def State.storePageByte (s : State) (k reg b : Nat) (v : Byte) : State :=
  s.onCore k (fun c =>
    let old : Word := match c.staged with
      | some (a, x) => if a = reg then x else 0
      | none => 0
    let x := putField old (8 * b) 8 v.toNat
    if b = 3 then { c with staged := none, posted := c.posted ++ [(reg, x)] } else { c with staged := some (reg, x) })

/-- A load of one byte: its value and tag, from the write buffer where it holds the byte (R367, R380). A poisoned word's data
bits are 0 (R399). -/
def State.loadByte (s : State) (k a : Nat) : (Byte × Bool) × State :=
  let s := s.touch k 1 a
  match (s.core k).place k a with
  | .mem st b =>
    match (s.core k).buffered? st (b / 8) (b % 8) with
    | some x => (x, s)
    | none =>
      let r := s.readWord st (b / 8)
      match r.1 with
      | some d => ((byteOf d.toNat (b % 8), false), r.2)
      | none => ((0, true), r.2)
  | .dev o =>
    let r := s.loadDev k o
    ((r.1, false), r.2)
  | .page reg b => s.loadPage k reg b

/-- A store of one byte: into the write buffer (R367), a device, or the page window. `join`: a byte of the same instruction
went before. -/
def State.storeByte (s : State) (k : Nat) (join : Bool) (a : Nat) (v : Byte) (tag : Bool) : State :=
  let s := s.touch k 2 a
  match (s.core k).place k a with
  | .mem st b => s.onCore k (·.bufferByte join st (b / 8) (b % 8) v tag)
  | .dev o => s.storeDev k o v tag
  | .page reg b => (s.drainStores k).storePageByte k reg b v

/-- The bytes of one store instruction, in order. -/
def State.storeBytes (s : State) (k : Nat) : List (Nat × Byte × Bool) → State
  | [] => s
  | [x] => s.storeByte k false x.1 x.2.1 x.2.2
  | x :: y :: _ => (s.storeByte k false x.1 x.2.1 x.2.2).storeByte k true y.1 y.2.1 y.2.2

/-- A store of a tagged byte traps POISON: to the page window, or to a device byte that takes no tag (R381). -/
def CoreSt.storeTraps (c : CoreSt) (k a : Nat) (tag : Bool) : Bool :=
  tag && match c.place k a with
    | .mem _ _ => false
    | .dev o => !devTakesTag o
    | .page _ _ => true

/-- The effective address of format M, and the value its base pair takes (R366). -/
def CoreSt.effAddr (c : CoreSt) (w : BitVec 24) : Nat × Option (BitVec 16) :=
  let p := (c.pair (fPaM w)).toNat
  let st := 2 ^ fSc w
  match fMode w with
  | 0 => ((p + (c.reg (fX w % 16)).toNat * st) % 65536, none)
  | 1 => ((p + fX w % 64 * st) % 65536, none)
  | 2 => (p, some (BitVec.ofNat 16 (p + st)))
  | _ => ((p + 65536 - st) % 65536, some (BitVec.ofNat 16 (p + 65536 - st)))

/-- The address pair or the index register is tagged (R381). -/
def CoreSt.addrTagged (c : CoreSt) (w : BitVec 24) : Bool :=
  c.pairTag (fPaM w) || (fMode w == 0 && c.tag (fX w % 16))

end Sys2Proof.Machine
end

