-- ==== Sys2Proof/Machine/Flags.lean ====
section
/-! DEFINITION. The results of the Nimlor core's arithmetic (11 R361-R364, R368, R369). The core has no flags: carries and
borrows are results, comparisons are branches, and the one bit of state beside a value is its poison tag (R380). -/

namespace Sys2Proof.Machine

/-! ### ALU (R362) -/

/-- The ALU functions of OP 0x01 by fn: operands `a`, `b` and, for the immediate shifts, the count `n`. -/
inductive AluFn where
  | add | sub | and | or | xor | mov | not | neg | shl | shr | sar | rol | shli | shri | sari | roli
  | minu | maxu | mins | maxs | sltu | slt
  deriving DecidableEq, Repr

/-- A byte from a truth value. -/
def byteIf (b : Bool) : Byte := if b then 1 else 0

/-- The result of an ALU function. -/
def aluResult (f : AluFn) (a b : Byte) (n : Nat) : Byte :=
  match f with
  | .add => a + b
  | .sub => a - b
  | .and => a &&& b
  | .or => a ||| b
  | .xor => a ^^^ b
  | .mov => a
  | .not => ~~~ a
  | .neg => -a
  | .shl => a <<< (b.toNat % 8)
  | .shr => a >>> (b.toNat % 8)
  | .sar => a.sshiftRight (b.toNat % 8)
  | .rol => a.rotateLeft (b.toNat % 8)
  | .shli => a <<< n
  | .shri => a >>> n
  | .sari => a.sshiftRight n
  | .roli => a.rotateLeft n
  | .minu => if a.ult b then a else b
  | .maxu => if a.ult b then b else a
  | .mins => if a.slt b then a else b
  | .maxs => if a.slt b then b else a
  | .sltu => byteIf (a.ult b)
  | .slt => byteIf (a.slt b)

/-- The function reads its second register operand. -/
def aluReadsB (f : AluFn) : Bool :=
  match f with
  | .mov | .not | .neg | .shli | .shri | .sari | .roli => false
  | _ => true

/-! ### Carries and borrows (R368) -/

/-- ADDC: the sum byte and the carry. -/
def addcResult (a b c : Byte) : Byte × Byte :=
  let t := a.toNat + b.toNat + c.toNat % 2
  (BitVec.ofNat 8 t, BitVec.ofNat 8 (t / 256))

/-- SUBC: the difference byte and the borrow. -/
def subcResult (a b c : Byte) : Byte × Byte :=
  let d := b.toNat + c.toNat % 2
  (BitVec.ofNat 8 (a.toNat + 512 - d), byteIf (decide (a.toNat < d)))

/-! ### Pairs (R363) -/

/-- The PALU functions by fn. -/
inductive PairFn where
  | addp | subp | movp | shlp | shrp | sarp | sxp | zxp
  deriving DecidableEq, Repr

/-- The result of a PALU function. -/
def pairResult (f : PairFn) (a b : BitVec 16) : BitVec 16 :=
  let n := b.toNat % 16
  match f with
  | .addp => a + b
  | .subp => a - b
  | .movp => a
  | .shlp => a <<< n
  | .shrp => a >>> n
  | .sarp => a.sshiftRight n
  | .sxp => (a.truncate 8 : BitVec 8).signExtend 16
  | .zxp => (a.truncate 8 : BitVec 8).zeroExtend 16

/-- The tags of a PALU result, low and high (R380): MOVP copies them; any other result is tagged if a register it reads is:
`al`, `ah` of the first pair, `bl`, `bh` of the second. -/
def pairTags (f : PairFn) (al ah bl bh : Bool) : Bool × Bool :=
  match f with
  | .movp => (al, ah)
  | .addp | .subp => let t := al || ah || bl || bh; (t, t)
  | .shlp | .shrp | .sarp => let t := al || ah || bl; (t, t)
  | .sxp | .zxp => (al, al)

/-! ### Comparisons of the branches (R369) -/

/-- The comparisons of the register branches. -/
inductive Cmp where
  | eq | ne | lt | ge | ltu | geu
  deriving DecidableEq, Repr

/-- Whether a comparison holds. -/
def cmpHolds {w : Nat} (f : Cmp) (a b : BitVec w) : Bool :=
  match f with
  | .eq => a == b
  | .ne => a != b
  | .lt => a.slt b
  | .ge => !a.slt b
  | .ltu => a.ult b
  | .geu => !a.ult b

end Sys2Proof.Machine
end

