-- ==== Sys2Proof/Machine/Nimlor.lean ====
section
/-! DEFINITION. The instructions of the Nimlor core (11 R360-R381): the decoder of a 24-bit word, the issue of the word at a
core's PC, hardware loops, waits, traps, and one operation for each shape of instruction. A command names a core and an
instruction: it happens when the word at that core's PC is that instruction and the core may issue it (assumption 21). -/

namespace Sys2Proof.Machine

/-! ### Decoding (R360-R365) -/

/-- The instructions; operands stay in the word. -/
inductive Op where
  | alu (f : AluFn) | addc | subc | addi | andi | ori | xori | li | mfs | mts | mfsp | mtsp
  | palu (f : PairFn) | lip | addpi | mulg (fn : Nat) | ld | st | ldp | stp
  | br (f : Cmp) | bri (f : Cmp) | brp (f : Cmp) | bbc | bbs | jmp | jal | jr
  | nop | fin | ret | rtt | rtr | lclr | bkpt | trap | loop | loopi | ewait | wtu | epost (mode : Nat)
  deriving DecidableEq, Repr

/-- ALU functions by fn (R362). -/
def aluOp (fn : Nat) : Option AluFn :=
  [AluFn.add, .sub, .and, .or, .xor, .mov, .not, .neg, .shl, .shr, .sar, .rol, .shli, .shri, .sari, .roli,
   .minu, .maxu, .mins, .maxs, .sltu, .slt][fn]?

/-- PALU functions by fn (R363). -/
def pairOp (fn : Nat) : Option PairFn :=
  [PairFn.addp, .subp, .movp, .shlp, .shrp, .sarp, .sxp, .zxp][fn]?

/-- `o` where a field shown as 0 is 0. -/
def zeroed (w : BitVec 24) (lo n : Nat) (o : Option Op) : Option Op := if natField w.toNat lo n = 0 then o else none

/-- The x field of a mode (R366). -/
def modeOk (w : BitVec 24) : Bool :=
  match fMode w with
  | 0 => natField w.toNat 4 3 == 0
  | 1 => natField w.toNat 6 1 == 0
  | _ => fX w == 0

/-- SYS by fn (R365): n and k are 0 but where the function uses them. -/
def sysOp (w : BitVec 24) : Option Op :=
  match fFn w with
  | 0 => zeroed w 6 12 (some .nop)
  | 1 => zeroed w 6 12 (some .fin)
  | 2 => zeroed w 6 12 (some .ret)
  | 3 => zeroed w 6 12 (some .rtt)
  | 4 => zeroed w 6 12 (some .rtr)
  | 5 => if fLevel w = 3 then none else zeroed w 6 10 (some .lclr)
  | 6 => zeroed w 6 12 (some .bkpt)
  | 7 => zeroed w 16 2 (some .trap)
  | _ => none

/-- The instruction of a word; none for a reserved OP, fn, mode or loop level, or a 1 in a field shown as 0 (R360). -/
def opOf (w : BitVec 24) : Option Op :=
  match fOp w with
  | 0x01 =>
    match aluOp (fFn w) with
    | none => none
    | some f =>
      match f with
      | .mov | .not | .neg => zeroed w 6 4 (some (.alu f))
      | .shli | .shri | .sari | .roli => zeroed w 9 1 (some (.alu f))
      | _ => some (.alu f)
  | 0x02 => zeroed w 0 2 (some .addc)
  | 0x03 => zeroed w 0 2 (some .subc)
  | 0x04 => zeroed w 0 2 (some .addi)
  | 0x05 => zeroed w 0 2 (some .andi)
  | 0x06 => zeroed w 0 2 (some .ori)
  | 0x07 => zeroed w 0 2 (some .xori)
  | 0x08 => zeroed w 0 6 (some .li)
  | 0x09 => zeroed w 0 6 (some .mfs)
  | 0x0A => zeroed w 0 6 (some .mts)
  | 0x0B => zeroed w 14 1 (zeroed w 0 6 (some .mfsp))
  | 0x0C => zeroed w 14 1 (zeroed w 0 6 (some .mtsp))
  | 0x0D =>
    match pairOp (natField w.toNat 0 4) with
    | none => none
    | some f =>
      match f with
      | .movp | .sxp | .zxp => zeroed w 4 8 (some (.palu f))
      | _ => zeroed w 4 5 (some (.palu f))
  | 0x0E => some .lip
  | 0x0F => some .lip
  | 0x10 => some .addpi
  | 0x11 =>
    let fn := natField w.toNat 0 4
    if 5 < fn then none
    else zeroed w 15 3 (zeroed w 4 5 (if fn = 5 then zeroed w 9 6 (some (.mulg 5)) else some (.mulg fn)))
  | 0x12 => if modeOk w then some .ld else none
  | 0x13 => if modeOk w then some .st else none
  | 0x14 => if modeOk w then zeroed w 14 1 (some .ldp) else none
  | 0x15 => if modeOk w then zeroed w 14 1 (some .stp) else none
  | 0x18 => some (.br .eq)
  | 0x19 => some (.br .ne)
  | 0x1A => some (.br .lt)
  | 0x1B => some (.br .ge)
  | 0x1C => some (.br .ltu)
  | 0x1D => some (.br .geu)
  | 0x1E => some (.bri .eq)
  | 0x1F => some (.bri .ne)
  | 0x20 => some (.bri .ltu)
  | 0x21 => some (.bri .geu)
  | 0x22 => some (.brp .eq)
  | 0x23 => some (.brp .ne)
  | 0x24 => some (.brp .ltu)
  | 0x25 => some (.brp .geu)
  | 0x26 => some .bbc
  | 0x27 => some .bbs
  | 0x28 => zeroed w 13 5 (some .jmp)
  | 0x29 => zeroed w 13 5 (some .jal)
  | 0x2A => zeroed w 0 14 (some .jr)
  | 0x2B => sysOp w
  | 0x2C => if fLevel w = 3 then none else some .loop
  | 0x2D => if fLevel w = 3 then none else some .loopi
  | 0x2E => zeroed w 0 14 (some .ewait)
  | 0x2F => zeroed w 0 9 (some .wtu)
  | 0x30 => if fLevel w = 3 then none else zeroed w 0 4 (some (.epost (fLevel w)))
  | _ => none

/-! ### Issue (R360, R378, R385, R544) -/

/-- An enabled breakpoint stands at PC and does not pass this instruction (R544). -/
def CoreSt.atBreak (c : CoreSt) : Bool :=
  !c.bpSkip && c.bp.any (fun b => b.getLsbD 15 && b.toNat % 8192 == c.pc.toNat)

/-- Something halts the core at this boundary: HALT, HALTALL, a STEP done, a watchpoint (R540, R544). -/
def CoreSt.stopDue (c : CoreSt) : Bool := c.haltReq &&& 11 != 0 || c.wpHit

/-- DMAX of a core. -/
def State.dmax (s : State) (k : Nat) : Nat :=
  if k % 2 = 0 then s.rf (Reg.tileDmax0 (k / 2)) 0 16 else s.rf (Reg.tileDmax1 (k / 2)) 0 16

/-- The dispatch's busy cycles exceed DMAX × 16 and it has taken no BUDGET trap (R385). -/
def State.budgetDue (s : State) (k : Nat) : Bool :=
  match (s.core k).disp with
  | none => false
  | some r => !r.budgetTaken && s.dmax k != 0 && decide (s.dmax k * 16 < (s.core k).busy)

/-- The core runs: it does not wait, is not halted, and its tile is powered (R353, R488). -/
def State.coreActive (s : State) (k : Nat) : Bool :=
  let c := s.core k
  c.running && !c.halted && !c.fault && s.pwr.state == .run && s.tileAwake (k / 2)

/-- The core may issue its next instruction. -/
def State.mayIssue (s : State) (k : Nat) : Bool :=
  let c := s.core k
  s.coreActive k && c.wait == .none && !c.stopDue && !c.atBreak && !s.budgetDue k

/-- The loop test after an instruction completes at its PC; `thru` is where execution goes where no level loops back
(R373). -/
def CoreSt.complete (c : CoreSt) (thru : BitVec 13) : CoreSt :=
  let a := c.pc.toNat
  ([2, 1, 0].foldl (fun (x : CoreSt × Bool) n =>
    let y := x.1
    if x.2 || !(y.lact.testBit n && y.lpe.getD n 0 == a) then x
    else if 1 < y.lpc.getD n 0 then
      ({ y with lpc := y.lpc.set n (y.lpc.getD n 0 - 1), pc := BitVec.ofNat 13 (y.lps.getD n 0) }, true)
    else ({ y with lpc := y.lpc.set n 0, lact := putTag y.lact n false }, false)) ({ c with pc := thru }, false)).1

/-- The core goes on at the next instruction. -/
def State.nextInstr (s : State) (k : Nat) : State := s.onCore k (fun c => c.complete (c.pc + 1))

/-- The core transfers control; loop state is unchanged (R374). -/
def State.jumpTo (s : State) (k : Nat) (target : BitVec 13) : State := s.onCore k (fun c => { c with pc := target })

/-- The end of an issued instruction: a breakpoint stops the next again, and a STEP is done (R541, R544). -/
def State.endIssue (s : State) (k : Nat) : State :=
  s.onCore k (fun c =>
    if c.halted then c
    else { c with bpSkip := false, atBkpt := false,
                  haltReq := if c.haltReq.testBit 2 then c.haltReq - 4 + 8 else c.haltReq })

/-- The core issues the word at its PC where it is instruction `op`: `f` is what it does. A word that cannot be read
faults the core (R379); any other word is no event of this command. -/
def State.issue (s : State) (k : Nat) (op : Op) (f : State → BitVec 24 → State) : State :=
  if !s.mayIssue k then s
  else
    let t := s.onCore k (·.retireMul (s.coreCyc k))
    let r := t.fetchWord k (t.core k).pc
    match r.1 with
    | none => r.2.faultCore k
    | some w => if opOf w = some op then (f r.2 w).endIssue k else s

/-- The core issues a word that is no instruction: cause RESOP (R360, R378). -/
def State.issueReserved (s : State) (k : Nat) : State :=
  if !s.mayIssue k then s
  else
    let t := s.onCore k (·.retireMul (s.coreCyc k))
    let r := t.fetchWord k (t.core k).pc
    match r.1 with
    | none => r.2.faultCore k
    | some w => if opOf w = none then (r.2.trap k 1 w).endIssue k else s

/-- A trap where a condition holds: RESOP (1) goes before POISON (2) (assumption 21). -/
def State.orTrap (s : State) (k : Nat) (w : BitVec 24) (resop poison : Bool) (f : State → State) : State :=
  if resop then s.trap k 1 w else if poison then s.trap k 2 w else f s

/-! ### Registers -/

/-- g(d) takes a value and a tag, and the core goes on. -/
def State.giveReg (s : State) (k d : Nat) (v : Byte) (tag : Bool) : State :=
  (s.onCore k (·.setReg d v tag)).nextInstr k

/-- A pair takes a value and its tags, and the core goes on. -/
def State.givePair (s : State) (k n : Nat) (v : BitVec 16) (lo hi : Bool) : State :=
  (s.onCore k (·.setPair n v lo hi)).nextInstr k

/-- An ALU instruction (R362, R380). -/
def State.issueAlu (s : State) (k : Nat) (f : AluFn) : State :=
  s.issue k (.alu f) (fun s w =>
    let c := s.core k
    s.giveReg k (fD w) (aluResult f (c.reg (fA w)) (c.reg (fB w)) (fB w)) (c.tag (fA w) || (aluReadsB f && c.tag (fB w))))

/-- ADDC or SUBC (R368): an odd d traps. All operands are read before either result is written. -/
def State.issueCarry (s : State) (k : Nat) (op : Op) (f : Byte → Byte → Byte → Byte × Byte) : State :=
  s.issue k op (fun s w =>
    s.orTrap k w (fD w % 2 == 1) false (fun s =>
      let c := s.core k
      let r := f (c.reg (fA w)) (c.reg (fB w)) (c.reg (fC w))
      let tag := c.tag (fA w) || c.tag (fB w) || c.tag (fC w)
      s.givePair k (fD w / 2) (r.2 ++ r.1) tag tag))

/-- ADDI, ANDI, ORI or XORI. -/
def State.issueImm (s : State) (k : Nat) (op : Op) (f : Byte → Byte → Byte) : State :=
  s.issue k op (fun s w => s.giveReg k (fD w) (f ((s.core k).reg (fA w)) (fImmI w)) ((s.core k).tag (fA w)))

/-- A PALU instruction (R363, R380). -/
def State.issuePair (s : State) (k : Nat) (f : PairFn) : State :=
  s.issue k (.palu f) (fun s w =>
    let c := s.core k
    let t := pairTags f (c.tag (2 * fPa w)) (c.tag (2 * fPa w + 1)) (c.tag (2 * fPb w)) (c.tag (2 * fPb w + 1))
    s.givePair k (fPd w) (pairResult f (c.pair (fPa w)) (c.pair (fPb w))) t.1 t.2)

/-- A MULG operation starts (R364, R370). -/
def State.issueMul (s : State) (k fn : Nat) : State :=
  s.issue k (.mulg fn) (fun s w =>
    let c := s.core k
    let o : MulOp := { fn := fn, a := c.pair (fPa w), b := c.pair (fPb w),
                       tag := fn != 5 && (c.pairTag (fPa w) || c.pairTag (fPb w)), issued := s.coreCyc k }
    (s.onCore k (fun c => { c with mulq := c.mulq ++ [o] })).nextInstr k)

/-! ### Special registers -/

/-- What MFS of a number does: CYC is latched, the byte and its tag are returned. -/
def State.mfs (s : State) (k n : Nat) : (Byte × Bool) × State :=
  let s := s.onCore k (·.latchCyc (s.coreCyc k) n)
  ((s.core k).sr k n, s)

/-- MTS and MTSP: the bytes, refused with RESOP, trapped with POISON, or written (R355, R371, R381). -/
def State.mts (s : State) (k : Nat) (w : BitVec 24) (bs : List (Nat × Byte)) (tag : Bool) : State :=
  s.orTrap k w ((s.core k).srRefuses bs) tag (fun s => (s.onCore k (·.writeSrs (s.coreCyc k) bs)).nextInstr k)

/-- The two bytes of pair MTSP. -/
def pairBytes (n : Nat) (v : BitVec 16) : List (Nat × Byte) := [(n, v.truncate 8), (n + 1, BitVec.ofNat 8 (v.toNat / 256))]

/-! ### Loads and stores (R361, R366, R367) -/

/-- The base pair takes the value that its mode gives it. -/
def State.stepBase (s : State) (k : Nat) (w : BitVec 24) (v : Option (BitVec 16)) : State :=
  match v with
  | none => s
  | some p => s.onCore k (·.setPair (fPaM w) p false false)

/-- LD. The loaded value wins where the destination is part of the base pair (R366). -/
def State.issueLd (s : State) (k : Nat) : State :=
  s.issue k .ld (fun s w =>
    let c := s.core k
    s.orTrap k w false (c.addrTagged w) (fun s =>
      let ea := c.effAddr w
      let r := s.loadByte k ea.1
      (r.2.stepBase k w ea.2).giveReg k (fD w) r.1.1 r.1.2))

/-- LDP: the low byte at the effective address. -/
def State.issueLdp (s : State) (k : Nat) : State :=
  s.issue k .ldp (fun s w =>
    let c := s.core k
    s.orTrap k w false (c.addrTagged w) (fun s =>
      let ea := c.effAddr w
      let lo := s.loadByte k ea.1
      let hi := lo.2.loadByte k ((ea.1 + 1) % 65536)
      (hi.2.stepBase k w ea.2).givePair k (fPd w) (hi.1.1 ++ lo.1.1) lo.1.2 hi.1.2))

/-- A store with the step of its base pair: in mode 3 before the access, so that a byte of the pair is stored as stepped,
else after it (R366, assumption 20). -/
def State.storeStep (s : State) (k : Nat) (w : BitVec 24) (v : Option (BitVec 16)) (f : State → State) : State :=
  if fMode w = 3 then f (s.stepBase k w v) else (f s).stepBase k w v

/-- The bytes that a store's word at PC writes take more entries of the write buffer than are free, and the store stalls
until one drains (R367): an STP over two words needs two. -/
def State.storeStalls (s : State) (k : Nat) (pair : Bool) : Bool :=
  let c := s.core k
  match (s.fetchWord k c.pc).1 with
  | none => false
  | some w =>
    let a := (c.effAddr w).1
    let two := pair && decide (a / 8 ≠ (a + 1) % 65536 / 8)
    decide (4 < c.wbuf.length + (if two then 2 else 1))

/-- ST. -/
def State.issueSt (s : State) (k : Nat) : State :=
  if s.storeStalls k false then s
  else s.issue k .st (fun s w =>
    let c := s.core k
    let ea := c.effAddr w
    s.orTrap k w false (c.addrTagged w || c.storeTraps k ea.1 (c.tag (fD w))) (fun s =>
      (s.storeStep k w ea.2 (fun s => s.storeBytes k [(ea.1, (s.core k).reg (fD w), (s.core k).tag (fD w))])).nextInstr k))

/-- STP: low then high. -/
def State.issueStp (s : State) (k : Nat) : State :=
  if s.storeStalls k true then s
  else s.issue k .stp (fun s w =>
    let c := s.core k
    let ea := c.effAddr w
    let a1 := (ea.1 + 1) % 65536
    let n := 2 * fPd w
    s.orTrap k w false (c.addrTagged w || c.storeTraps k ea.1 (c.tag n) || c.storeTraps k a1 (c.tag (n + 1))) (fun s =>
      (s.storeStep k w ea.2 (fun s =>
        let x := s.core k
        s.storeBytes k [(ea.1, x.reg n, x.tag n), (a1, x.reg (n + 1), x.tag (n + 1))])).nextInstr k))

/-! ### Branches and jumps (R369) -/

/-- A branch: POISON for a tagged operand; taken, to its own address plus a signed offset; else the next instruction. -/
def State.branch (s : State) (k : Nat) (w : BitVec 24) (tag taken : Bool) (bits : Nat) : State :=
  s.orTrap k w false tag (fun s =>
    if taken then s.jumpTo k ((s.core k).pc + BitVec.ofInt 13 (sintOf w.toNat bits)) else s.nextInstr k)

/-- A branch on two registers. -/
def State.issueBr (s : State) (k : Nat) (f : Cmp) : State :=
  s.issue k (.br f) (fun s w =>
    let c := s.core k
    s.branch k w (c.tag (fBrA w) || c.tag (fBrB w)) (cmpHolds f (c.reg (fBrA w)) (c.reg (fBrB w))) 10)

/-- A branch on a register and an immediate. -/
def State.issueBri (s : State) (k : Nat) (f : Cmp) : State :=
  s.issue k (.bri f) (fun s w =>
    let c := s.core k
    s.branch k w (c.tag (fBrA w)) (cmpHolds f (c.reg (fBrA w)) (fImmL w)) 6)

/-- A branch on two pairs. -/
def State.issueBrp (s : State) (k : Nat) (f : Cmp) : State :=
  s.issue k (.brp f) (fun s w =>
    let c := s.core k
    s.branch k w (c.pairTag (fPaB w) || c.pairTag (fPbB w)) (cmpHolds f (c.pair (fPaB w)) (c.pair (fPbB w))) 12)

/-- A branch on a register bit. -/
def State.issueBit (s : State) (k : Nat) (op : Op) (set : Bool) : State :=
  s.issue k op (fun s w =>
    let c := s.core k
    s.branch k w (c.tag (fBrA w)) ((c.reg (fBrA w)).getLsbD (fBit w) == set) 11)

/-- LK takes the address of the next instruction. -/
def State.linkTo (s : State) (k : Nat) : State := s.onCore k (fun c => { c with lk := (c.pc + 1).zeroExtend 16 })

/-- JR: POISON for a tagged pair; with L = 1 it links (R361). -/
def State.issueJr (s : State) (k : Nat) : State :=
  s.issue k .jr (fun s w =>
    let c := s.core k
    s.orTrap k w false (c.pairTag (fPaB w)) (fun s =>
      (s.onlyIf (w.getLsbD 14) (·.linkTo k)).jumpTo k ((c.pair (fPaB w)).truncate 13)))

/-! ### SYS and loops (R365, R372) -/

/-- END: the dispatch ends, or a core without one clears CCTL.RUN and stops (R365, R385). -/
def State.issueEnd (s : State) (k : Nat) : State :=
  s.issue k .fin (fun s _ =>
    if (s.core k).disp.isSome then s.haltCore k else (s.setb (cctlReg k) 0 false).haltCore k)

/-- RTT and RTR leave the trap (R378). -/
def State.leaveTrap (s : State) (k : Nat) (again : Bool) : State :=
  s.onCore k (fun c => { c with intrap := false, pc := if again then c.tpc else c.tpc + 1 })

/-- LOOP and LOOPI: an offset of 0 traps RESOP, a tagged count POISON; a count of 0 leaves the level inactive and goes on
past its end (R372). -/
def State.startLoop (s : State) (k : Nat) (w : BitVec 24) (off count : Nat) (tag : Bool) : State :=
  s.orTrap k w (off == 0) tag (fun s =>
    let n := fLevel w
    s.onCore k (fun c =>
      let stop := c.pc + BitVec.ofNat 13 off
      let c := { c with lps := c.lps.set n (c.pc + 1).toNat, lpe := c.lpe.set n stop.toNat, lpc := c.lpc.set n count,
                        lact := putTag c.lact n (count != 0) }
      c.complete (if count = 0 then stop + 1 else c.pc + 1)))

/-- A core halts for the debug port (R541): DHALT, LASTHALT, IRAW.HALT. -/
def State.enterHalt (s : State) (k reason : Nat) : State :=
  let s := s.onCore k (fun c => { c with halted := true, atBkpt := reason == 5, haltReq := 0, wpHit := false, wait := .none })
  (s.wr Reg.dbgcLasthalt (w32 (k / 2 + k % 2 * 2 ^ 7 + reason * 2 ^ 8 + s.w0 % 2 ^ 16 * 2 ^ 16))).raise Page.dbgc 2

/-- The debug port enables BKPT: DLCTL.BKEN, and a level that is not CLOSED (R536, R544). -/
def State.bkptOn (s : State) : Bool := s.rb Reg.dbgcDlctl 2 && s.dbgLevel != 2

/-- BKPT: a halt before it executes, or a NOP; RESUME continues after it (R544). -/
def State.issueBkpt (s : State) (k : Nat) : State :=
  s.issue k .bkpt (fun s _ => if s.bkptOn && !(s.core k).atBkpt then s.enterHalt k 5 else s.nextInstr k)

/-! ### Events and waits (R375-R377) -/

/-- A wait begins, or, under a STEP, the core halts again at the same instruction with WAITSTEP (R541). -/
def State.beginWait (s : State) (k : Nat) (wt : CoreWait) : State :=
  if (s.core k).haltReq.testBit 2 then s.setb Reg.dbgcDlsta 4 true else s.onCore k (fun c => { c with wait := wt })

/-- The events that end an EWAIT of the core. -/
def CoreSt.events (c : CoreSt) : Nat := c.evpend &&& c.evmsk

/-- EWAIT's result: the pending masked events, which clear (R375). -/
def State.takeEvents (s : State) (k d : Nat) : State :=
  let e := (s.core k).events
  (s.onCore k (fun c => { c with evpend := c.evpend &&& (255 - e), wait := .none })).giveReg k d (BitVec.ofNat 8 e) false

/-- EWAIT. -/
def State.issueEwait (s : State) (k : Nat) : State :=
  s.issue k .ewait (fun s w =>
    if (s.core k).events != 0 then s.takeEvents k (fD w) else s.beginWait k (.ewait (fD w)))

/-- A masked event has reached a core that waits in EWAIT. -/
def State.returnEwait (s : State) (k : Nat) : State :=
  match (s.core k).wait with
  | .ewait d => s.onlyIf (s.coreActive k && !(s.core k).stopDue && (s.core k).events != 0) (·.takeEvents k d)
  | _ => s

/-- HIGH of a wheel has reached WTG (R92, R377). -/
def State.wtuPassed (s : State) (k wheel : Nat) : Bool := decide ((s.core k).wtg.toNat ≤ s.high wheel)

/-- WTU ends with a result. -/
def State.endWtu (s : State) (k d : Nat) (v : Byte) : State :=
  (s.onCore k (fun c => { c with wait := .none })).giveReg k d v false

/-- WTU. -/
def State.issueWtu (s : State) (k : Nat) : State :=
  s.issue k .wtu (fun s w =>
    let c := s.core k
    s.orTrap k w false (c.pairTag (fPb w)) (fun s =>
      if s.wtuPassed k (natField w.toNat 12 2) then s.endWtu k (fD w) 1
      else s.beginWait k (.wtu (fD w) (natField w.toNat 12 2) (c.pair (fPb w)).toNat s.w0)))

/-- HIGH has reached WTG of a core that waits in WTU. -/
def State.returnWtu (s : State) (k : Nat) : State :=
  match (s.core k).wait with
  | .wtu d wh _ _ => s.onlyIf (s.coreActive k && !(s.core k).stopDue && s.wtuPassed k wh) (·.endWtu k d 1)
  | _ => s

/-- The timeout of a WTU has passed first (R377). -/
def State.timeoutWtu (s : State) (k : Nat) : State :=
  match (s.core k).wait with
  | .wtu d wh us start =>
    s.onlyIf (s.coreActive k && !(s.core k).stopDue && us != 0 && decide (start + us * 1000 ≤ s.w0) && !s.wtuPassed k wh)
      (·.endWtu k d 0)
  | _ => s

/-- EPOST mode 0: POST of the other core (R376). -/
def State.postOther (s : State) (k : Nat) : State :=
  s.coreEvent (if k % 2 = 0 then k + 1 else k - 1) 0

/-- EPOST mode 2: the channel in a register; POISON where it is tagged. -/
def State.issueFireReg (s : State) (k : Nat) : State :=
  s.issue k (.epost 2) (fun s w =>
    let g := natField w.toNat 4 4
    s.orTrap k w false ((s.core k).tag g) (fun s => (s.pushCh ((s.core k).reg g).toNat).nextInstr k))

/-! ### The BUDGET trap (R378, R385) -/

/-- The core takes the one BUDGET trap of its dispatch before the instruction at PC. -/
def State.takeBudget (s : State) (k : Nat) : State :=
  let c := s.core k
  if !(s.coreActive k && c.wait == .none && !c.stopDue && s.budgetDue k) then s
  else
    let s := s.onCore k (fun c => { c with disp := c.disp.map (fun r => { r with budgetTaken := true }) })
    let r := s.fetchWord k c.pc
    match r.1 with
    | none => r.2.faultCore k
    | some w => r.2.trap k 3 w

/-- A multiplier operation completes (R370). -/
def State.completeMul (s : State) (k : Nat) : State := s.onCore k (·.retireMul (s.coreCyc k))

end Sys2Proof.Machine
end

