-- ==== Sys2Proof/Machine/Debug.lean ====
section
/-! DEFINITION. The debug port (16 R530-R544): line resets, packets and their answers, operations that complete at once or in
the background, the challenge, halting, stepping and the registers of a halted core. Choices: assumption 22. -/

namespace Sys2Proof.Machine

/-- The debug port as requester (R452). -/
def dbgReq : Nat := 256

/-- The port is powered. -/
def State.dbgLive (s : State) : Bool := s.pwr.state != .hibernate && !s.dbg.silent

/-- The port answers a packet: TAG, STATUS and data (R531). -/
def State.answer (s : State) (tag st : Nat) (data : List Word) : State :=
  { s.bump Reg.dbgcPktcnt with dbg := { s.dbg with status := some (tag * 16 + st) }, rdata := data }

/-- The port is unlocked, and not closed (R536-R538). -/
def State.dbgOpen (s : State) : Bool := s.dbg.unlocked && s.dbgLevel != 2

/-- A packet (R530-R533): silent, a bad CRC, another operation pending, locked, or what the operation does. `free` tells
a packet that a pending operation does not turn away, `any` one that is allowed while locked. -/
def State.packet (s : State) (tag : Nat) (crcOk free any : Bool) (f : State → State) : State :=
  if !s.dbgLive then s
  else if !crcOk then (s.bump Reg.dbgcDcrcerr).answer tag 4 []
  else if s.dbg.pend.isSome && !free then s.answer tag 6 []
  else if !s.dbgOpen && !any then s.answer tag 3 []
  else f s

/-! ### Operations (R534, R535, R540, R543) -/


/-- Fields of MEMADDR (R535): store and word, none where it is refused. -/
def memPlace (a : Nat) : Option (Store × Nat) :=
  let t := a % 128
  let c := natField a 9 1
  let w := natField a 16 16
  if natField a 10 6 ≠ 0 then none
  else
    match natField a 7 2 with
    | 0 => if w < 40960 then some (Store.tile t 0, w) else none
    | 1 => if w < 1024 then some (Store.tile t (1 + c), w) else none
    | 2 => if w < 8192 then some (Store.tile t (3 + c), w) else none
    | _ => none

/-- The tile of an access is awake, or wakes first; in SLEEP it does not (R353, R488). -/
def State.dbgReach (s : State) (t : Nat) : Option State :=
  if s.pwr.state == .run then some (s.wakeServed t) else none

/-- RDMEM. -/
def State.dbgRdmem (s : State) (a : Nat) : (Nat × List Word) × State :=
  match memPlace a, s.dbgReach (a % 128) with
  | some (st, w), some s =>
    let r := s.readWord st w
    (match r.1 with
     | some d => ((0, [lo32 d.toNat, hi32 d.toNat]), r.2)
     | none => ((5, [0, 0]), r.2))
  | _, _ => ((2, []), s)

/-- The core may have its instruction SRAM written (R535). -/
def State.imWritable (s : State) (k : Nat) : Bool := (s.core k).halted || (!s.coreRun k && (s.core k).disp.isNone)

/-- WRMEM. -/
def State.dbgWrmem (s : State) (a v : Nat) : (Nat × List Word) × State :=
  let k := 2 * (a % 128) + natField a 9 1
  match memPlace a, s.dbgReach (a % 128) with
  | some (st, w), some t =>
    if natField a 7 2 = 2 ∧ !s.imWritable k then ((2, []), s)
    else
      let d := if natField a 7 2 = 2 then v % 2 ^ 24 else v
      ((0, []), t.writeWord st w (BitVec.ofNat 64 d))
  | _, _ => ((2, []), s)

/-- HALT asks for a halt at the next boundary; a core with RUN = 0 refuses it. -/
def State.dbgHalt (s : State) (k : Nat) : (Nat × List Word) × State :=
  if !s.coreRun k then ((2, []), s)
  else ((0, []), s.onCore k (fun c => if c.halted then c else { c with haltReq := c.haltReq ||| 1 }))

/-- A halted core continues; its first instruction passes breakpoints (R544). -/
def State.dbgContinue (s : State) (k step : Nat) : State :=
  s.onCore k (fun c => { c with halted := false, bpSkip := true, haltReq := step, wpHit := false })

/-- RESUME. -/
def State.dbgResume (s : State) (k : Nat) : (Nat × List Word) × State :=
  if (s.core k).halted then ((0, []), s.dbgContinue k 0) else ((2, []), s)

/-- STEP: one instruction; WAITSTEP tells of the last step. -/
def State.dbgStep (s : State) (k : Nat) : (Nat × List Word) × State :=
  if (s.core k).halted then ((0, []), (s.setb Reg.dbgcDlsta 4 false).dbgContinue k 4) else ((2, []), s)

/-- HALTALL and RESUMEALL. -/
def State.dbgHaltall (s : State) : State :=
  (List.range 256).foldl (fun s k => s.onlyIf (s.coreRun k && !(s.core k).halted)
    (·.onCore k (fun c => { c with haltReq := c.haltReq ||| 2 }))) s
def State.dbgResumeall (s : State) : State :=
  (List.range 256).foldl (fun s k => s.onlyIf (s.core k).halted (·.dbgContinue k 0)) s

/-- CRD of a halted core (R543). -/
def State.dbgCrd (s : State) (k sel : Nat) : (Nat × List Word) × State :=
  let s1 := s.completeMul k
  let c := s1.core k
  let give (v : Nat) (tag : Bool) (t : State) : (Nat × List Word) × State := if tag then ((5, [0]), t) else ((0, [w32 v]), t)
  if !c.halted then ((2, []), s)
  else if sel < 0x100 then
    if srReserved sel then ((2, []), s)
    else
      let r := s1.mfs k sel
      give r.1.1.toNat r.1.2 r.2
  else if sel < 0x110 then give (c.reg (sel - 0x100)).toNat (c.tag (sel - 0x100)) s1
  else if sel = 0x110 then give c.pc.toNat false s1
  else if 0x120 ≤ sel ∧ sel < 0x124 then give (c.bp.getD (sel - 0x120) 0).toNat false s1
  else if 0x128 ≤ sel ∧ sel < 0x12A then give (c.wpa.getD (sel - 0x128) 0).toNat false s1
  else if 0x12A ≤ sel ∧ sel < 0x12C then give (c.wpc.getD (sel - 0x12A) 0).toNat false s1
  else ((2, []), s)

/-- What CWR does to a core; none where it is refused (R543). -/
def CoreSt.dbgWrite (c : CoreSt) (now sel v : Nat) : Option CoreSt :=
  let v16 : BitVec 16 := BitVec.ofNat 16 v
  let b : Byte := BitVec.ofNat 8 v
  if sel < 0x100 then if c.srRefuses [(sel, b)] then none else some (c.writeSrs now [(sel, b)])
  else if sel < 0x110 then some (c.setReg (sel - 0x100) b false)
  else if sel = 0x110 then some { c with pc := BitVec.ofNat 13 v, atBkpt := false }
  else if 0x120 ≤ sel ∧ sel < 0x124 then some { c with bp := c.bp.set (sel - 0x120) (v16 &&& 0x9FFF) }
  else if 0x128 ≤ sel ∧ sel < 0x12A then some { c with wpa := c.wpa.set (sel - 0x128) v16 }
  else if 0x12A ≤ sel ∧ sel < 0x12C then some { c with wpc := c.wpc.set (sel - 0x12A) (v16 &&& 0x3F) }
  else none

/-- CWR of a halted core. -/
def State.dbgCwr (s : State) (k sel v : Nat) : (Nat × List Word) × State :=
  let s1 := s.completeMul k
  if !(s1.core k).halted then ((2, []), s)
  else
    match (s1.core k).dbgWrite (s.coreCyc k) sel v with
    | none => ((2, []), s)
    | some c => ((0, []), s1.setCore k c)

/-- A register read by the port: poison is answered POISON with data 0 (R534). -/
def State.dbgRdreg (s : State) (addr : Nat) : (Nat × List Word) × State :=
  let tag := s.regPoison dbgReq addr
  let r := s.readReg dbgReq addr
  (if tag then (5, [0]) else (0, [r.1]), r.2)

/-- An operation runs: status, data and the state. -/
def State.runDbg (s : State) (o : DbgOp) : (Nat × List Word) × State :=
  match o with
  | .rdreg a => s.dbgRdreg a
  | .wrreg a v => ((0, []), s.busWrite dbgReq a v)
  | .rdmem a => s.dbgRdmem a
  | .wrmem a v => s.dbgWrmem a v
  | .halt k => s.dbgHalt k
  | .resume k => s.dbgResume k
  | .step k => s.dbgStep k
  | .haltall => ((0, []), s.dbgHaltall)
  | .resumeall => ((0, []), s.dbgResumeall)
  | .crd k sel => s.dbgCrd k sel
  | .cwr k sel v => s.dbgCwr k sel v

/-- A packet with an operation: done by its status cycle, or, where `late`, PENDING and done in the background (R533). -/
def State.dbgOperate (s : State) (tag : Nat) (crcOk late : Bool) (o : DbgOp) : State :=
  s.packet tag crcOk false false (fun s =>
    if late then State.answer { s with dbg := { s.dbg with pend := some (tag, o), result := none } } tag 1 []
    else
      let r := s.runDbg o
      r.2.answer tag r.1.1 r.1.2)

/-- An operation completes in the background (R530, R533): one a line reset has left goes first, its result discarded. -/
def State.dbgComplete (s : State) : State :=
  match s.dbg.orphans, s.dbg.pend, s.dbg.result with
  | o :: rest, _, _ => (State.runDbg { s with dbg := { s.dbg with orphans := rest } } o).2
  | [], some (_, o), none =>
    let r := s.runDbg o
    { r.2 with dbg := { r.2.dbg with result := some r.1 } }
  | [], _, _ => s

/-- COLLECT (R533). -/
def State.dbgCollect (s : State) (tag : Nat) (crcOk : Bool) (of : Nat) : State :=
  s.packet tag crcOk true false (fun s =>
    match s.dbg.pend, s.dbg.result with
    | some (t, _), some (st, data) =>
      if t = of then State.answer { s with dbg := { s.dbg with pend := none, result := none } } tag st data
      else s.answer tag 7 []
    | some (t, _), none => if t = of then s.answer tag 1 [] else s.answer tag 7 []
    | none, _ => s.answer tag 7 [])

/-- A line reset (R530): any byte but 0x5A leaves the port silent. -/
def State.dbgLineReset (s : State) (resync : Nat) : State :=
  if s.pwr.state == .hibernate then s
  else
    if resync ≠ 0x5A then { s with dbg := { s.dbg with silent := true, status := none } }
    else
      let left := match s.dbg.pend, s.dbg.result with
        | some (_, o), none => [o]
        | _, _ => []
      State.raise { s with dbg := { s.dbg with silent := false, status := none, pend := none, result := none,
                                               orphans := s.dbg.orphans ++ left } } Page.dbgc 3

/-! ### Identity, challenge, reset (R532, R537-R539) -/

/-- IDCODE: PARTID and STEP; `bad` for a packet whose header holds a reserved OP, which is counted and leaves the port silent
(R531). -/
def State.dbgIdcode (s : State) (tag : Nat) (crcOk bad : Bool) : State :=
  if bad then s.onlyIf s.dbgLive (fun s => { s.bump Reg.dbgcBadpkt with dbg := { s.dbg with silent := true, status := none } })
  else s.packet tag crcOk true true (fun s => s.answer tag 0 [s.rd Reg.devPartid, s.rd Reg.devStep])

/-- A 128-bit value as four words, low first. -/
def words128 (x : BitVec 128) : List Word := (List.range 4).map (fun i => w32 (x.toNat / 2 ^ (32 * i)))

/-- CHAL: a fresh challenge; LOCKED during a lockout and at level CLOSED. -/
def State.dbgChal (s : State) (tag : Nat) (crcOk : Bool) : State :=
  s.packet tag crcOk false true (fun s =>
    if s.dbgLevel = 2 ∨ s.time.fab < s.dbg.lockoutTo then s.answer tag 3 []
    else
      let c := Config.challenge s.dbg.challenges
      State.answer { s with dbg := { s.dbg with challenge := some c, challenges := s.dbg.challenges + 1 } } tag 0 (words128 c))

/-- The response that answers a challenge: AES-CMAC of C, UIDL and UIDH under DBGKEY. -/
def State.dbgExpected (s : State) (c : BitVec 128) : BitVec 128 :=
  Config.cmac s.fuses.dbgkey (bytesOf 16 c.toNat ++ bytesOf 4 (s.rn Reg.devUidl) ++ bytesOf 4 (s.rn Reg.devUidh))

/-- RESP: it spends the challenge, and unlocks or fails; after n failures in a row CHAL is locked out for
10 ms × 2^min(n − 1, 10). -/
def State.dbgResp (s : State) (tag : Nat) (crcOk : Bool) (v : BitVec 128) : State :=
  s.packet tag crcOk false true (fun s =>
    if s.dbgLevel = 2 then s.answer tag 3 []
    else
      let c := s.dbg.challenge
      let s := { s with dbg := { s.dbg with challenge := none } }
      if s.rb Reg.dbgcDlctl 1 then s.answer tag 3 []
      else if c.any (fun c => v == s.dbgExpected c) then
        (State.raise { s with dbg := { s.dbg with unlocked := true, fails := 0 } } Page.dbgc 0).answer tag 0 []
      else
        let n := s.dbg.fails + 1
        let s := { s with dbg := { s.dbg with fails := n, lockoutTo := s.time.fab + 4000000 * 2 ^ min (n - 1) 10 } }
        ((s.bump Reg.dbgcUfail).raise Page.dbgc 1).answer tag 2 [])

/-- RESET: 0xD1E5 is answered and resets the device with cause DBG; any other payload is refused. -/
def State.dbgReset (s : State) (tag : Nat) (crcOk : Bool) (v : Nat) : State :=
  s.packet tag crcOk false false (fun s =>
    if v ≠ 0xD1E5 then s.answer tag 2 []
    else
      let s := s.deviceReset 0x20 false
      { s with dbg := { s.dbg with status := some (tag * 16) }, rdata := [] })

/-! ### Halting (R541, R544) -/

/-- The core stands before a BKPT that the port enables. -/
def State.beforeBkpt (s : State) (k : Nat) : Bool :=
  s.bkptOn && !(s.core k).atBkpt && (s.core k).running &&
    opOf ((s.peekWord (Store.tile (k / 2) (3 + k % 2)) (s.core k).pc.toNat).truncate 24) == some .bkpt

/-- The reason of a halt where several causes meet (R544). -/
def State.haltReason (s : State) (k : Nat) : Nat :=
  let c := s.core k
  if c.running && c.atBreak then 3
  else if s.beforeBkpt k then 5
  else if c.wpHit then 4
  else if c.haltReq.testBit 3 then 2
  else if c.haltReq.testBit 0 then 1
  else 6

/-- A core that is to halt reaches its boundary; one that waits halts at once (R541). -/
def State.coreHalted (s : State) (k : Nat) : State :=
  let c := s.core k
  if c.stopDue && !c.halted && s.coreRun k then s.enterHalt k (s.haltReason k) else s

/-- A core reaches an enabled breakpoint (R544). -/
def State.breakpoint (s : State) (k : Nat) : State :=
  let c := s.core k
  s.onlyIf (s.coreActive k && c.wait == .none && c.atBreak) (·.enterHalt k 3)

end Sys2Proof.Machine
end

