-- ==== Sys2Proof/Machine/Access.lean ====
section
/-! DEFINITION. How a command ends, and the register accesses that commands of their own name: by a core, the debug port or
the host port (R452, R453). -/

namespace Sys2Proof.Machine

/-- A command ends: what it raised settles and the block goes on (assumption 15). -/
def finish (s : State) : Host.Outcome State Fault Refusal := .next s.settle

/-- A requester can reach the register bus: the host port and the debug port while they are powered, a core in RUN after
start-up (R463, R476, R488, R534, R536). -/
def State.canAsk (s : State) (req : Req) : Bool :=
  match req with
  | .host => s.hostLive
  | .dbg => s.dbgLive && s.dbgOpen
  | .core _ => s.pwr.state == .run && !s.pwr.booting

/-- A register write by a requester (R450). -/
def State.reqWrite (s : State) (req : Req) (addr : Nat) (v : Word) : State :=
  s.onlyIf (s.canAsk req) (·.busWrite req.index addr v)

/-- A register read by a requester: the word it gets and what the read does (R450, assumption 5). -/
def State.reqRead (s : State) (req : Req) (addr : Nat) : State :=
  s.onlyIf (s.canAsk req) (fun s =>
    let r := s.readReg req.index addr
    { r.2 with rdata := [r.1] })

end Sys2Proof.Machine
end

