-- ==== Sys2Proof/Machine/ExecBalls.lean ====
section
/-! DEFINITION. The commands of the general-purpose balls (15 R526-R528). -/

namespace Sys2Proof.Machine

/-- GPIO_EDGE (R527): ball `n` changes to `level`. -/
def execGpioEdge (n : Fin 12) (level : Bool) (s : State) : Host.Outcome State Fault Refusal := finish (s.gpioEdge n.val level)

/-- GSET (R528). -/
def execGset (req : Req) (v : Word) (s : State) : Host.Outcome State Fault Refusal := finish (s.reqWrite req Reg.gpioGset v)

/-- GCLR (R528). -/
def execGclr (req : Req) (v : Word) (s : State) : Host.Outcome State Fault Refusal := finish (s.reqWrite req Reg.gpioGclr v)

end Sys2Proof.Machine
end

