-- ==== Sys2Proof/Machine/ExecCustody.lean ====
section
/-! DEFINITION. The commands of tallies, snapshots, streams and the alarm queue (09 R300-R330). -/

namespace Sys2Proof.Machine

/-- The appends that cores make to a stream in one FAB cycle, in the order of the stream's list: the requester index is the
tile's (R26, R319, R392). Only cores whose APSTR names the stream take part. -/
def State.appendAll (s : State) (n : Nat) (ks : List (Fin 256)) : State :=
  let ks := (ks.map Fin.val).eraseDups.filter (fun k =>
    s.canAsk (.core (Fin.ofNat 256 k)) && (s.core k).devNat Dev.apstr 1 == n)
  let g := s.grant (resStream n) (ks.map (· / 2)).eraseDups
  g.1.foldl (fun s t => (ks.filter (fun k => k / 2 == t)).foldl (fun s k => s.coreAppend k) s) g.2

/-- A requester among others, in ascending order. -/
def insertReq (q : Req) : List Req → List Req
  | [] => [q]
  | r :: rs => if q.index ≤ r.index then q :: r :: rs else r :: insertReq q rs

/-- The pops of POPL that some requesters make in one FAB cycle (R327): each takes the next entry, the words in `rdata` in order. -/
def State.popAll (s : State) (reqs : List Req) : State :=
  (((reqs.foldl (fun qs q => insertReq q qs) []).eraseDups).foldl (fun (x : List Word × State) q =>
    if x.2.canAsk q then
      let s := x.2.reqRead q Reg.alqPopl
      (x.1 ++ s.rdata, { s with rdata := x.1 ++ s.rdata })
    else x) ([], s)).2

/-- LANE_COPY (R306, R311, R317): the next copy of a tile's tally unit. -/
def execLaneCopy (t : Fin 128) (s : State) : Host.Outcome State Fault Refusal := finish (s.copyNext t.val)

/-- ENTRY_SEAL (R310). -/
def execEntrySeal (t : Fin 128) (s : State) : Host.Outcome State Fault Refusal := finish (s.sealEntries t.val)

/-- GLOBAL_SNAPSHOT (R315, R317). -/
def execGlobalSnapshot (s : State) : Host.Outcome State Fault Refusal := finish s.passSnapshot

/-- SNAP_LATCH (R316): of a page. -/
def execSnapLatch (req : Req) (page : Fin 16384) (s : State) : Host.Outcome State Fault Refusal :=
  finish (s.reqWrite req (Reg.hdrSnap page.val) 1)

/-- SNAP_RELEASE (R316): of a page. -/
def execSnapRelease (req : Req) (page : Fin 16384) (s : State) : Host.Outcome State Fault Refusal :=
  finish (s.reqWrite req (Reg.hdrSnap page.val) 2)

/-- SNRD_WRITE (R312, R313). -/
def execSnrdWrite (req : Req) (t : Fin 128) (v : Word) (s : State) : Host.Outcome State Fault Refusal :=
  finish (s.reqWrite req (Reg.tileSnrd t.val) v)

/-- SNBASE_WRITE (R313): a write of SNBASE, or of SNCNT where `cnt`. -/
def execSnbaseWrite (req : Req) (t : Fin 128) (cnt : Bool) (v : Word) (s : State) : Host.Outcome State Fault Refusal :=
  finish (s.reqWrite req (if cnt then Reg.tileSncnt t.val else Reg.tileSnbase t.val) v)

/-- APPEND (R319-R321, R392): the cores that write APCMD for a stream in one FAB cycle. -/
def execAppend (n : Fin 4) (ks : List (Fin 256)) (s : State) : Host.Outcome State Fault Refusal :=
  finish (s.appendAll n.val ks)

/-- CLOSE (R320). -/
def execClose (req : Req) (n : Fin 4) (s : State) : Host.Outcome State Fault Refusal :=
  finish (s.reqWrite req (Reg.strmClose n.val) 1)

/-- SPILLTMO_EXPIRY (R324). -/
def execSpilltmoExpiry (n : Fin 4) (s : State) : Host.Outcome State Fault Refusal := finish (s.spillExpiry n.val)

/-- SPILL_ACCEPTED (R324, R325, R439): the flash controller takes the record of the bank that spills, or refuses it. -/
def execSpillAccepted (n : Fin 4) (s : State) : Host.Outcome State Fault Refusal :=
  finish (match s.bankIn n.val .spilling with
    | some b => s.offerSpill n.val b
    | none => s)

/-- ALARM_POST (R327, R453): a write of POSTH with the requester's POSTL. -/
def execAlarmPost (req : Req) (v : Word) (s : State) : Host.Outcome State Fault Refusal :=
  finish (s.reqWrite req Reg.alqPosth v)

/-- ALCMD (R393). -/
def execAlcmd (k : Fin 256) (s : State) : Host.Outcome State Fault Refusal :=
  finish (s.onlyIf (s.canAsk (.core k)) (·.storeDev k.val Dev.alcmd 1 false))

/-- POPL_READ (R327, R329): by the requesters that pop in one FAB cycle, served in ascending order. -/
def execPoplRead (reqs : List Req) (s : State) : Host.Outcome State Fault Refusal := finish (s.popAll reqs)

/-- PEEKL_READ (R329). -/
def execPeeklRead (req : Req) (s : State) : Host.Outcome State Fault Refusal := finish (s.reqRead req Reg.alqPeekl)

/-- TALG_LATCH_READ (R453). -/
def execTalgLatchRead (req : Req) (r : TalgLatch) (s : State) : Host.Outcome State Fault Refusal :=
  finish (s.reqRead req (match r with
    | .bposl g => Reg.talgBposl g.val
    | .bw0l g => Reg.talgBw0l g.val
    | .gsl => Reg.talgGsl))

end Sys2Proof.Machine
end

