-- ==== Sys2Proof/Machine/ExecDebug.lean ====
section
/-! DEFINITION. The packets of the debug port and what follows of them (16 R530-R544). `tag` is the packet's TAG, `crcOk`
whether its CRC holds, `late` whether the operation is still pending at its status cycle (R533). -/

namespace Sys2Proof.Machine

/-- LINE_RESET (R530): with the resync byte heard. -/
def execLineReset (resync : Byte) (s : State) : Host.Outcome State Fault Refusal := finish (s.dbgLineReset resync.toNat)

/-- RDREG (R534). -/
def execRdreg (tag : Fin 16) (crcOk late : Bool) (addr : BitVec 24) (s : State) : Host.Outcome State Fault Refusal :=
  finish (s.dbgOperate tag.val crcOk late (.rdreg addr.toNat))

/-- WRREG (R534). -/
def execWrreg (tag : Fin 16) (crcOk late : Bool) (addr : BitVec 24) (v : Word) (s : State) :
    Host.Outcome State Fault Refusal :=
  finish (s.dbgOperate tag.val crcOk late (.wrreg addr.toNat v))

/-- RDMEM (R535): `a` is MEMADDR. -/
def execRdmem (tag : Fin 16) (crcOk late : Bool) (a : BitVec 32) (s : State) : Host.Outcome State Fault Refusal :=
  finish (s.dbgOperate tag.val crcOk late (.rdmem a.toNat))

/-- WRMEM (R535). -/
def execWrmem (tag : Fin 16) (crcOk late : Bool) (a : BitVec 32) (v : BitVec 64) (s : State) :
    Host.Outcome State Fault Refusal :=
  finish (s.dbgOperate tag.val crcOk late (.wrmem a.toNat v.toNat))

/-- HALT (R540). -/
def execHalt (tag : Fin 16) (crcOk late : Bool) (k : Fin 256) (s : State) : Host.Outcome State Fault Refusal :=
  finish (s.dbgOperate tag.val crcOk late (.halt k.val))

/-- CTL_RESUME (R540). -/
def execCtlResume (tag : Fin 16) (crcOk late : Bool) (k : Fin 256) (s : State) : Host.Outcome State Fault Refusal :=
  finish (s.dbgOperate tag.val crcOk late (.resume k.val))

/-- CTL_STEP (R541). -/
def execCtlStep (tag : Fin 16) (crcOk late : Bool) (k : Fin 256) (s : State) : Host.Outcome State Fault Refusal :=
  finish (s.dbgOperate tag.val crcOk late (.step k.val))

/-- HALTALL (R540). -/
def execHaltall (tag : Fin 16) (crcOk late : Bool) (s : State) : Host.Outcome State Fault Refusal :=
  finish (s.dbgOperate tag.val crcOk late .haltall)

/-- RESUMEALL (R540). -/
def execResumeall (tag : Fin 16) (crcOk late : Bool) (s : State) : Host.Outcome State Fault Refusal :=
  finish (s.dbgOperate tag.val crcOk late .resumeall)

/-- CORE_HALTED (R541). -/
def execCoreHalted (k : Fin 256) (s : State) : Host.Outcome State Fault Refusal := finish (s.coreHalted k.val)

/-- BREAKPOINT (R544). -/
def execBreakpoint (k : Fin 256) (s : State) : Host.Outcome State Fault Refusal := finish (s.breakpoint k.val)

/-- CRD (R543). -/
def execCrd (tag : Fin 16) (crcOk late : Bool) (k : Fin 256) (sel : Fin 512) (s : State) :
    Host.Outcome State Fault Refusal :=
  finish (s.dbgOperate tag.val crcOk late (.crd k.val sel.val))

/-- CWR (R543). -/
def execCwr (tag : Fin 16) (crcOk late : Bool) (k : Fin 256) (sel : Fin 512) (v : BitVec 16) (s : State) :
    Host.Outcome State Fault Refusal :=
  finish (s.dbgOperate tag.val crcOk late (.cwr k.val sel.val v.toNat))

/-- IDCODE (R532), or, where `bad`, a packet whose header holds a reserved OP (R531). -/
def execIdcode (tag : Fin 16) (crcOk bad : Bool) (s : State) : Host.Outcome State Fault Refusal :=
  finish (s.dbgIdcode tag.val crcOk bad)

/-- CHAL (R537). -/
def execChal (tag : Fin 16) (crcOk : Bool) (s : State) : Host.Outcome State Fault Refusal := finish (s.dbgChal tag.val crcOk)

/-- RESP (R537). -/
def execResp (tag : Fin 16) (crcOk : Bool) (v : BitVec 128) (s : State) : Host.Outcome State Fault Refusal :=
  finish (s.dbgResp tag.val crcOk v)

/-- DBG_RESET (R539). -/
def execDbgReset (tag : Fin 16) (crcOk : Bool) (v : BitVec 16) (s : State) : Host.Outcome State Fault Refusal :=
  finish (s.dbgReset tag.val crcOk v.toNat)

/-- COLLECT (R533): of the operation under `tagOf`. -/
def execCollect (tag : Fin 16) (crcOk : Bool) (tagOf : Fin 16) (s : State) : Host.Outcome State Fault Refusal :=
  finish (s.dbgCollect tag.val crcOk tagOf.val)

/-- DEBUG_OPERATION_COMPLETE (R530, R533). -/
def execDebugOperationComplete (s : State) : Host.Outcome State Fault Refusal := finish s.dbgComplete

/-- RELOCK (R538): a write of DLCTL with RELOCK = 1. -/
def execRelock (req : Req) (v : Word) (s : State) : Host.Outcome State Fault Refusal :=
  finish (s.reqWrite req Reg.dbgcDlctl (v ||| 1))

end Sys2Proof.Machine
end

