-- ==== Sys2Proof/Machine/ExecFilter.lean ====
section
/-! DEFINITION. The commands of the filter chain: outputs of the main and FIR paths, register writes and record reads (05
R167-R196). `g` is the converter whose slot is meant, `e` the engine. -/

namespace Sys2Proof.Machine

/-- FILTER_OUTPUT (R168-R173, R195): the main path delivers; `xs` are the samples of its window not yet told. -/
def execFilterOutput (g : Fin 8) (xs : List Sample) (s : State) : Host.Outcome State Fault Refusal :=
  finish (s.onlyIf (s.mayEnter g.val) (·.mainOutput g.val xs))

/-- FIR_OUTPUT (R168, R176-R182, R194): `xs` as for FILTER_OUTPUT. -/
def execFirOutput (g : Fin 8) (xs : List Sample) (s : State) : Host.Outcome State Fault Refusal :=
  finish (s.onlyIf (s.mayEnter g.val) (·.firOutput g.val xs))

/-- FIRDROP (R194). -/
def execFirdrop (g : Fin 8) (xs : List Sample) (s : State) : Host.Outcome State Fault Refusal :=
  finish (s.firDrop g.val xs)

/-- PATH_WRITE (R181, R183, R193). -/
def execPathWrite (req : Req) (g : Fin 8) (v : Word) (s : State) : Host.Outcome State Fault Refusal :=
  finish (s.reqWrite req (Reg.filPath (g.val / 4) (g.val % 4)) v)

/-- The registers of the coefficient banks: BANKA and BANKB of a FIL page, and the coefficient pages (R179, R180). -/
def isBankReg (addr : Nat) : Bool :=
  match pageKind? (addr / 1024) with
  | some (.fil, _) => addr % 1024 == 0x050 || addr % 1024 == 0x054
  | some (.fcoe, _) => decide (0x040 ≤ addr % 1024)
  | _ => false

/-- BANK_WRITE (R180). -/
def execBankWrite (req : Req) (addr : BitVec 24) (v : Word) (s : State) : Host.Outcome State Fault Refusal :=
  finish (s.onlyIf (isBankReg addr.toNat) (·.reqWrite req addr.toNat v))

/-- NEW_W0L_READ (R196): the newest record of input `i` in slot `k` of engine `e`. -/
def execNewW0lRead (req : Req) (e : Fin 2) (k i : Fin 4) (s : State) : Host.Outcome State Fault Refusal :=
  finish (s.reqRead req (Reg.filNew e.val (16 * k.val + 4 * i.val)))

/-- RRD0_READ (R196). -/
def execRrd0Read (req : Req) (e : Fin 2) (s : State) : Host.Outcome State Fault Refusal :=
  finish (s.reqRead req (Reg.filRrd e.val 0))

end Sys2Proof.Machine
end

