-- ==== Sys2Proof/Machine/ExecFlash.lean ====
section
/-! DEFINITION. The commands of the flash controller, the journal page and data integrity (12 R396-R442). -/

namespace Sys2Proof.Machine

/-- A write of FCMD3 whose OP is the one that the command names (R425). -/
def State.writeFcmd (s : State) (req : Req) (op : Nat) (v : Word) : State :=
  s.onlyIf (field v 0 4 == op) (·.reqWrite req Reg.flcFcmd3 v)

/-- SCRUB_READ (R405): of word `i` of a store by its number. -/
def execScrubRead (st i : Nat) (s : State) : Host.Outcome State Fault Refusal := finish (s.scrub st i)

/-- MBIST_START (R407): a write of MBIST. -/
def execMbistStart (req : Req) (v : Word) (s : State) : Host.Outcome State Fault Refusal :=
  finish (s.reqWrite req Reg.eccMbist v)

/-- MBDONE (R407): with the number of the first failing word where it did not `pass`. -/
def execMbdone (pass : Bool) (word : BitVec 16) (s : State) : Host.Outcome State Fault Refusal :=
  finish (s.endMbist pass word.toNat)

/-- ELCLR (R403). -/
def execElclr (req : Req) (v : Word) (s : State) : Host.Outcome State Fault Refusal := finish (s.reqWrite req Reg.eccElclr v)

/-- JDATL_READ (R411). -/
def execJdatlRead (req : Req) (s : State) : Host.Outcome State Fault Refusal := finish (s.reqRead req Reg.jrnJdatl)

/-- JDATH_READ (R411). -/
def execJdathRead (req : Req) (s : State) : Host.Outcome State Fault Refusal := finish (s.reqRead req Reg.jrnJdath)

/-- JDATL_WRITE (R411). -/
def execJdatlWrite (req : Req) (v : Word) (s : State) : Host.Outcome State Fault Refusal :=
  finish (s.reqWrite req Reg.jrnJdatl v)

/-- JDATH_WRITE (R409, R411). -/
def execJdathWrite (req : Req) (v : Word) (s : State) : Host.Outcome State Fault Refusal :=
  finish (s.reqWrite req Reg.jrnJdath v)

/-- FLASH_READ (R425). -/
def execFlashRead (req : Req) (v : Word) (s : State) : Host.Outcome State Fault Refusal := finish (s.writeFcmd req 1 v)

/-- PROG (R425). -/
def execProg (req : Req) (v : Word) (s : State) : Host.Outcome State Fault Refusal := finish (s.writeFcmd req 2 v)

/-- ERASE (R425). -/
def execErase (req : Req) (v : Word) (s : State) : Host.Outcome State Fault Refusal := finish (s.writeFcmd req 3 v)

/-- SUSPEND (R430). -/
def execSuspend (req : Req) (v : Word) (s : State) : Host.Outcome State Fault Refusal := finish (s.writeFcmd req 4 v)

/-- RESUME (R430). -/
def execResume (req : Req) (v : Word) (s : State) : Host.Outcome State Fault Refusal := finish (s.writeFcmd req 5 v)

/-- MARKBAD (R422). -/
def execMarkbad (req : Req) (v : Word) (s : State) : Host.Outcome State Fault Refusal := finish (s.writeFcmd req 6 v)

/-- FLASH_CLOSE (R429). -/
def execFlashClose (req : Req) (v : Word) (s : State) : Host.Outcome State Fault Refusal := finish (s.writeFcmd req 7 v)

/-- FLASH_OP_START (R420, R424, R430). -/
def execFlashOpStart (s : State) : Host.Outcome State Fault Refusal := finish s.startFlash

/-- FLASH_READ_DONE (R427): `flips` are the bits that the die delivers inverted, by word of the page; `ldpc` tells that the
page's own code failed. -/
def execFlashReadDone (flips : List (Nat × BitVec 72)) (ldpc : Bool) (s : State) : Host.Outcome State Fault Refusal :=
  finish (s.endRead flips ldpc)

/-- PROG_DONE (R428): well, or failed. -/
def execProgDone (ok : Bool) (s : State) : Host.Outcome State Fault Refusal := finish (s.endProg ok)

/-- ERASE_DONE (R422, R434): well, or failed. -/
def execEraseDone (ok : Bool) (s : State) : Host.Outcome State Fault Refusal := finish (s.endErase ok)

/-- CLOSE_DONE (R428, R429): well, or failed. -/
def execCloseDone (ok : Bool) (s : State) : Host.Outcome State Fault Refusal := finish (s.endClose ok)

/-- FDONE0_READ (R426). -/
def execFdone0Read (req : Req) (s : State) : Host.Outcome State Fault Refusal := finish (s.reqRead req Reg.flcFdone0)

end Sys2Proof.Machine
end

