-- ==== Sys2Proof/Machine/ExecFrontEnd.lean ====
section
/-! DEFINITION. The commands of the converters and the excitation: blocks of modulator samples, switches, scans, register
writes, and the comparators (04 R129-R166). The modulator's samples are operands, from the next that no command has told. -/

namespace Sys2Proof.Machine

/-- RANGE_DETECT (R139-R142): a block of 8 samples is complete. -/
def execRangeDetect (g : Fin 8) (xs : List Sample) (s : State) : Host.Outcome State Fault Refusal :=
  finish (s.rangeDetect g.val xs)

/-- RANGE_SWITCH (R143). -/
def execRangeSwitch (g : Fin 8) (s : State) : Host.Outcome State Fault Refusal := finish (s.rangeSwitch g.val)

/-- BLANK_END (R143). -/
def execBlankEnd (g : Fin 8) (s : State) : Host.Outcome State Fault Refusal := finish (s.blankEnd g.val)

/-- SETTLE_END (R147, R150). -/
def execSettleEnd (g : Fin 8) (s : State) : Host.Outcome State Fault Refusal := finish (s.settleEnd g.val)

/-- PROBE_END (R151): 32 samples. -/
def execProbeEnd (g : Fin 8) (xs : List Sample) (s : State) : Host.Outcome State Fault Refusal :=
  finish (s.onlyIf (xs.length == 32) (·.probeEnd g.val xs))

/-- SCAN_ENTRY_END (R149, R150). -/
def execScanEntryEnd (g : Fin 8) (s : State) : Host.Outcome State Fault Refusal := finish (s.scanEntryEnd g.val)

/-- SCANGO (R149). -/
def execScango (req : Req) (g : Fin 8) (s : State) : Host.Outcome State Fault Refusal :=
  finish (s.reqWrite req (Reg.cnvScango g.val) 1)

/-- CCTL_WRITE (R132, R146, R147). -/
def execCctlWrite (req : Req) (g : Fin 8) (v : Word) (s : State) : Host.Outcome State Fault Refusal :=
  finish (s.reqWrite req (Reg.cnvCctl g.val) v)

/-- INSEL_WRITE (R147). -/
def execInselWrite (req : Req) (g : Fin 8) (v : Word) (s : State) : Host.Outcome State Fault Refusal :=
  finish (s.reqWrite req (Reg.cnvInsel g.val) v)

/-- IMODE_WRITE (R131). -/
def execImodeWrite (req : Req) (g : Fin 8) (v : Word) (s : State) : Host.Outcome State Fault Refusal :=
  finish (s.reqWrite req (Reg.cnvImode g.val) v)

/-- RNG_WRITE (R142). -/
def execRngWrite (req : Req) (g : Fin 8) (v : Word) (s : State) : Host.Outcome State Fault Refusal :=
  finish (s.reqWrite req (Reg.cnvRng g.val) v)

/-- TRIM_WRITE (R138): of GTRIMt, or of OTRIMt where `offset`. -/
def execTrimWrite (req : Req) (g : Fin 8) (t : Fin 5) (offset : Bool) (v : Word) (s : State) :
    Host.Outcome State Fault Refusal :=
  finish (s.reqWrite req (if offset then Reg.cnvOtrim g.val t.val else Reg.cnvGtrim g.val t.val) v)

/-- REFLOW (R134). -/
def execReflow (g : Fin 8) (s : State) : Host.Outcome State Fault Refusal := finish (s.refLow g.val)

/-- REFLOW_END (R134). -/
def execReflowEnd (g : Fin 8) (s : State) : Host.Outcome State Fault Refusal := finish (s.refGood g.val)

/-- OPEN_SET (R165): 16 consecutive tests of an input above 2.4 V. -/
def execOpenSet (g : Fin 8) (i : Fin 4) (s : State) : Host.Outcome State Fault Refusal :=
  finish (s.openSensor g.val i.val true)

/-- OPEN_CLEAR (R165): 16 consecutive tests below 2.4 V. -/
def execOpenClear (g : Fin 8) (i : Fin 4) (s : State) : Host.Outcome State Fault Refusal :=
  finish (s.openSensor g.val i.val false)

/-- BURN_WRITE (R156, R164). -/
def execBurnWrite (req : Req) (g : Fin 8) (v : Word) (s : State) : Host.Outcome State Fault Refusal :=
  finish (s.reqWrite req (Reg.cnvBurn g.val) v)

/-- CHSEL_WRITE (R154). -/
def execChselWrite (req : Req) (k : Fin 8) (v : Word) (s : State) : Host.Outcome State Fault Refusal :=
  finish (s.reqWrite req (Reg.excChsel k.val) v)

/-- EXCP_WRITE (R153, R154). -/
def execExcpWrite (req : Req) (p : Fin 16) (v : Word) (s : State) : Host.Outcome State Fault Refusal :=
  finish (s.reqWrite req (Reg.excExcp p.val) v)

/-- XCTL_WRITE (R154). -/
def execXctlWrite (req : Req) (v : Word) (s : State) : Host.Outcome State Fault Refusal := finish (s.reqWrite req Reg.excXctl v)

/-- XREARM (R163). -/
def execXrearm (req : Req) (s : State) : Host.Outcome State Fault Refusal := finish (s.reqWrite req Reg.excXrearm 1)

/-- COMPL (R161). -/
def execCompl (k : Fin 8) (s : State) : Host.Outcome State Fault Refusal := finish (s.excFlag k.val 8 true)

/-- ILIMIT (R160). -/
def execIlimit (k : Fin 8) (s : State) : Host.Outcome State Fault Refusal := finish (s.excFlag k.val 16 true)

/-- COMPL_CLEAR (R161). -/
def execComplClear (k : Fin 8) (s : State) : Host.Outcome State Fault Refusal := finish (s.excFlag k.val 8 false)

/-- ILIMIT_CLEAR (R160). -/
def execIlimitClear (k : Fin 8) (s : State) : Host.Outcome State Fault Refusal := finish (s.excFlag k.val 16 false)

end Sys2Proof.Machine
end

