-- ==== Sys2Proof/Machine/ExecHopper.lean ====
section
/-! DEFINITION. The commands of the fabric and the Hopper: acknowledged writes, evaluations, moves and migrations, the lane
map, the point read port, retirement, gating and wakes (01 R17; 02 R53-R89; 11 R353). An event whose condition does not hold
does not happen (assumption 15). -/

namespace Sys2Proof.Machine

/-- The Hopper evaluates: after start-up, in RUN, with its page enabled (R57, R446). -/
def State.hopperOn (s : State) : Bool := !s.pwr.booting && s.pwr.state == .run && s.pageLive Page.hop

/-- A migration's copy is acknowledged by the destination tile (R17, R79). -/
def State.ackCopy (s : State) (lane : Nat) : State :=
  match s.mig? lane with
  | some g => s.onlyIf (g.phase == .copied) (·.setMig lane { g with phase := .acked })
  | none => s

/-- The regular evaluation is due: EVAL µs after the start of the previous one (R57). -/
def State.evalDue (s : State) : Bool :=
  s.hopperOn && decide (s.hop.lastRegular + usCycles (s.rf Reg.hopEval 0 20) ≤ s.time.fab)

/-- A migration in a phase goes on by `f` where its condition holds. -/
def State.onMig (s : State) (lane : Nat) (ok : Mig → Bool) (f : State → Mig → State) : State :=
  match s.mig? lane with
  | some g => s.onlyIf (ok g) (f · g)
  | none => s

/-- A tile enters retire-pending, IRAW.RETPEND; the Hopper evaluates out of turn (R57, R86, R560). -/
def State.enterRetPend (s : State) (t : Nat) : State :=
  let s := s.setTile t { s.tile t with uncorr := false }
  if s.retired t || s.retPend t then s
  else
    let s := (s.setTileBit (fun i => Reg.hoplim1Retpend i) t true).raise Page.hop 3
    { s with hop := { s.hop with outOfTurn := true } }

/-- FABRIC_WRITE_ACK (R17, R359): the oldest posted page write of a core takes effect, or the destination of a migration
acknowledges its copy. -/
def execFabricWriteAck (src : FabricSrc) (s : State) : Host.Outcome State Fault Refusal :=
  finish (match src with
    | .core k => s.ackPosted k.val
    | .migration lane => s.ackCopy lane.val)

/-- EVALUATION (R57, R61). -/
def execEvaluation (s : State) : Host.Outcome State Fault Refusal :=
  finish (s.onlyIf s.evalDue (fun s =>
    let s := s.evaluate
    { s with hop := { s.hop with lastRegular := s.time.fab } }))

/-- OUT_OF_TURN_EVALUATION (R57): the schedule of the regular ones stays. -/
def execOutOfTurnEvaluation (s : State) : Host.Outcome State Fault Refusal :=
  finish (s.onlyIf (s.hopperOn && s.hop.outOfTurn) (fun s =>
    State.evaluate { s with hop := { s.hop with outOfTurn := false } }))

/-- MOVE1_POST (R72): a write of HOP.MOVE1. -/
def execMove1Post (req : Req) (v : Word) (s : State) : Host.Outcome State Fault Refusal :=
  finish (s.reqWrite req Reg.hopMove1 v)

/-- MIGRATION_START (R75, R79). -/
def execMigrationStart (s : State) : Host.Outcome State Fault Refusal :=
  finish (match s.nextMove with
    | some m => s.onlyIf s.hopperOn (·.startMove m)
    | none => s)

/-- MIGRATION_HOLD (R79, R80). -/
def execMigrationHold (lane : Fin 16384) (s : State) : Host.Outcome State Fault Refusal :=
  finish (s.onMig lane.val s.mayHold State.holdLane)

/-- PINNED (R79). -/
def execPinned (lane : Fin 16384) (s : State) : Host.Outcome State Fault Refusal :=
  finish (s.onMig lane.val s.pinDue State.pinLane)

/-- MIGRATION_COPY_DONE (R79): the first copy of records and context ends; a recopy of W2 and W3 is done with the
boundary that asks for it. -/
def execMigrationCopyDone (lane : Fin 16384) (s : State) : Host.Outcome State Fault Refusal :=
  finish (s.onMig lane.val (fun g => g.phase == .copying) State.endCopy)

/-- MAP_FLIP (R55, R79). -/
def execMapFlip (lane : Fin 16384) (s : State) : Host.Outcome State Fault Refusal :=
  finish (s.onMig lane.val s.mayFlip State.flipLane)

/-- MAP_JOURNAL_WRITE (R55, R413). -/
def execMapJournalWrite (s : State) : Host.Outcome State Fault Refusal := finish s.journalFlip

/-- MVDONE0_READ (R77). -/
def execMvdone0Read (req : Req) (s : State) : Host.Outcome State Fault Refusal := finish (s.reqRead req Reg.hopMvdone0)

/-- PRDPT_WRITE (R88). -/
def execPrdptWrite (req : Req) (v : Word) (s : State) : Host.Outcome State Fault Refusal :=
  finish (s.reqWrite req Reg.hopPrdpt v)

/-- POINT_READ_DONE (R88, R89). -/
def execPointReadDone (s : State) : Host.Outcome State Fault Refusal := finish (s.onlyIf s.pointReadReady (·.endPointRead))

/-- MAPDAT_WRITE (R14, R56). -/
def execMapdatWrite (req : Req) (v : Word) (s : State) : Host.Outcome State Fault Refusal :=
  finish (s.reqWrite req Reg.hopMapdat v)

/-- PINCLR_WRITE (R85). -/
def execPinclrWrite (req : Req) (v : Word) (s : State) : Host.Outcome State Fault Refusal :=
  finish (s.reqWrite req Reg.hopPinclr v)

/-- TILE_RETIRE_PENDING (R86): an uncorrectable word was read from the tile's SRAM. -/
def execTileRetirePending (t : Fin 128) (s : State) : Host.Outcome State Fault Refusal :=
  finish (s.onlyIf (s.tile t.val).uncorr (·.enterRetPend t.val))

/-- RETIRED_MAP_JOURNAL_WRITE (R86, R412). -/
def execRetiredMapJournalWrite (s : State) : Host.Outcome State Fault Refusal :=
  finish (s.onlyIf s.hop.retMapDirty (·.journalRetired))

/-- RETIRE_CLEAR (R87): a write to RETIREn. -/
def execRetireClear (req : Req) (n : Fin 4) (v : Word) (s : State) : Host.Outcome State Fault Refusal :=
  finish (s.reqWrite req (Reg.hoplim1Retire n.val) v)

/-- TILE_GATE (R15, R124, R353, R485): of a tile, or of a cluster whose tiles are gated. -/
def execTileGate (unit : GateUnit) (s : State) : Host.Outcome State Fault Refusal :=
  finish (match unit with
    | .tile t => s.onlyIf (s.mayGateTile t.val) (·.gateTile t.val)
    | .cluster c => s.onlyIf (s.mayGateCluster c.val) (·.gateCluster c.val))

/-- WAKE_GUARD (R123): the wakes that the guards of a tile's lane dispatches call for. -/
def execWakeGuard (t : Fin 128) (s : State) : Host.Outcome State Fault Refusal := finish (s.onlyIf s.millOn (·.guardWake t.val))

/-- TILE_WAKE_DONE (R353): a tile's wake ends after its cluster's; a migration that waited for it goes on (R79). -/
def execTileWakeDone (t : Fin 128) (s : State) : Host.Outcome State Fault Refusal :=
  finish (s.onlyIf ((s.tile t.val).waking && (s.cluster (t.val / 16)).awake) (fun s => (s.endTileWake t.val).startTests))

/-- CLUSTER_WAKE_DONE (R123). -/
def execClusterWakeDone (c : Fin 8) (s : State) : Host.Outcome State Fault Refusal :=
  finish (s.onlyIf (s.cluster c.val).waking (fun s => (s.endClusterWake c.val).startTests))

end Sys2Proof.Machine
end

