-- ==== Sys2Proof/Machine/ExecLeat.lean ====
section
/-! DEFINITION. The commands of the leat (10 R331-R348). -/

namespace Sys2Proof.Machine

/-- The registers that route events: EVSEL and EVIN of a page, WEV, PLEV and LTMASK (R334, R335, R341). -/
def isRouting (addr : Nat) : Bool :=
  let off := addr % 1024
  off == 0x020 || off == 0x024 ||
  (match pageKind? (addr / 1024) with
   | some (.weir, _) => decide (0x040 ≤ off) && decide (off < 0x140) && off % 32 == 0x0C
   | some (.pls, _) => decide (0x040 ≤ off) && decide (off < 0x240) && off % 32 == 0x10
   | some (.trip, _) => off == 0x084
   | _ => false)

/-- FIRE (R337). -/
def execFire (req : Req) (v : Word) (s : State) : Host.Outcome State Fault Refusal := finish (s.reqWrite req Reg.leatFire v)

/-- FIREM (R337). -/
def execFirem (req : Req) (n : Fin 8) (v : Word) (s : State) : Host.Outcome State Fault Refusal :=
  finish (s.reqWrite req (Reg.leatFirem n.val) v)

/-- STORM_UNMASK (R343). -/
def execStormUnmask (req : Req) (n : Fin 8) (v : Word) (s : State) : Host.Outcome State Fault Refusal :=
  finish (s.reqWrite req (Reg.leatStorm n.val) v)

/-- ROUTING_WRITE (R334, R335, R341). -/
def execRoutingWrite (req : Req) (addr : BitVec 24) (v : Word) (s : State) : Host.Outcome State Fault Refusal :=
  finish (s.onlyIf (isRouting addr.toNat) (·.reqWrite req addr.toNat v))

/-- CCFG_WRITE (R344): of a channel. -/
def execCcfgWrite (req : Req) (ch : Fin 256) (v : Word) (s : State) : Host.Outcome State Fault Refusal :=
  finish (s.reqWrite req (ccfgReg ch.val) v)

/-- GLOBAL_PERIOD_BOUNDARY (R345). -/
def execGlobalPeriodBoundary (s : State) : Host.Outcome State Fault Refusal := finish s.takeBoundary

/-- LEAT_BPOSL_READ (R345). -/
def execLeatBposlRead (req : Req) (s : State) : Host.Outcome State Fault Refusal := finish (s.reqRead req Reg.leatBposl)

end Sys2Proof.Machine
end

