-- ==== Sys2Proof/Machine/ExecMillrace.lean ====
section
/-! DEFINITION. The commands of the Millrace: slots, overruns, the calendar's registers, and the landings of armed
occurrences (03 R111-R128, R550). -/

namespace Sys2Proof.Machine

/-- TICKET_SLOT (R117). -/
def execTicketSlot (s : State) : Host.Outcome State Fault Refusal :=
  finish (s.onlyIf (s.millOn && slotOpen s.time.fab s.mill.ticketSlot 25) (·.ticketSlotGrant))

/-- LANE_SLOT (R117, R118). -/
def execLaneSlot (s : State) : Host.Outcome State Fault Refusal :=
  finish (s.onlyIf (s.millOn && slotOpen s.time.fab s.mill.laneSlot 100) (·.laneSlotGrant))

/-- OVRUN (R121): an occurrence of the lane fell due while its dispatch ran. -/
def execOvrun (lane : Fin 16384) (s : State) : Host.Outcome State Fault Refusal := finish (s.countOvrun lane.val)

/-- CALCMD_READ (R128). -/
def execCalcmdRead (req : Req) (s : State) : Host.Outcome State Fault Refusal := finish (s.reqWrite req Reg.mrgCalcmd 1)

/-- CALCMD_WRITE (R122, R128). -/
def execCalcmdWrite (req : Req) (s : State) : Host.Outcome State Fault Refusal := finish (s.reqWrite req Reg.mrgCalcmd 2)

/-- DUEH_READ (R550). -/
def execDuehRead (req : Req) (c : Fin 8) (s : State) : Host.Outcome State Fault Refusal :=
  finish (s.reqRead req (Reg.mrcDueh c.val))

/-- CSYNC_LANDING (R148, R149). -/
def execCsyncLanding (g : Fin 8) (s : State) : Host.Outcome State Fault Refusal :=
  finish (s.land 2 g.val (s.pageLive (Page.cnv g.val)) (fun s _ => s.csync g.val))

/-- EXCSW_LANDING (R154, R155). -/
def execExcswLanding (ch : Fin 8) (s : State) : Host.Outcome State Fault Refusal :=
  finish (s.land 3 ch.val (s.pageLive Page.exc) (fun s a => s.excLanding ch.val (natField a.arg 4 4)))

/-- PEDGE_LANDING (R214). -/
def execPedgeLanding (ch : Fin 16) (s : State) : Host.Outcome State Fault Refusal :=
  finish (s.land 4 ch.val (s.pageLive Page.pls) (fun s a => s.askPulse ch.val (.ticket (a.arg.testBit 4))))

/-- POLL_LANDING (R260). -/
def execPollLanding (n : Fin 16) (s : State) : Host.Outcome State Fault Refusal :=
  finish (s.land 5 n.val true (fun s a => s.pollLanding n.val (natField a.arg 4 8)))

/-- TBOUND_LANDING (R304). -/
def execTboundLanding (g : Fin 16) (s : State) : Host.Outcome State Fault Refusal :=
  finish (s.landBound g.val)

/-- LFIRE_LANDING (R331). -/
def execLfireLanding (s : State) : Host.Outcome State Fault Refusal :=
  finish (s.land 7 0 true (fun s a => s.pushCh (a.arg % 256)))

/-- BCLOSE_LANDING (R320). -/
def execBcloseLanding (n : Fin 4) (s : State) : Host.Outcome State Fault Refusal :=
  finish (s.landClose n.val)

end Sys2Proof.Machine
end

