-- ==== Sys2Proof/Machine/ExecNimlor.lean ====
section
/-! DEFINITION. The commands of the Nimlor cores: one instruction issued by core `k` (2 × tile + core), and what time and
events do to a core (11 R360-R394). An instruction's operands are in the word at the core's PC; a command whose
instruction is not at PC, or whose core may not issue, is no event (assumption 21). -/

namespace Sys2Proof.Machine

/-! ### Shapes of their own -/

/-- LI: the immediate, never tagged (R361, R380). -/
def State.issueLi (s : State) (k : Nat) : State := s.issue k .li (fun s w => s.giveReg k (fD w) (fImmL w) false)

/-- LIP. -/
def State.issueLip (s : State) (k : Nat) : State := s.issue k .lip (fun s w => s.givePair k (fPd w) (fImm16 w) false false)

/-- ADDPI: modulo 2^16. -/
def State.issueAddpi (s : State) (k : Nat) : State :=
  s.issue k .addpi (fun s w =>
    let c := s.core k
    let t := c.pairTag (fPa w)
    s.givePair k (fPd w) (c.pair (fPa w) + BitVec.ofInt 16 (fSimm12 w)) t t)

/-- MFS: RESOP for a reserved number (R355). -/
def State.issueMfs (s : State) (k : Nat) : State :=
  s.issue k .mfs (fun s w =>
    s.orTrap k w (srReserved (fSr w)) false (fun s =>
      let r := s.mfs k (fSr w)
      r.2.giveReg k (fD w) r.1.1 r.1.2))

/-- MFSP: two consecutive numbers, the low one first. -/
def State.issueMfsp (s : State) (k : Nat) : State :=
  s.issue k .mfsp (fun s w =>
    s.orTrap k w (srReserved (fSr w) || srReserved (fSr w + 1)) false (fun s =>
      let lo := s.mfs k (fSr w)
      let hi := lo.2.mfs k (fSr w + 1)
      hi.2.givePair k (fPd w) (hi.1.1 ++ lo.1.1) lo.1.2 hi.1.2))

/-- MTS. -/
def State.issueMts (s : State) (k : Nat) : State :=
  s.issue k .mts (fun s w => s.mts k w [(fSr w, (s.core k).reg (fD w))] ((s.core k).tag (fD w)))

/-- MTSP. -/
def State.issueMtsp (s : State) (k : Nat) : State :=
  s.issue k .mtsp (fun s w => s.mts k w (pairBytes (fSr w) ((s.core k).pair (fPd w))) ((s.core k).pairTag (fPd w)))

/-- J and JAL: the target, with LK for JAL. -/
def State.issueJump (s : State) (k : Nat) (op : Op) (link : Bool) : State :=
  s.issue k op (fun s w => (s.onlyIf link (·.linkTo k)).jumpTo k (w.truncate 13))

/-- LCLR. -/
def State.issueLclr (s : State) (k : Nat) : State :=
  s.issue k .lclr (fun s w => (s.onCore k (fun c => { c with lact := putTag c.lact (fLevel w) false })).nextInstr k)

/-- EPOST mode 1: channel [15:8]. -/
def State.issueFire (s : State) (k : Nat) : State :=
  s.issue k (.epost 1) (fun s w => (s.pushCh (natField w.toNat 8 8)).nextInstr k)

/-- A command of a tile device that a core's store gives (R386-R388): PPCMD holds the code. -/
def State.ppcmd (s : State) (k v : Nat) : State :=
  s.onlyIf (s.canAsk (.core (Fin.ofNat 256 k)) && s.tileAwake (k / 2)) (·.storeDev k Dev.ppcmd (BitVec.ofNat 8 v) false)

/-! ### The commands -/

/-- ADD (R362). -/
def execAdd (k : Fin 256) (s : State) : Host.Outcome State Fault Refusal :=
  finish (s.issueAlu k.val .add)

/-- SUB (R362). -/
def execSub (k : Fin 256) (s : State) : Host.Outcome State Fault Refusal :=
  finish (s.issueAlu k.val .sub)

/-- AND (R362). -/
def execAnd (k : Fin 256) (s : State) : Host.Outcome State Fault Refusal :=
  finish (s.issueAlu k.val .and)

/-- OR (R362). -/
def execOr (k : Fin 256) (s : State) : Host.Outcome State Fault Refusal :=
  finish (s.issueAlu k.val .or)

/-- XOR (R362). -/
def execXor (k : Fin 256) (s : State) : Host.Outcome State Fault Refusal :=
  finish (s.issueAlu k.val .xor)

/-- MOV (R362). -/
def execMov (k : Fin 256) (s : State) : Host.Outcome State Fault Refusal :=
  finish (s.issueAlu k.val .mov)

/-- NOT (R362). -/
def execNot (k : Fin 256) (s : State) : Host.Outcome State Fault Refusal :=
  finish (s.issueAlu k.val .not)

/-- NEG (R362). -/
def execNeg (k : Fin 256) (s : State) : Host.Outcome State Fault Refusal :=
  finish (s.issueAlu k.val .neg)

/-- SHL (R362). -/
def execShl (k : Fin 256) (s : State) : Host.Outcome State Fault Refusal :=
  finish (s.issueAlu k.val .shl)

/-- SHR (R362). -/
def execShr (k : Fin 256) (s : State) : Host.Outcome State Fault Refusal :=
  finish (s.issueAlu k.val .shr)

/-- SAR (R362). -/
def execSar (k : Fin 256) (s : State) : Host.Outcome State Fault Refusal :=
  finish (s.issueAlu k.val .sar)

/-- ROL (R362). -/
def execRol (k : Fin 256) (s : State) : Host.Outcome State Fault Refusal :=
  finish (s.issueAlu k.val .rol)

/-- SHLI (R362). -/
def execShli (k : Fin 256) (s : State) : Host.Outcome State Fault Refusal :=
  finish (s.issueAlu k.val .shli)

/-- SHRI (R362). -/
def execShri (k : Fin 256) (s : State) : Host.Outcome State Fault Refusal :=
  finish (s.issueAlu k.val .shri)

/-- SARI (R362). -/
def execSari (k : Fin 256) (s : State) : Host.Outcome State Fault Refusal :=
  finish (s.issueAlu k.val .sari)

/-- ROLI (R362). -/
def execRoli (k : Fin 256) (s : State) : Host.Outcome State Fault Refusal :=
  finish (s.issueAlu k.val .roli)

/-- MINU (R362). -/
def execMinu (k : Fin 256) (s : State) : Host.Outcome State Fault Refusal :=
  finish (s.issueAlu k.val .minu)

/-- MAXU (R362). -/
def execMaxu (k : Fin 256) (s : State) : Host.Outcome State Fault Refusal :=
  finish (s.issueAlu k.val .maxu)

/-- MINS (R362). -/
def execMins (k : Fin 256) (s : State) : Host.Outcome State Fault Refusal :=
  finish (s.issueAlu k.val .mins)

/-- MAXS (R362). -/
def execMaxs (k : Fin 256) (s : State) : Host.Outcome State Fault Refusal :=
  finish (s.issueAlu k.val .maxs)

/-- SLTU (R362). -/
def execSltu (k : Fin 256) (s : State) : Host.Outcome State Fault Refusal :=
  finish (s.issueAlu k.val .sltu)

/-- SLT (R362). -/
def execSlt (k : Fin 256) (s : State) : Host.Outcome State Fault Refusal :=
  finish (s.issueAlu k.val .slt)

/-- ADDC (R368). -/
def execAddc (k : Fin 256) (s : State) : Host.Outcome State Fault Refusal :=
  finish (s.issueCarry k.val .addc addcResult)

/-- SUBC (R368). -/
def execSubc (k : Fin 256) (s : State) : Host.Outcome State Fault Refusal :=
  finish (s.issueCarry k.val .subc subcResult)

/-- ADDI (R361). -/
def execAddi (k : Fin 256) (s : State) : Host.Outcome State Fault Refusal :=
  finish (s.issueImm k.val .addi (· + ·))

/-- ANDI (R361). -/
def execAndi (k : Fin 256) (s : State) : Host.Outcome State Fault Refusal :=
  finish (s.issueImm k.val .andi (· &&& ·))

/-- ORI (R361). -/
def execOri (k : Fin 256) (s : State) : Host.Outcome State Fault Refusal :=
  finish (s.issueImm k.val .ori (· ||| ·))

/-- XORI (R361). -/
def execXori (k : Fin 256) (s : State) : Host.Outcome State Fault Refusal :=
  finish (s.issueImm k.val .xori (· ^^^ ·))

/-- LI (R361). -/
def execLi (k : Fin 256) (s : State) : Host.Outcome State Fault Refusal :=
  finish (s.issueLi k.val)

/-- MFS (R355, R370). -/
def execMfs (k : Fin 256) (s : State) : Host.Outcome State Fault Refusal :=
  finish (s.issueMfs k.val)

/-- MTS (R355, R371). -/
def execMts (k : Fin 256) (s : State) : Host.Outcome State Fault Refusal :=
  finish (s.issueMts k.val)

/-- MFSP (R355, R370). -/
def execMfsp (k : Fin 256) (s : State) : Host.Outcome State Fault Refusal :=
  finish (s.issueMfsp k.val)

/-- MTSP (R355, R371). -/
def execMtsp (k : Fin 256) (s : State) : Host.Outcome State Fault Refusal :=
  finish (s.issueMtsp k.val)

/-- ADDP (R363). -/
def execAddp (k : Fin 256) (s : State) : Host.Outcome State Fault Refusal :=
  finish (s.issuePair k.val .addp)

/-- SUBP (R363). -/
def execSubp (k : Fin 256) (s : State) : Host.Outcome State Fault Refusal :=
  finish (s.issuePair k.val .subp)

/-- MOVP (R363). -/
def execMovp (k : Fin 256) (s : State) : Host.Outcome State Fault Refusal :=
  finish (s.issuePair k.val .movp)

/-- SHLP (R363). -/
def execShlp (k : Fin 256) (s : State) : Host.Outcome State Fault Refusal :=
  finish (s.issuePair k.val .shlp)

/-- SHRP (R363). -/
def execShrp (k : Fin 256) (s : State) : Host.Outcome State Fault Refusal :=
  finish (s.issuePair k.val .shrp)

/-- SARP (R363). -/
def execSarp (k : Fin 256) (s : State) : Host.Outcome State Fault Refusal :=
  finish (s.issuePair k.val .sarp)

/-- SXP (R363). -/
def execSxp (k : Fin 256) (s : State) : Host.Outcome State Fault Refusal :=
  finish (s.issuePair k.val .sxp)

/-- ZXP (R363). -/
def execZxp (k : Fin 256) (s : State) : Host.Outcome State Fault Refusal :=
  finish (s.issuePair k.val .zxp)

/-- LIP (R361). -/
def execLip (k : Fin 256) (s : State) : Host.Outcome State Fault Refusal :=
  finish (s.issueLip k.val)

/-- ADDPI (R361). -/
def execAddpi (k : Fin 256) (s : State) : Host.Outcome State Fault Refusal :=
  finish (s.issueAddpi k.val)

/-- MULU (R364, R370). -/
def execMulu (k : Fin 256) (s : State) : Host.Outcome State Fault Refusal :=
  finish (s.issueMul k.val 0)

/-- MULS (R364, R370). -/
def execMuls (k : Fin 256) (s : State) : Host.Outcome State Fault Refusal :=
  finish (s.issueMul k.val 1)

/-- MULSU (R364, R370). -/
def execMulsu (k : Fin 256) (s : State) : Host.Outcome State Fault Refusal :=
  finish (s.issueMul k.val 2)

/-- MACU (R364, R370). -/
def execMacu (k : Fin 256) (s : State) : Host.Outcome State Fault Refusal :=
  finish (s.issueMul k.val 3)

/-- MACS (R364, R370). -/
def execMacs (k : Fin 256) (s : State) : Host.Outcome State Fault Refusal :=
  finish (s.issueMul k.val 4)

/-- MPCLR (R364, R370). -/
def execMpclr (k : Fin 256) (s : State) : Host.Outcome State Fault Refusal :=
  finish (s.issueMul k.val 5)

/-- MULTIPLIER_COMPLETE (R370). -/
def execMultiplierComplete (k : Fin 256) (s : State) : Host.Outcome State Fault Refusal :=
  finish (s.completeMul k.val)

/-- LD (R361, R366, R380, R381). -/
def execLd (k : Fin 256) (s : State) : Host.Outcome State Fault Refusal :=
  finish (s.issueLd k.val)

/-- ST (R361, R366, R380, R381). -/
def execSt (k : Fin 256) (s : State) : Host.Outcome State Fault Refusal :=
  finish (s.issueSt k.val)

/-- LDP (R361, R366, R380, R381). -/
def execLdp (k : Fin 256) (s : State) : Host.Outcome State Fault Refusal :=
  finish (s.issueLdp k.val)

/-- STP (R361, R366, R380, R381). -/
def execStp (k : Fin 256) (s : State) : Host.Outcome State Fault Refusal :=
  finish (s.issueStp k.val)

/-- BEQ (R369). -/
def execBeq (k : Fin 256) (s : State) : Host.Outcome State Fault Refusal :=
  finish (s.issueBr k.val .eq)

/-- BNE (R369). -/
def execBne (k : Fin 256) (s : State) : Host.Outcome State Fault Refusal :=
  finish (s.issueBr k.val .ne)

/-- BLT (R369). -/
def execBlt (k : Fin 256) (s : State) : Host.Outcome State Fault Refusal :=
  finish (s.issueBr k.val .lt)

/-- BGE (R369). -/
def execBge (k : Fin 256) (s : State) : Host.Outcome State Fault Refusal :=
  finish (s.issueBr k.val .ge)

/-- BLTU (R369). -/
def execBltu (k : Fin 256) (s : State) : Host.Outcome State Fault Refusal :=
  finish (s.issueBr k.val .ltu)

/-- BGEU (R369). -/
def execBgeu (k : Fin 256) (s : State) : Host.Outcome State Fault Refusal :=
  finish (s.issueBr k.val .geu)

/-- BEQI (R369). -/
def execBeqi (k : Fin 256) (s : State) : Host.Outcome State Fault Refusal :=
  finish (s.issueBri k.val .eq)

/-- BNEI (R369). -/
def execBnei (k : Fin 256) (s : State) : Host.Outcome State Fault Refusal :=
  finish (s.issueBri k.val .ne)

/-- BLTUI (R369). -/
def execBltui (k : Fin 256) (s : State) : Host.Outcome State Fault Refusal :=
  finish (s.issueBri k.val .ltu)

/-- BGEUI (R369). -/
def execBgeui (k : Fin 256) (s : State) : Host.Outcome State Fault Refusal :=
  finish (s.issueBri k.val .geu)

/-- PBEQ (R369). -/
def execPbeq (k : Fin 256) (s : State) : Host.Outcome State Fault Refusal :=
  finish (s.issueBrp k.val .eq)

/-- PBNE (R369). -/
def execPbne (k : Fin 256) (s : State) : Host.Outcome State Fault Refusal :=
  finish (s.issueBrp k.val .ne)

/-- PBLTU (R369). -/
def execPbltu (k : Fin 256) (s : State) : Host.Outcome State Fault Refusal :=
  finish (s.issueBrp k.val .ltu)

/-- PBGEU (R369). -/
def execPbgeu (k : Fin 256) (s : State) : Host.Outcome State Fault Refusal :=
  finish (s.issueBrp k.val .geu)

/-- BBC (R369). -/
def execBbc (k : Fin 256) (s : State) : Host.Outcome State Fault Refusal :=
  finish (s.issueBit k.val .bbc false)

/-- BBS (R369). -/
def execBbs (k : Fin 256) (s : State) : Host.Outcome State Fault Refusal :=
  finish (s.issueBit k.val .bbs true)

/-- J (R361). -/
def execJ (k : Fin 256) (s : State) : Host.Outcome State Fault Refusal :=
  finish (s.issueJump k.val .jmp false)

/-- JAL (R361). -/
def execJal (k : Fin 256) (s : State) : Host.Outcome State Fault Refusal :=
  finish (s.issueJump k.val .jal true)

/-- JR (R361). -/
def execJr (k : Fin 256) (s : State) : Host.Outcome State Fault Refusal :=
  finish (s.issueJr k.val)

/-- NOP (R365). -/
def execNop (k : Fin 256) (s : State) : Host.Outcome State Fault Refusal :=
  finish (s.issue k.val .nop (fun s _ => s.nextInstr k.val))

/-- SYS_END (R365, R385). -/
def execSysEnd (k : Fin 256) (s : State) : Host.Outcome State Fault Refusal :=
  finish (s.issueEnd k.val)

/-- RET (R365). -/
def execRet (k : Fin 256) (s : State) : Host.Outcome State Fault Refusal :=
  finish (s.issue k.val .ret (fun s _ => s.jumpTo k.val ((s.core k.val).lk.truncate 13)))

/-- RTT (R378). -/
def execRtt (k : Fin 256) (s : State) : Host.Outcome State Fault Refusal :=
  finish (s.issue k.val .rtt (fun s _ => s.leaveTrap k.val false))

/-- RTR (R378). -/
def execRtr (k : Fin 256) (s : State) : Host.Outcome State Fault Refusal :=
  finish (s.issue k.val .rtr (fun s _ => s.leaveTrap k.val true))

/-- LCLR (R365). -/
def execLclr (k : Fin 256) (s : State) : Host.Outcome State Fault Refusal :=
  finish (s.issueLclr k.val)

/-- BKPT (R365, R544). -/
def execBkpt (k : Fin 256) (s : State) : Host.Outcome State Fault Refusal :=
  finish (s.issueBkpt k.val)

/-- SYS_TRAP (R378). -/
def execSysTrap (k : Fin 256) (s : State) : Host.Outcome State Fault Refusal :=
  finish (s.issue k.val .trap (fun s w => s.trap k.val 4 w))

/-- LOOP (R372). -/
def execLoop (k : Fin 256) (s : State) : Host.Outcome State Fault Refusal :=
  finish (s.issue k.val .loop (fun s w =>
    s.startLoop k.val w (natField w.toNat 0 13) ((s.core k.val).pair (fPaLo w)).toNat ((s.core k.val).pairTag (fPaLo w))))

/-- LOOPI (R372). -/
def execLoopi (k : Fin 256) (s : State) : Host.Outcome State Fault Refusal :=
  finish (s.issue k.val .loopi (fun s w =>
    s.startLoop k.val w (natField w.toNat 0 8) (natField w.toNat 8 8) false))

/-- EWAIT (R375). -/
def execEwait (k : Fin 256) (s : State) : Host.Outcome State Fault Refusal :=
  finish (s.issueEwait k.val)

/-- EWAIT_RETURN (R375). -/
def execEwaitReturn (k : Fin 256) (s : State) : Host.Outcome State Fault Refusal :=
  finish (s.returnEwait k.val)

/-- WTU (R377). -/
def execWtu (k : Fin 256) (s : State) : Host.Outcome State Fault Refusal :=
  finish (s.issueWtu k.val)

/-- WTU_RETURN (R377). -/
def execWtuReturn (k : Fin 256) (s : State) : Host.Outcome State Fault Refusal :=
  finish (s.returnWtu k.val)

/-- WTU_TIMEOUT (R377). -/
def execWtuTimeout (k : Fin 256) (s : State) : Host.Outcome State Fault Refusal :=
  finish (s.timeoutWtu k.val)

/-- EPOST_POST (R376). -/
def execEpostPost (k : Fin 256) (s : State) : Host.Outcome State Fault Refusal :=
  finish (s.issue k.val (.epost 0) (fun s _ => (s.postOther k.val).nextInstr k.val))

/-- EPOST_FIRE (R376). -/
def execEpostFire (k : Fin 256) (s : State) : Host.Outcome State Fault Refusal :=
  finish (s.issueFire k.val)

/-- EPOST_FIRE_REGISTER (R376). -/
def execEpostFireRegister (k : Fin 256) (s : State) : Host.Outcome State Fault Refusal :=
  finish (s.issueFireReg k.val)

/-- BUDGET (R385). -/
def execBudget (k : Fin 256) (s : State) : Host.Outcome State Fault Refusal :=
  finish (s.takeBudget k.val)

/-- COMMIT (R386, R387). -/
def execCommit (k : Fin 256) (s : State) : Host.Outcome State Fault Refusal :=
  finish (s.ppcmd k.val 1)

/-- OPEN (R386, R388). -/
def execPpOpen (k : Fin 256) (s : State) : Host.Outcome State Fault Refusal :=
  finish (s.ppcmd k.val 2)

/-- CMTPT (R386, R387). -/
def execCmtpt (k : Fin 256) (s : State) : Host.Outcome State Fault Refusal :=
  finish (s.ppcmd k.val 3)

/-- PPCMD_CLOSE (R386). -/
def execPpcmdClose (k : Fin 256) (s : State) : Host.Outcome State Fault Refusal :=
  finish (s.ppcmd k.val 4)

/-- LAPSED (R388). -/
def execLapsed (k : Fin 256) (s : State) : Host.Outcome State Fault Refusal :=
  finish (s.lapse k.val)

/-- WZ_WRITE (R394): the store of `hi` to the high byte of WZ by core `k`, behind its earlier stores. -/
def execWzWrite (k : Fin 256) (hi : Byte) (s : State) : Host.Outcome State Fault Refusal :=
  finish (s.onlyIf (s.canAsk (.core k) && s.tileAwake (k.val / 2)) (·.storeDev k.val (Dev.wz + 1) hi false))

/-- TW0_READ (R394): a load by core `k` of byte 0 of TW0 (`n` 0) or of THIGHn. -/
def execTw0Read (k : Fin 256) (n : Fin 4) (s : State) : Host.Outcome State Fault Refusal :=
  finish (s.onlyIf (s.canAsk (.core k) && s.tileAwake (k.val / 2)) (fun s =>
    let r := s.loadDev k.val (0xC0 + 8 * n.val)
    { r.2 with rdata := [r.1.zeroExtend 32] }))

/-- RESOP (R360, R378). -/
def execResop (k : Fin 256) (s : State) : Host.Outcome State Fault Refusal :=
  finish (s.issueReserved k.val)

end Sys2Proof.Machine
end

