-- ==== Sys2Proof/Machine/ExecPort.lean ====
section
/-! DEFINITION. The frames of the host and stream ports and the register writes that any requester makes (13 R443-R469). A
frame is one command, complete at the release of its select; `both` tells that both selects were asserted (R458), `early` that
its select was asserted before the last change of HCFG (R456). -/

namespace Sys2Proof.Machine

/-- A frame on the select that was asserted first; with both asserted SELCOL is set (R458). -/
def State.selected (s : State) (both : Bool) : State := s.onlyIf (both && s.hostLive) (·.selectCollision)

/-- The requesters of a list that can reach the bus, each once, the first write of each (R452). -/
def State.askers (s : State) (ws : List (Req × Word)) : List (Nat × Word) :=
  (ws.filter (fun w => s.canAsk w.1)).foldl (fun l w =>
    if l.any (fun x => x.1 == w.1.index) then l else l ++ [(w.1.index, w.2)]) []

/-- HOST_WR (R457, R466): the bytes after the command byte; `cut` tells a release within a byte. -/
def execHostWr (bytes : List Byte) (cut both early : Bool) (s : State) : Host.Outcome State Fault Refusal :=
  finish ((s.selected both).writeFrame early 2 bytes cut)

/-- HOST_WRF (R457, R466). -/
def execHostWrf (bytes : List Byte) (cut both early : Bool) (s : State) : Host.Outcome State Fault Refusal :=
  finish ((s.selected both).writeFrame early 3 bytes cut)

/-- HOST_RD (R461-R465): `n` words are sent and `ahead` more were read ahead. -/
def execHostRd (addr : BitVec 24) (n ahead : Nat) (both early : Bool) (s : State) : Host.Outcome State Fault Refusal :=
  finish ((s.selected both).readFrame early false (frameHead 0x0B addr.toNat) addr.toNat n ahead)

/-- HOST_RDF (R461-R465). -/
def execHostRdf (addr : BitVec 24) (n ahead : Nat) (both early : Bool) (s : State) : Host.Outcome State Fault Refusal :=
  finish ((s.selected both).readFrame early true (frameHead 0x0C addr.toNat) addr.toNat n ahead)

/-- RDSTA (R459). -/
def execRdsta (n : Nat) (both early : Bool) (s : State) : Host.Outcome State Fault Refusal :=
  finish ((s.selected both).readStatus early n)

/-- PRST (R460). -/
def execPrst (both : Bool) (s : State) : Host.Outcome State Fault Refusal := finish (s.selected both).portReset

/-- BADCMD (R459). -/
def execBadcmd (both : Bool) (s : State) : Host.Outcome State Fault Refusal := finish (s.selected both).badCommand

/-- STREAM_RD (R468): `n` stream words. -/
def execStreamRd (addr : BitVec 24) (n : Nat) (both early : Bool) (s : State) : Host.Outcome State Fault Refusal :=
  finish ((s.selected both).streamFrame early addr.toNat n)

/-- HOST_WORD_APPLY (R467). -/
def execHostWordApply (s : State) : Host.Outcome State Fault Refusal := finish (s.onlyIf s.hostLive (·.applyNext))

/-- RTO (R465). -/
def execRto (addr : BitVec 24) (s : State) : Host.Outcome State Fault Refusal := finish (s.readTimeout addr.toNat)

/-- HCFG_WRITE (R456). -/
def execHcfgWrite (req : Req) (v : Word) (s : State) : Host.Outcome State Fault Refusal := finish (s.reqWrite req Reg.hptHcfg v)

/-- REGISTER_WRITE (R450, R452): the writes of one or more requesters to a register in one FAB cycle. -/
def execRegisterWrite (addr : BitVec 24) (ws : List (Req × Word)) (s : State) : Host.Outcome State Fault Refusal :=
  finish (s.busWriteAll addr.toNat (s.askers ws))

/-- IRAW_CLEAR (R445, R449). -/
def execIrawClear (req : Req) (page : Fin 16384) (v : Word) (s : State) : Host.Outcome State Fault Refusal :=
  finish (s.reqWrite req (Reg.hdrIraw page.val) v)

/-- IRAW_SET (R445): a write to ISET. -/
def execIrawSet (req : Req) (page : Fin 16384) (v : Word) (s : State) : Host.Outcome State Fault Refusal :=
  finish (s.reqWrite req (Reg.hdrIset page.val) v)

/-- SOFT_RESET (R448): a write of PGCTL with SRST = 1. -/
def execSoftReset (req : Req) (page : Fin 16384) (v : Word) (s : State) : Host.Outcome State Fault Refusal :=
  finish (s.reqWrite req (Reg.hdrPgctl page.val) (v ||| 2))

/-- PAGE_LOCK (R446): a write of PGCTL with LOCK = 1. -/
def execPageLock (req : Req) (page : Fin 16384) (v : Word) (s : State) : Host.Outcome State Fault Refusal :=
  finish (s.reqWrite req (Reg.hdrPgctl page.val) (v ||| 4))

/-- PAGE_ENABLE (R446): a write of PGCTL. -/
def execPageEnable (req : Req) (page : Fin 16384) (v : Word) (s : State) : Host.Outcome State Fault Refusal :=
  finish (s.reqWrite req (Reg.hdrPgctl page.val) v)

end Sys2Proof.Machine
end

