-- ==== Sys2Proof/Machine/ExecPower.lean ====
section
/-! DEFINITION. The commands of start-up, reset, power states, the real-time clock and the monitors (14 R470-R503, 15 R512). -/

namespace Sys2Proof.Machine

/-- POR (R471). -/
def execPor (s : State) : Host.Outcome State Fault Refusal := finish (s.deviceReset 1 true)

/-- NRST_PIN (R471). -/
def execNrstPin (s : State) : Host.Outcome State Fault Refusal := finish (s.deviceReset 2 false)

/-- BOR (R471). -/
def execBor (s : State) : Host.Outcome State Fault Refusal := finish s.bor

/-- WDOG (R474). -/
def execWdog (s : State) : Host.Outcome State Fault Refusal := finish s.wdog

/-- WDWARN (R474). -/
def execWdwarn (s : State) : Host.Outcome State Fault Refusal := finish s.wdwarn

/-- WDKICK (R474). -/
def execWdkick (req : Req) (v : Word) (s : State) : Host.Outcome State Fault Refusal := finish (s.reqWrite req Reg.devWdkick v)

/-- RSTCMD (R471). -/
def execRstcmd (req : Req) (v : Word) (s : State) : Host.Outcome State Fault Refusal := finish (s.reqWrite req Reg.devRstcmd v)

/-- COLD_START (R476). -/
def execColdStart (s : State) : Host.Outcome State Fault Refusal := finish s.coldStart

/-- PGOOD_HIGH (R475, R476): `straps` are MODE1 and MODE0 as the device samples them. -/
def execPgoodHigh (straps : BitVec 2) (s : State) : Host.Outcome State Fault Refusal := finish (s.pgoodHigh straps.toNat)

/-- PGOOD_TIMEOUT (R476). -/
def execPgoodTimeout (s : State) : Host.Outcome State Fault Refusal := finish s.pgoodTimeout

/-- GO (R475): a write of BCMD with GO = 1. -/
def execGo (req : Req) (s : State) : Host.Outcome State Fault Refusal := finish (s.reqWrite req Reg.bootBcmd 1)

/-- HCTL_WRITE (R485). -/
def execHctlWrite (req : Req) (v : Word) (s : State) : Host.Outcome State Fault Refusal := finish (s.reqWrite req Reg.hopHctl v)

/-- PSREQ_SLEEP (R486, R487): a write of 2. -/
def execPsreqSleep (req : Req) (s : State) : Host.Outcome State Fault Refusal := finish (s.reqWrite req Reg.pwrPsreq 2)

/-- PSREQ_HIBERNATE (R486, R487): a write of 3. -/
def execPsreqHibernate (req : Req) (s : State) : Host.Outcome State Fault Refusal := finish (s.reqWrite req Reg.pwrPsreq 3)

/-- PSREQ_RUN (R489): a write of 0 by the host. -/
def execPsreqRun (s : State) : Host.Outcome State Fault Refusal := finish (s.reqWrite .host Reg.pwrPsreq 0)

/-- QUIESCENT (R487, R488, R491). -/
def execQuiescent (s : State) : Host.Outcome State Fault Refusal := finish s.quiescent

/-- QUIESCE_TIMEOUT (R487). -/
def execQuiesceTimeout (s : State) : Host.Outcome State Fault Refusal := finish s.quiesceTimeout

/-- HIBERNATE_ENTRY_DONE (R491). -/
def execHibernateEntryDone (s : State) : Host.Outcome State Fault Refusal := finish s.endHibernateEntry

/-- WAKE_PIN (R489): WAKEi changes level. -/
def execWakePin (i : Fin 2) (level : Bool) (s : State) : Host.Outcome State Fault Refusal := finish (s.wakePin i.val level)

/-- RTC_ALARM (R498). -/
def execRtcAlarm (s : State) : Host.Outcome State Fault Refusal := finish s.rtcAlarm

/-- RESTORE (R494, R495): with the straps as the device samples them. -/
def execRestore (straps : BitVec 2) (s : State) : Host.Outcome State Fault Refusal := finish (s.restore straps.toNat)

/-- TILE_RELOAD (R496): the next saved tile. -/
def execTileReload (s : State) : Host.Outcome State Fault Refusal := finish (s.onlyIf (!s.pwr.booting) (·.tileReload))

/-- RTCCMD_SET (R498). -/
def execRtccmdSet (req : Req) (s : State) : Host.Outcome State Fault Refusal := finish (s.reqWrite req Reg.pwrRtccmd 1)

/-- RTCCMD_SYNC (R498). -/
def execRtccmdSync (req : Req) (s : State) : Host.Outcome State Fault Refusal := finish (s.reqWrite req Reg.pwrRtccmd 2)

/-- RTC_SYNC_LOAD (R498). -/
def execRtcSyncLoad (s : State) : Host.Outcome State Fault Refusal := finish s.rtcSyncLoad

/-- RTCL_READ (R498). -/
def execRtclRead (req : Req) (s : State) : Host.Outcome State Fault Refusal := finish (s.reqRead req Reg.pwrRtcl)

/-- TEMP_SAMPLE (R499, R500): TEMP0-TEMP8 in 0.25 °C. -/
def execTempSample (ts : List Int) (s : State) : Host.Outcome State Fault Refusal :=
  finish (s.onlyIf (ts.length == 9) (·.tempSample ts))

/-- THCLR (R499). -/
def execThclr (req : Req) (v : Word) (s : State) : Host.Outcome State Fault Refusal := finish (s.reqWrite req Reg.monThclr v)

/-- TLIM_WRITE (R499). -/
def execTlimWrite (req : Req) (v : Word) (s : State) : Host.Outcome State Fault Refusal := finish (s.reqWrite req Reg.monTlim v)

/-- RAIL_WARN (R501): of a rail in the order of VMON, at `mv` mV. -/
def execRailWarn (r : Fin 8) (mv : BitVec 16) (s : State) : Host.Outcome State Fault Refusal :=
  finish (s.railWarn r.val mv.toNat)

/-- RAIL_FAULT (R501). -/
def execRailFault (r : Fin 8) (mv : BitVec 16) (s : State) : Host.Outcome State Fault Refusal :=
  finish (s.railFault r.val mv.toNat)

/-- RAIL_RECOVER (R501). -/
def execRailRecover (r : Fin 8) (mv : BitVec 16) (s : State) : Host.Outcome State Fault Refusal :=
  finish (s.railRecover r.val mv.toNat)

/-- PROC_COUNT (R502): of cluster `c`. -/
def execProcCount (c : Fin 8) (n : BitVec 16) (s : State) : Host.Outcome State Fault Refusal :=
  finish (s.procCount c.val n.toNat)

/-- PGOOD_FALL (R512). -/
def execPgoodFall (s : State) : Host.Outcome State Fault Refusal := finish s.pgoodFall

/-- PGOOD_RETURN (R512): within tBOR. -/
def execPgoodReturn (s : State) : Host.Outcome State Fault Refusal := finish s.pgoodReturn

end Sys2Proof.Machine
end

