-- ==== Sys2Proof/Machine/ExecSegments.lean ====
section
/-! DEFINITION. The commands of the segments and of HPP reception on segments and uplinks: beacons, collisions, frames, poll
bursts, node records, keys and the mailbox (07 R228-R266, R292-R296). Ports 0-15 are the segments, 16 and 17 the uplinks. -/

namespace Sys2Proof.Machine

/-- The page registers of TXCMD, MBXPOP, the record command and the key command of a port. -/
def txcmdReg (p : Nat) : Nat := portReg p (fun n => Reg.segTxcmd n) (fun u => Reg.uplTxcmd u)
def mbxpopReg (p : Nat) : Nat := portReg p (fun n => Reg.segMbxpop n) (fun u => Reg.uplMbxpop u)
def kcmdReg (p : Nat) : Nat := portReg p (fun n => Reg.nodeKcmd n) (fun u => Reg.uplKcmd u)
def cdReg (p : Nat) : Nat := portReg p (fun n => Reg.nodeCd n 0) (fun u => Reg.uplCd u 0)

/-- A TXCMD write of a type that the command names (R265, R296). -/
def State.writeTxcmd (s : State) (req : Req) (p ty : Nat) (v : Word) : State :=
  s.onlyIf (field v 0 4 == ty) (·.reqWrite req (txcmdReg p) v)

/-- PLCA_BEACON (R232). -/
def execPlcaBeacon (n : Fin 16) (s : State) : Host.Outcome State Fault Refusal := finish (s.sendBeacon n.val)

/-- BEACON_RECEIVE (R235, R236). -/
def execBeaconReceive (n : Fin 16) (s : State) : Host.Outcome State Fault Refusal := finish (s.hearBeacon n.val)

/-- FALLBACK (R235). -/
def execFallback (n : Fin 16) (s : State) : Host.Outcome State Fault Refusal := finish (s.fallBack n.val)

/-- COLLISION (R234): of the frame the port sends. -/
def execCollision (n : Fin 16) (s : State) : Host.Outcome State Fault Refusal :=
  finish (s.onlyIf (s.maySend n.val) (·.collide n.val))

/-- FRAME_RECEIVE (R256): a frame that is no valid HPP message. -/
def execFrameReceive (p : Fin 18) (f : Frame) (s : State) : Host.Outcome State Fault Refusal := finish (s.receive p.val none f)

/-- ANNOUNCE (R241, R256). -/
def execAnnounce (n : Fin 16) (f : Frame) (s : State) : Host.Outcome State Fault Refusal :=
  finish (s.receive n.val (some 2) f)

/-- REPLY (R256, R262). -/
def execReply (n : Fin 16) (f : Frame) (s : State) : Host.Outcome State Fault Refusal := finish (s.receive n.val (some 5) f)

/-- PUBLISH (R256, R257). -/
def execPublish (p : Fin 18) (f : Frame) (s : State) : Host.Outcome State Fault Refusal := finish (s.receive p.val (some 6) f)

/-- ACK (R256, R266). -/
def execAck (p : Fin 18) (f : Frame) (s : State) : Host.Outcome State Fault Refusal := finish (s.receive p.val (some 8) f)

/-- NACK (R256, R266). -/
def execNack (p : Fin 18) (f : Frame) (s : State) : Host.Outcome State Fault Refusal := finish (s.receive p.val (some 9) f)

/-- WRITE (R294): from a peer hub, on an uplink. -/
def execWrite (u : Fin 2) (f : Frame) (s : State) : Host.Outcome State Fault Refusal :=
  finish (s.receive (16 + u.val) (some 7) f)

/-- PUBTMO_EXPIRY (R252): of record `k`. -/
def execPubtmoExpiry (p : Fin 18) (k : Fin 64) (s : State) : Host.Outcome State Fault Refusal :=
  finish (s.pubExpiry p.val k.val)

/-- POLL_SENT (R261): `stamp` is W0 at the transmit stamp point. -/
def execPollSent (n : Fin 16) (stamp : BitVec 64) (s : State) : Host.Outcome State Fault Refusal :=
  finish (s.pollSent n.val stamp.toNat)

/-- BURST_WINDOW_CLOSE (R262). -/
def execBurstWindowClose (n : Fin 16) (s : State) : Host.Outcome State Fault Refusal := finish (s.closeBurst n.val)

/-- NCMD_READ (R248). -/
def execNcmdRead (req : Req) (n : Fin 16) (s : State) : Host.Outcome State Fault Refusal :=
  finish (s.reqWrite req (Reg.nodeNcmd n.val) 1)

/-- NCMD_WRITE (R248). -/
def execNcmdWrite (req : Req) (n : Fin 16) (s : State) : Host.Outcome State Fault Refusal :=
  finish (s.reqWrite req (Reg.nodeNcmd n.val) 2)

/-- KCMD_LOAD (R246). -/
def execKcmdLoad (req : Req) (p : Fin 18) (s : State) : Host.Outcome State Fault Refusal :=
  finish (s.reqWrite req (kcmdReg p.val) 1)

/-- KCMD_ERASE (R246). -/
def execKcmdErase (req : Req) (p : Fin 18) (s : State) : Host.Outcome State Fault Refusal :=
  finish (s.reqWrite req (kcmdReg p.val) 2)

/-- DISCOVER (R265). -/
def execDiscover (req : Req) (n : Fin 16) (v : Word) (s : State) : Host.Outcome State Fault Refusal :=
  finish (s.writeTxcmd req n.val 1 v)

/-- BIND (R265). -/
def execBind (req : Req) (n : Fin 16) (v : Word) (s : State) : Host.Outcome State Fault Refusal :=
  finish (s.writeTxcmd req n.val 3 v)

/-- TXCMD_WRITE (R265). -/
def execTxcmdWrite (req : Req) (p : Fin 18) (v : Word) (s : State) : Host.Outcome State Fault Refusal :=
  finish (s.writeTxcmd req p.val 7 v)

/-- TXCMD_ACK (R265). -/
def execTxcmdAck (req : Req) (p : Fin 18) (v : Word) (s : State) : Host.Outcome State Fault Refusal :=
  finish (s.writeTxcmd req p.val 8 v)

/-- TXCMD_NACK (R265). -/
def execTxcmdNack (req : Req) (p : Fin 18) (v : Word) (s : State) : Host.Outcome State Fault Refusal :=
  finish (s.writeTxcmd req p.val 9 v)

/-- TXCMD_PUBLISH (R296): on an uplink. -/
def execTxcmdPublish (req : Req) (u : Fin 2) (v : Word) (s : State) : Host.Outcome State Fault Refusal :=
  finish (s.writeTxcmd req (16 + u.val) 6 v)

/-- TXDONE (R265): the mailbox frame has been sent, or `dropped`. -/
def execTxdone (p : Fin 18) (dropped : Bool) (s : State) : Host.Outcome State Fault Refusal :=
  finish (s.endMail p.val dropped)

/-- MBXPOP (R266). -/
def execMbxpop (req : Req) (p : Fin 18) (s : State) : Host.Outcome State Fault Refusal :=
  finish (s.reqWrite req (mbxpopReg p.val) 1)

/-- CD0_READ (R253): the entry that the requester's CIDX names. -/
def execCd0Read (req : Req) (p : Fin 18) (s : State) : Host.Outcome State Fault Refusal := finish (s.reqRead req (cdReg p.val))

/-- PLCACFG_WRITE (R232, R236). -/
def execPlcacfgWrite (req : Req) (n : Fin 16) (v : Word) (s : State) : Host.Outcome State Fault Refusal :=
  finish (s.reqWrite req (Reg.segPlcacfg n.val) v)

end Sys2Proof.Machine
end

