-- ==== Sys2Proof/Machine/ExecTile.lean ====
section
/-! DEFINITION. The commands of the tiles: dispatches, core control and the instruction SRAM window (11 R351, R379-R385). -/

namespace Sys2Proof.Machine

/-- DISPATCH_ARRIVAL (R382): the oldest dispatch on its way to the tile. -/
def execDispatchArrival (t : Fin 128) (s : State) : Host.Outcome State Fault Refusal :=
  finish (s.onlyIf (s.pwr.state == .run) (·.arrive t.val))

/-- DISPATCH_START (R382, R383). -/
def execDispatchStart (t : Fin 128) (s : State) : Host.Outcome State Fault Refusal :=
  finish (s.onlyIf (s.pwr.state == .run && s.tileAwake t.val) (·.dispatchStart t.val))

/-- CCTL_CORE_WRITE (R379): CCTL0 of a tile, or CCTL1 where `c` is 1. -/
def execCctlCoreWrite (req : Req) (t : Fin 128) (c : Fin 2) (v : Word) (s : State) : Host.Outcome State Fault Refusal :=
  finish (s.reqWrite req (cctlReg (2 * t.val + c.val)) v)

/-- IMDATA_ACCESS (R351): a write of IMDATA, or a read. -/
def execImdataAccess (req : Req) (t : Fin 128) (v : Option Word) (s : State) : Host.Outcome State Fault Refusal :=
  finish (match v with
    | some v => s.reqWrite req (Reg.tileImdata t.val) v
    | none => s.reqRead req (Reg.tileImdata t.val))

end Sys2Proof.Machine
end

