-- ==== Sys2Proof/Machine/ExecTime.lean ====
section
/-! DEFINITION. The commands of network time: PTP messages in and out, the servo's holdover, seconds and epochs, and the PTP
registers (08 R267-R290, R336). Ports are numbered as in R271. -/

namespace Sys2Proof.Machine

/-- SYNC (R282, R283). -/
def execSync (p : Fin 18) (m : PtpMsg) (s : State) : Host.Outcome State Fault Refusal := finish (s.ptpSync p.val m)

/-- FOLLOW_UP (R282). -/
def execFollowUp (p : Fin 18) (m : PtpMsg) (s : State) : Host.Outcome State Fault Refusal := finish (s.ptpFollowUp p.val m)

/-- DELAY_REQ (R272). -/
def execDelayReq (p : Fin 18) (m : PtpMsg) (s : State) : Host.Outcome State Fault Refusal := finish (s.ptpDelayReq p.val m)

/-- DELAY_RESP (R282). -/
def execDelayResp (p : Fin 18) (m : PtpMsg) (s : State) : Host.Outcome State Fault Refusal := finish (s.ptpDelayResp p.val m)

/-- PDELAY_REQ (R279). -/
def execPdelayReq (p : Fin 18) (m : PtpMsg) (s : State) : Host.Outcome State Fault Refusal := finish (s.ptpPdelayReq p.val m)

/-- PDELAY_RESP (R279, R282): `fu` tells the Pdelay_Resp_Follow_Up. -/
def execPdelayResp (p : Fin 18) (m : PtpMsg) (fu : Bool) (s : State) : Host.Outcome State Fault Refusal :=
  finish (s.ptpPdelayResp p.val m fu)

/-- PTP_GENERAL_RECEIVE (R274). -/
def execPtpGeneralReceive (p : Fin 18) (m : PtpMsg) (s : State) : Host.Outcome State Fault Refusal :=
  finish (s.ptpGeneral p.val m)

/-- SYNC_SEND (R272). -/
def execSyncSend (p : Fin 18) (s : State) : Host.Outcome State Fault Refusal := finish (s.syncSend p.val)

/-- DELAY_REQ_SEND (R272). -/
def execDelayReqSend (p : Fin 18) (s : State) : Host.Outcome State Fault Refusal := finish (s.delayReqSend p.val)

/-- PDELAY_REQ_SEND (R273). -/
def execPdelayReqSend (u : Fin 2) (s : State) : Host.Outcome State Fault Refusal := finish (s.pdelayReqSend u.val)

/-- EVENT_MESSAGE_SENT (R275, R281): `stamp` is W0 at the transmit stamp point. -/
def execEventMessageSent (p : Fin 18) (stamp : BitVec 64) (s : State) : Host.Outcome State Fault Refusal :=
  finish (s.ptpSent p.val stamp.toNat)

/-- HOLD (R286). -/
def execHold (s : State) : Host.Outcome State Fault Refusal := finish s.hold

/-- EPOCH_WRAP (R289). -/
def execEpochWrap (s : State) : Host.Outcome State Fault Refusal := finish s.epochWrap

/-- PTP_SECOND (R336). -/
def execPtpSecond (s : State) : Host.Outcome State Fault Refusal := finish s.ptpSecond

/-- PTXCMD (R274). -/
def execPtxcmd (req : Req) (v : Word) (s : State) : Host.Outcome State Fault Refusal := finish (s.reqWrite req Reg.ptpPtxcmd v)

/-- PMBXPOP (R274). -/
def execPmbxpop (req : Req) (s : State) : Host.Outcome State Fault Refusal := finish (s.reqWrite req Reg.ptpPmbxpop 1)

/-- PCFG_PTP_WRITE (R272). -/
def execPcfgPtpWrite (req : Req) (p : Fin 18) (v : Word) (s : State) : Host.Outcome State Fault Refusal :=
  finish (s.reqWrite req (Reg.ptppPcfg p.val) v)

/-- FINT_WRITE (R288). -/
def execFintWrite (req : Req) (v : Word) (s : State) : Host.Outcome State Fault Refusal := finish (s.reqWrite req Reg.ptpFint v)

/-- TIMEL_READ (R268). -/
def execTimelRead (req : Req) (s : State) : Host.Outcome State Fault Refusal := finish (s.reqRead req Reg.ptpTimel)

/-- EPOCHW_READ (R289). -/
def execEpochwRead (req : Req) (s : State) : Host.Outcome State Fault Refusal := finish (s.reqRead req Reg.ptpEpochw)

/-- CAPL_READ (R336). -/
def execCaplRead (req : Req) (s : State) : Host.Outcome State Fault Refusal := finish (s.reqRead req Reg.ptpCapl)

/-- PTP_MAILBOX_SENT (R274). -/
def execPtpMailboxSent (s : State) : Host.Outcome State Fault Refusal := finish s.ptpMailSent

end Sys2Proof.Machine
end

