-- ==== Sys2Proof/Machine/ExecUplinks.lean ====
section
/-! DEFINITION. The commands of the uplinks: link, speed, PAUSE, batches, subscription records and bad frames (08
R291-R299). -/

namespace Sys2Proof.Machine

/-- LINKUP (R291). -/
def execLinkup (u : Fin 2) (s : State) : Host.Outcome State Fault Refusal := finish (s.linkUp u.val)

/-- LINKDN (R298). -/
def execLinkdn (u : Fin 2) (s : State) : Host.Outcome State Fault Refusal := finish (s.linkDown u.val)

/-- SPDERR (R291). -/
def execSpderr (u : Fin 2) (s : State) : Host.Outcome State Fault Refusal := finish (s.speedError u.val)

/-- PAUSE_RECEIVE (R292): of `t` quanta. -/
def execPauseReceive (u : Fin 2) (t : BitVec 16) (s : State) : Host.Outcome State Fault Refusal :=
  finish (s.pause u.val t.toNat)

/-- BATCH_FRAGMENT_SENT (R297). -/
def execBatchFragmentSent (u : Fin 2) (s : State) : Host.Outcome State Fault Refusal := finish (s.sendFragment u.val)

/-- SCMD_READ (R248, R294). -/
def execScmdRead (req : Req) (u : Fin 2) (s : State) : Host.Outcome State Fault Refusal :=
  finish (s.reqWrite req (Reg.uplScmd u.val) 1)

/-- SCMD_WRITE (R248, R294). -/
def execScmdWrite (req : Req) (u : Fin 2) (s : State) : Host.Outcome State Fault Refusal :=
  finish (s.reqWrite req (Reg.uplScmd u.val) 2)

/-- BAD_FCS_FRAME (R256, R292). -/
def execBadFcsFrame (p : Fin 18) (s : State) : Host.Outcome State Fault Refusal := finish (s.badFcs p.val)

/-- PAUSE_END (R292). -/
def execPauseEnd (u : Fin 2) (s : State) : Host.Outcome State Fault Refusal := finish (s.endPause u.val)

end Sys2Proof.Machine
end

