-- ==== Sys2Proof/Machine/ExecWeirs.lean ====
section
/-! DEFINITION. The commands of the weirs, pulse channels and trips (06 R197-R227). The input of a weir at the moment of a
command is its operand `x`, in codes. -/

namespace Sys2Proof.Machine

/-- WEIR_CROSSING (R200). -/
def execWeirCrossing (w : Fin 16) (x : Int) (s : State) : Host.Outcome State Fault Refusal := finish (s.crossWeir w.val x)

/-- WEIR_VALID (R201). -/
def execWeirValid (w : Fin 16) (x : Int) (s : State) : Host.Outcome State Fault Refusal := finish (s.validWeir w.val x)

/-- WEIR_SAMPLE (R206). -/
def execWeirSample (w : Fin 16) (x : Int) (s : State) : Host.Outcome State Fault Refusal := finish (s.sampleWeir w.val x)

/-- WCFG_WRITE (R199, R201). -/
def execWcfgWrite (req : Req) (w : Fin 16) (v : Word) (s : State) : Host.Outcome State Fault Refusal :=
  finish (s.reqWrite req (Reg.weirWcfg (w.val / 8) (w.val % 8)) v)

/-- WTHR_WRITE (R199, R202): a write of WTHR, or of WHYS where `hys`. -/
def execWthrWrite (req : Req) (w : Fin 16) (hys : Bool) (v : Word) (s : State) : Host.Outcome State Fault Refusal :=
  finish (s.reqWrite req (if hys then Reg.weirWhys (w.val / 8) (w.val % 8) else Reg.weirWthr (w.val / 8) (w.val % 8)) v)

/-- THRESHOLD_HOLD_END (R202). -/
def execThresholdHoldEnd (w : Fin 16) (x : Int) (s : State) : Host.Outcome State Fault Refusal := finish (s.endHold w.val x)

/-- SWAP (R209): a PTEST write with SWAP, and with TIE where `tie`. -/
def execSwap (req : Req) (w : Fin 16) (tie : Bool) (s : State) : Host.Outcome State Fault Refusal :=
  finish (s.reqWrite req (Reg.weirPtest (w.val / 8) (w.val % 8)) (if tie then 3 else 1))

/-- TIE (R209): a PTEST write with TIE alone. -/
def execTie (req : Req) (w : Fin 16) (s : State) : Host.Outcome State Fault Refusal :=
  finish (s.reqWrite req (Reg.weirPtest (w.val / 8) (w.val % 8)) 2)

/-- PROOF_STEP_END (R209): the step's state is BELOW, INSIDE or ABOVE for `obs` 0, 1 or 2. -/
def execProofStepEnd (w : Fin 16) (obs : Fin 3) (s : State) : Host.Outcome State Fault Refusal :=
  finish (s.endStep w.val (obs.val + 1))

/-- PROOF_TEST_DONE (R210, R211). -/
def execProofTestDone (w : Fin 16) (x : Int) (s : State) : Host.Outcome State Fault Refusal := finish (s.endTest w.val x)

/-- WCLIP (R215): the expiry is handled at the end of the FAB cycle, in the order of R214. -/
def execWclip (ch : Fin 16) (s : State) : Host.Outcome State Fault Refusal := finish (s.askPulse ch.val .wclip)

/-- DEFERRED_EDGE_ADMIT (R216), at the end of the FAB cycle. -/
def execDeferredEdgeAdmit (ch : Fin 16) (s : State) : Host.Outcome State Fault Refusal := finish (s.askPulse ch.val .release)

/-- DCLIP (R217), at the end of the FAB cycle. -/
def execDclip (ch : Fin 16) (s : State) : Host.Outcome State Fault Refusal := finish (s.askPulse ch.val .dclip)

/-- PCFG_WRITE (R213). -/
def execPcfgWrite (req : Req) (ch : Fin 16) (v : Word) (s : State) : Host.Outcome State Fault Refusal :=
  finish (s.reqWrite req (Reg.plsPcfg ch.val) v)

/-- TRIP_BALL (R227): a ball holds a level through its filter. -/
def execTripBall (b : Fin 2) (level : Bool) (s : State) : Host.Outcome State Fault Refusal :=
  finish (s.setTripBall b.val level)

/-- SWTRIP (R222). -/
def execSwtrip (req : Req) (v : Word) (s : State) : Host.Outcome State Fault Refusal := finish (s.reqWrite req Reg.tripSwtrip v)

/-- REARM (R225, R226). -/
def execRearm (req : Req) (v : Word) (s : State) : Host.Outcome State Fault Refusal := finish (s.reqWrite req Reg.tripRearm v)

end Sys2Proof.Machine
end

