-- ==== Sys2Proof/Machine/ExecWheels.lean ====
section
/-! DEFINITION. The commands of the wheels: edges of the balls, losses, register writes, rebases and turns (03 R90-R110,
R336, R554). Wheels are numbered 1-3; plant time is wheel 0. -/

namespace Sys2Proof.Machine

/-- An index event of a wheel: the event, IDXERR while INDEXED, the jump, the leat event (R98, R107, R336). -/
def State.indexWheel (s : State) (n : Nat) : State :=
  let was := s.rb (Reg.whlSta n) 0
  let target := s.indexTarget? n
  let s := s.raise (Page.whl n) 0
  let s := s.onlyIf (was && target.isSome) (fun s => (s.bump (Reg.whlIdxerr n)).raise (Page.whl n) 1)
  let s := s.setb (Reg.whlSta n) 0 true
  let s := match target with
    | some p => (s.jumpWheel n p).alignShaft n p
    | none => s
  s.event (Page.whl n) 1

/-- A rising WHZ edge at every wheel (R98). -/
def State.indexEdge (s : State) : State :=
  [1, 2, 3].foldl (fun s n => s.onlyIf (s.indexTaken n) (·.indexWheel n)) s

/-- An accepted MSYNC edge at a wheel: the jump of R103 or a run of the loop; MLOSS is cleared (R102-R104). -/
def State.mainsEdgeAt (s : State) (n : Nat) : State :=
  let jump := s.mainsJump? n
  let s := s.setb (Reg.whlSta n) 4 false
  match jump with
  | some p =>
    let s := s.jumpWheel n p
    let w := s.wheel n
    s.setWheel n { w with accEdges := 1, frac := 0, lastAcc := some s.time.fab, lockRun := 0 }
  | none => s.mainsLoop n

/-- QUADRATURE_EDGE (R96, R97): a raw edge on WHA (`b` false) or WHB (`b` true), at every wheel. -/
def execQuadratureEdge (b level : Bool) (s : State) : Host.Outcome State Fault Refusal :=
  finish ([1, 2, 3].foldl (fun s n => s.rawEdge n b level) s)

/-- INDEX_EVENT (R98): WHZ rises. -/
def execIndexEvent (s : State) : Host.Outcome State Fault Refusal := finish s.indexEdge

/-- STOPPED (R100). -/
def execStopped (n : Fin 4) (s : State) : Host.Outcome State Fault Refusal :=
  finish (s.onlyIf (n.val != 0 && s.stopDue n.val) (·.stopWheel n.val))

/-- MAINS_EDGE (R101-R104): MSYNC rises. -/
def execMainsEdge (s : State) : Host.Outcome State Fault Refusal :=
  finish ([1, 2, 3].foldl (fun s n => s.onlyIf (s.wheelSrc n == 2 && s.mainsAccepts n) (·.mainsEdgeAt n)) s)

/-- MLOSS (R104). -/
def execMloss (n : Fin 4) (s : State) : Host.Outcome State Fault Refusal :=
  finish (s.onlyIf (n.val != 0 && s.mainsLost n.val) (·.loseMains n.val))

/-- STEP_WRITE (R106). -/
def execStepWrite (req : Req) (n : Fin 4) (v : Word) (s : State) : Host.Outcome State Fault Refusal :=
  finish (s.reqWrite req (Reg.whlStep n.val) v)

/-- SOURCE_SWITCH (R108): a CFG write. -/
def execSourceSwitch (req : Req) (n : Fin 4) (v : Word) (s : State) : Host.Outcome State Fault Refusal :=
  finish (s.reqWrite req (Reg.whlCfg n.val) v)

/-- SDIV_WRITE (R105). -/
def execSdivWrite (req : Req) (n : Fin 4) (v : Word) (s : State) : Host.Outcome State Fault Refusal :=
  finish (s.reqWrite req (Reg.whlSdiv n.val) v)

/-- LINES_WRITE (R554). -/
def execLinesWrite (req : Req) (n : Fin 4) (v : Word) (s : State) : Host.Outcome State Fault Refusal :=
  finish (s.reqWrite req (Reg.whlLines n.val) v)

/-- TSTOP_WRITE (R100): from now on measured from the last counted edge. -/
def execTstopWrite (req : Req) (n : Fin 4) (v : Word) (s : State) : Host.Outcome State Fault Refusal :=
  finish (s.reqWrite req (Reg.whlTstop n.val) v)

/-- REBASE (R109). -/
def execRebase (req : Req) (n : Fin 4) (v : Word) (s : State) : Host.Outcome State Fault Refusal :=
  finish (s.reqWrite req (Reg.whlRebase n.val) v)

/-- REBASED (R109): the background rewrite finishes. -/
def execRebased (n : Fin 4) (s : State) : Host.Outcome State Fault Refusal :=
  finish (s.onlyIf (s.wheel n.val).rebasing (fun s =>
    (s.setWheel n.val { s.wheel n.val with rebasing := false }).raise (Page.whl n.val) 12))

/-- POSL_READ (R90, R453). -/
def execPoslRead (req : Req) (n : Fin 4) (s : State) : Host.Outcome State Fault Refusal :=
  finish (s.reqRead req (Reg.whlPosl n.val))

/-- HIGHL_READ (R91, R453). -/
def execHighlRead (req : Req) (n : Fin 4) (s : State) : Host.Outcome State Fault Refusal :=
  finish (s.reqRead req (Reg.whlHighl n.val))

/-- WHEEL_TURN (R336): HIGH has crossed a whole turn. -/
def execWheelTurn (n : Fin 4) (s : State) : Host.Outcome State Fault Refusal :=
  finish (s.onlyIf (s.turnDue n.val) (·.turnEvent n.val))

end Sys2Proof.Machine
end

