-- ==== Sys2Proof/Machine/Dispatch.lean ====
section
/-! DEFINITION. One arm for every constructor of Instr: a direct call of its meaning, or the refusal by name of a row
without one. -/

namespace Sys2Proof.Machine

/-- The effect of a command on everything but the queue. -/
def exec (i : Instr) (s : State) : Host.Outcome State Fault Refusal :=
  match i with
  | .fabricWriteAck src => Sys2Proof.Machine.execFabricWriteAck src s
  | .evaluation => Sys2Proof.Machine.execEvaluation s
  | .outOfTurnEvaluation => Sys2Proof.Machine.execOutOfTurnEvaluation s
  | .move1Post req v => Sys2Proof.Machine.execMove1Post req v s
  | .migrationStart => Sys2Proof.Machine.execMigrationStart s
  | .migrationHold lane => Sys2Proof.Machine.execMigrationHold lane s
  | .pinned lane => Sys2Proof.Machine.execPinned lane s
  | .migrationCopyDone lane => Sys2Proof.Machine.execMigrationCopyDone lane s
  | .mapFlip lane => Sys2Proof.Machine.execMapFlip lane s
  | .mapJournalWrite => Sys2Proof.Machine.execMapJournalWrite s
  | .mvdone0Read req => Sys2Proof.Machine.execMvdone0Read req s
  | .prdptWrite req v => Sys2Proof.Machine.execPrdptWrite req v s
  | .pointReadDone => Sys2Proof.Machine.execPointReadDone s
  | .mapdatWrite req v => Sys2Proof.Machine.execMapdatWrite req v s
  | .pinclrWrite req v => Sys2Proof.Machine.execPinclrWrite req v s
  | .tileRetirePending t => Sys2Proof.Machine.execTileRetirePending t s
  | .retiredMapJournalWrite => Sys2Proof.Machine.execRetiredMapJournalWrite s
  | .retireClear req n v => Sys2Proof.Machine.execRetireClear req n v s
  | .tileGate unit => Sys2Proof.Machine.execTileGate unit s
  | .wakeGuard t => Sys2Proof.Machine.execWakeGuard t s
  | .tileWakeDone t => Sys2Proof.Machine.execTileWakeDone t s
  | .clusterWakeDone c => Sys2Proof.Machine.execClusterWakeDone c s
  | .quadratureEdge b level => Sys2Proof.Machine.execQuadratureEdge b level s
  | .indexEvent => Sys2Proof.Machine.execIndexEvent s
  | .stopped n => Sys2Proof.Machine.execStopped n s
  | .mainsEdge => Sys2Proof.Machine.execMainsEdge s
  | .mloss n => Sys2Proof.Machine.execMloss n s
  | .stepWrite req n v => Sys2Proof.Machine.execStepWrite req n v s
  | .sourceSwitch req n v => Sys2Proof.Machine.execSourceSwitch req n v s
  | .sdivWrite req n v => Sys2Proof.Machine.execSdivWrite req n v s
  | .linesWrite req n v => Sys2Proof.Machine.execLinesWrite req n v s
  | .tstopWrite req n v => Sys2Proof.Machine.execTstopWrite req n v s
  | .rebase req n v => Sys2Proof.Machine.execRebase req n v s
  | .rebased n => Sys2Proof.Machine.execRebased n s
  | .poslRead req n => Sys2Proof.Machine.execPoslRead req n s
  | .highlRead req n => Sys2Proof.Machine.execHighlRead req n s
  | .ticketSlot => Sys2Proof.Machine.execTicketSlot s
  | .laneSlot => Sys2Proof.Machine.execLaneSlot s
  | .ovrun lane => Sys2Proof.Machine.execOvrun lane s
  | .calcmdRead req => Sys2Proof.Machine.execCalcmdRead req s
  | .calcmdWrite req => Sys2Proof.Machine.execCalcmdWrite req s
  | .duehRead req c => Sys2Proof.Machine.execDuehRead req c s
  | .csyncLanding g => Sys2Proof.Machine.execCsyncLanding g s
  | .excswLanding ch => Sys2Proof.Machine.execExcswLanding ch s
  | .pedgeLanding ch => Sys2Proof.Machine.execPedgeLanding ch s
  | .pollLanding n => Sys2Proof.Machine.execPollLanding n s
  | .tboundLanding g => Sys2Proof.Machine.execTboundLanding g s
  | .lfireLanding => Sys2Proof.Machine.execLfireLanding s
  | .bcloseLanding n => Sys2Proof.Machine.execBcloseLanding n s
  | .rangeDetect g xs => Sys2Proof.Machine.execRangeDetect g xs s
  | .rangeSwitch g => Sys2Proof.Machine.execRangeSwitch g s
  | .blankEnd g => Sys2Proof.Machine.execBlankEnd g s
  | .settleEnd g => Sys2Proof.Machine.execSettleEnd g s
  | .probeEnd g xs => Sys2Proof.Machine.execProbeEnd g xs s
  | .scanEntryEnd g => Sys2Proof.Machine.execScanEntryEnd g s
  | .scango req g => Sys2Proof.Machine.execScango req g s
  | .cctlWrite req g v => Sys2Proof.Machine.execCctlWrite req g v s
  | .inselWrite req g v => Sys2Proof.Machine.execInselWrite req g v s
  | .imodeWrite req g v => Sys2Proof.Machine.execImodeWrite req g v s
  | .rngWrite req g v => Sys2Proof.Machine.execRngWrite req g v s
  | .trimWrite req g t offset v => Sys2Proof.Machine.execTrimWrite req g t offset v s
  | .reflow g => Sys2Proof.Machine.execReflow g s
  | .reflowEnd g => Sys2Proof.Machine.execReflowEnd g s
  | .openSet g j => Sys2Proof.Machine.execOpenSet g j s
  | .openClear g j => Sys2Proof.Machine.execOpenClear g j s
  | .burnWrite req g v => Sys2Proof.Machine.execBurnWrite req g v s
  | .chselWrite req k v => Sys2Proof.Machine.execChselWrite req k v s
  | .excpWrite req p v => Sys2Proof.Machine.execExcpWrite req p v s
  | .xctlWrite req v => Sys2Proof.Machine.execXctlWrite req v s
  | .xrearm req => Sys2Proof.Machine.execXrearm req s
  | .compl k => Sys2Proof.Machine.execCompl k s
  | .ilimit k => Sys2Proof.Machine.execIlimit k s
  | .filterOutput g xs => Sys2Proof.Machine.execFilterOutput g xs s
  | .firOutput g xs => Sys2Proof.Machine.execFirOutput g xs s
  | .firdrop g xs => Sys2Proof.Machine.execFirdrop g xs s
  | .pathWrite req g v => Sys2Proof.Machine.execPathWrite req g v s
  | .bankWrite req addr v => Sys2Proof.Machine.execBankWrite req addr v s
  | .newW0lRead req e k j => Sys2Proof.Machine.execNewW0lRead req e k j s
  | .rrd0Read req e => Sys2Proof.Machine.execRrd0Read req e s
  | .weirCrossing w x => Sys2Proof.Machine.execWeirCrossing w x s
  | .weirValid w x => Sys2Proof.Machine.execWeirValid w x s
  | .weirSample w x => Sys2Proof.Machine.execWeirSample w x s
  | .wcfgWrite req w v => Sys2Proof.Machine.execWcfgWrite req w v s
  | .wthrWrite req w hys v => Sys2Proof.Machine.execWthrWrite req w hys v s
  | .thresholdHoldEnd w x => Sys2Proof.Machine.execThresholdHoldEnd w x s
  | .swap req w tie => Sys2Proof.Machine.execSwap req w tie s
  | .tie req w => Sys2Proof.Machine.execTie req w s
  | .proofStepEnd w obs => Sys2Proof.Machine.execProofStepEnd w obs s
  | .proofTestDone w x => Sys2Proof.Machine.execProofTestDone w x s
  | .wclip ch => Sys2Proof.Machine.execWclip ch s
  | .deferredEdgeAdmit ch => Sys2Proof.Machine.execDeferredEdgeAdmit ch s
  | .dclip ch => Sys2Proof.Machine.execDclip ch s
  | .pcfgWrite req ch v => Sys2Proof.Machine.execPcfgWrite req ch v s
  | .tripBall b level => Sys2Proof.Machine.execTripBall b level s
  | .swtrip req v => Sys2Proof.Machine.execSwtrip req v s
  | .rearm req v => Sys2Proof.Machine.execRearm req v s
  | .plcaBeacon n => Sys2Proof.Machine.execPlcaBeacon n s
  | .beaconReceive n => Sys2Proof.Machine.execBeaconReceive n s
  | .fallback n => Sys2Proof.Machine.execFallback n s
  | .collision n => Sys2Proof.Machine.execCollision n s
  | .frameReceive p f => Sys2Proof.Machine.execFrameReceive p f s
  | .announce n f => Sys2Proof.Machine.execAnnounce n f s
  | .reply n f => Sys2Proof.Machine.execReply n f s
  | .publish p f => Sys2Proof.Machine.execPublish p f s
  | .ack p f => Sys2Proof.Machine.execAck p f s
  | .nack p f => Sys2Proof.Machine.execNack p f s
  | .write u f => Sys2Proof.Machine.execWrite u f s
  | .pubtmoExpiry p k => Sys2Proof.Machine.execPubtmoExpiry p k s
  | .pollSent n stamp => Sys2Proof.Machine.execPollSent n stamp s
  | .burstWindowClose n => Sys2Proof.Machine.execBurstWindowClose n s
  | .ncmdRead req n => Sys2Proof.Machine.execNcmdRead req n s
  | .ncmdWrite req n => Sys2Proof.Machine.execNcmdWrite req n s
  | .kcmdLoad req p => Sys2Proof.Machine.execKcmdLoad req p s
  | .kcmdErase req p => Sys2Proof.Machine.execKcmdErase req p s
  | .discover req n v => Sys2Proof.Machine.execDiscover req n v s
  | .bind req n v => Sys2Proof.Machine.execBind req n v s
  | .txcmdWrite req p v => Sys2Proof.Machine.execTxcmdWrite req p v s
  | .txcmdAck req p v => Sys2Proof.Machine.execTxcmdAck req p v s
  | .txcmdNack req p v => Sys2Proof.Machine.execTxcmdNack req p v s
  | .txcmdPublish req u v => Sys2Proof.Machine.execTxcmdPublish req u v s
  | .txdone p dropped => Sys2Proof.Machine.execTxdone p dropped s
  | .mbxpop req p => Sys2Proof.Machine.execMbxpop req p s
  | .cd0Read req p => Sys2Proof.Machine.execCd0Read req p s
  | .plcacfgWrite req n v => Sys2Proof.Machine.execPlcacfgWrite req n v s
  | .sync p m => Sys2Proof.Machine.execSync p m s
  | .followUp p m => Sys2Proof.Machine.execFollowUp p m s
  | .delayReq p m => Sys2Proof.Machine.execDelayReq p m s
  | .delayResp p m => Sys2Proof.Machine.execDelayResp p m s
  | .pdelayReq p m => Sys2Proof.Machine.execPdelayReq p m s
  | .pdelayResp p m fu => Sys2Proof.Machine.execPdelayResp p m fu s
  | .ptpGeneralReceive p m => Sys2Proof.Machine.execPtpGeneralReceive p m s
  | .syncSend p => Sys2Proof.Machine.execSyncSend p s
  | .delayReqSend p => Sys2Proof.Machine.execDelayReqSend p s
  | .pdelayReqSend u => Sys2Proof.Machine.execPdelayReqSend u s
  | .eventMessageSent p stamp => Sys2Proof.Machine.execEventMessageSent p stamp s
  | .hold => Sys2Proof.Machine.execHold s
  | .epochWrap => Sys2Proof.Machine.execEpochWrap s
  | .ptpSecond => Sys2Proof.Machine.execPtpSecond s
  | .ptxcmd req v => Sys2Proof.Machine.execPtxcmd req v s
  | .pmbxpop req => Sys2Proof.Machine.execPmbxpop req s
  | .pcfgPtpWrite req p v => Sys2Proof.Machine.execPcfgPtpWrite req p v s
  | .fintWrite req v => Sys2Proof.Machine.execFintWrite req v s
  | .timelRead req => Sys2Proof.Machine.execTimelRead req s
  | .epochwRead req => Sys2Proof.Machine.execEpochwRead req s
  | .caplRead req => Sys2Proof.Machine.execCaplRead req s
  | .linkup u => Sys2Proof.Machine.execLinkup u s
  | .linkdn u => Sys2Proof.Machine.execLinkdn u s
  | .spderr u => Sys2Proof.Machine.execSpderr u s
  | .pauseReceive u t => Sys2Proof.Machine.execPauseReceive u t s
  | .batchFragmentSent u => Sys2Proof.Machine.execBatchFragmentSent u s
  | .scmdRead req u => Sys2Proof.Machine.execScmdRead req u s
  | .scmdWrite req u => Sys2Proof.Machine.execScmdWrite req u s
  | .laneCopy t => Sys2Proof.Machine.execLaneCopy t s
  | .entrySeal t => Sys2Proof.Machine.execEntrySeal t s
  | .globalSnapshot => Sys2Proof.Machine.execGlobalSnapshot s
  | .snapLatch req page => Sys2Proof.Machine.execSnapLatch req page s
  | .snapRelease req page => Sys2Proof.Machine.execSnapRelease req page s
  | .snrdWrite req t v => Sys2Proof.Machine.execSnrdWrite req t v s
  | .snbaseWrite req t cnt v => Sys2Proof.Machine.execSnbaseWrite req t cnt v s
  | .append n ks => Sys2Proof.Machine.execAppend n ks s
  | .close req n => Sys2Proof.Machine.execClose req n s
  | .spilltmoExpiry n => Sys2Proof.Machine.execSpilltmoExpiry n s
  | .spillAccepted n => Sys2Proof.Machine.execSpillAccepted n s
  | .alarmPost req v => Sys2Proof.Machine.execAlarmPost req v s
  | .alcmd k => Sys2Proof.Machine.execAlcmd k s
  | .poplRead reqs => Sys2Proof.Machine.execPoplRead reqs s
  | .peeklRead req => Sys2Proof.Machine.execPeeklRead req s
  | .talgLatchRead req r => Sys2Proof.Machine.execTalgLatchRead req r s
  | .fire req v => Sys2Proof.Machine.execFire req v s
  | .firem req n v => Sys2Proof.Machine.execFirem req n v s
  | .stormUnmask req n v => Sys2Proof.Machine.execStormUnmask req n v s
  | .routingWrite req addr v => Sys2Proof.Machine.execRoutingWrite req addr v s
  | .ccfgWrite req ch v => Sys2Proof.Machine.execCcfgWrite req ch v s
  | .globalPeriodBoundary => Sys2Proof.Machine.execGlobalPeriodBoundary s
  | .leatBposlRead req => Sys2Proof.Machine.execLeatBposlRead req s
  | .dispatchArrival t => Sys2Proof.Machine.execDispatchArrival t s
  | .dispatchStart t => Sys2Proof.Machine.execDispatchStart t s
  | .add k => Sys2Proof.Machine.execAdd k s
  | .sub k => Sys2Proof.Machine.execSub k s
  | .and_ k => Sys2Proof.Machine.execAnd k s
  | .or_ k => Sys2Proof.Machine.execOr k s
  | .xor_ k => Sys2Proof.Machine.execXor k s
  | .mov k => Sys2Proof.Machine.execMov k s
  | .not_ k => Sys2Proof.Machine.execNot k s
  | .neg k => Sys2Proof.Machine.execNeg k s
  | .shl k => Sys2Proof.Machine.execShl k s
  | .shr k => Sys2Proof.Machine.execShr k s
  | .sar k => Sys2Proof.Machine.execSar k s
  | .rol k => Sys2Proof.Machine.execRol k s
  | .shli k => Sys2Proof.Machine.execShli k s
  | .shri k => Sys2Proof.Machine.execShri k s
  | .sari k => Sys2Proof.Machine.execSari k s
  | .roli k => Sys2Proof.Machine.execRoli k s
  | .minu k => Sys2Proof.Machine.execMinu k s
  | .maxu k => Sys2Proof.Machine.execMaxu k s
  | .mins k => Sys2Proof.Machine.execMins k s
  | .maxs k => Sys2Proof.Machine.execMaxs k s
  | .sltu k => Sys2Proof.Machine.execSltu k s
  | .slt k => Sys2Proof.Machine.execSlt k s
  | .addc k => Sys2Proof.Machine.execAddc k s
  | .subc k => Sys2Proof.Machine.execSubc k s
  | .addi k => Sys2Proof.Machine.execAddi k s
  | .andi k => Sys2Proof.Machine.execAndi k s
  | .ori k => Sys2Proof.Machine.execOri k s
  | .xori k => Sys2Proof.Machine.execXori k s
  | .li k => Sys2Proof.Machine.execLi k s
  | .mfs k => Sys2Proof.Machine.execMfs k s
  | .mts k => Sys2Proof.Machine.execMts k s
  | .mfsp k => Sys2Proof.Machine.execMfsp k s
  | .mtsp k => Sys2Proof.Machine.execMtsp k s
  | .addp k => Sys2Proof.Machine.execAddp k s
  | .subp k => Sys2Proof.Machine.execSubp k s
  | .movp k => Sys2Proof.Machine.execMovp k s
  | .shlp k => Sys2Proof.Machine.execShlp k s
  | .shrp k => Sys2Proof.Machine.execShrp k s
  | .sarp k => Sys2Proof.Machine.execSarp k s
  | .sxp k => Sys2Proof.Machine.execSxp k s
  | .zxp k => Sys2Proof.Machine.execZxp k s
  | .lip k => Sys2Proof.Machine.execLip k s
  | .addpi k => Sys2Proof.Machine.execAddpi k s
  | .mulu k => Sys2Proof.Machine.execMulu k s
  | .muls k => Sys2Proof.Machine.execMuls k s
  | .mulsu k => Sys2Proof.Machine.execMulsu k s
  | .macu k => Sys2Proof.Machine.execMacu k s
  | .macs k => Sys2Proof.Machine.execMacs k s
  | .mpclr k => Sys2Proof.Machine.execMpclr k s
  | .multiplierComplete k => Sys2Proof.Machine.execMultiplierComplete k s
  | .ld k => Sys2Proof.Machine.execLd k s
  | .st k => Sys2Proof.Machine.execSt k s
  | .ldp k => Sys2Proof.Machine.execLdp k s
  | .stp k => Sys2Proof.Machine.execStp k s
  | .beq k => Sys2Proof.Machine.execBeq k s
  | .bne k => Sys2Proof.Machine.execBne k s
  | .blt k => Sys2Proof.Machine.execBlt k s
  | .bge k => Sys2Proof.Machine.execBge k s
  | .bltu k => Sys2Proof.Machine.execBltu k s
  | .bgeu k => Sys2Proof.Machine.execBgeu k s
  | .beqi k => Sys2Proof.Machine.execBeqi k s
  | .bnei k => Sys2Proof.Machine.execBnei k s
  | .bltui k => Sys2Proof.Machine.execBltui k s
  | .bgeui k => Sys2Proof.Machine.execBgeui k s
  | .pbeq k => Sys2Proof.Machine.execPbeq k s
  | .pbne k => Sys2Proof.Machine.execPbne k s
  | .pbltu k => Sys2Proof.Machine.execPbltu k s
  | .pbgeu k => Sys2Proof.Machine.execPbgeu k s
  | .bbc k => Sys2Proof.Machine.execBbc k s
  | .bbs k => Sys2Proof.Machine.execBbs k s
  | .j k => Sys2Proof.Machine.execJ k s
  | .jal k => Sys2Proof.Machine.execJal k s
  | .jr k => Sys2Proof.Machine.execJr k s
  | .nop k => Sys2Proof.Machine.execNop k s
  | .sysEnd k => Sys2Proof.Machine.execSysEnd k s
  | .ret k => Sys2Proof.Machine.execRet k s
  | .rtt k => Sys2Proof.Machine.execRtt k s
  | .rtr k => Sys2Proof.Machine.execRtr k s
  | .lclr k => Sys2Proof.Machine.execLclr k s
  | .bkpt k => Sys2Proof.Machine.execBkpt k s
  | .sysTrap k => Sys2Proof.Machine.execSysTrap k s
  | .loop k => Sys2Proof.Machine.execLoop k s
  | .loopi k => Sys2Proof.Machine.execLoopi k s
  | .ewait k => Sys2Proof.Machine.execEwait k s
  | .ewaitReturn k => Sys2Proof.Machine.execEwaitReturn k s
  | .wtu k => Sys2Proof.Machine.execWtu k s
  | .wtuReturn k => Sys2Proof.Machine.execWtuReturn k s
  | .wtuTimeout k => Sys2Proof.Machine.execWtuTimeout k s
  | .epostPost k => Sys2Proof.Machine.execEpostPost k s
  | .epostFire k => Sys2Proof.Machine.execEpostFire k s
  | .epostFireRegister k => Sys2Proof.Machine.execEpostFireRegister k s
  | .budget k => Sys2Proof.Machine.execBudget k s
  | .commit k => Sys2Proof.Machine.execCommit k s
  | .ppOpen k => Sys2Proof.Machine.execPpOpen k s
  | .cmtpt k => Sys2Proof.Machine.execCmtpt k s
  | .ppcmdClose k => Sys2Proof.Machine.execPpcmdClose k s
  | .lapsed k => Sys2Proof.Machine.execLapsed k s
  | .wzWrite k hi => Sys2Proof.Machine.execWzWrite k hi s
  | .tw0Read k n => Sys2Proof.Machine.execTw0Read k n s
  | .cctlCoreWrite req t c v => Sys2Proof.Machine.execCctlCoreWrite req t c v s
  | .imdataAccess req t v => Sys2Proof.Machine.execImdataAccess req t v s
  | .scrubRead st j => Sys2Proof.Machine.execScrubRead st j s
  | .mbistStart req v => Sys2Proof.Machine.execMbistStart req v s
  | .mbdone pass word => Sys2Proof.Machine.execMbdone pass word s
  | .elclr req v => Sys2Proof.Machine.execElclr req v s
  | .jdatlRead req => Sys2Proof.Machine.execJdatlRead req s
  | .jdathRead req => Sys2Proof.Machine.execJdathRead req s
  | .jdatlWrite req v => Sys2Proof.Machine.execJdatlWrite req v s
  | .jdathWrite req v => Sys2Proof.Machine.execJdathWrite req v s
  | .flashRead req v => Sys2Proof.Machine.execFlashRead req v s
  | .prog req v => Sys2Proof.Machine.execProg req v s
  | .erase req v => Sys2Proof.Machine.execErase req v s
  | .suspend req v => Sys2Proof.Machine.execSuspend req v s
  | .resume req v => Sys2Proof.Machine.execResume req v s
  | .markbad req v => Sys2Proof.Machine.execMarkbad req v s
  | .flashClose req v => Sys2Proof.Machine.execFlashClose req v s
  | .flashOpStart => Sys2Proof.Machine.execFlashOpStart s
  | .flashReadDone flips ldpc => Sys2Proof.Machine.execFlashReadDone flips ldpc s
  | .progDone ok => Sys2Proof.Machine.execProgDone ok s
  | .eraseDone ok => Sys2Proof.Machine.execEraseDone ok s
  | .closeDone ok => Sys2Proof.Machine.execCloseDone ok s
  | .fdone0Read req => Sys2Proof.Machine.execFdone0Read req s
  | .hostWr bytes cut both early => Sys2Proof.Machine.execHostWr bytes cut both early s
  | .hostWrf bytes cut both early => Sys2Proof.Machine.execHostWrf bytes cut both early s
  | .hostRd addr n ahead both early => Sys2Proof.Machine.execHostRd addr n ahead both early s
  | .hostRdf addr n ahead both early => Sys2Proof.Machine.execHostRdf addr n ahead both early s
  | .rdsta n both early => Sys2Proof.Machine.execRdsta n both early s
  | .prst both => Sys2Proof.Machine.execPrst both s
  | .badcmd both => Sys2Proof.Machine.execBadcmd both s
  | .streamRd addr n both early => Sys2Proof.Machine.execStreamRd addr n both early s
  | .hostWordApply => Sys2Proof.Machine.execHostWordApply s
  | .rto addr => Sys2Proof.Machine.execRto addr s
  | .hcfgWrite req v => Sys2Proof.Machine.execHcfgWrite req v s
  | .registerWrite addr ws => Sys2Proof.Machine.execRegisterWrite addr ws s
  | .irawClear req page v => Sys2Proof.Machine.execIrawClear req page v s
  | .irawSet req page v => Sys2Proof.Machine.execIrawSet req page v s
  | .softReset req page v => Sys2Proof.Machine.execSoftReset req page v s
  | .pageLock req page v => Sys2Proof.Machine.execPageLock req page v s
  | .pageEnable req page v => Sys2Proof.Machine.execPageEnable req page v s
  | .por => Sys2Proof.Machine.execPor s
  | .nrstPin => Sys2Proof.Machine.execNrstPin s
  | .bor => Sys2Proof.Machine.execBor s
  | .wdog => Sys2Proof.Machine.execWdog s
  | .wdwarn => Sys2Proof.Machine.execWdwarn s
  | .wdkick req v => Sys2Proof.Machine.execWdkick req v s
  | .rstcmd req v => Sys2Proof.Machine.execRstcmd req v s
  | .coldStart => Sys2Proof.Machine.execColdStart s
  | .pgoodHigh straps => Sys2Proof.Machine.execPgoodHigh straps s
  | .pgoodTimeout => Sys2Proof.Machine.execPgoodTimeout s
  | .go req => Sys2Proof.Machine.execGo req s
  | .hctlWrite req v => Sys2Proof.Machine.execHctlWrite req v s
  | .psreqSleep req => Sys2Proof.Machine.execPsreqSleep req s
  | .psreqHibernate req => Sys2Proof.Machine.execPsreqHibernate req s
  | .psreqRun => Sys2Proof.Machine.execPsreqRun s
  | .quiescent => Sys2Proof.Machine.execQuiescent s
  | .quiesceTimeout => Sys2Proof.Machine.execQuiesceTimeout s
  | .hibernateEntryDone => Sys2Proof.Machine.execHibernateEntryDone s
  | .wakePin j level => Sys2Proof.Machine.execWakePin j level s
  | .rtcAlarm => Sys2Proof.Machine.execRtcAlarm s
  | .restore straps => Sys2Proof.Machine.execRestore straps s
  | .tileReload => Sys2Proof.Machine.execTileReload s
  | .rtccmdSet req => Sys2Proof.Machine.execRtccmdSet req s
  | .rtccmdSync req => Sys2Proof.Machine.execRtccmdSync req s
  | .rtcSyncLoad => Sys2Proof.Machine.execRtcSyncLoad s
  | .rtclRead req => Sys2Proof.Machine.execRtclRead req s
  | .tempSample ts => Sys2Proof.Machine.execTempSample ts s
  | .thclr req v => Sys2Proof.Machine.execThclr req v s
  | .tlimWrite req v => Sys2Proof.Machine.execTlimWrite req v s
  | .railWarn r mv => Sys2Proof.Machine.execRailWarn r mv s
  | .railFault r mv => Sys2Proof.Machine.execRailFault r mv s
  | .railRecover r mv => Sys2Proof.Machine.execRailRecover r mv s
  | .procCount c n => Sys2Proof.Machine.execProcCount c n s
  | .pgoodFall => Sys2Proof.Machine.execPgoodFall s
  | .gpioEdge n level => Sys2Proof.Machine.execGpioEdge n level s
  | .gset req v => Sys2Proof.Machine.execGset req v s
  | .gclr req v => Sys2Proof.Machine.execGclr req v s
  | .lineReset resync => Sys2Proof.Machine.execLineReset resync s
  | .rdreg tag crcOk late addr => Sys2Proof.Machine.execRdreg tag crcOk late addr s
  | .wrreg tag crcOk late addr v => Sys2Proof.Machine.execWrreg tag crcOk late addr v s
  | .rdmem tag crcOk late a => Sys2Proof.Machine.execRdmem tag crcOk late a s
  | .wrmem tag crcOk late a v => Sys2Proof.Machine.execWrmem tag crcOk late a v s
  | .halt tag crcOk late k => Sys2Proof.Machine.execHalt tag crcOk late k s
  | .ctlResume tag crcOk late k => Sys2Proof.Machine.execCtlResume tag crcOk late k s
  | .ctlStep tag crcOk late k => Sys2Proof.Machine.execCtlStep tag crcOk late k s
  | .haltall tag crcOk late => Sys2Proof.Machine.execHaltall tag crcOk late s
  | .resumeall tag crcOk late => Sys2Proof.Machine.execResumeall tag crcOk late s
  | .coreHalted k => Sys2Proof.Machine.execCoreHalted k s
  | .breakpoint k => Sys2Proof.Machine.execBreakpoint k s
  | .crd tag crcOk late k sel => Sys2Proof.Machine.execCrd tag crcOk late k sel s
  | .cwr tag crcOk late k sel v => Sys2Proof.Machine.execCwr tag crcOk late k sel v s
  | .idcode tag crcOk bad => Sys2Proof.Machine.execIdcode tag crcOk bad s
  | .chal tag crcOk => Sys2Proof.Machine.execChal tag crcOk s
  | .resp tag crcOk v => Sys2Proof.Machine.execResp tag crcOk v s
  | .dbgReset tag crcOk v => Sys2Proof.Machine.execDbgReset tag crcOk v s
  | .collect tag crcOk tagOf => Sys2Proof.Machine.execCollect tag crcOk tagOf s
  | .debugOperationComplete => Sys2Proof.Machine.execDebugOperationComplete s
  | .relock req v => Sys2Proof.Machine.execRelock req v s
  | .resop k => Sys2Proof.Machine.execResop k s
  | .wheelTurn n => Sys2Proof.Machine.execWheelTurn n s
  | .badFcsFrame p => Sys2Proof.Machine.execBadFcsFrame p s
  | .pauseEnd u => Sys2Proof.Machine.execPauseEnd u s
  | .ptpMailboxSent => Sys2Proof.Machine.execPtpMailboxSent s
  | .complClear k => Sys2Proof.Machine.execComplClear k s
  | .ilimitClear k => Sys2Proof.Machine.execIlimitClear k s
  | .pgoodReturn => Sys2Proof.Machine.execPgoodReturn s

end Sys2Proof.Machine
end

