-- ==== Sys2Proof/Machine/Tick.lean ====
section
/-! DEFINITION. What passes in one FAB cycle with no command (assumption 3): plant time, wheels, duty credit, the AON clock,
the watchdog, gated time and busy cycles. Everything that takes a decision is a command of its own. -/

namespace Sys2Proof.Machine

/-- Gated time of a cluster: GATEUS counts whole µs (11, CLU page). -/
def State.tickGated (s : State) (c : Nat) : State :=
  let x := s.cluster c
  if x.awake then s
  else if x.gatedCyc + 1 < usCycles 1 then s.setCluster c { x with gatedCyc := x.gatedCyc + 1 }
  else (s.setCluster c { x with gatedCyc := 0 }).bump (Reg.cluGateus c)

/-- The core spends this core cycle on a program: active and in no wait (R353, R375, R385). -/
def State.coreBusy (s : State) (k : Nat) : Bool := s.coreActive k && (s.core k).wait == .none

/-- The FAB cycle ends a core cycle of core `k`, by the clock of its cluster (R500). -/
def State.coreEdge (s : State) (k : Nat) : Bool :=
  decide ((s.time.fab - (s.cluster (k / 32)).cycFrom) % s.coreDiv (k / 32) = 0)

/-- One core cycle of core `k`: an entry of its write buffer drains (R367), BUSYC, the tile's load (R57) and the dispatch's busy
cycles (R385). -/
def State.tickCore (s : State) (k : Nat) : State :=
  let s := s.onlyIf (s.coreEdge k) (·.drainStore k)
  if s.coreEdge k && s.coreBusy k then
    let s := s.onCore k (fun c => if c.disp.isSome then { c with busy := c.busy + 1 } else c)
    let s := s.bump (if k % 2 = 0 then Reg.tileBusyc0 (k / 2) else Reg.tileBusyc1 (k / 2))
    { s with hop := { s.hop with busy := setNum s.hop.busy (k / 2) (numAt s.hop.busy (k / 2) + 1) } }
  else s

/-- The core cycles: one every two FAB cycles, or fewer in a throttled cluster (01, Clock domains; R500). -/
def State.tickCores (s : State) : State := (s.cores.map (·.1)).foldl State.tickCore s

/-- What runs on plant time and on the FAB clock. -/
def State.tickFab (s : State) : State :=
  let s := (List.range 8).foldl State.capture s
  let s := s.advanceW0.latchAll
  let s := [1, 2, 3].foldl State.tickWheel s
  let s := s.takeBoundary.passSnapshot
  let s := (List.range 16).foldl State.tickPulse s
  let s := (List.range 16).foldl State.syncWeir s
  let s := (List.range 8).foldl State.tickGated s
  s.tickDog.tickRtc.tickCores.tickRamp.tickCal

/-- The end of the FAB cycle: its frames, alarm posts, arriving dispatches and flash suspensions take effect, its events reach
their channels, after all its writes, and then the cores (R248, R327, R344, R375, R382, R432). -/
def State.endCycle (s : State) : State :=
  let s := (State.drain 8192 ((List.range 18).foldl State.takeFrames s).landAlarms.landArrivals.takeAsks).landEvents
  { s with errs := [], w1set := [], srbusy := [] }

/-- One FAB cycle passes; in HIBERNATE only the AON clock runs (R488). The Millrace notes what has fallen due (R92). -/
def State.tick (s : State) : State :=
  let s := s.endCycle
  State.noteWaits (State.noteFalls
    (if s.pwr.state == .hibernate then State.tickRtc { s with time := { s.time with fab := s.time.fab + 1 } } else s.tickFab))

end Sys2Proof.Machine
end

