-- ==== Sys2Proof/Safety.lean ====
section
/-! DEFINITION. The terms of the claims: a command that has its effect, what a change leaves alone, and a register access
that reaches its block. -/

namespace Sys2Proof.Machine

/-- The command answers a next state: the settling (assumption 15) of a state of which `P` holds. `P` tells the command's
own effect; what settling may add to it is told once, for every command. -/
def Completes (c : Instr) (s : State) (P : State → Prop) : Prop := ∃ u, exec c s = .next u.settle ∧ P u

/-- Every register of the pages not listed is as it was. -/
def OffPages (ps : List Nat) (s u : State) : Prop := ∀ a, a / 1024 ∉ ps → u.rd a = s.rd a

/-- Every register but those listed is as it was. -/
def OffRegs (l : List Nat) (s u : State) : Prop := ∀ a, a ∉ l → u.rd a = s.rd a

/-- Every word of the stores not listed is as it was. -/
def OffStores (sts : List Store) (s u : State) : Prop :=
  ∀ st i, st ∉ sts → i < 2 ^ 40 → u.rawWord st i = s.rawWord st i

/-- Every unit of a table but number `k` is as it was. -/
def OffUnit {α : Type} (get : State → Nat → α) (k : Nat) (s u : State) : Prop := ∀ j, j ≠ k → get u j = get s j

/-- The `n` words of a store from `i` on are good words: a reader takes them as they stand (R397). -/
def State.clean (s : State) (st : Store) (i n : Nat) : Bool :=
  (List.range n).all (fun j => checkAt st (s.rawWord st (i + j)) == .good (wordData (s.rawWord st (i + j))))

/-- No fault injection is armed (R406): a written word lands as written. -/
def State.unarmed (s : State) : Bool := !s.rb Reg.eccEinj0 20

/-- The message is accepted of record `k`: the record of its identity, at its own PLCA ID, EXPECTED, LIVE or MISSING, authentic
and new (R245, R250, R256). -/
def State.accepts (s : State) (p k : Nat) (h : Hpp) : Bool :=
  let r := s.node p k
  let d := (h.seq + 65536 - r.lastseq) % 65536
  s.findNode p h.src == some k && (!isSeg p || k == h.plca) && s.clean (portStore p) (recIndex p k) 4 &&
    (r.state == 1 || r.state == 2 || r.state == 3) && (s.authentic p k r h).1 &&
    (r.state == 1 || (decide (1 ≤ d) && decide (d ≤ 32767)))

/-- Port `p` takes a frame of PTP to one of the two PTP addresses: it is not DISABLED, and its MAC has room for it (R238, R270, R272,
R292). -/
def State.ptpComes (s : State) (p : Nat) (m : PtpMsg) : Bool :=
  s.ptpState p != 0 && s.macTakes p m.dst.toNat && !(s.receives p && m.ringFull) &&
    (m.dst.toNat == ptpPrimary || m.dst.toNat == ptpPeer)

/-- It is of the device's domain (R270). -/
def State.hears (s : State) (p : Nat) (m : PtpMsg) : Bool := s.ptpComes p m && m.domain.toNat == s.rf Reg.ptpCtl 8 7

/-- A slot of port `p` is free for a PTP message that hardware sends (R238, R293, assumption 41). -/
def State.ptpRoom (s : State) (p : Nat) : Bool := (List.range 13).any (fun k => (s.port p).txq.all (fun e => e.slot != k))

/-- Item `i` joins the transmit queue `q` in a free slot. -/
def Joins (q : List TxEntry) (i : TxItem) (q' : List TxEntry) : Prop :=
  ∃ k, (∀ e ∈ q, e.slot ≠ k) ∧ q' = q ++ [{ slot := k, item := i }]

/-- The completion entry of a flash command (R426): CTAG, STATUS, DUR, DURLO and the corrected words; page, PARAM and REQ. -/
def FlashCmd.entry (c : FlashCmd) (status : Nat) (dur durlo : Bool) (corrected : Nat) : Word × Word :=
  (w32 (c.ctag + status * 2 ^ 8 + b2n dur * 2 ^ 12 + b2n durlo * 2 ^ 13 + min corrected 65535 * 2 ^ 16),
   w32 ((if c.param then c.block * 8 + c.page else c.block * 256 + c.page) + b2n c.param * 2 ^ 22 + c.req * 2 ^ 24))

/-- The bank's sum over the source outputs of an FIR output whose newest is centred at `n` (R176). -/
def State.bankSum (s : State) (g b n : Nat) : Int :=
  let t := s.ntap (g / 4) b
  let ws := (List.range (ceilDiv (3 * t) 8)).map (fun i => wordData (s.rawWord (Store.filter (g / 4)) (coefWord b i)))
  ((List.range t).map (fun j =>
    coefOf ws j * (s.sourceEntry g (s.firWindow g b n).centre (n - (t - 1) * s.firSpacing g + j * s.firSpacing g)).v)).foldl (· + ·) 0

/-- Every source output that bank `b` takes at `n` lies after the restart, and the words of its coefficients are good (R176,
R178). -/
def State.bankReady (s : State) (g b n : Nat) : Bool :=
  let t := s.ntap (g / 4) b
  s.clean (Store.filter (g / 4)) (coefWord b 0) (ceilDiv (3 * t) 8) &&
    decide ((s.slot g).restart + halfWidth (s.lastStage g) + (t - 1) * s.firSpacing g ≤ n)

/-- Value `v` leaves slot `g` as an output of window `w` (R148, R158, R187-R191, R195): it is held back and counted under SETSUP
where a change interval meets its window; else the record stands in the slot's ring and as its input's newest, HEAD tells it and
the ring moves on. SEQ steps in either case, and with no realignment waiting the next output falls a period later. -/
def Delivered (g : Nat) (w : Window) (v : Int) (sat : Bool) (s u : State) : Prop :=
  let e := g / 4
  let k := g % 4
  let c := s.cnv g
  let x := s.slot g
  let hit := fun (l : List Span) => l.any (fun sp => sp.meets w.span)
  let t := holdsAt (c.tag, c.input) w.centre c.tags
  let cap := (x.caps.find? (fun y => y.sample == w.centre)).getD { sample := w.centre, stamp := 0, wpos := 0 }
  let w0 := encodeWord (BitVec.ofNat 64 (natOf v 32 * 2 ^ 32 + t.1 * 2 ^ 29 + b2n (hit c.trans) * 2 ^ 28 +
    b2n (hit c.changes) * 2 ^ 27 + b2n (hit c.ovrs || sat) * 2 ^ 26 + t.2 * 2 ^ 24 + x.seq))
  let w1 := encodeWord (BitVec.ofNat 64 (cap.stamp * 2 ^ 32 + cap.wpos))
  let held := hit c.changes && bitOf (s.cctlCnv g) 6
  (held = true → u.rd (Reg.cnvSupcnt g) = s.rd (Reg.cnvSupcnt g) + 1 ∧ (u.slot g).ring = x.ring ∧ u.words = s.words) ∧
  (held = false →
    (x.ring < 256 → t.2 < 4 → u.rawWord (Store.filter e) (ringWord k x.ring) = w0 ∧
      u.rawWord (Store.filter e) (ringWord k x.ring + 1) = w1) ∧
    u.rawWord (Store.filter e) (newWord k t.2) = w0 ∧ u.rawWord (Store.filter e) (newWord k t.2 + 1) = w1 ∧
    u.rd (Reg.filHead e k) = w32 (x.ring + x.seq * 256) ∧ (u.slot g).ring = (x.ring + 1) % 256) ∧
  (u.slot g).seq = (x.seq + 1) % 2 ^ 24 ∧ (u.slot g).first = false ∧
  (x.realign = [] → (u.slot g).next = x.next + s.outPeriod g) ∧
  (u.cnv g).outs = c.outs + b2n (s.cnvScan g) ∧ (u.cnv g).endTick = 2 * w.span.hi ∧
  OffPages [Page.cnv g, Page.fil e] s u ∧ (x.ring < 256 → t.2 < 4 → OffStores [Store.filter e] s u) ∧
  u = { s with regs := u.regs, w1set := u.w1set, words := u.words, slots := u.slots, conv := u.conv, evq := u.evq,
               entered := u.entered }

/-- What a block register's byte address names: the kind of page, its number, the register's row and place in it. -/
def busTarget (addr : Nat) : Option (PageClass × Nat × RegRow × Nat) :=
  match pageKind? (addr / 1024) with
  | none => none
  | some (cls, i) =>
    if addr % 1024 < 0x40 then none
    else
      match rowAt (blockRows cls) (addr % 1024) with
      | none => none
      | some (r, n) => if absentReg cls i (addr % 1024) then none else some (cls, i, r, n)

/-- Core `k` as it is once the multiplier operations that are due have completed (R370). -/
def State.readyCore (s : State) (k : Nat) : CoreSt := (s.core k).retireMul (s.coreCyc k)

/-- Core `k` may issue the instruction at its PC, and that word, a good one, is `w` (R353, R360). -/
def State.fetches (s : State) (k : Nat) (w : BitVec 24) : Bool :=
  let st := Store.tile (k / 2) (3 + k % 2)
  let raw := s.rawWord st (s.core k).pc.toNat
  s.mayIssue k && checkAt st raw == .good (wordData raw) && (wordData raw).truncate 24 == w

/-- A core at the end of an instruction: a breakpoint stops the next one again, and a STEP is done (R541, R544). -/
def CoreSt.issued (c : CoreSt) : CoreSt :=
  { c with bpSkip := false, atBkpt := false, haltReq := if c.haltReq.testBit 2 then c.haltReq - 4 + 8 else c.haltReq }

/-- A core that goes on at its next instruction, or where a loop takes it (R373). -/
def CoreSt.goesOn (c : CoreSt) : CoreSt := (c.complete (c.pc + 1)).issued

/-- Core `k` becomes `c`; nothing else of the state changes. -/
def CoreBecomes (k : Nat) (c : CoreSt) (s u : State) : Prop :=
  u.core k = c ∧ OffUnit State.core k s u ∧ u = { s with cores := u.cores }

/-- The trap with cause `cause` on the instruction `w` of core `k`, or, inside a trap or with TVEC.EN = 0, the fault (R378,
R379, R385). -/
def Trapped (k cause : Nat) (w : BitVec 24) (s u : State) : Prop :=
  let c := s.readyCore k
  let iraw := Reg.hdrIraw (Page.tile (k / 2))
  let cnt := Reg.tileTrapcnt (k / 2)
  (c.intrap = false ∧ c.tvec.getLsbD 15 = true →
    u.core k = { c with tpc := c.pc, tword := w, tcause := cause, intrap := true, pc := c.tvec.truncate 13 }.issued ∧
    u.rf cnt (16 * (k % 2)) 16 = min 65535 (s.rf cnt (16 * (k % 2)) 16 + 1) ∧ u.rb iraw (k % 2) = true ∧
    OffUnit State.core k s u ∧ OffRegs [cnt, iraw] s u ∧ u = { s with cores := u.cores, regs := u.regs, w1set := u.w1set }) ∧
  (c.intrap = true ∨ c.tvec.getLsbD 15 = false →
    (u.core k).fault = true ∧ (u.core k).running = false ∧ (u.core k).disp = none ∧ u.rb iraw (2 + k % 2) = true ∧
    OffUnit State.core k s u)

/-- A register access by `req` reaches the block of the page (R444, R463, R488), which has had no soft reset in this FAB cycle, and
nothing else waits on the register bus: no start by BCMD (R475), no soft reset of HPT by a host frame (R448). -/
def State.reaches (s : State) (req : Req) (page : Nat) : Bool :=
  s.canAsk req && !s.pageOff page && !s.srbusy.contains page && !s.pwr.goWanted && s.host.ctlWrite.isNone

/-- The Millrace remembers falls only of live entries that a dispatcher serves and whose due position HIGH has reached, and of each such
entry that its present occurrence fell due (R92, R119). -/
def State.FallsExact (s : State) : Prop :=
  (∀ f ∈ s.mill.falls, ∃ e ∈ s.liveEnts, e.key = f.key ∧ e.due ≤ s.high e.wheel ∧ (s.server e).isSome = true) ∧
  (∀ e ∈ s.liveEnts, e.due ≤ s.high e.wheel → (s.server e).isSome = true → (s.fallOf e).isSome = true)

/-- The state after `n` steps, where each answers a next state. -/
def State.idles : Nat → State → Option State
  | 0, s => some s
  | n + 1, s =>
    match step s with
    | .next t => State.idles n t
    | _ => none

end Sys2Proof.Machine
end

