-- ==== Sys2Proof/WellFormed.lean ====
section
/-! DEFINITION. The commands whose operands the environment of the part can give: as many samples as a block has, each
requester once in a cycle, a register's address aligned. The number ranges that the syntax carries in its types need no
check. A command that is not well formed does nothing, or what its well-formed part says. -/

namespace Sys2Proof

/-- Samples within full scale: 32 bits (R136). -/
def samplesOk (xs : List Sample) : Bool := xs.all (fun x => decide (-2147483648 ≤ x.raw) && decide (x.raw ≤ 2147483647))

/-- A register's byte address: a multiple of 4 (R443). -/
def registerAddr (addr : BitVec 24) : Bool := addr.toNat % 4 == 0

/-- The command is well formed. -/
def Instr.wellFormed : Instr → Bool
  | .rangeDetect _ xs => samplesOk xs
  | .probeEnd _ xs => xs.length == 32 && samplesOk xs
  | .filterOutput _ xs => samplesOk xs
  | .firOutput _ xs => samplesOk xs
  | .firdrop _ xs => samplesOk xs
  | .bankWrite _ addr _ => registerAddr addr
  | .append _ ks => !ks.isEmpty && decide (ks.Nodup)
  | .poplRead qs => !qs.isEmpty && decide (qs.Nodup)
  | .routingWrite _ addr _ => registerAddr addr
  | .scrubRead n i => decide (n < 1052 && i < 2 ^ 40)
  | .flashReadDone flips _ => decide ((flips.map (·.1)).Nodup)
  | .hostRd _ _ ahead .. => decide (ahead ≤ 8)
  | .hostRdf _ _ ahead .. => decide (ahead ≤ 8)
  | .registerWrite addr ws => registerAddr addr && !ws.isEmpty && decide ((ws.map (·.1)).Nodup)
  | .tempSample ts => ts.length == 9
  | .fabricWriteAck .. | .evaluation .. | .outOfTurnEvaluation .. | .move1Post .. | .migrationStart ..
  | .migrationHold .. | .pinned .. | .migrationCopyDone .. | .mapFlip .. | .mapJournalWrite .. | .mvdone0Read ..
  | .prdptWrite .. | .pointReadDone .. | .mapdatWrite .. | .pinclrWrite .. | .tileRetirePending ..
  | .retiredMapJournalWrite .. | .retireClear .. | .tileGate .. | .wakeGuard .. | .tileWakeDone ..
  | .clusterWakeDone .. | .quadratureEdge .. | .indexEvent .. | .stopped .. | .mainsEdge .. | .mloss ..
  | .stepWrite .. | .sourceSwitch .. | .sdivWrite .. | .linesWrite .. | .tstopWrite .. | .rebase .. | .rebased ..
  | .poslRead .. | .highlRead .. | .ticketSlot .. | .laneSlot .. | .ovrun .. | .calcmdRead .. | .calcmdWrite ..
  | .duehRead .. | .csyncLanding .. | .excswLanding .. | .pedgeLanding .. | .pollLanding .. | .tboundLanding ..
  | .lfireLanding .. | .bcloseLanding .. | .rangeSwitch .. | .blankEnd .. | .settleEnd .. | .scanEntryEnd ..
  | .scango .. | .cctlWrite .. | .inselWrite .. | .imodeWrite .. | .rngWrite .. | .trimWrite .. | .reflow ..
  | .reflowEnd .. | .openSet .. | .openClear .. | .burnWrite .. | .chselWrite .. | .excpWrite .. | .xctlWrite ..
  | .xrearm .. | .compl .. | .ilimit .. | .pathWrite .. | .newW0lRead .. | .rrd0Read .. | .weirCrossing ..
  | .weirValid .. | .weirSample .. | .wcfgWrite .. | .wthrWrite .. | .thresholdHoldEnd .. | .swap .. | .tie ..
  | .proofStepEnd .. | .proofTestDone .. | .wclip .. | .deferredEdgeAdmit .. | .dclip .. | .pcfgWrite ..
  | .tripBall .. | .swtrip .. | .rearm .. | .plcaBeacon .. | .beaconReceive .. | .fallback .. | .collision ..
  | .frameReceive .. | .announce .. | .reply .. | .publish .. | .ack .. | .nack .. | .write .. | .pubtmoExpiry ..
  | .pollSent .. | .burstWindowClose .. | .ncmdRead .. | .ncmdWrite .. | .kcmdLoad .. | .kcmdErase .. | .discover ..
  | .bind .. | .txcmdWrite .. | .txcmdAck .. | .txcmdNack .. | .txcmdPublish .. | .txdone .. | .mbxpop ..
  | .cd0Read .. | .plcacfgWrite .. | .sync .. | .followUp .. | .delayReq .. | .delayResp .. | .pdelayReq ..
  | .pdelayResp .. | .ptpGeneralReceive .. | .syncSend .. | .delayReqSend .. | .pdelayReqSend ..
  | .eventMessageSent .. | .hold .. | .epochWrap .. | .ptpSecond .. | .ptxcmd .. | .pmbxpop .. | .pcfgPtpWrite ..
  | .fintWrite .. | .timelRead .. | .epochwRead .. | .caplRead .. | .linkup .. | .linkdn .. | .spderr ..
  | .pauseReceive .. | .batchFragmentSent .. | .scmdRead .. | .scmdWrite .. | .laneCopy .. | .entrySeal ..
  | .globalSnapshot .. | .snapLatch .. | .snapRelease .. | .snrdWrite .. | .snbaseWrite .. | .close ..
  | .spilltmoExpiry .. | .spillAccepted .. | .alarmPost .. | .alcmd .. | .peeklRead .. | .talgLatchRead .. | .fire ..
  | .firem .. | .stormUnmask .. | .ccfgWrite .. | .globalPeriodBoundary .. | .leatBposlRead .. | .dispatchArrival ..
  | .dispatchStart .. | .add .. | .sub .. | .and_ .. | .or_ .. | .xor_ .. | .mov .. | .not_ .. | .neg .. | .shl ..
  | .shr .. | .sar .. | .rol .. | .shli .. | .shri .. | .sari .. | .roli .. | .minu .. | .maxu .. | .mins ..
  | .maxs .. | .sltu .. | .slt .. | .addc .. | .subc .. | .addi .. | .andi .. | .ori .. | .xori .. | .li .. | .mfs ..
  | .mts .. | .mfsp .. | .mtsp .. | .addp .. | .subp .. | .movp .. | .shlp .. | .shrp .. | .sarp .. | .sxp ..
  | .zxp .. | .lip .. | .addpi .. | .mulu .. | .muls .. | .mulsu .. | .macu .. | .macs .. | .mpclr ..
  | .multiplierComplete .. | .ld .. | .st .. | .ldp .. | .stp .. | .beq .. | .bne .. | .blt .. | .bge .. | .bltu ..
  | .bgeu .. | .beqi .. | .bnei .. | .bltui .. | .bgeui .. | .pbeq .. | .pbne .. | .pbltu .. | .pbgeu .. | .bbc ..
  | .bbs .. | .j .. | .jal .. | .jr .. | .nop .. | .sysEnd .. | .ret .. | .rtt .. | .rtr .. | .lclr .. | .bkpt ..
  | .sysTrap .. | .loop .. | .loopi .. | .ewait .. | .ewaitReturn .. | .wtu .. | .wtuReturn .. | .wtuTimeout ..
  | .epostPost .. | .epostFire .. | .epostFireRegister .. | .budget .. | .commit .. | .ppOpen .. | .cmtpt ..
  | .ppcmdClose .. | .lapsed .. | .wzWrite .. | .tw0Read .. | .cctlCoreWrite .. | .imdataAccess .. | .mbistStart ..
  | .mbdone .. | .elclr .. | .jdatlRead .. | .jdathRead .. | .jdatlWrite .. | .jdathWrite .. | .flashRead ..
  | .prog .. | .erase .. | .suspend .. | .resume .. | .markbad .. | .flashClose .. | .flashOpStart .. | .progDone ..
  | .eraseDone .. | .closeDone .. | .fdone0Read .. | .hostWr .. | .hostWrf .. | .rdsta .. | .prst .. | .badcmd ..
  | .streamRd .. | .hostWordApply .. | .rto .. | .hcfgWrite .. | .irawClear .. | .irawSet .. | .softReset ..
  | .pageLock .. | .pageEnable .. | .por .. | .nrstPin .. | .bor .. | .wdog .. | .wdwarn .. | .wdkick .. | .rstcmd ..
  | .coldStart .. | .pgoodHigh .. | .pgoodTimeout .. | .go .. | .hctlWrite .. | .psreqSleep .. | .psreqHibernate ..
  | .psreqRun .. | .quiescent .. | .quiesceTimeout .. | .hibernateEntryDone .. | .wakePin .. | .rtcAlarm ..
  | .restore .. | .tileReload .. | .rtccmdSet .. | .rtccmdSync .. | .rtcSyncLoad .. | .rtclRead .. | .thclr ..
  | .tlimWrite .. | .railWarn .. | .railFault .. | .railRecover .. | .procCount .. | .pgoodFall .. | .gpioEdge ..
  | .gset .. | .gclr .. | .lineReset .. | .rdreg .. | .wrreg .. | .rdmem .. | .wrmem .. | .halt .. | .ctlResume ..
  | .ctlStep .. | .haltall .. | .resumeall .. | .coreHalted .. | .breakpoint .. | .crd .. | .cwr .. | .idcode ..
  | .chal .. | .resp .. | .dbgReset .. | .collect .. | .debugOperationComplete .. | .relock .. | .resop ..
  | .wheelTurn .. | .badFcsFrame .. | .pauseEnd .. | .ptpMailboxSent .. | .complClear .. | .ilimitClear ..
  | .pgoodReturn .. => true

end Sys2Proof
end

