-- ==== Sys2Proof/Certificates/Slice0/Obligations.lean ====
section
/-! DEFINITION. The statements about the machine, for the provers. `Completes c s P` says that the command answers a next
state, the settling of a state of which `P` holds (Safety.lean); what settling adds is told by StepRunsFront. -/

open Sys2Proof Sys2Proof.Machine

/-! ### The Millrace (03 R111-R128, R550) -/

/-- Slots of the Millrace where one dispatcher alone asks (R117): a ticket slot arms an occurrence that is within the arming distance, not
yet passed, and whose targets have a free arm slot each (R116, R118); a lane slot sends the due dispatch to the lane's seat (R118). An
occurrence that fell due while the lane's dispatch ran counts in the context's OVRUN (R121). The choices of the model in it: assumption
37. -/
def Obligations.MillraceSlots : Prop := ∀ (s : State) (c : Nat),
  (∀ e : Ent, s.millOn = true → slotOpen s.time.fab s.mill.ticketSlot 25 = true → s.stopPoisoned = s →
    (List.range 8).filter (fun d => (s.pickTicket d).isSome) = [c] → s.pickTicket c = some e → s.high e.wheel < e.due →
    (armTargets e).all (fun t => s.armFree e.kind t) = true → (∀ k, cogs? e.period = some k → e.cidx < k) →
    e.key < 2 ^ 17 →
    Completes .ticketSlot s (fun u =>
      u.armed = s.armed ++ (armTargets e).map (fun t =>
        { kind := e.kind, target := t, wheel := e.wheel, due := e.due, arg := e.arg, prio := e.prio,
          ticket := e.key - 65536, cidx := e.cidx, count := e.count }) ∧
      u.mill.ticketSlot = some s.time.fab ∧
      OffPages [Page.mrg, Page.mrc c, Page.ecc] s u ∧ OffStores [Store.millrace] s u ∧
      u = { s with regs := u.regs, w1set := u.w1set, words := u.words, mill := u.mill, armed := u.armed })) ∧
  (∀ (f : Fall) (e : Ent) (lane : Nat), s.millOn = true → slotOpen s.time.fab s.mill.laneSlot 100 = true →
    s.stopPoisoned = s → (List.range 8).filter (fun d => (s.pickLane d).isSome) = [c] → s.pickLane c = some (f, e) →
    e.lane? = some lane → e.key < 2 ^ 17 →
    Completes .laneSlot s (fun u =>
      u.sent = s.sent ++ [(mapTile (s.mapEntry lane),
        { lane := lane, wheel := e.wheel, due := e.due, cog := e.cidx, core := s.laneCore lane, ticket := isTicket e.key,
          late := s.dispatchLate c f e, held := f.held, woke := f.woke, sentAt := s.time.w0 })] ∧
      u.mill.laneSlot = some s.time.fab ∧
      OffPages [Page.mrg, Page.mrc c, Page.ecc] s u ∧ OffStores [Store.millrace] s u ∧
      u = { s with regs := u.regs, w1set := u.w1set, words := u.words, mill := u.mill, sent := u.sent })) ∧
  (∀ (lane : Fin 16384) (f : Fall), s.mill.falls.find? (fun g => g.overran != 0 && s.fallLane g lane) = some f →
    Completes (.ovrun lane) s (fun u =>
      let t := mapTile (s.mapEntry lane)
      let l := mapLane (s.mapEntry lane)
      u = { s.setCtx7 t l (s.ctxDispcnt t l) (s.ctxLastwu t l) (min (s.ctxOvrun t l + 1) 0xFFFF) with
              mill := { s.mill with
                falls := s.mill.falls.map (fun g => if g == f then { g with overran := g.overran - 1 } else g) } }))

/-- Landings: the armed occurrence that is due at a target leaves its arm slot and acts (R116, R126): CSYNC at a converter (R148, R149),
EXCSW with its preset (R154), PEDGE as an edge request (R214), POLL for its burst descriptor (R260), TBOUND at its due position (R304),
LFIRE on its channel (R331), BCLOSE at its due position (R320). A block that takes no armed actions frees the slot and does nothing else
(R346, R446). The calendar's registers (R128): CALCMD READ copies the words of the entry that CALIDX names into CALD, its data where they
are good; CALCMD WRITE stores the words of CALD, clears REJ and POISON, and drops what is armed of a rewritten ticket but what lands in
this FAB cycle (R122); BUSY stands from either on. A command while BUSY = 1, one where CALIDX names no entry, and a WRITE of a reserved or
contradicting entry set REJ and do nothing else. A read of DUEH reports the next dispatch and latches its due position (R550). The choices
of the model in it: assumption 36. -/
def Obligations.MillraceCalendar : Prop :=
  (∀ (s : State) (a : Armed),
   (∀ g : Fin 8, s.landing? 2 g = some a →
     Completes (.csyncLanding g) s (fun u =>
       u = if s.pageLive (Page.cnv g) then (s.disarm a).csync g else s.disarm a)) ∧
   (∀ ch : Fin 8, s.landing? 3 ch = some a →
     Completes (.excswLanding ch) s (fun u =>
       u = if s.pageLive Page.exc then (s.disarm a).excLanding ch (natField a.arg 4 4) else s.disarm a)) ∧
   (∀ ch : Fin 16, s.landing? 4 ch = some a →
     Completes (.pedgeLanding ch) s (fun u =>
       u = if s.pageLive Page.pls then (s.disarm a).askPulse ch (.ticket (a.arg.testBit 4)) else s.disarm a)) ∧
   (∀ n : Fin 16, s.landing? 5 n = some a →
     Completes (.pollLanding n) s (fun u => u = (s.disarm a).pollLanding n (natField a.arg 4 8))) ∧
   (∀ g : Fin 16, s.landing? 6 g = some a →
     Completes (.tboundLanding g) s (fun u =>
       u = if s.pageLive Page.talg then (s.disarm a).boundLanding g a.wheel a.due else s.disarm a)) ∧
   (s.landing? 7 0 = some a →
     Completes .lfireLanding s (fun u => u = { s.disarm a with evq := s.evq ++ [.chan (a.arg % 256)] })) ∧
   (∀ n : Fin 4, s.landing? 8 n = some a →
     Completes (.bcloseLanding n) s (fun u =>
       u = if s.pageLive Page.strm then (s.disarm a).closeStream n 1 (some a.due) else s.disarm a))) ∧
  (∀ (s : State) (req : Req),
   (s.reaches req Page.mrg = true →
     let idx := s.rf Reg.mrgCalidx 0 16
     (∀ space base n, s.calTarget = some (space, base, n) → s.rb Reg.mrgCalsta 0 = false →
       Completes (.calcmdRead req) s (fun u =>
         u = (s.calRead base n).setb Reg.mrgCalsta 0 true ∧
         (∀ i < n, ∀ d : DWord, checkWord (s.rawWord Store.millrace (base + i)) = .good d →
           u.rd (Reg.mrgCald (2 * i)) = lo32 d.toNat ∧ u.rd (Reg.mrgCald (2 * i + 1)) = hi32 d.toNat)) ∧
       (s.calBad space idx = false →
         Completes (.calcmdWrite req) s (fun u =>
           u = (s.calWrite space idx base).setb Reg.mrgCalsta 0 true ∧ u.rf Reg.mrgCalsta 1 2 = 0 ∧
           (s.unarmed = true → ∀ j < n,
             u.rawWord Store.millrace (base + j) = encodeWord ((s.calWords space base).getD j 0)) ∧
           (space = 1 → ∀ x ∈ u.armed, x ∈ s.armed ∧ (x.ticket ≠ idx ∨ x.due ≤ s.high x.wheel)))) ∧
       (s.calBad space idx = true → Completes (.calcmdWrite req) s (fun u => u = s.setb Reg.mrgCalsta 1 true))) ∧
     (s.calTarget = none ∨ s.rb Reg.mrgCalsta 0 = true →
       Completes (.calcmdRead req) s (fun u => u = s.setb Reg.mrgCalsta 1 true) ∧
       Completes (.calcmdWrite req) s (fun u => u = s.setb Reg.mrgCalsta 1 true))) ∧
   (∀ c : Fin 8, s.reaches req (Page.mrc c) = true →
     Completes (.duehRead req c) s (fun u =>
       u.rdata = [s.duehValue c] ∧ u.shadow req.index (Reg.mrcDuepl c) = lo32 (s.duePosition c) ∧
       u.shadow req.index (Reg.mrcDueph c) = hi32 (s.duePosition c) ∧
       u = { s with rdata := u.rdata, shadows := u.shadows })))

/-! ### Wheels (03 R90-R110, R336, R554) -/

/-- Events of the balls at wheels W1-W3. An edge that the glitch filter passes puts a SHAFT wheel on the boundary it crosses (R95, R96)
and ends STOPPED (R100). A rising WHZ at a SHAFT wheel with IDXEN = 1 whose last counted edge was forward sets INDEXED, counts IDXERR
where it moves an INDEXED wheel, and moves to the whole turn of R98, where the wheel stands from then on. After TSTOP µs without a counted
edge the wheel sets STOPPED and RATE reads 0 (R100). An accepted mains edge clears MLOSS and jumps (R103) or runs the loop of R102, which
records the error. With no edge accepted in 1.5 × MPER the wheel sets MLOSS, clears LOCK and holds INC at FINT (R104). The end of a
rebase clears REBASING and sets its bit (R109). A whole turn that HIGH crosses is an event (R336). Nothing else changes than the wheels,
their registers and the events raised. The choices of the model in it: assumption 7. -/
def Obligations.WheelEvents : Prop := ∀ (s : State) (n : Fin 4), n ≠ 0 →
  (∀ b level : Bool, s.wheelSrc n = 1 →
    (if b then (s.wheel n).levB else (s.wheel n).levA) ≠ level →
    (∀ t ∈ if b then (s.wheel n).rawB else (s.wheel n).rawA, s.rf (Reg.whlEdgef n) 0 8 ≤ s.time.fab - t) →
    Completes (.quadratureEdge b level) s (fun u =>
      let other := if b then (s.wheel n).levA else (s.wheel n).levB
      let fwd := (s.rb (Reg.whlCfg n) 3 == b) == (level != other)
      (u.wheel n).pos = min (shaftPos (s.shaftLines n) (shaftCross (s.wheel n) fwd).edge) posMax ∧
      (u.wheel n).high = max (s.wheel n).high (u.wheel n).pos ∧ (u.wheel n).lastEdge = s.time.fab ∧
      (u.wheel n).lastFwd = fwd ∧ u.rb (Reg.whlSta n) 1 = false ∧
      OffPages [Page.whl 1, Page.whl 2, Page.whl 3] s u ∧ u = { s with regs := u.regs, w1set := u.w1set, wheels := u.wheels })) ∧
  (s.wheelSrc n = 1 → s.rb (Reg.whlCfg n) 4 = true → (s.wheel n).edgeSeen = true → (s.wheel n).lastFwd = true →
    Completes .indexEvent s (fun u =>
      u.rb (Reg.whlSta n) 0 = true ∧ u.rb (Reg.hdrIraw (Page.whl n)) 0 = true ∧
      (∀ p, s.indexTarget? n = some p →
        (u.wheel n).pos = min p posMax ∧ (u.wheel n).edge = turnOf p * (4 * s.shaftLines n) ∧
        (s.rb (Reg.whlSta n) 0 = true →
          u.rd (Reg.whlIdxerr n) = s.rd (Reg.whlIdxerr n) + 1 ∧ u.rb (Reg.hdrIraw (Page.whl n)) 1 = true)) ∧
      (s.indexTarget? n = none →
        (u.wheel n).pos = (s.wheel n).pos ∧ u.rd (Reg.whlIdxerr n) = s.rd (Reg.whlIdxerr n)) ∧
      OffPages [Page.whl 1, Page.whl 2, Page.whl 3] s u ∧
      u = { s with regs := u.regs, w1set := u.w1set, wheels := u.wheels, evq := u.evq })) ∧
  (s.wheelSrc n = 1 → s.rb (Reg.whlSta n) 1 = false →
    (s.wheel n).lastEdge + 400 * s.rf (Reg.whlTstop n) 0 20 ≤ s.time.fab →
    Completes (.stopped n) s (fun u =>
      u = ((s.setb (Reg.whlSta n) 1 true).raise (Page.whl n) 2).setWheel n { s.wheel n with interval := 0, fwdRun := 0 } ∧
      u.rb (Reg.whlSta n) 1 = true ∧ u.rb (Reg.hdrIraw (Page.whl n)) 2 = true ∧ u.wheelRate n = 0)) ∧
  (s.wheelSrc n = 2 → (∀ t ∈ (s.wheel n).lastAcc, t + 4000 * s.rf (Reg.whlMloop n) 16 16 ≤ s.time.fab) →
    Completes .mainsEdge s (fun u =>
      (u.wheel n).lastAcc = some s.time.fab ∧ u.rb (Reg.whlSta n) 4 = false ∧
      (∀ p, s.mainsJump? n = some p → (u.wheel n).pos = min p posMax ∧ (u.wheel n).accEdges = 1) ∧
      (s.mainsJump? n = none →
        (u.wheel n).pos = (s.wheel n).pos ∧ u.rd (Reg.whlMerr n) = w32 (natOf (s.mainsError n) 32) ∧
        (u.wheel n).accEdges = (s.wheel n).accEdges + 1) ∧
      OffPages [Page.whl 1, Page.whl 2, Page.whl 3] s u ∧
      u = { s with regs := u.regs, w1set := u.w1set, wheels := u.wheels, freeCtr := u.freeCtr })) ∧
  (s.wheelSrc n = 2 → s.rb (Reg.whlSta n) 4 = false →
    3 * s.rn (Reg.whlMper n) ≤ 5 * (s.time.fab - ((s.wheel n).lastAcc.getD (s.wheel n).lastEdge)) →
    Completes (.mloss n) s (fun u =>
      u.rb (Reg.whlSta n) 4 = true ∧ u.rb (Reg.whlSta n) 3 = false ∧ u.rb (Reg.hdrIraw (Page.whl n)) 7 = true ∧
      (u.wheel n).inc = (s.wheel n).fint ∧ (u.wheel n).pos = (s.wheel n).pos ∧
      OffPages [Page.whl n] s u ∧ u = { s with regs := u.regs, w1set := u.w1set, wheels := u.wheels })) ∧
  ((s.wheel n).rebasing = true →
    Completes (.rebased n) s (fun u =>
      u = (s.setWheel n { s.wheel n with rebasing := false }).raise (Page.whl n) 12 ∧
      (u.wheel n).rebasing = false ∧ u.rb (Reg.hdrIraw (Page.whl n)) 12 = true)) ∧
  ((s.wheel n).turnSeen < turnOf (s.wheel n).high →
    Completes (.wheelTurn n) s (fun u =>
      u = (s.setWheel n { s.wheel n with turnSeen := turnOf (s.wheel n).high }).event (Page.whl n) 0))

/-- Writes to the registers of W1-W3 that reach the page: STEP adds its value to a STEP wheel (R106), a changed SRC starts
its source from the position and HIGH of the old one (R108), SDIV re-takes SBASE and SORG (R105), LINES re-derives the
subcount and clears INDEXED (R554), TSTOP holds (R100), REBASE reduces position and HIGH by its turns (R109); reads of POSL
and HIGHL return the low word and latch the high one for the reader (R90, R91, R453). -/
def Obligations.WheelRegisters : Prop := ∀ (s : State) (req : Req) (n : Fin 4) (v : Word), n ≠ 0 →
  s.reaches req (Page.whl n) = true →
  (s.wheelSrc n = 4 →
    Completes (.stepWrite req n v) s (fun u =>
      (u.wheel n).pos = min ((s.wheel n).pos + v.toNat) posMax ∧ (u.wheel n).high = max (s.wheel n).high (u.wheel n).pos ∧
      OffPages [Page.whl n] s u ∧ u = { s with regs := u.regs, w1set := u.w1set, wheels := u.wheels })) ∧
  (1 ≤ field v 0 3 → field v 0 3 ≤ 4 → field v 0 3 ≠ s.wheelSrc n →
    Completes (.sourceSwitch req n v) s (fun u =>
      u.wheelSrc n = field v 0 3 ∧ (u.wheel n).high = (s.wheel n).high ∧
      (field v 0 3 ≠ 1 → (u.wheel n).pos = (s.wheel n).pos) ∧ OffPages [Page.whl n] s u ∧
      u = { s with regs := u.regs, w1set := u.w1set, wheels := u.wheels })) ∧
  (s.wheelSrc n = 3 →
    Completes (.sdivWrite req n v) s (fun u =>
      u = (s.wr (Reg.whlSdiv n) v).setWheel n { s.wheel n with sbase := (s.wheel n).pos, sorg := s.time.w0 })) ∧
  (s.wheelSrc n = 1 → s.rf (Reg.whlLines n) 0 16 ≠ field v 0 16 →
    Completes (.linesWrite req n v) s (fun u =>
      u.rd (Reg.whlLines n) = v &&& 0xFFFF ∧ u.rb (Reg.whlSta n) 0 = false ∧ (u.wheel n).high = (s.wheel n).high ∧
      OffPages [Page.whl n] s u ∧ u = { s with regs := u.regs, w1set := u.w1set, wheels := u.wheels })) ∧
  Completes (.tstopWrite req n v) s (fun u => u = s.wr (Reg.whlTstop n) (v &&& 0xFFFFF)) ∧
  (v ≠ 0 →
    Completes (.rebase req n v) s (fun u =>
      (u.wheel n).pos = (s.wheel n).pos - v.toNat * 2 ^ 32 ∧ (u.wheel n).high = (s.wheel n).high - v.toNat * 2 ^ 32 ∧
      (u.wheel n).rebasing = true ∧
      OffPages [Page.whl n, Page.ecc] s u ∧
      u = { s with regs := u.regs, w1set := u.w1set, wheels := u.wheels, words := u.words, armed := u.armed, mill := u.mill,
                    hop := u.hop })) ∧
  Completes (.poslRead req n) s (fun u =>
    u.rdata = [lo32 (s.pos n)] ∧ u.shadow req.index (Reg.whlPosh n) = hi32 (s.pos n) ∧
    u = { s with rdata := u.rdata, shadows := u.shadows }) ∧
  Completes (.highlRead req n) s (fun u =>
    u.rdata = [lo32 (s.high n)] ∧ u.shadow req.index (Reg.whlHighh n) = hi32 (s.high n) ∧
    u = { s with rdata := u.rdata, shadows := u.shadows })

/-! ### Front end (04 R129-R165) -/

/-- A converter's ranges and scans: a complete block of samples enters, and the detector's decision on it sets the switch at sample m_d +
2 (R139, R140); a due switch takes the tag, counts, is a transition, and blanks 9 samples (R143, R144); at the end of blanking after a
probe the filter restarts (R150); the settling window ends in a restart (R147), for a scan on the input's last tag held to its span
(R150), or opens the probe (R150); the probe counts its overloaded samples, ends on the probed tag and blanks (R137, R151); an entry that
has given its outputs hands on at the tick at which the last one's window closed, after the last SCANDONE is set, and a free-running scan
starts again (R149, R150). The choices of the model in it: assumptions 8, 25. -/
def Obligations.ConverterEvents : Prop := ∀ (s : State) (g : Fin 8),
  (∀ (xs : List Sample) (b l : Nat), xs.length = 8 → s.cnvOn g = true → s.blocksDone g = b + 1 →
    (s.cnv g).fed = 8 * b → (s.cnv g).live = some l → l ≤ 8 * b → (s.cnv g).held = none → (s.cnv g).pend = none →
    (s.cnv g).rngPend = false → s.rngAuto g = true →
    Completes (.rangeDetect g xs) s (fun u =>
      let ms := xs.mapIdx (fun i x => (8 * b + i, x))
      let overs := ms.filter (fun p => (s.cnv g).overloaded p.1 p.2)
      let sum := (ms.map (fun p => s.sampleValue g p.1 p.2)).foldl (· + ·) 0
      let d := s.detect g (!overs.isEmpty) sum.natAbs
      (u.cnv g).fed = 8 * b + 8 ∧ (u.cnv g).tag = (s.cnv g).tag ∧ (u.cnv g).dn = d.2 ∧
      (u.cnv g).pend = (if d.1 = (s.cnv g).tag then none else some (d.1, 8 * b + 7 + 2)) ∧
      u.rd (Reg.cnvOvrcnt g) = s.rd (Reg.cnvOvrcnt g) + BitVec.ofNat 32 overs.length ∧
      OffPages [Page.cnv g, Page.fil (g / 4)] s u ∧
      u = { s with regs := u.regs, w1set := u.w1set, conv := u.conv, slots := u.slots, evq := u.evq })) ∧
  (∀ t m : Nat, (s.cnv g).pend = some (t, m) → m ≤ s.taken g → t ≠ (s.cnv g).tag →
    Completes (.rangeSwitch g) s (fun u =>
      (u.cnv g).tag = t ∧ (u.cnv g).pend = none ∧ (u.cnv g).blank = some { lo := m, hi := m + 9 } ∧
      { lo := m, hi := m + 9 } ∈ (u.cnv g).trans ∧
      u.rd (Reg.cnvRchgcnt g) = s.rd (Reg.cnvRchgcnt g) + 1 ∧ u.rb (Reg.hdrIraw (Page.cnv g)) 0 = true ∧
      OffPages [Page.cnv g] s u ∧ u = { s with regs := u.regs, w1set := u.w1set, conv := u.conv, evq := u.evq })) ∧
  (∀ sp : Span, (s.cnv g).blank = some sp → sp.hi ≤ s.taken g →
    Completes (.blankEnd g) s (fun u =>
      (u.cnv g).blank = none ∧ ((s.cnv g).afterProbe = false → u = s.setCnv g { s.cnv g with blank := none }) ∧
      ((s.cnv g).afterProbe = true → (u.slot g).restart = sp.hi ∧ (u.cnv g).live = some sp.hi ∧ (u.cnv g).fed = sp.hi) ∧
      OffPages [Page.fil (g / 4)] s u ∧ u = { s with regs := u.regs, w1set := u.w1set, conv := u.conv, slots := u.slots })) ∧
  (∀ t : Nat, (s.cnv g).settleEnd = some t → t ≤ s.ana →
    Completes (.settleEnd g) s (fun u =>
      (u.cnv g).settleEnd = none ∧
      (s.cnvScan g = false → (u.slot g).restart = ceilDiv t 2 ∧ (u.cnv g).live = some (ceilDiv t 2)) ∧
      (s.cnvScan g = true → (s.cnv g).scanning = true → s.rb (Reg.cnvScanctl g) 16 = true →
        (u.cnv g).tag = s.rngLo g ∧ (u.cnv g).probeEnd = some (t + 64)) ∧
      (s.cnvScan g = true → (s.cnv g).scanning = true → s.rb (Reg.cnvScanctl g) 16 = false →
        (u.cnv g).tag = clampNat (s.rngLo g) (s.rngHi g) ((s.cnv g).lastTag.getD (s.cnv g).input 0) ∧
        (u.slot g).restart = ceilDiv t 2 ∧ (u.cnv g).live = some (ceilDiv t 2)) ∧
      OffPages [Page.fil (g / 4)] s u ∧ u = { s with regs := u.regs, w1set := u.w1set, conv := u.conv, slots := u.slots })) ∧
  (∀ (t : Nat) (xs : List Sample), xs.length = 32 → (s.cnv g).probeEnd = some t → t ≤ s.ana →
    Completes (.probeEnd g xs) s (fun u =>
      let m := ceilDiv t 2
      let ms := xs.mapIdx (fun i x => (m - 32 + i, x))
      let overs := ms.filter (fun p => (s.cnv g).overloaded p.1 p.2)
      let sum := (ms.map (fun p => s.sampleValue g p.1 p.2)).foldl (· + ·) 0
      (u.cnv g).probeEnd = none ∧ (u.cnv g).afterProbe = true ∧ (u.cnv g).blank = some { lo := m, hi := m + 9 } ∧
      (overs ≠ [] → (u.cnv g).tag = s.rngLo g) ∧
      (overs = [] → (u.cnv g).tag = s.probedTag g false sum.natAbs) ∧
      u.rd (Reg.cnvOvrcnt g) = s.rd (Reg.cnvOvrcnt g) + BitVec.ofNat 32 overs.length ∧
      OffPages [Page.cnv g] s u ∧ u = { s with regs := u.regs, w1set := u.w1set, conv := u.conv, evq := u.evq })) ∧
  (s.cnvOn g = true → (s.cnv g).scanning = true → s.nconv g ≤ (s.cnv g).outs →
    Completes (.scanEntryEnd g) s (fun u =>
      ((s.cnv g).entry < s.rf (Reg.cnvScanctl g) 0 3 →
        (u.cnv g).entry = (s.cnv g).entry + 1 ∧ (u.cnv g).outs = 0 ∧ (u.cnv g).scanning = true ∧
        (u.cnv g).input = s.rf (Reg.cnvScanl g) (2 * ((s.cnv g).entry + 1)) 2 ∧
        (u.cnv g).settleEnd = some ((s.cnv g).endTick + s.rf (Reg.cnvMuxset g) 0 16)) ∧
      (s.rf (Reg.cnvScanctl g) 0 3 ≤ (s.cnv g).entry →
        u.rb (Reg.hdrIraw (Page.cnv g)) 5 = true ∧ (s.cnvTrig g ≠ 0 → (u.cnv g).scanning = false) ∧
        (s.cnvTrig g = 0 → (u.cnv g).scanning = true ∧ (u.cnv g).entry = 0 ∧
          (u.cnv g).settleEnd = some ((s.cnv g).endTick + 1 + s.rf (Reg.cnvMuxset g) 0 16))) ∧
      OffPages [Page.cnv g] s u ∧ u = { s with regs := u.regs, w1set := u.w1set, conv := u.conv, evq := u.evq }))

/-- Writes to a converter's page that reach it: SCANGO starts a scan, counts SYNCBUSY during one, and does nothing further in the FAB
cycle of a trigger acted on (R149); EN rising in continuous mode and a changed INSEL or mode of the selected input switch the multiplexer
and open the settling window of MUXSET ANA ticks, the mode at the next modulator sample (R131, R147); EN = 0 stops the converter; outputs
whose windows have closed leave before such a change, which acts before a CSYNC of its FAB cycle (R152, R193); RNG asks for its change at
the next block, a DN of 0 being 1, or is refused with RNGREJ where RLO <= FIXR <= RHI <= 4 fails (R142); a trim counts from the next
sample on, a transition if its tag is in effect (R138); a changed burnout opens a change interval of 256 samples, and OPEN of an input
whose burnout goes off clears (R156, R165). Conditions at the inputs set and clear their flags, REFLOW from the next sample on (R134,
R165). The choices of the model in it: assumption 25. -/
def Obligations.ConverterControl : Prop := ∀ (s : State) (req : Req) (g : Fin 8) (v : Word),
  (s.reaches req (Page.cnv g) = true →
    (s.cnvOn g = true → s.cnvScan g = true →
      ((s.cnv g).scanning = false → (s.cnv g).trigAt ≠ some s.time.fab →
        Completes (.scango req g) s (fun u =>
          (u.cnv g).scanning = true ∧ (u.cnv g).entry = 0 ∧ (u.cnv g).trigAt = some s.time.fab ∧
          (u.cnv g).settleEnd = some (s.anaNext + s.rf (Reg.cnvMuxset g) 0 16) ∧
          u.rd (Reg.cnvSynccnt g) = s.rd (Reg.cnvSynccnt g) + 1 ∧
          OffPages [Page.cnv g] s u ∧ u = { s with regs := u.regs, w1set := u.w1set, conv := u.conv })) ∧
      ((s.cnv g).scanning = true → (s.cnv g).trigAt ≠ some s.time.fab →
        Completes (.scango req g) s (fun u => u = (s.bump (Reg.cnvSyncbusy g)).raise (Page.cnv g) 4)) ∧
      ((s.cnv g).trigAt = some s.time.fab → Completes (.scango req g) s (fun u => u = s))) ∧
    (let w := if field v 2 2 = 3 then putField (v &&& 0x7FF) 2 2 (field (s.cctlCnv g) 2 2) else v &&& 0x7FF
     let s' := s.flushDue g
     Completes (.cctlWrite req g v) s (fun u =>
       u.rd (Reg.cnvCctl g) = w ∧
       (bitOf v 0 = false →
         (u.cnv g).live = none ∧ (u.cnv g).scanning = false ∧ (u.cnv g).settleEnd = none ∧ (u.cnv g).probeEnd = none) ∧
       (bitOf v 0 = true → bitOf v 1 = false → bitOf (s.cctlCnv g) 0 = false →
         (u.cnv g).input = s.rf (Reg.cnvInsel g) 0 2 ∧ (u.cnv g).live = none ∧
         (u.cnv g).settleEnd = some (s.anaNext + s.rf (Reg.cnvMuxset g) 0 16)) ∧
       (bitOf v 0 = true → bitOf v 1 = false → bitOf (s.cctlCnv g) 0 = true → bitOf (s.cctlCnv g) 1 = true →
         (u.cnv g).input = s'.rf (Reg.cnvInsel g) 0 2 ∧ (u.cnv g).live = none ∧ (u.cnv g).scanning = false ∧
         (u.cnv g).settleEnd = some (s'.anaNext + s'.rf (Reg.cnvMuxset g) 0 16)) ∧
       (bitOf v 0 = true → bitOf v 1 = true → field w 2 2 = 0 → bitOf (s.cctlCnv g) 0 = false → (s.cnv g).sync = none →
         (u.cnv g).scanning = true ∧ (u.cnv g).entry = 0 ∧ (u.cnv g).input = s.rf (Reg.cnvScanl g) 0 2 ∧
         (u.cnv g).settleEnd = some (s.anaNext + s.rf (Reg.cnvMuxset g) 0 16)) ∧
       (s.slotOn g = false → OffPages [Page.cnv g] s u ∧
         u = { s with regs := u.regs, w1set := u.w1set, conv := u.conv, slots := u.slots }))) ∧
    (s.cnvOn g = true → s.cnvScan g = false → (s.cnv g).input ≠ field v 0 2 →
      Completes (.inselWrite req g v) s (fun u =>
        let s' := s.flushDue g
        u = ((s'.wr (Reg.cnvInsel g) (v &&& 3)).muxSwitch g (field v 0 2) s'.anaNext).resync g ∧
        (u.cnv g).input = field v 0 2 ∧ (u.cnv g).live = none ∧
        (u.cnv g).settleEnd = some (s'.anaNext + s'.rf (Reg.cnvMuxset g) 0 16))) ∧
    (s.cnvOn g = true → s.cnvScan g = false →
      field (mixModes (s.rd (Reg.cnvImode g)) (v &&& 0x7777) 4) (4 * (s.cnv g).input) 3 ≠
        field (s.rd (Reg.cnvImode g)) (4 * (s.cnv g).input) 3 →
      Completes (.imodeWrite req g v) s (fun u =>
        let s' := s.flushDue g
        u = (s'.wr (Reg.cnvImode g) (mixModes (s.rd (Reg.cnvImode g)) (v &&& 0x7777) 4)).muxSwitch g (s.cnv g).input
              (2 * firstSample g s'.time.fab) ∧
        u.rd (Reg.cnvImode g) = mixModes (s.rd (Reg.cnvImode g)) (v &&& 0x7777) 4 ∧ (u.cnv g).live = none ∧
        (u.cnv g).settleEnd = some (2 * firstSample g s'.time.fab + s'.rf (Reg.cnvMuxset g) 0 16))) ∧
    (let x := v &&& 0xFFFF077F
     let w := if field x 16 16 = 0 then putField x 16 16 1 else x
     (field x 4 3 ≤ field x 1 3 → field x 1 3 ≤ field x 8 3 → field x 8 3 ≤ 4 →
       Completes (.rngWrite req g v) s (fun u =>
         (field w 0 11 ≠ s.rf (Reg.cnvRng g) 0 11 →
           u = (s.wr (Reg.cnvRng g) w).setCnv g { s.cnv g with rngPend := true }) ∧
         (field w 0 11 = s.rf (Reg.cnvRng g) 0 11 → u = s.wr (Reg.cnvRng g) w))) ∧
     (¬ (field x 4 3 ≤ field x 1 3 ∧ field x 1 3 ≤ field x 8 3 ∧ field x 8 3 ≤ 4) →
       Completes (.rngWrite req g v) s (fun u =>
         u = (s.setb (Reg.cnvSta g) 16 true).raise (Page.cnv g) 6))) ∧
    (∀ (t : Fin 5) (offset : Bool),
      Completes (.trimWrite req g t offset v) s (fun u =>
        let a := if offset then Reg.cnvOtrim g t else Reg.cnvGtrim g t
        let m := firstSample g s.time.fab
        u.rd a = v &&& 0xFFFFFF ∧ (u.cnv g).trims =
          { upTo := m, tag := t, off := offset, value := sfield (s.rd a) 0 24 } :: (s.cnv g).trims ∧
        (t.val ≠ (s.cnv g).tag → (u.cnv g).trans = (s.cnv g).trans) ∧
        (t.val = (s.cnv g).tag → { lo := m, hi := m + 1 } ∈ (u.cnv g).trans) ∧
        OffRegs [a] s u ∧ OffUnit State.cnv g s u ∧ u = { s with regs := u.regs, conv := u.conv })) ∧
    (s.rf (Reg.cnvBurn g) 0 8 ≠ field v 0 8 →
      Completes (.burnWrite req g v) s (fun u =>
        u.rd (Reg.cnvBurn g) = v &&& 0xFF ∧
        u.conv = (s.openChange g 256).conv ∧ (∀ j : Fin 4, field v (2 * j) 2 = 0 → u.rb (Reg.cnvSta g) (10 + j) = false) ∧
        OffRegs [Reg.cnvBurn g, Reg.cnvSta g] s u ∧ u = { s with regs := u.regs, conv := u.conv }))) ∧
  (s.rf (Reg.cnvCctl g) 4 2 ≠ 0 → s.rb (Reg.cnvSta g) 14 = false →
    Completes (.reflow g) s (fun u =>
      u.rb (Reg.cnvSta g) 14 = true ∧ u.rb (Reg.hdrIraw (Page.cnv g)) 3 = true ∧
      holdsAt false (firstSample g s.time.fab) (u.cnv g).lows = true ∧
      OffPages [Page.cnv g] s u ∧ OffUnit State.cnv g s u ∧
      u = { s with regs := u.regs, w1set := u.w1set, conv := u.conv })) ∧
  (s.rb (Reg.cnvSta g) 14 = true →
    Completes (.reflowEnd g) s (fun u =>
      u.rb (Reg.cnvSta g) 14 = false ∧ holdsAt false (firstSample g s.time.fab) (u.cnv g).lows = false ∧
      OffRegs [Reg.cnvSta g] s u ∧ OffUnit State.cnv g s u ∧ u = { s with regs := u.regs, conv := u.conv })) ∧
  (∀ j : Fin 4, s.rf (Reg.cnvBurn g) (2 * j) 2 ≠ 0 →
    (s.rb (Reg.cnvSta g) (10 + j) = false →
      Completes (.openSet g j) s (fun u => u = (s.setb (Reg.cnvSta g) (10 + j) true).raise (Page.cnv g) 2)) ∧
    (s.rb (Reg.cnvSta g) (10 + j) = true →
      Completes (.openClear g j) s (fun u => u = s.setb (Reg.cnvSta g) (10 + j) false)))

/-- Excitation (R153-R163): CHSEL, a preset and XCTL take their values and are excitation changes of the channels they touch, counted in
CHGCNT while the channels are on (R154); XREARM ends EXCOFF unless its cause stands (R163); COMPL and ILIMIT follow their conditions in
the modes that have them (R160, R161). What a channel drives: its preset's current held to IMAX, or its voltage, and nothing while OFF
(R153, R160, R163). The choices of the model in it: assumption 26. -/
def Obligations.Excitation : Prop := ∀ (s : State) (req : Req) (v : Word),
  (s.reaches req Page.exc = true →
    (∀ k : Fin 8,
      Completes (.chselWrite req k v) s (fun u =>
        u.rd (Reg.excChsel k) = v &&& 0xF ∧
        (s.chanOn = false → u.regs = (s.wr (Reg.excChsel k) (v &&& 0xF)).regs) ∧
        (s.chanOn = true → u.rd Reg.excChgcnt = s.rd Reg.excChgcnt + 1) ∧
        OffPages [Page.exc] s u ∧
        u = { s with regs := u.regs, w1set := u.w1set, conv := u.conv, chselWr := u.chselWr })) ∧
    (∀ p : Fin 16,
      Completes (.excpWrite req p v) s (fun u =>
        u.rd (Reg.excExcp p) = mixPreset (s.rd (Reg.excExcp p)) (v &&& 0x3FFF7) ∧
        (s.chanOn = false → u.regs = (s.wr (Reg.excExcp p) (mixPreset (s.rd (Reg.excExcp p)) (v &&& 0x3FFF7))).regs) ∧
        (s.chanOn = true → u.rd Reg.excChgcnt = s.rd Reg.excChgcnt + BitVec.ofNat 32
          ((List.range 8).filter (fun k => s.rf (Reg.excChsel k) 0 4 == p.val)).length) ∧
        OffPages [Page.exc] s u ∧ u = { s with regs := u.regs, w1set := u.w1set, conv := u.conv })) ∧
    (s.pwr.cfgdef = false →
      (s.rb Reg.excXctl 0 ≠ bitOf v 0 →
        Completes (.xctlWrite req v) s (fun u =>
          u.rb Reg.excXctl 0 = bitOf v 0 ∧ u.rd Reg.excChgcnt = s.rd Reg.excChgcnt + 8 ∧
          OffPages [Page.exc] s u ∧ u = { s with regs := u.regs, w1set := u.w1set, conv := u.conv })) ∧
      (s.rb Reg.excXctl 0 = bitOf v 0 → Completes (.xctlWrite req v) s (fun u => u = s))) ∧
    (s.rb Reg.excXsta 24 = true → s.mon.aot = false → s.mon.vddaFault = false →
      Completes (.xrearm req) s (fun u =>
        u.rb Reg.excXsta 24 = false ∧ u.rd Reg.excChgcnt = s.rd Reg.excChgcnt + 8 ∧
        OffPages [Page.exc] s u ∧ u = { s with regs := u.regs, w1set := u.w1set, conv := u.conv })) ∧
    (s.mon.aot = true ∨ s.mon.vddaFault = true → Completes (.xrearm req) s (fun u => u = s))) ∧
  (∀ k : Fin 8,
    (let p := s.rd (Reg.excExcp (s.rf (Reg.excChsel k) 0 4))
     (s.chanOn = false ∨ field p 0 2 = 0 → s.excOut k = .off) ∧
     (s.chanOn = true → field p 0 2 = 1 →
       s.excOut k = .current (bitOf p 2) (min (field p 4 14) (s.rf (Reg.excXlim k) 0 14))) ∧
     (s.chanOn = true → field p 0 2 = 2 →
       s.excOut k = .voltage (if bitOf p 2 then 16384 - field p 4 14 else field p 4 14))) ∧
    (s.excMode k = 1 → s.rb Reg.excXsta (8 + k) = false →
      Completes (.compl k) s (fun u => u = (s.setb Reg.excXsta (8 + k) true).raise Page.exc 1)) ∧
    (s.excMode k = 2 → s.rb Reg.excXsta (16 + k) = false →
      Completes (.ilimit k) s (fun u => u = (s.setb Reg.excXsta (16 + k) true).raise Page.exc 2)) ∧
    Completes (.complClear k) s (fun u => u = s.setb Reg.excXsta (8 + k) false) ∧
    Completes (.ilimitClear k) s (fun u => u = s.setb Reg.excXsta (16 + k) false))

/-! ### Filter engines (05 R168-R196) -/

/-- Outputs. Once the samples of its window have entered (`t`: the state then), a main-path output that is due is the result of the
slot's stages at its centre (R169-R174); an FIR output that is due in time is the rounded sum over the bank (R176), or during a
cross-fade the mix of both banks', the last of which ends the fade (R181); each leaves with its flags, STAMP and WPOS, or is held back
under SETSUP (R158, R185-R196). One that is not complete before the next falls due is dropped and counted (R194). The choices of the
model in it: assumption 8. -/
def Obligations.FilterOutputs : Prop := ∀ (s : State) (g : Fin 8) (xs : List Sample),
  let e := g.val / 4
  let t := xs.foldl (fun s x => s.feed g x) s
  s.unarmed = true →
  (s.mayEnter g = true → s.mainDue g = true → xs.length = (s.nextMain g).span.hi - (s.cnv g).fed →
    Completes (.filterOutput g xs) s (fun u =>
      let y := stageEntry (t.sampleAt g) (t.slot g).phases (t.lastStage g) (s.nextMain g).centre
      Delivered g (s.nextMain g) y.v y.sat t u)) ∧
  (s.firDue g = true → xs.length = (s.nextFir g).span.hi - (s.cnv g).fed →
    let n := (s.slot g).next
    let b := s.fbank g
    let yn := firResult (t.bankSum g b n) (t.fgain e b)
    (s.mayEnter g = true → s.firLate g = false → (s.slot g).fade = none → t.bankReady g b n = true →
      Completes (.firOutput g xs) s (fun u =>
        (∃ sat : Bool, (yn.own = true → sat = true) ∧ Delivered g (s.nextFir g) yn.v sat t u) ∧ (u.slot g).fade = none)) ∧
    (∀ f : FadeSt, s.mayEnter g = true → s.firLate g = false → (s.slot g).fade = some f → t.bankReady g b n = true →
      t.bankReady g f.oldBank n = true →
      Completes (.firOutput g xs) s (fun u =>
        let yo := firResult (t.bankSum g f.oldBank n) (t.fgain e f.oldBank)
        (f.i + 1 ≠ 2 ^ f.n →
          (∃ sat : Bool, Delivered g (s.nextFir g) (fadeMix f.n f.i yo.v yn.v) sat t u) ∧
          (u.slot g).fade = some { f with i := f.i + 1 }) ∧
        (f.i + 1 = 2 ^ f.n →
          (∃ sat : Bool, Delivered g (s.nextFir g) yn.v sat t u) ∧ (u.slot g).fade = none ∧
          u.rb (Reg.filSta e) (g % 4) = false ∧ u.rb (Reg.hdrIraw (Page.fil e)) 3 = true))) ∧
    (s.firLate g = true → (s.slot g).fade = none →
      Completes (.firdrop g xs) s (fun u =>
        u.rd (Reg.filDropcnt e) = t.rd (Reg.filDropcnt e) + 1 ∧ u.rb (Reg.hdrIraw (Page.fil e)) 4 = true ∧
        (u.slot g).seq = ((t.slot g).seq + 1) % 2 ^ 24 ∧ (u.slot g).ring = (t.slot g).ring ∧
        OffPages [Page.fil e] t u ∧
        u = { t with regs := u.regs, w1set := u.w1set, slots := u.slots, conv := u.conv })))

/-- Registers of the filter engines. A PATH write that FCENT forbids, or that changes FBANK during a fade, is refused with its flag
(R181, R183); else PATH takes its value once the outputs whose windows have closed have left (`t`: the state then), and a changed path
restarts the slot and counts (R193), a changed FBANK alone starts a cross-fade (R181). Coefficients and bank registers of a bank not in
use take their value, those of one in use are refused with COEREJ (R179, R180). Reads of a NEW block's W0L and of RRD0 return the record's
first word and latch the other three (R196). The choices of the model in it: assumption 27. -/
def Obligations.FilterRegisters : Prop := ∀ (s : State) (req : Req) (v : Word),
  (∀ g : Fin 8, s.reaches req (Page.fil (g / 4)) = true →
    let e := g.val / 4
    let p := mixPath (s.path g) (v &&& 0xFFFFFF)
    let b := field p 9 1
    let t := s.flushDue g
    let changed := field (s.path g) 0 9 != field p 0 9 || field (s.path g) 16 8 != field p 16 8
    let newBank := b != field (s.path g) 9 1
    (bitOf p 0 = true → s.ntap e b - 1 < s.fcent e b →
      Completes (.pathWrite req g v) s (fun u => u = s.raise (Page.fil e) 2)) ∧
    (bitOf p 0 = false ∨ s.fcent e b ≤ s.ntap e b - 1 →
      ((s.slot g).fade ≠ none → newBank = true →
        Completes (.pathWrite req g v) s (fun u => u = s.raise (Page.fil e) 1)) ∧
      ((s.slot g).fade = none ∨ newBank = false →
        Completes (.pathWrite req g v) s (fun u =>
          u.path g = p ∧
          (changed = true →
            u.rd (Reg.filRestcnt e) = t.rd (Reg.filRestcnt e) + 1 ∧ (u.slot g).fade = none ∧
            u.rb (Reg.filSta e) (g % 4) = false ∧
            ((t.cnv g).live.isSome = true → (u.slot g).restart = firstSample g t.time.fab ∧ (u.slot g).first = true)) ∧
          (changed = false → bitOf p 0 = true → newBank = true →
            u.rb (Reg.filSta e) (g % 4) = true ∧
            (u.slot g).fade = some { oldBank := field (s.path g) 9 1, i := 0, n := field p 10 4 }) ∧
          (changed = false → bitOf p 0 = false ∨ newBank = false → u = t.wr (Reg.filPath e (g % 4)) p) ∧
          OffPages [Page.fil e] t u ∧ u = { t with regs := u.regs, slots := u.slots })))) ∧
  (∀ (e : Fin 2) (i : Fin 3) (j : Nat) (a : BitVec 24) (d : DWord), j < (if i.val < 2 then 240 else 96) →
    a.toNat = Reg.fcoeCoef (3 * e + i) j → s.reaches req (Page.fcoe (3 * e + i)) = true →
    let b := if i.val < 2 then i.val else j / 48
    let byte := if i.val < 2 then 4 * j else 960 + 4 * (j % 48)
    (s.bankUsed e b = false → s.unarmed = true →
      s.rawWord (Store.filter e) (coefWord b (byte / 8)) = encodeWord d →
      Completes (.bankWrite req a v) s (fun u =>
        u.rawWord (Store.filter e) (coefWord b (byte / 8)) =
          encodeWord (if byte % 8 < 4 then BitVec.ofNat 64 (v.toNat + d.toNat / 2 ^ 32 * 2 ^ 32)
                      else BitVec.ofNat 64 (v.toNat * 2 ^ 32 + d.toNat % 2 ^ 32)) ∧
        (∀ st n, (st ≠ Store.filter e ∨ n ≠ coefWord b (byte / 8)) → n < 2 ^ 40 → u.rawWord st n = s.rawWord st n) ∧
        u = { s with words := u.words })) ∧
    (s.bankUsed e b = true → Completes (.bankWrite req a v) s (fun u => u = s.raise (Page.fil e) 0))) ∧
  (∀ (e : Fin 2) (b : Bool) (a : BitVec 24), a.toNat = (if b then Reg.filBankb e else Reg.filBanka e) →
    s.reaches req (Page.fil e) = true →
    (s.bankUsed e (if b then 1 else 0) = false →
      Completes (.bankWrite req a v) s (fun u =>
        u = s.wr a.toNat (putField (v &&& 0x1FFFFF) 0 9 (min 383 (field v 0 9))))) ∧
    (s.bankUsed e (if b then 1 else 0) = true →
      Completes (.bankWrite req a v) s (fun u => u = s.raise (Page.fil e) 0))) ∧
  (∀ (e : Fin 2) (d0 d1 : DWord), s.reaches req (Page.fil e) = true →
    (∀ k i : Fin 4, s.rawWord (Store.filter e) (newWord k i) = encodeWord d0 →
      s.rawWord (Store.filter e) (newWord k i + 1) = encodeWord d1 →
      Completes (.newW0lRead req e k i) s (fun u =>
        let b := 16 * k.val + 4 * i.val
        u.rdata = [lo32 d0.toNat] ∧ u.rd (Reg.filNew e (b + 1)) = hi32 d0.toNat ∧
        u.rd (Reg.filNew e (b + 2)) = lo32 d1.toNat ∧ u.rd (Reg.filNew e (b + 3)) = hi32 d1.toNat ∧
        OffPages [Page.fil e] s u ∧ u = { s with rdata := u.rdata, regs := u.regs })) ∧
    (s.rawWord (Store.filter e) (s.ringSelected e) = encodeWord d0 →
      s.rawWord (Store.filter e) (s.ringSelected e + 1) = encodeWord d1 →
      Completes (.rrd0Read req e) s (fun u =>
        u.rdata = [lo32 d0.toNat] ∧ u.rd (Reg.filRrd e 1) = hi32 d0.toNat ∧
        u.rd (Reg.filRrd e 2) = lo32 d1.toNat ∧ u.rd (Reg.filRrd e 3) = hi32 d1.toNat ∧
        OffPages [Page.fil e] s u ∧ u = { s with rdata := u.rdata, regs := u.regs })))

/-! ### Weirs, proof tests, pulse channels and trips (06 R198-R228) -/

/-- Weirs: an input crossing, and a sample 4 µs after each tick of the sampling clock, move a free weir by R200 (R206), the end of the
enable time takes its first state by direct comparison (R201), the end of a hold moves it on its input (R202). A WCFG write takes its
value, and one that changes the input's bits makes the weir not VALID (R199, R201); a threshold write holds a VALID weir (R202), during a
proof test at its end (R211); reserved or disordered values are refused with the page's refusal bit (R199). Trips may follow; no other
weir changes. The choices of the model in it: assumption 28. -/
def Obligations.Weirs : Prop := ∀ (s : State) (w : Fin 16) (x : Int),
  (s.weirFree w = true → field (s.wcfg w) 10 2 ≠ 3 →
    Completes (.weirCrossing w x) s (fun u =>
      u.weir w = { s.weir w with x := x, st := moveWeir (s.wlo w) (s.whi w) (s.whys w) (s.weir w).st x } ∧
      OffUnit State.weir w s u ∧ OffPages [Page.trip, Page.pls] s u ∧
      u = { s with regs := u.regs, w1set := u.w1set, weirs := u.weirs, pulses := u.pulses, evq := u.evq })) ∧
  (s.weirPowered w = true → bitOf (s.wcfg w) 0 = true → (s.weir w).st = 0 → (s.weir w).test = none →
    Completes (.weirValid w x) s (fun u =>
      u.weir w = { s.weir w with x := x, st := if x < s.wlo w then 1 else if s.whi w ≤ x then 3 else 2 } ∧
      OffUnit State.weir w s u ∧ OffPages [Page.trip, Page.pls] s u ∧
      u = { s with regs := u.regs, w1set := u.w1set, weirs := u.weirs, pulses := u.pulses, evq := u.evq })) ∧
  (s.weirFree w = true → field (s.wcfg w) 10 2 = 3 → 1600 ≤ s.time.fab → (∀ t ∈ (s.weir w).sampled, t < s.sampleTick) →
    Completes (.weirSample w x) s (fun u =>
      u.weir w = { s.weir w with x := x, sampled := some s.sampleTick,
                                 st := moveWeir (s.wlo w) (s.whi w) (s.whys w) (s.weir w).st x } ∧
      OffUnit State.weir w s u ∧ OffPages [Page.trip, Page.pls] s u ∧
      u = { s with regs := u.regs, w1set := u.w1set, weirs := u.weirs, pulses := u.pulses, evq := u.evq })) ∧
  ((s.weir w).hold = true → s.weirPowered w = true → (s.weir w).st ≠ 0 → (s.weir w).test = none →
    field (s.wcfg w) 10 2 ≠ 3 →
    Completes (.thresholdHoldEnd w x) s (fun u =>
      u.weir w = { s.weir w with x := x, hold := false,
                                 st := moveWeir (s.wlo w) (s.whi w) (s.whys w) (s.weir w).st x } ∧
      OffUnit State.weir w s u ∧ OffPages [Page.trip, Page.pls] s u ∧
      u = { s with regs := u.regs, w1set := u.w1set, weirs := u.weirs, pulses := u.pulses, evq := u.evq })) ∧
  (∀ (req : Req) (v : Word), s.reaches req (Page.weir (w / 8)) = true → s.lockedFor (Page.weir (w / 8)) = false →
    (field v 7 3 ≤ 4 →
      Completes (.wcfgWrite req w v) s (fun u =>
        u.wcfg w = v &&& 0x7FFF ∧
        (field (s.wcfg w) 0 12 ≠ field v 0 12 → (u.weir w).st = 0 ∧ (u.weir w).hold = false ∧
          (∀ t ∈ (u.weir w).test, t.aborted = true)) ∧
        (field (s.wcfg w) 0 12 = field v 0 12 → u.weirs = s.weirs) ∧
        OffUnit State.weir w s u ∧ OffPages [Page.weir (w / 8), Page.trip, Page.pls] s u ∧
        u = { s with regs := u.regs, w1set := u.w1set, weirs := u.weirs, pulses := u.pulses, evq := u.evq })) ∧
    (4 < field v 7 3 → Completes (.wcfgWrite req w v) s (fun u => u = s.raise (Page.weir (w / 8)) 24)) ∧
    (s.whys w < sfield v 16 12 - sfield v 0 12 → (s.weir w).test = none → (s.weir w).st ≠ 0 →
      Completes (.wthrWrite req w false v) s (fun u =>
        u = (s.wr (Reg.weirWthr (w / 8) (w % 8)) (v &&& 0x0FFF0FFF)).setWeir w { s.weir w with hold := true })) ∧
    (∀ t : ProofSt, s.whys w < sfield v 16 12 - sfield v 0 12 → (s.weir w).test = some t →
      Completes (.wthrWrite req w false v) s (fun u =>
        u = (s.wr (Reg.weirWthr (w / 8) (w % 8)) (v &&& 0x0FFF0FFF)).setWeir w
              { s.weir w with test := some { t with reload := true } })) ∧
    (sfield v 16 12 - sfield v 0 12 ≤ s.whys w →
      Completes (.wthrWrite req w false v) s (fun u => u = s.raise (Page.weir (w / 8)) 24)) ∧
    ((field v 0 8 : Int) < s.whi w - s.wlo w → (s.weir w).test = none → (s.weir w).st ≠ 0 →
      Completes (.wthrWrite req w true v) s (fun u =>
        u = (s.wr (Reg.weirWhys (w / 8) (w % 8)) (v &&& 0xFF)).setWeir w { s.weir w with hold := true })))

/-- Proof tests: a PTEST write with SWAP or TIE starts a test of a VALID weir and sets RUN (R209); one of a weir that is not VALID is
aborted at once (R211); the end of a step's dwell Td records the state seen and goes on (R209); the end of the restore reports passed, failed
or aborted, ends the test and frees the weir (R210, R211). The choices of the model in it: assumption 28. -/
def Obligations.ProofTests : Prop := ∀ (s : State) (w : Fin 16),
  (∀ (req : Req), s.reaches req (Page.weir (w / 8)) = true → (s.weir w).test = none →
    ((s.weir w).st ≠ 0 → ∀ tie : Bool,
      Completes (.swap req w tie) s (fun u =>
        u.rf (Reg.weirPtres (w / 8) (w % 8)) 0 3 = 1 ∧ (u.weir w).test.isSome = true ∧ (u.weir w).hold = false ∧
        (∀ t ∈ (u.weir w).test, t.tie = tie ∧ t.failed = false ∧ t.start = compareWeir (s.wlo w) (s.whi w) (s.weir w).x) ∧
        OffUnit State.weir w s u ∧ OffPages [Page.weir (w / 8)] s u ∧
        u = { s with regs := u.regs, w1set := u.w1set, weirs := u.weirs })) ∧
    ((s.weir w).st ≠ 0 →
      Completes (.tie req w) s (fun u =>
        u.rf (Reg.weirPtres (w / 8) (w % 8)) 0 3 = 1 ∧ (u.weir w).test.isSome = true ∧ (u.weir w).hold = false ∧
        (∀ t ∈ (u.weir w).test, t.tie = true ∧ t.failed = false ∧ 1 ≤ t.step) ∧
        OffUnit State.weir w s u ∧ OffPages [Page.weir (w / 8)] s u ∧
        u = { s with regs := u.regs, w1set := u.w1set, weirs := u.weirs })) ∧
    ((s.weir w).st = 0 → ∀ tie : Bool,
      Completes (.swap req w tie) s (fun u =>
        u = (s.wr (Reg.weirPtres (w / 8) (w % 8)) 6).raise (Page.weir (w / 8)) (8 + w % 8)))) ∧
  (∀ (t : ProofSt) (obs : Fin 3), (s.weir w).test = some t → t.step < 4 → t.since + s.dwell w ≤ s.time.fab →
    Completes (.proofStepEnd w obs) s (fun u =>
      u.rf (Reg.weirPtres (w / 8) (w % 8)) (8 + 2 * t.step) 2 = obs + 1 ∧ (u.weir w).test.isSome = true ∧
      (∀ t' ∈ (u.weir w).test, t.step < t'.step ∧ t'.failed = (t.failed || obs.val + 1 != t.expects)) ∧
      (u.weir w).st = (s.weir w).st ∧ OffUnit State.weir w s u ∧ OffPages [Page.weir (w / 8)] s u ∧
      u = { s with regs := u.regs, w1set := u.w1set, weirs := u.weirs })) ∧
  (∀ (t : ProofSt) (x : Int), (s.weir w).test = some t → t.step = 4 → t.since + s.dwell w ≤ s.time.fab →
    Completes (.proofTestDone w x) s (fun u =>
      u.rf (Reg.weirPtres (w / 8) (w % 8)) 0 3 = 2 * (if t.aborted then 3 else if t.failed then 2 else 1) ∧
      u.rb (Reg.hdrIraw (Page.weir (w / 8))) (8 + w % 8) = true ∧
      (t.failed = true → t.aborted = false → u.rb (Reg.hdrIraw (Page.weir (w / 8))) (16 + w % 8) = true) ∧
      (u.weir w).test = none ∧ (u.weir w).x = x ∧
      (s.weirPowered w = true → (s.weir w).st ≠ 0 → t.reload = false → field (s.wcfg w) 10 2 ≠ 3 →
        (u.weir w).st = moveWeir (s.wlo w) (s.whi w) (s.whys w) (s.weir w).st x) ∧
      OffUnit State.weir w s u ∧ OffPages [Page.weir (w / 8), Page.trip, Page.pls] s u ∧
      u = { s with regs := u.regs, w1set := u.w1set, weirs := u.weirs, pulses := u.pulses, evq := u.evq }))

/-- Pulse channels: the expiries of R215 and R217 and the admission of R216 are told while the unit runs, and act at the end of their FAB
cycle, in the order of R214. At that end (`State.tickPulse`) the credit has moved by R217; a pulse at MAXW ends and counts a WCLIP, unless
an inactive edge request came in the cycle (R215); an exhausted credit ends the pulse and counts a DCLIP (R217); a deferred edge is
admitted where both tests of R216 pass; an active edge is admitted, deferred or dropped under OFFPOL (R216), an inactive one ends the
pulse; two requests set COLL, and a level set and cleared in one cycle is no edge of the ball (R214). PCFG takes its value with a reserved
SAFE kept, and EN = 0 ends the pulse and cancels the deferred edge (R213). The ball shows the level by POL, or SAFE while tripped (R213,
R222). The choices of the model in it: assumption 29. -/
def Obligations.PulseChannels : Prop := ∀ (s : State) (ch : Fin 16),
  (∀ c : Instr × PulseReq, c ∈ [(.wclip ch, .wclip), (.deferredEdgeAdmit ch, .release), (.dclip ch, .dclip)] →
    Completes c.1 s (fun u =>
      (s.pulsesOn = true → u = s.setPulse ch { s.pulse ch with reqs := (s.pulse ch).reqs ++ [c.2] }) ∧
      (s.pulsesOn = false → u = s))) ∧
  (let p := s.pulse ch
   let cr : Int := min (s.creditCap ch) (p.credit + (s.maxDuty ch : Nat)) - (if p.active then 256 else 0)
   let open_ := 400 * s.rf (Reg.plsMinoff ch) 0 24 ≤ s.time.fab - p.inactSince ∧ (0 < cr ∨ s.maxDuty ch = 256)
   let u := s.tickPulse ch
   let ended := { p with active := false, inactSince := s.time.fab, ball := false, reqs := [], credit := cr, seen := 0 }
   let started := { p with active := true, deferred := false, actSince := s.time.fab, ball := true, reqs := [],
                           credit := cr, seen := 0 }
   p.rearm = false →
   (p.reqs = [.wclip] → p.active = true → 400 * s.rf (Reg.plsMaxw ch) 0 24 ≤ s.time.fab - p.actSince →
     u.pulse ch = ended ∧ u.rf (Reg.plsLimcnt ch) 0 8 = min 255 (s.rf (Reg.plsLimcnt ch) 0 8 + 1) ∧
     u.rb (Reg.hdrIraw Page.pls) 0 = true) ∧
   (p.reqs = [.wclip, .clr] → p.active = true → s.rb (Reg.plsPcfg ch) 0 = true → s.tripped ch = false → p.deferred = false →
     400 * s.rf (Reg.plsMaxw ch) 0 24 ≤ s.time.fab - p.actSince →
     u.pulse ch = ended ∧ u.rd (Reg.plsLimcnt ch) = s.rd (Reg.plsLimcnt ch)) ∧
   (p.reqs = [.dclip] → p.active = true → cr ≤ 0 → s.maxDuty ch ≠ 256 →
     u.pulse ch = ended ∧ u.rf (Reg.plsLimcnt ch) 8 8 = min 255 (s.rf (Reg.plsLimcnt ch) 8 8 + 1) ∧
     u.rb (Reg.hdrIraw Page.pls) 1 = true) ∧
   (p.reqs = [.release] → p.deferred = true → open_ →
     u.pulse ch = started ∧ (p.ball = false → u.rd (Reg.plsEdgcnt ch) = s.rd (Reg.plsEdgcnt ch) + 1)) ∧
   (p.reqs = [.set] ∨ p.reqs = [.ticket true] → s.rb (Reg.plsPcfg ch) 0 = true → s.tripped ch = false →
     p.active = false → p.deferred = false →
     (open_ → u.pulse ch = started ∧ (p.ball = false → u.rd (Reg.plsEdgcnt ch) = s.rd (Reg.plsEdgcnt ch) + 1)) ∧
     (¬ open_ → (u.pulse ch).active = false ∧ (u.pulse ch).deferred = s.rb (Reg.plsPcfg ch) 4 ∧
       (s.rb (Reg.plsPcfg ch) 4 = false → u.rf (Reg.plsLimcnt ch) 16 8 = min 255 (s.rf (Reg.plsLimcnt ch) 16 8 + 1) ∧
         u.rb (Reg.hdrIraw Page.pls) 2 = true))) ∧
   (p.reqs = [.clr] ∨ p.reqs = [.ticket false] → s.rb (Reg.plsPcfg ch) 0 = true → s.tripped ch = false → p.active = true →
     p.deferred = false → u.pulse ch = ended) ∧
   (p.reqs = [.clr, .set] → s.rb (Reg.plsPcfg ch) 0 = true → s.tripped ch = false → p.active = false →
     p.deferred = false → open_ →
     u.pulse ch = { ended with actSince := s.time.fab } ∧ u.rd (Reg.plsEdgcnt ch) = s.rd (Reg.plsEdgcnt ch) ∧
     u.rb (Reg.hdrIraw Page.pls) 3 = true)) ∧
  (∀ (req : Req) (v : Word), s.reaches req Page.pls = true → s.lockedFor Page.pls = false →
    Completes (.pcfgWrite req ch v) s (fun u =>
      u.rb (Reg.plsPcfg ch) 0 = bitOf v 0 ∧ u.rb (Reg.plsPcfg ch) 1 = bitOf v 1 ∧ u.rb (Reg.plsPcfg ch) 4 = bitOf v 4 ∧
      u.rf (Reg.plsPcfg ch) 2 2 = (if field v 2 2 = 3 then s.rf (Reg.plsPcfg ch) 2 2 else field v 2 2) ∧
      (bitOf v 0 = true → u.pulses = s.pulses ∧ OffRegs [Reg.plsPcfg ch] s u) ∧
      (bitOf v 0 = false → (u.pulse ch).active = false ∧ (u.pulse ch).deferred = false ∧
        ((s.pulse ch).deferred = true → u.rb (Reg.hdrIraw Page.pls) 2 = true)) ∧
      OffPages [Page.pls] s u ∧ u = { s with regs := u.regs, w1set := u.w1set, pulses := u.pulses, evq := u.evq })) ∧
  (s.pwr.state ≠ .hibernate →
    (s.tripped ch = true →
      (s.rf (Reg.plsPcfg ch) 2 2 = 0 → s.plsBall ch = .low) ∧ (s.rf (Reg.plsPcfg ch) 2 2 = 1 → s.plsBall ch = .high) ∧
      (s.rf (Reg.plsPcfg ch) 2 2 = 2 → s.plsBall ch = .highZ)) ∧
    (s.tripped ch = false →
      s.plsBall ch = if (s.pulse ch).ball = s.rb (Reg.plsPcfg ch) 1 then .low else .high))

/-- The sluice: a TRIP ball that takes its active level through its filter, and a SWTRIP write, trip every enabled channel, end its pulse
and cancel its deferred edge, and record cause and stamp (R222, R223, R227); SEEN takes a source of a tripped channel (R223). A REARM
write asks for its tripped channels, and at the end of the FAB cycle (`State.endRearm`) a channel is re-armed where no enabled source was
asserted in the cycle and every enabled weir is VALID, and is refused otherwise and counted (R225, R226); in safe acquisition every REARM
is refused (R478). The choices of the model in it: assumption 29. -/
def Obligations.Trips : Prop := ∀ (s : State),
  (∀ (b : Fin 2) (level : Bool),
    (s.tripBall.testBit b ≠ level → 8 * s.rf Reg.tripTincfg (8 + 8 * b) 6 ≤ 5 * (s.time.fab - numAt s.tripSince b) →
      Completes (.tripBall b level) s (fun u =>
        u.tripBall.testBit b = level ∧ u.tripBall.testBit (1 - b) = s.tripBall.testBit (1 - b) ∧
        (level ≠ s.rb Reg.tripTincfg b → ∀ n : Fin 16, (s.rf (Reg.tripTsrc n) 0 21).testBit (16 + b) = true →
          u.tripped n = true ∧
          (s.tripped n = false → (u.pulse n).active = false ∧ (u.pulse n).deferred = false ∧
            u.rd (Reg.tripCstmp n) = s.stampNow)) ∧
        numAt u.tripSince b = s.time.fab ∧ OffPages [Page.trip, Page.pls] s u ∧
        u = { s with regs := u.regs, w1set := u.w1set, pulses := u.pulses, tripBall := u.tripBall, tripSince := u.tripSince,
                     evq := u.evq })) ∧
    (s.tripBall.testBit b = level ∨ 5 * (s.time.fab - numAt s.tripSince b) < 8 * s.rf Reg.tripTincfg (8 + 8 * b) 6 →
      Completes (.tripBall b level) s (fun u => u = s))) ∧
  (∀ (req : Req) (v : Word), s.reaches req Page.trip = true →
    Completes (.swtrip req v) s (fun u =>
      (∀ n : Fin 16, bitOf v n = true → s.rb (Reg.tripTsrc n) 19 = true →
        u.tripped n = true ∧ u.rb (Reg.tripCause n) 24 = true ∧
        (s.tripped n = false → u.rd (Reg.tripCause n) = w32 (19 + 2 ^ 19 * 32) ∧ u.rd (Reg.tripCstmp n) = s.stampNow ∧
          (u.pulse n).active = false ∧ (u.pulse n).deferred = false)) ∧
      (∀ n : Fin 16, bitOf v n = false ∨ s.rb (Reg.tripTsrc n) 19 = false →
        u.tripped n = s.tripped n ∧ u.pulse n = s.pulse n) ∧
      OffPages [Page.trip, Page.pls] s u ∧ u = { s with regs := u.regs, w1set := u.w1set, pulses := u.pulses, evq := u.evq }) ∧
    Completes (.rearm req v) s (fun u =>
      (∀ n : Fin 16, u.pulse n = if bitOf v n && s.tripped n then { s.pulse n with rearm := true } else s.pulse n) ∧
      u = { s with pulses := u.pulses })) ∧
  (∀ n : Fin 16, (s.pulse n).rearm = true →
    let u := s.endRearm n
    let enabled := s.rf (Reg.tripTsrc n) 0 21
    let refused := s.pwr.cfgdef = true ∨ (s.sources ||| (s.pulse n).seen) &&& enabled ≠ 0 ∨
      ∃ w : Fin 16, enabled.testBit w = true ∧ (s.weir w).st = 0
    (refused → u.tripped n = s.tripped n ∧ u.rb (Reg.hdrIraw Page.trip) 1 = true ∧
      u.rd Reg.tripRjcnt = s.rd Reg.tripRjcnt + 1) ∧
    (¬ refused → u.tripped n = false ∧ u.rb (Reg.hdrIraw Page.trip) 2 = true ∧
      (s.safeActive n = true → (u.pulse n).inactSince = s.time.fab)) ∧
    (u.pulse n).rearm = false ∧ (∀ k : Fin 16, k ≠ n → u.tripped k = s.tripped k ∧ u.pulse k = s.pulse k) ∧
    OffPages [Page.trip] s u ∧ u = { s with regs := u.regs, w1set := u.w1set, pulses := u.pulses })

/-! ### Segments and the point protocol (07 R230-R266) -/

/-- The line of a segment: the coordinator's beacon and one heard keep PLCA in step (R232, R235); a coordinator that hears a beacon
becomes a follower, with its alarm (R236); a follower that hears none falls back, with its alarm (R235); a collision of the frame on the
line counts an attempt of that frame, and its sixteenth drops it (R233, R234); PLCACFG takes a value that R232 allows and is refused
otherwise. The choices of the model in it: assumption 41. -/
def Obligations.SegmentLine : Prop := ∀ (s : State) (n : Fin 16),
  let alarm := fun (prio kind : Nat) =>
    s.alarmPosts ++ [{ req := 256 + Page.seg n, entry := alarmEntry prio (64 * n) kind s.stampNow }]
  (s.plcaOn n = true →
    (s.coordinates n = true →
      Completes (.plcaBeacon n) s (fun u =>
        u = s.setPort n { s.port n with lastBeacon := s.time.fab, plcaok := true, fallback := false }) ∧
      Completes (.beaconReceive n) s (fun u =>
        u.port n = { s.port n with lastBeacon := s.time.fab, plcaok := true, fallback := false, coord2 := true } ∧
        OffUnit State.port n s u ∧ u.coordinates n = false ∧ u.rb (Reg.hdrIraw (Page.seg n)) 4 = true ∧
        u.alarmPosts = alarm (s.rf (Reg.segAlprio n) 4 4) 0x24 ∧ OffRegs [Reg.hdrIraw (Page.seg n)] s u ∧
        u = { s with regs := u.regs, w1set := u.w1set, ports := u.ports, alarmPosts := u.alarmPosts })) ∧
    (s.coordinates n = false →
      Completes (.beaconReceive n) s (fun u =>
        u = s.setPort n { s.port n with lastBeacon := s.time.fab, plcaok := true, fallback := false }) ∧
      ((s.port n).fallback = false → 400 * s.rf (Reg.segPlcafb n) 0 16 ≤ s.time.fab - (s.port n).lastBeacon →
        Completes (.fallback n) s (fun u =>
          u.port n = { s.port n with plcaok := false, fallback := true } ∧ OffUnit State.port n s u ∧
          u.rb (Reg.hdrIraw (Page.seg n)) 5 = true ∧
          u.alarmPosts = alarm (s.rf (Reg.segAlprio n) 8 4) 0x25 ∧ OffRegs [Reg.hdrIraw (Page.seg n)] s u ∧
          u = { s with regs := u.regs, w1set := u.w1set, ports := u.ports, alarmPosts := u.alarmPosts })))) ∧
  (∀ e : TxEntry, s.maySend n = true → s.lineHead n = some e →
    (e.tries < 15 →
      Completes (.collision n) s (fun u =>
        u = (s.bump (Reg.segColcnt n)).setPort n { s.port n with
          txq := (s.port n).txq.map (fun y => if y = e then { y with tries := y.tries + 1 } else y) })) ∧
    (15 ≤ e.tries →
      Completes (.collision n) s (fun u =>
        (u.port n).txq = (s.port n).txq.erase e ∧ OffUnit State.port n s u ∧
        u.rd (Reg.segColcnt n) = s.rd (Reg.segColcnt n) + 1 ∧
        u.rd (Reg.segColdrop n) = s.rd (Reg.segColdrop n) + 1 ∧ u.rb (Reg.hdrIraw (Page.seg n)) 12 = true ∧
        (isPoll e.item = true → (u.port n).burst = none ∧ u.rd (Reg.segBurstfail n) = s.rd (Reg.segBurstfail n) + 1 ∧
          u.rb (Reg.hdrIraw (Page.seg n)) 10 = true) ∧
        (isMail e.item = true → u.rb (Reg.segTxsta n) 0 = false ∧ u.rb (Reg.segTxsta n) 2 = true) ∧
        (isPtpEvent e.item = true → u.rd Reg.ptppPtpdrop = s.rd Reg.ptppPtpdrop + 1) ∧
        OffPages [Page.seg n, Page.ptpp] s u ∧
        u = { s with regs := u.regs, w1set := u.w1set, ports := u.ports, ptp := u.ptp, evq := u.evq }))) ∧
  (∀ (req : Req) (v : Word), s.reaches req (Page.seg n) = true →
    (1 ≤ field v 16 7 → field v 16 7 ≤ 64 → bitOf v 1 = true ∨ field v 8 6 ≠ 0 →
      Completes (.plcacfgWrite req n v) s (fun u =>
        u = (s.wr (Reg.segPlcacfg n) (v &&& 0x7F3F03)).setPort n { s.port n with coord2 := false })) ∧
    (field v 16 7 = 0 ∨ 64 < field v 16 7 ∨ (bitOf v 1 = false ∧ field v 8 6 = 0) →
      Completes (.plcacfgWrite req n v) s (fun u => u = s.raise (Page.seg n) 14)))

/-- Poll bursts and the times of the node table: a POLL that is the frame on the line goes out behind the waiting follow-ups, as its slot
holds it, opens its window of BTMO and records its stamp with TXLAT (R238, R261, R262). The close of the window, once the replies of the
FAB cycle have been taken (`t`: the state then), ends the burst, and in RUN counts a miss of every polled node that did not answer (R239,
R252, R262); PUBTMO without an accepted PUBLISH is a miss, and one at MISSMAX makes the record SILENT (R250, R252). Of records with MARKEN
= 1 their points are marked besides (R251), which the frames below leave out. -/
def Obligations.Bursts : Prop := ∀ (s : State) (n : Fin 16),
  (∀ (stamp : BitVec 64) (e : TxEntry) (b : BurstSt), s.lineFrame n isPoll = some e → (s.port n).burst = some b →
    Completes (.pollSent n stamp) s (fun u =>
      let follows := (s.port n).txq.filter (fun x => isPtpFollow x.item)
      u.rd (Reg.segPolltx n) = w32 (stamp.toNat + s.rf (Reg.ptppTxlat n) 0 16) ∧
      (u.port n).burst = some { b with opened := some s.time.w0,
                                       close := s.time.w0 + 1000 * s.rf (Reg.segBtmo n b.desc) 0 20 } ∧
      (u.port n).txq = ((s.port n).txq.filter (fun x => !isPtpFollow x.item)).erase e ∧ OffUnit State.port n s u ∧
      (u.port n).lastTx.length = follows.length + 1 ∧
      u.rd (Reg.segTxfrm n) = s.rd (Reg.segTxfrm n) + BitVec.ofNat 32 (follows.length + 1) ∧
      (s.clean (Store.segment n) (txWord n e.slot) (wordsFor (txLen e.item)) = true →
        (u.port n).lastTx.getLast? = some (TxFrame.bytes (wordBytes (txLen e.item) ((List.range (wordsFor (txLen e.item))).map
          (fun i => some (wordData (s.rawWord (Store.segment n) (txWord n e.slot + i)))))) false)) ∧
      OffPages [Page.seg n, Page.ptpp, Page.ecc] s u ∧
      ((∀ x ∈ (s.port n).txq, x.slot < 16 ∧ txLen x.item ≤ 1024) → OffStores [Store.segment n] s u) ∧
      u = { s with regs := u.regs, w1set := u.w1set, ports := u.ports, words := u.words, errs := u.errs })) ∧
  (let t := s.takeFrames n
   ∀ b : BurstSt, (t.port n).burst = some b → b.opened.isSome = true → b.close ≤ t.time.w0 →
    Completes (.burstWindowClose n) s (fun u =>
      (u.port n).burst = none ∧ u.rb (Reg.hdrIraw (Page.seg n)) 10 = true ∧
      (t.pwr.state ≠ .run → ∀ k : Fin 64, u.node n k = t.node n k) ∧
      ((∀ k < 64, (t.node n k).marken = false) → t.unarmed = true →
        (t.pwr.state = .run → ∀ k : Fin 64, (u.node n k).miss =
          if b.mask.testBit k && (t.node n k).counts && !b.credited.contains k then min 15 ((t.node n k).miss + 1)
          else (t.node n k).miss) ∧
        OffUnit State.port n t u ∧ OffPages [Page.seg n] t u ∧ OffStores [Store.segment n] t u ∧
        u = { t with regs := u.regs, w1set := u.w1set, ports := u.ports, words := u.words, alarmPosts := u.alarmPosts,
                     evq := u.evq }))) ∧
  (∀ (p : Fin 18) (k : Fin 64), let t := s.takeFrames p
    t.portOn p = true → t.pwr.state = .run → (t.node p k).counts = true →
    (t.node p k).mode = 1 ∨ (t.node p k).mode = 2 → (t.node p k).pubtmo ≠ 0 →
    400000 * (t.node p k).pubtmo ≤ t.time.fab - numAt (t.port p).pubFrom k →
    Completes (.pubtmoExpiry p k) s (fun u =>
      numAt (u.port p).pubFrom k = u.time.fab ∧
      ((t.node p k).marken = false → t.unarmed = true →
        (u.node p k).miss = min 15 ((t.node p k).miss + 1) ∧
        ((t.node p k).missmax ≤ min 15 ((t.node p k).miss + 1) → (u.node p k).state = 3) ∧
        OffUnit State.port p t u ∧ OffPages [portPage p] t u ∧ OffStores [portStore p] t u ∧
        u = { t with regs := u.regs, w1set := u.w1set, ports := u.ports, words := u.words, alarmPosts := u.alarmPosts,
                     evq := u.evq })))

/-- Reception: a frame that the port hears counts, in DROPBUF where the receive ring is full; one that is no HPP message for the port
counts by its class, one of HPP outside RUN on a segment counts in SLPDROP, and nothing else happens (R230, R238, R239, R256, R292). A
valid HPP message joins those of its FAB cycle with its RXSTAMP, which act at the cycle's end (`State.takeFrames`): there a message
accepted of its record makes it LIVE with MISS and AUTHF 0, LASTSEQ, RXCTR and RXSTAMP of the frame, no other record (R245, R250, R256); a
REPLY or PUBLISH enters its values into the cache (R257) and is credited, or is late, (R262) or restarts PUBTMO (R252); the other types go
to the mailbox (R266). An ANNOUNCE of an unknown identity is logged (R258). The choices of the model in it: assumptions 10, 11, 30. -/
def Obligations.Reception : Prop := ∀ (s : State),
  (∀ (p : Fin 18) (f : Frame), s.receives p = true → s.macTakes p f.dst.toNat = true →
    let count := s.bump (portReg p (fun n => Reg.segRxfrm n) (fun u => Reg.uplRxfrm u))
    let bad := count.bump (portReg p (fun n => Reg.segBadfrm n) (fun u => Reg.uplBadfrm u))
    (f.ringFull = true → (∀ h, s.classify p f ≠ .hpp h) →
      Completes (.frameReceive p f) s (fun u =>
        u = count.bump (portReg p (fun n => Reg.segDropbuf n) (fun u => Reg.uplDropbuf u)))) ∧
    (f.ringFull = false →
      (s.classify p f = .ptp → Completes (.frameReceive p f) s (fun u => u = count)) ∧
      (s.classify p f = .other →
        Completes (.frameReceive p f) s (fun u => u = if isSeg p then count.bump (Reg.segOther p) else count)) ∧
      (s.classify p f = .tagged → Completes (.frameReceive p f) s (fun u => u = bad)) ∧
      (s.classify p f = .bad →
        Completes (.frameReceive p f) s (fun u =>
          u = if isSeg p && s.pwr.state != .run then count.bump (Reg.segSlpdrop p) else bad)))) ∧
  (∀ (n : Fin 16) (p : Fin 18) (v : Fin 2) (f : Frame) (h : Hpp) (c : Instr × Nat × Nat),
    c ∈ [(.announce n f, n.val, 2), (.reply n f, n.val, 5), (.publish p f, p.val, 6), (.ack p f, p.val, 8),
         (.nack p f, p.val, 9), (.write v f, 16 + v.val, 7)] →
    s.receives c.2.1 = true → s.macTakes c.2.1 f.dst.toNat = true → s.classify c.2.1 f = .hpp h → h.ty = c.2.2 →
    let q := c.2.1
    let count := s.bump (portReg q (fun n => Reg.segRxfrm n) (fun u => Reg.uplRxfrm u))
    (f.ringFull = true →
      Completes c.1 s (fun u => u = count.bump (portReg q (fun n => Reg.segDropbuf n) (fun u => Reg.uplDropbuf u)))) ∧
    (f.ringFull = false → isSeg q = true → s.pwr.state ≠ .run →
      Completes c.1 s (fun u => u = count.bump (Reg.segSlpdrop q))) ∧
    (f.ringFull = false → isSeg q = false ∨ s.pwr.state = .run →
      Completes c.1 s (fun u =>
        u = count.setPort q { s.port q with
          arrived := (s.port q).arrived ++ [(h, extend f.stamp.toNat s.time.w0 - s.rf (Reg.ptppRxlat q) 0 16)] }))) ∧
  (∀ (q : Fin 18) (k : Fin 64) (h : Hpp) (stamp : Int), (s.port q).arrived = [(h, stamp)] → rxAllowed q h.ty = true →
    h.seq < 65536 → s.accepts q k h = true → s.unarmed = true →
    let u := s.takeFrames q
    let size := if h.perstamp then 10 else 6
    let num := (h.body.length - 6) / size
    (u.node q k).state = 2 ∧ (u.node q k).miss = 0 ∧ (u.node q k).authf = 0 ∧ (u.node q k).lastseq = h.seq ∧
    (u.node q k).rxctr = (if h.auth then h.ctr % 2 ^ 32 else (s.node q k).rxctr) ∧
    natField (u.node q k).w3 0 32 = natOf stamp 32 ∧ (∀ j < 64, j ≠ k.val → u.node q j = s.node q j) ∧
    (h.ty = 5 ∨ h.ty = 6 → ∀ i < num,
      let ch := bytesAt h.body (6 + size * i) 1
      let d := (u.peekWord (portStore q) (2 * (((s.node q k).cbase + ch) % 1024))).toNat
      ch < (s.node q k).nch → (∀ j < num, i < j → bytesAt h.body (6 + size * j) 1 ≠ ch) →
      natField d 32 32 = bytesAt h.body (6 + size * i + 2) 4 ∧
      natField d 24 8 = if h.nfault then 5 else bytesAt h.body (6 + size * i + 1) 1) ∧
    (h.ty = 5 →
      (∀ b ∈ (s.port q).burst, ∀ o ∈ b.opened, bytesAt h.body 4 2 = b.number → (o : Int) ≤ stamp → stamp < b.close →
        (u.port q).burst = some { b with credited := k.val :: b.credited }) ∧
      ((s.port q).burst = none → u.rd (Reg.segLaterep q) = s.rd (Reg.segLaterep q) + 1)) ∧
    (h.ty = 6 → numAt (u.port q).pubFrom k = s.time.fab) ∧
    (h.ty ≠ 5 → h.ty ≠ 6 → (∃ i < 16, ∀ m ∈ (s.port q).mail, m.slot ≠ i) → h.body.length ≤ 128 →
      ∃ i < 16, (∀ m ∈ (s.port q).mail, m.slot ≠ i) ∧
        (u.port q).mail = (s.port q).mail ++ [{ plca := if q.val < 16 then h.plca else k, ty := h.ty, len := h.body.length,
                                                slot := i, auth := h.auth, stranger := false }] ∧
        wordBytes h.body.length ((List.range (wordsFor h.body.length)).map
          (fun j => some (wordData (u.rawWord (portStore q) (mailWord q i + j))))) = h.body ∧
        u.rb (Reg.hdrIraw (portPage q)) (if q.val < 16 then 6 else 2) = true) ∧
    (u.port q).arrived = [] ∧ OffUnit State.port q s u ∧ OffPages [portPage q] s u ∧ OffStores [portStore q] s u ∧
    u = { s with regs := u.regs, w1set := u.w1set, words := u.words, ports := u.ports, evq := u.evq }) ∧
  (∀ (n : Fin 16) (h : Hpp) (stamp : Int), (s.port n).arrived = [(h, stamp)] → h.ty = 2 → h.plca < 64 →
    s.findNode n h.src = none → (s.node n h.plca).state = 0 → s.rb (Reg.segSctl n) 1 = true → s.unarmed = true →
    let u := s.takeFrames n
    let k := s.rf (Reg.segSlogwp n) 0 4
    u.rd (Reg.segStrcnt n) = s.rd (Reg.segStrcnt n) + 1 ∧
    u.rd64 (Reg.segSlidl n k) (Reg.segSlidh n k) = h.src % 2 ^ 64 ∧
    u.rf (Reg.segSlinfo n k) 0 14 = h.plca + 2 * 256 ∧ u.rd (Reg.segSlstamp n k) = w32 (natOf stamp 32) ∧
    u.rf (Reg.segSlogwp n) 0 4 = (k + 1) % 16 ∧
    ((∃ i < 16, ∀ m ∈ (s.port n).mail, m.slot ≠ i) → h.body.length ≤ 128 →
      ∃ i < 16, (∀ m ∈ (s.port n).mail, m.slot ≠ i) ∧
        (u.port n).mail = (s.port n).mail ++
          [{ plca := h.plca, ty := 2, len := h.body.length, slot := i, auth := false, stranger := true }]) ∧
    OffUnit State.port n s u ∧ OffPages [Page.seg n] s u ∧ OffStores [Store.segment n] s u ∧
    u = { s with regs := u.regs, w1set := u.w1set, words := u.words, ports := u.ports, evq := u.evq })

/-- The node table, keys and cache: NCMD and SCMD WRITE set a record from ND or SD with MISSMAX 0 as 1 and words 2 and 3 cleared, or are
refused whole (R248, R294); READ returns the four words; KCMD loads and erases the key of KIDX (R246); a read of CD0 returns the entry
that the requester's CIDX names, as the frames of the FAB cycle leave it (`t`: the state then), and latches the rest (R253). The choices
of the model in it: assumption 11. -/
def Obligations.NodeTable : Prop := ∀ (s : State) (req : Req),
  (∀ (n : Fin 16) (u : Fin 2) (c : Instr × Instr × Nat × Nat),
    c ∈ [(.ncmdRead req n, .ncmdWrite req n, n.val, Page.node n), (.scmdRead req u, .scmdWrite req u, 16 + u.val, Page.upl u)] →
    s.reaches req c.2.2.2 = true →
    let p := c.2.2.1
    let k := s.nodeIndex p
    let nd := fun i => portReg p (fun n => Reg.nodeNd n i) (fun u => Reg.uplSd u i)
    (s.clean (portStore p) (recIndex p k) 4 = true →
      Completes c.1 s (fun u =>
        u.rd64 (nd 0) (nd 1) = (s.node p k).w0 ∧ u.rd64 (nd 2) (nd 3) = (s.node p k).w1 ∧
        u.rd64 (nd 4) (nd 5) = (s.node p k).w2 ∧ u.rd64 (nd 6) (nd 7) = (s.node p k).w3 ∧
        OffRegs [nd 0, nd 1, nd 2, nd 3, nd 4, nd 5, nd 6, nd 7] s u ∧ u = { s with regs := u.regs, w1set := u.w1set })) ∧
    (s.badNode p k (s.ndWords p).1 (s.ndWords p).2 = false →
      Completes c.2.1 s (fun u =>
        (s.unarmed = true →
          u.node p k = { w0 := (s.ndWords p).1, w1 := (s.ndWords p).2, w2 := 0, w3 := 0 } ∧
          OffUnit (fun s j => s.node p j) k s u ∧ u.regs = s.regs) ∧
        OffPages [Page.ecc] s u ∧ OffStores [portStore p] s u ∧ OffUnit State.port p s u ∧
        u = { s with regs := u.regs, w1set := u.w1set, words := u.words, ports := u.ports })) ∧
    (s.badNode p k (s.ndWords p).1 (s.ndWords p).2 = true →
      Completes c.2.1 s (fun u =>
        u = if p < 16 then (s.setb (Reg.nodeNsta p) 1 true).raise (Page.node p) 0
            else (s.setb (Reg.uplSsta (p - 16)) 1 true).raise (Page.upl (p - 16)) 11))) ∧
  (∀ p : Fin 18, s.reaches req (if p.val < 16 then Page.node p else Page.upl (p - 16)) = true →
    (s.keyIndex p ≤ 64 →
      Completes (.kcmdLoad req p) s (fun u =>
        u.key? p (s.keyIndex p) = some (s.keyWords p) ∧ OffUnit (fun s j => s.key? p j) (s.keyIndex p) s u ∧
        OffUnit State.port p s u ∧ u = { s with ports := u.ports }) ∧
      Completes (.kcmdErase req p) s (fun u =>
        u.key? p (s.keyIndex p) = none ∧ OffUnit (fun s j => s.key? p j) (s.keyIndex p) s u ∧
        OffUnit State.port p s u ∧ u = { s with ports := u.ports })) ∧
    (let t := s.takeFrames p
     let cd := fun i => portReg p (fun n => Reg.nodeCd n i) (fun u => Reg.uplCd u i)
     let i := 2 * field (s.shadow req.index (portReg p (fun n => Reg.nodeCidx n) (fun u => Reg.uplCidx u))) 0 10
     t.clean (portStore p) i 2 = true →
      Completes (.cd0Read req p) s (fun u =>
        u.rdata = [lo32 (t.peekWord (portStore p) i).toNat] ∧
        u.shadow req.index (cd 1) = hi32 (t.peekWord (portStore p) i).toNat ∧
        u.shadow req.index (cd 2) = lo32 (t.peekWord (portStore p) (i + 1)).toNat ∧
        u.shadow req.index (cd 3) = hi32 (t.peekWord (portStore p) (i + 1)).toNat ∧
        u = { t with rdata := u.rdata, shadows := u.shadows })))

/-- Mailboxes: a TXCMD write of each type builds the frame with the port's next SEQ and the hub's headers, an authenticated one with the
record's TXCTR plus one and its key, an authenticated multicast one with the group key, stores it in the mailbox's slot, queues it and
sets BUSY (R240, R244, R245, R265, R296); an uplink without link discards it (R298); a TXCMD that R265 forbids is refused with REJ. TXDONE
sends the frame that is on the line behind the follow-ups and clears BUSY, or tells the drop at its sixteenth collision (R234, R265);
MBXPOP moves on to the next frame, which the registers show, and on none sets UNDR (R266). The choices of the model in it: assumptions
31, 41. -/
def Obligations.Mailboxes : Prop := ∀ (s : State),
  (∀ (req : Req) (v : Word) (n : Fin 16) (p : Fin 18) (u : Fin 2) (c : Instr × Nat × Nat),
    c ∈ [(.discover req n v, n.val, 1), (.bind req n v, n.val, 3), (.txcmdWrite req p v, p.val, 7), (.txcmdAck req p v, p.val, 8),
         (.txcmdNack req p v, p.val, 9), (.txcmdPublish req u v, 16 + u.val, 6)] →
    s.reaches req (portPage c.2.1) = true → field v 0 4 = c.2.2 →
    let q := c.2.1
    let t := txCmdOf q v
    let sta := portReg q (fun n => Reg.segTxsta n) (fun u => Reg.uplTxsta u)
    let key := s.key? q (if t.mcast then 64 else t.dst)
    let auth := if t.mcast then s.rb (Reg.segAuthcfg q) 4 else t.auth
    let forbidden := s.rb sta 0 = true ∨ (if q < 16 then 128 else 512) < t.len ∨ s.listens q = true ∨
      (auth = true ∧ key = none)
    let dst := if 16 ≤ q then s.rn (Reg.uplDmacl (q - 16)) + s.rf (Reg.uplDmach (q - 16)) 0 16 * 2 ^ 32
               else if t.mcast then s.mcastAddr q else (s.free 48).1.toNat
    let built := fun (ctr : Nat) (k : Option (BitVec 128)) =>
      s.hppBytes q dst c.2.2 (s.port q).hppSeq ctr k (s.mailBody q t.len)
    let sent := fun (bs : List Byte) (u : State) =>
      u.rb sta 0 = true ∧ (u.port q).hppSeq = ((s.port q).hppSeq + 1) % 65536 ∧
      (u.port q).txq = (s.port q).txq ++ [{ slot := 15, item := .mail bs.length }] ∧
      (s.unarmed = true → wordBytes bs.length ((List.range (wordsFor bs.length)).map
        (fun i => some (wordData (u.rawWord (portStore q) (txWord q 15 + i))))) = bs) ∧
      OffUnit State.port q s u ∧ OffPages [portPage q, Page.ecc] s u ∧ OffStores [portStore q] s u ∧
      u = { s with regs := u.regs, w1set := u.w1set, words := u.words, ports := u.ports, freeCtr := u.freeCtr }
    (¬ forbidden → (q < 16 ∨ (s.port q).link = true) →
      (auth = false → Completes c.1 s (fun u => sent (built 0 none) u)) ∧
      (auth = true → t.mcast = false → s.clean (portStore q) (recIndex q t.dst) 4 = true →
        let ctr := ((s.node q t.dst).txctr + 1) % 2 ^ 32
        Completes c.1 s (fun u => sent (built ctr key) u ∧ (s.unarmed = true → (u.node q t.dst).txctr = ctr))) ∧
      (auth = true → t.mcast = true → Completes c.1 s (fun u => sent (built (s.free 32).1.toNat key) u))) ∧
    (¬ forbidden → 16 ≤ q → (s.port q).link = false → auth = false →
      Completes c.1 s (fun u =>
        u.rd (Reg.uplDropbuf (q - 16)) = s.rd (Reg.uplDropbuf (q - 16)) + 1 ∧ u.rb sta 0 = false ∧ u.rb sta 2 = true ∧
        (u.port q).txq = (s.port q).txq ∧ OffUnit State.port q s u ∧ OffPages [portPage q] s u ∧
        u = { s with regs := u.regs, w1set := u.w1set, ports := u.ports })) ∧
    (forbidden → Completes c.1 s (fun u => u = (s.setb sta 1 true).raise (portPage q) (if q < 16 then 9 else 5)))) ∧
  (∀ (p : Fin 18) (e : TxEntry), s.lineFrame p isMail = some e →
    let sta := portReg p (fun n => Reg.segTxsta n) (fun u => Reg.uplTxsta u)
    Completes (.txdone p false) s (fun u =>
      u.rb sta 0 = false ∧ u.rb sta 2 = false ∧
      u.rb (Reg.hdrIraw (portPage p)) (if p.val < 16 then 8 else 4) = true ∧
      (u.port p).txq = ((s.port p).txq.filter (fun x => !isPtpFollow x.item)).erase e ∧ OffUnit State.port p s u ∧
      (s.clean (portStore p) (txWord p e.slot) (wordsFor (txLen e.item)) = true →
        (u.port p).lastTx.getLast? = some (TxFrame.bytes (wordBytes (txLen e.item) ((List.range (wordsFor (txLen e.item))).map
          (fun i => some (wordData (s.rawWord (portStore p) (txWord p e.slot + i)))))) false)) ∧
      OffPages [portPage p, Page.ptpp, Page.ecc] s u ∧
      ((∀ x ∈ (s.port p).txq, x.slot < 16 ∧ txLen x.item ≤ 1024) → OffStores [portStore p] s u) ∧
      u = { s with regs := u.regs, w1set := u.w1set, ports := u.ports, words := u.words, errs := u.errs }) ∧
    (isSeg p = true → e.tries = 15 →
      Completes (.txdone p true) s (fun u =>
        u.rb sta 0 = false ∧ u.rb sta 2 = true ∧ (u.port p).txq = (s.port p).txq.erase e ∧
        u.rd (Reg.segColdrop p) = s.rd (Reg.segColdrop p) + 1 ∧
        OffUnit State.port p s u ∧ OffPages [Page.seg p] s u ∧
        u = { s with regs := u.regs, w1set := u.w1set, ports := u.ports }))) ∧
  (∀ (req : Req) (p : Fin 18), s.reaches req (portPage p) = true →
    (∀ (m : MailRx) (rest : List MailRx), (s.port p).mail = m :: rest →
      (∀ m' ∈ rest.head?, s.clean (portStore p) (mailWord p m'.slot) (wordsFor m'.len) = true) →
      Completes (.mbxpop req p) s (fun u =>
        (u.port p).mail = rest ∧
        (∀ m' ∈ rest.head?,
          let body := wordBytes m'.len ((List.range (wordsFor m'.len)).map
            (fun i => some (wordData (s.rawWord (portStore p) (mailWord p m'.slot + i)))))
          u.rd (portReg p (fun n => Reg.segMbxhdr n) (fun u => Reg.uplMbxhdr u)) =
            w32 (m'.plca + m'.ty * 256 + m'.len % 256 * 2 ^ 12 + b2n m'.auth * 2 ^ 20 + b2n m'.stranger * 2 ^ 21) ∧
          ∀ i : Fin 32, u.rd (portReg p (fun n => Reg.segMbxrx n i) (fun u => Reg.uplMbxrx u i)) =
            w32 (ofBytes ((body.drop (4 * i)).take 4))) ∧
        OffUnit State.port p s u ∧ OffPages [portPage p] s u ∧ u = { s with regs := u.regs, ports := u.ports })) ∧
    ((s.port p).mail = [] →
      Completes (.mbxpop req p) s (fun u =>
        u = (s.setb (portReg p (fun n => Reg.segMbxsta n) (fun u => Reg.uplMbxsta u)) 6 true).raise (portPage p)
              (if p.val < 16 then 7 else 3))))

/-! ### Uplinks (08 R291-R299) -/

/-- The uplinks: link up (R291), link down with everything queued discarded and counted (R298), a speed error (R291), PAUSE and its end
(R292), a batch fragment with its header and data, which takes the train on or drains the bank (R293, R297), and a frame with a bad FCS
(R292). The choices of the model in it: assumption 31. -/
def Obligations.UplinkLine : Prop := ∀ (s : State) (u : Fin 2),
  ((s.port (16 + u)).link = false → s.pageOff (Page.upl u) = false → s.rb Reg.monVsta 12 = false →
    Completes (.linkup u) s (fun t =>
      (t.port (16 + u)) = { s.port (16 + u) with link := true } ∧ t.rb (Reg.uplUsta u) 1 = false ∧
      t.rb (Reg.hdrIraw (Page.upl u)) 0 = true ∧ OffUnit State.port (16 + u) s t ∧ OffPages [Page.upl u] s t ∧
      t = { s with regs := t.regs, w1set := t.w1set, ports := t.ports, evq := t.evq })) ∧
  ((s.port (16 + u)).link = true →
    Completes (.linkdn u) s (fun t =>
      (t.port (16 + u)).link = false ∧ (t.port (16 + u)).txq = [] ∧ (t.port (16 + u)).pausedTo = none ∧
      t.rd (Reg.uplLinkcnt u) = s.rd (Reg.uplLinkcnt u) + 1 ∧
      t.rd (Reg.uplDropbuf u) = s.rd (Reg.uplDropbuf u) + BitVec.ofNat 32 (s.port (16 + u)).txq.length ∧
      t.rb (Reg.hdrIraw (Page.upl u)) 1 = true ∧ OffUnit State.port (16 + u) s t ∧ OffPages [Page.upl u] s t ∧
      t = { s with regs := t.regs, w1set := t.w1set, ports := t.ports, ptp := t.ptp, evq := t.evq })) ∧
  (s.pageOff (Page.upl u) = false →
    Completes (.spderr u) s (fun t =>
      (t.port (16 + u)).link = false ∧ t.rb (Reg.uplUsta u) 1 = true ∧
      OffUnit State.port (16 + u) s t ∧ OffPages [Page.upl u] s t ∧
      t = { s with regs := t.regs, w1set := t.w1set, ports := t.ports, ptp := t.ptp, evq := t.evq })) ∧
  (∀ q : BitVec 16, s.portOn (16 + u) = true → (s.port (16 + u)).link = true → s.rb (Reg.uplUctl u) 1 = true →
    Completes (.pauseReceive u q) s (fun t =>
      t = s.setPort (16 + u) { s.port (16 + u) with
        pausedTo := if q = 0 then none else some (s.time.fab + q.toNat * 1024 / 5) })) ∧
  (∀ e : Nat, (s.port (16 + u)).pausedTo = some e → e ≤ s.time.fab →
    Completes (.pauseEnd u) s (fun t => t = s.setPort (16 + u) { s.port (16 + u) with pausedTo := none })) ∧
  (∀ n b k : Nat, n < 4 → s.maySend (16 + u) = true → s.rb (Reg.uplUctl u) 2 = true → s.lineHead (16 + u) = none →
    ((s.port (16 + u)).train = none ∧ s.batchStream u = some (n, b) ∧ k = 0) ∨
      ((s.port (16 + u)).train = some (n, k) ∧ s.bankIn n .draining = some b) →
    Completes (.batchFragmentSent u) s (fun t =>
      let p := 16 + u.val
      let bank := (s.stream n).bank b
      let follows := (s.port p).txq.filter (fun x => isPtpFollow x.item)
      let size := min 1488 (bank.len - 1488 * k)
      let data := wordBytes size ((List.range (wordsFor size)).map
        (fun i => some (wordData (s.rawWord Store.stream (bankWord n b + 186 * k + i)))))
      let dst := s.rn (Reg.uplBdmacl u) + s.rf (Reg.uplBdmach u) 0 16 * 2 ^ 32
      (s.clean Store.stream (bankWord n b) (wordsFor bank.len) = true → 1488 * k ≤ bank.len →
        (t.port p).lastTx.getLast? = some (TxFrame.bytes (s.etherHead p dst (s.rf (Reg.uplBetype u) 0 16) ++ bytesOf 2 k ++
          bytesOf 2 ((bank.len + 1487) / 1488) ++ bytesOf 8 bank.header ++ data) false)) ∧
      t.rd (Reg.uplBatfrm u) = s.rd (Reg.uplBatfrm u) + 1 ∧
      t.rd (Reg.uplTxfrm u) = s.rd (Reg.uplTxfrm u) + BitVec.ofNat 32 (follows.length + 1) ∧
      (1488 * (k + 1) < bank.len →
        (t.port p).train = some (n, k + 1) ∧ (t.stream n).bank b = { bank with state := .draining }) ∧
      (bank.len ≤ 1488 * (k + 1) →
        (t.port p).train = none ∧ (t.stream n).bank b = {} ∧ (t.stream n).fill.isSome = true ∧
        t.rb (Reg.hdrIraw (Page.upl u)) 10 = true ∧ t.rb (Reg.hdrIraw Page.strm) (4 + n) = true) ∧
      OffUnit State.port p s t ∧ OffUnit State.stream n s t ∧
      OffPages [Page.upl u, Page.ptpp, Page.strm, Page.ecc] s t ∧
      ((∀ x ∈ (s.port p).txq, x.slot < 16 ∧ txLen x.item ≤ 1024) → bank.len ≤ 65536 → k ≤ 65536 →
        OffStores [Store.uplink u, Store.stream] s t) ∧
      t = { s with regs := t.regs, w1set := t.w1set, ports := t.ports, streams := t.streams, words := t.words, errs := t.errs,
                   evq := t.evq })) ∧
  (s.portOn (16 + u) = true → (s.port (16 + u)).link = true →
    Completes (.badFcsFrame (Fin.natAdd 16 u)) s (fun t => t = s.bump (Reg.uplCrcerr u))) ∧
  (∀ n : Fin 16, Completes (.badFcsFrame (Fin.castAdd 2 n)) s (fun t => t = s))

/-! ### Network time (08 R268-R290, R336) -/

/-- PTP messages received: a one-step Sync, or the Follow_Up of a two-step one, on the SLAVE port is accepted: the offset of R282, OFFSET,
SYNCRX, VALID without HOLD, and the servo's step of W0, which SCALED wheels follow (R105), or its FINT and ADJ, BACKERR and LOCK
(R283-R286); a MASTER queues a Delay_Resp (R272), a port a Pdelay_Resp (R279); a Delay_Resp and a Pdelay_Resp give a path delay (R282); a
general message goes to the mailbox (R274). Event messages leave their stamp in LRXS (R275). A message of another domain counts in
DOMDROP (R270). The choices of the model in it: assumption 12. -/
def Obligations.PtpReceive : Prop := ∀ (s : State) (p : Fin 18) (m : PtpMsg),
  let count := if s.receives p then s.bump (portReg p (fun n => Reg.segRxfrm n) (fun u => Reg.uplRxfrm u)) else s
  (s.ptpComes p m = true → m.domain.toNat ≠ s.rf Reg.ptpCtl 8 7 →
    ∀ c ∈ [Instr.sync p m, .followUp p m, .delayReq p m, .delayResp p m, .pdelayReq p m, .pdelayResp p m false,
           .pdelayResp p m true, .ptpGeneralReceive p m],
      Completes c s (fun u => u = count.bump Reg.ptppDomdrop)) ∧
  (s.hears p m = true →
   let t2 : Int := (m.stamp.toNat : Int) - s.rf (Reg.ptppRxlat p) 0 16
   let accepted := fun (o : Int) (u : State) =>
     let stepped := decide (o < -((s.rd Reg.ptpStepthr).toNat : Int)) && s.rb Reg.ptpCtl 1
     let fint := clampInt (-ppmUnits 1000) (ppmUnits 1000)
       (sfield (s.rd Reg.ptpFint) 0 32 - floorDiv (s.servoRate o) (2 ^ s.rf Reg.ptpServo 8 5))
     let thr := (s.rd Reg.ptpLockthr).toNat
     u.rd Reg.ptpOffset = sat32s o ∧ u.rd Reg.ptpSyncrx = s.rd Reg.ptpSyncrx + 1 ∧ u.rb Reg.ptpSta 0 = true ∧
     u.rb Reg.ptpSta 2 = false ∧ u.ptp.lastSync = some s.time.fab ∧
     u.time.w0 = (if stepped then min (s.time.w0 + o.natAbs) posMax else s.time.w0) ∧
     (stepped = true → u.rd Reg.ptpStepcnt = s.rd Reg.ptpStepcnt + 1 ∧ u.rb Reg.ptpSta 1 = false ∧
       u.rd Reg.ptpAdj = s.rd Reg.ptpAdj ∧ u.rb (Reg.hdrIraw Page.ptp) 3 = true ∧
       ∀ n : Fin 4, n ≠ 0 → s.wheelSrc n = 3 → (u.wheel n).pos = min (u.scaledPos n) posMax) ∧
     (stepped = false → u.rd Reg.ptpFint = w32 (natOf fint 32) ∧
       u.rd Reg.ptpAdj = w32 (natOf (clampInt (-ppmUnits (s.rf Reg.ptpSlewmax 0 11)) (ppmUnits 1000)
         (fint - floorDiv (s.servoRate o) (2 ^ s.rf Reg.ptpServo 0 5))) 32) ∧
       (((s.rd Reg.ptpBackmax).toNat : Int) < o → u.rb Reg.ptpSta 3 = true ∧ u.rb (Reg.hdrIraw Page.ptp) 4 = true) ∧
       (4 * thr ≤ o.natAbs → u.rb Reg.ptpSta 1 = false) ∧
       (o.natAbs < thr → 7 ≤ s.ptp.lockRun → u.rb Reg.ptpSta 1 = true) ∧ u.wheels = s.wheels) ∧
     (u.port p).wantFu = none ∧ OffUnit State.port p s u ∧
     OffPages [Page.ptp, Page.ptpp, portPage p, Page.whl 0, Page.whl 1, Page.whl 2, Page.whl 3] s u ∧
     u = { s with regs := u.regs, w1set := u.w1set, ports := u.ports, ptp := u.ptp, wheels := u.wheels,
                  time := { s.time with w0 := u.time.w0 }, evq := u.evq }
   let quiet := fun (u : State) =>
     OffUnit State.port p s u ∧ OffPages [Page.ptpp, portPage p, Page.ecc] s u ∧ OffStores [portStore p] s u ∧
     u = { s with regs := u.regs, w1set := u.w1set, ports := u.ports, words := u.words }
   (s.ptpState p = 3 →
     (m.twoStep = false →
       Completes (.sync p m) s (fun u =>
         accepted (t2 - m.time.toNat - (s.port p).mpd - roundDiv m.correction.toInt 65536
           - sfield (s.rd (Reg.ptppAsym p)) 0 32) u ∧
         u.rd (Reg.ptppLrxs p) = w32 (natOf t2 32) ∧ (u.port p).lastT = some ((m.time.toNat : Int), t2))) ∧
     (m.twoStep = true →
       Completes (.sync p m) s (fun u =>
         (u.port p).wantFu = some (m.seqId.toNat, t2, m.correction.toInt) ∧ u.rd (Reg.ptppLrxs p) = w32 (natOf t2 32) ∧
         quiet u)) ∧
     (∀ (t c : Int), (s.port p).wantFu = some (m.seqId.toNat, t, c) →
       Completes (.followUp p m) s
         (accepted (t - m.time.toNat - (s.port p).mpd - roundDiv (c + m.correction.toInt) 65536
           - sfield (s.rd (Reg.ptppAsym p)) 0 32))) ∧
     (∀ (t1 t2' t3 : Int), (s.port p).dreqSent = some (m.seqId.toNat, t3) → (s.port p).lastT = some (t1, t2') →
       s.ptpP2p p = false → m.requester.toNat = s.portIdentity p →
       let d := floorDiv ((t2' - t1) + ((m.time.toNat : Int) - t3)) 2
       Completes (.delayResp p m) s (fun u =>
         (u.port p).mpd = (if (s.port p).mpdValid then (s.port p).mpd + floorDiv (d - (s.port p).mpd) 8 else d) ∧
         (u.port p).mpdValid = true ∧ (u.port p).dreqSent = none ∧ u.rd (Reg.ptppPmpd p) = sat32s (u.port p).mpd ∧
         u.rb (Reg.ptppPsta p) 1 = true ∧ quiet u))) ∧
   (s.ptpState p = 2 → s.ptpRoom p = true →
     Completes (.delayReq p m) s (fun u =>
       Joins (s.port p).txq (.delayResp m.seqId.toNat (natOf t2 64) m.requester.toNat m.correction.toInt) (u.port p).txq ∧
       u.rd (Reg.ptppLrxs p) = w32 (natOf t2 32) ∧ quiet u)) ∧
   (s.ptpMute p = false → s.ptpRoom p = true →
     Completes (.pdelayReq p m) s (fun u =>
       Joins (s.port p).txq (.pdelayResp m.seqId.toNat (natOf t2 64) m.requester.toNat m.correction.toInt) (u.port p).txq ∧
       u.rd (Reg.ptppLrxs p) = w32 (natOf t2 32) ∧ quiet u)) ∧
   (∀ t1 : Int, isSeg p = false → s.ptpP2p p = true → (s.port p).pdreqSent = some (m.seqId.toNat, t1) →
     m.requester.toNat = s.portIdentity p →
     (m.twoStep = false →
       let d := floorDiv ((t2 - t1) - roundDiv m.correction.toInt 65536) 2
       Completes (.pdelayResp p m false) s (fun u =>
         (u.port p).mpd = (if (s.port p).mpdValid then (s.port p).mpd + floorDiv (d - (s.port p).mpd) 8 else d) ∧
         (u.port p).pdreqSent = none ∧ u.rd (Reg.ptppLrxs p) = w32 (natOf t2 32) ∧ quiet u)) ∧
     (m.twoStep = true →
       Completes (.pdelayResp p m false) s (fun u =>
         (u.port p).pdresp = some ((m.time.toNat : Int), t2, m.correction.toInt) ∧ quiet u)) ∧
     (∀ (t t4 c : Int), (s.port p).pdresp = some (t, t4, c) →
       let d := floorDiv ((t4 - t1) - ((m.time.toNat : Int) - t) - roundDiv (c + m.correction.toInt) 65536) 2
       Completes (.pdelayResp p m true) s (fun u =>
         (u.port p).mpd = (if (s.port p).mpdValid then (s.port p).mpd + floorDiv (d - (s.port p).mpd) 8 else d) ∧
         (u.port p).pdresp = none ∧ quiet u))) ∧
   (s.ptp.mail.length < 8 → m.bytes.length ≤ 256 →
     Completes (.ptpGeneralReceive p m) s (fun u =>
       u.ptp = { s.ptp with mail := s.ptp.mail ++ [(p.val, natOf t2 16, m.bytes)] } ∧
       u.rb (Reg.hdrIraw Page.ptp) 6 = true ∧
       (s.ptp.mail = [] → u.rf Reg.ptpPmbxhdr 0 5 = p ∧ u.rf Reg.ptpPmbxhdr 16 16 = natOf t2 16) ∧
       OffPages [Page.ptp, portPage p] s u ∧ u = { s with regs := u.regs, w1set := u.w1set, ptp := u.ptp })))

/-- PTP messages sent: a MASTER's Sync and a SLAVE's Delay_Req when due, a peer delay request (R272, R273); an event message that has gone
out carries the fields of R270, R278 and R279, leaves its egress time and sequenceId, is remembered, and a two-step one queues its
follow-up (R275, R281); a PTXCMD queues the mailbox message, and its going out ends BUSY (R274). The choices of the model in it:
assumption 12. -/
def Obligations.PtpSend : Prop := ∀ (s : State) (p : Fin 18),
  let queued := fun (i : TxItem) (u : State) =>
    Joins (s.port p).txq i (u.port p).txq ∧ OffUnit State.port p s u ∧ OffPages [Page.ecc] s u ∧
    OffStores [portStore p] s u ∧ u = { s with regs := u.regs, w1set := u.w1set, ports := u.ports, words := u.words, ptp := u.ptp }
  (s.ptpRoom p = true →
    (s.ptpState p = 2 → s.sendDue (s.port p).lastSync (s.logSync p) = true →
      Completes (.syncSend p) s (fun u =>
        queued (.sync (s.port p).seqSync) u ∧ (u.port p).seqSync = ((s.port p).seqSync + 1) % 65536 ∧
        (u.port p).lastSync = some s.time.fab ∧ u.ptp = s.ptp)) ∧
    (s.ptpState p = 3 → s.ptpP2p p = false → s.sendDue (s.port p).lastDreq (s.logDreq p) = true →
      Completes (.delayReqSend p) s (fun u =>
        queued (.delayReq (s.port p).seqDreq) u ∧ (u.port p).seqDreq = ((s.port p).seqDreq + 1) % 65536 ∧
        (u.port p).lastDreq = some s.time.fab ∧ u.ptp = s.ptp)) ∧
    (∀ v : Fin 2, p.val = 16 + v.val → s.ptpState p ≠ 0 → s.ptpP2p p = true →
      Completes (.pdelayReqSend v) s (fun u =>
        queued (.pdelayReq (s.port p).seqPdreq) u ∧ (u.port p).seqPdreq = ((s.port p).seqPdreq + 1) % 65536 ∧
        u.ptp = s.ptp))) ∧
  (∀ (stamp : BitVec 64) (e : TxEntry) (sq : Nat), s.lineFrame p isPtpEvent = some e →
    (e.item = .sync sq ∨ e.item = .delayReq sq ∨ e.item = .pdelayReq sq ∨ ∃ t r c, e.item = .pdelayResp sq t r c) →
    let t : Int := (stamp.toNat : Int) + s.rf (Reg.ptppTxlat p) 0 16
    let rest := ((s.port p).txq.filter (fun x => !isPtpFollow x.item)).erase e
    let two := s.twoStep p
    Completes (.eventMessageSent p stamp) s (fun u =>
      u.rd (Reg.ptppLtxs p) = w32 (natOf t 32) ∧ u.rf (Reg.ptppPsta p) 16 16 = sq % 65536 ∧
      (e.item = .delayReq sq → (u.port p).dreqSent = some (sq, t) ∧ (u.port p).txq = rest) ∧
      (e.item = .pdelayReq sq → (u.port p).pdreqSent = some (sq, t) ∧ (u.port p).txq = rest) ∧
      (e.item = .sync sq →
        (two = false → (u.port p).txq = rest) ∧
        (two = true → s.ptpRoom p = true → Joins rest (.followUp sq t) (u.port p).txq) ∧
        (s.clean (portStore p) (txWord p e.slot) 1 = true → (u.port p).lastTx.getLast? = some (TxFrame.ptp
          { kind := .sync, dst := ptpPrimary, domain := s.rf Reg.ptpCtl 8 7, seqId := sq, twoStep := two,
            source := s.portIdentity p, time := if two then 0 else t, corr := 0 } false))) ∧
      (∀ (t2 r : Nat) (c : Int), e.item = .pdelayResp sq t2 r c →
        (two = true → s.ptpRoom p = true → Joins rest (.pdelayFollowUp sq t r c) (u.port p).txq) ∧
        (s.clean (portStore p) (txWord p e.slot) 1 = true → (u.port p).lastTx.getLast? = some (TxFrame.ptp
          { kind := .pdelayResp, dst := ptpPeer, domain := s.rf Reg.ptpCtl 8 7, seqId := sq, twoStep := two,
            source := s.portIdentity p, time := if two then t2 else 0, corr := if two then 0 else c + (t - t2) * 65536,
            requester := r } false))) ∧
      OffUnit State.port p s u ∧ OffPages [portPage p, Page.ptpp, Page.ecc] s u ∧
      ((∀ x ∈ (s.port p).txq, x.slot < 16 ∧ txLen x.item ≤ 1024) → OffStores [portStore p] s u) ∧
      u = { s with regs := u.regs, w1set := u.w1set, ports := u.ports, words := u.words, errs := u.errs })) ∧
  (∀ (req : Req) (v : Word), s.reaches req Page.ptp = true →
    (field v 0 5 = p.val → s.ptpState p ≠ 0 → s.ptp.txBusy = false →
      Completes (.ptxcmd req v) s (fun u =>
        let bs := s.etherHead p ptpPrimary 0x88F7 ++
          ((List.range 64).flatMap (fun i => bytesOf 4 (s.rd (Reg.ptpPmbxtx i)).toNat)).take (field v 5 8 + 1)
        (u.port p).txq = (s.port p).txq ++ [{ slot := 13, item := .ptpMail bs.length }] ∧
        (s.unarmed = true → wordBytes bs.length ((List.range (wordsFor bs.length)).map
          (fun i => some (wordData (u.rawWord (portStore p) (txWord p 13 + i))))) = bs) ∧
        OffUnit State.port p s u ∧ OffPages [Page.ecc] s u ∧ OffStores [portStore p] s u ∧
        u = { s with regs := u.regs, w1set := u.w1set, ports := u.ports, words := u.words,
                     ptp := { s.ptp with txBusy := true } })) ∧
    (s.ptp.txBusy = true ∨ s.ptpState (field v 0 5) = 0 →
      Completes (.ptxcmd req v) s (fun u => u = (s.setb Reg.ptpPmbxsta 6 true).raise Page.ptp 7))) ∧
  (∀ e : TxEntry, s.lineFrame p isPtpMail = some e → (∀ q < p.val, s.lineFrame q isPtpMail = none) →
    Completes .ptpMailboxSent s (fun u =>
      u.ptp = { s.ptp with txBusy := false } ∧
      (u.port p).txq = ((s.port p).txq.filter (fun x => !isPtpFollow x.item)).erase e ∧
      (s.clean (portStore p) (txWord p e.slot) (wordsFor (txLen e.item)) = true →
        (u.port p).lastTx.getLast? = some (TxFrame.bytes (wordBytes (txLen e.item) ((List.range (wordsFor (txLen e.item))).map
          (fun i => some (wordData (s.rawWord (portStore p) (txWord p e.slot + i)))))) false)) ∧
      OffUnit State.port p s u ∧ OffPages [portPage p, Page.ptpp, Page.ecc] s u ∧
      ((∀ x ∈ (s.port p).txq, x.slot < 16 ∧ txLen x.item ≤ 1024) → OffStores [portStore p] s u) ∧
      u = { s with regs := u.regs, w1set := u.w1set, ports := u.ports, words := u.words, errs := u.errs, ptp := u.ptp }))

/-- The PTP block's own: holdover holds ADJ at FINT and clears LOCK (R286); the wrap of W0[31:0] latches the epoch (R289); a whole second
fires its event (R336); PMBXPOP moves on (R274); PCFG takes its value with reserved and out-of-span fields as R8 and R9 say, or is refused
where it would make a second SLAVE (R272); FINT is held to the range of ADJ and seeds it while nothing steers W0 (R288, R300); reads of
TIMEL, EPOCHW and CAPL return the low word and latch the rest (R268, R289, R453). The choices of the model in it: assumption 12. -/
def Obligations.PtpBlock : Prop := ∀ (s : State),
  (s.rb Reg.ptpCtl 0 = true → s.pageLive Page.ptp = true → s.holdDue = true → s.rb Reg.ptpSta 2 = false →
    Completes .hold s (fun u =>
      u.rb Reg.ptpSta 2 = true ∧ u.rb Reg.ptpSta 1 = false ∧ u.rd Reg.ptpAdj = s.rd Reg.ptpFint ∧
      u.rb (Reg.hdrIraw Page.ptp) 2 = true ∧ OffPages [Page.ptp] s u ∧
      u = { s with regs := u.regs, w1set := u.w1set, ptp := { s.ptp with lockRun := 0 }, evq := u.evq })) ∧
  (s.ptp.epochSeen < s.time.w0 / 2 ^ 32 →
    Completes .epochWrap s (fun u =>
      let w := s.time.w0 / 2 ^ 32 * 2 ^ 32
      u.rd Reg.ptpEpochw = w32 (s.time.w0 / 2 ^ 32) ∧ u.rd Reg.ptpEpochs = w32 (w / 1000000000) ∧
      u.rd Reg.ptpEpochsh = w32 (w / 1000000000 / 2 ^ 32 % 65536) ∧ u.rd Reg.ptpEpochns = w32 (w % 1000000000) ∧
      OffRegs [Reg.ptpEpochw, Reg.ptpEpochs, Reg.ptpEpochsh, Reg.ptpEpochns] s u ∧
      u = { s with regs := u.regs, w1set := u.w1set, ptp := { s.ptp with epochSeen := s.time.w0 / 2 ^ 32 } })) ∧
  (s.ptp.secSeen < s.time.w0 / 1000000000 →
    Completes .ptpSecond s (fun u =>
      u = State.event { s with ptp := { s.ptp with secSeen := s.time.w0 / 1000000000 } } Page.ptp 0)) ∧
  (∀ (req : Req) (v : Word),
    (s.reaches req Page.ptp = true →
      (∀ (m : Nat × Nat × List Byte) (rest : List (Nat × Nat × List Byte)), s.ptp.mail = m :: rest →
        Completes (.pmbxpop req) s (fun u =>
          u.ptp = { s.ptp with mail := rest } ∧ (∀ m' ∈ rest.head?, u.rf Reg.ptpPmbxhdr 0 5 = m'.1 % 32) ∧
          OffPages [Page.ptp] s u ∧ u = { s with regs := u.regs, w1set := u.w1set, ptp := u.ptp })) ∧
      (s.ptp.mail = [] → Completes (.pmbxpop req) s (fun u => u = (s.setb Reg.ptpPmbxsta 5 true).raise Page.ptp 7)) ∧
      Completes (.fintWrite req v) s (fun u =>
        u.rd Reg.ptpFint = w32 (natOf (clampInt (-ppmUnits 1000) (ppmUnits 1000) (sfield v 0 32)) 32) ∧
        u.rd Reg.ptpAdj = (if s.rb Reg.ptpSta 2 || !s.rb Reg.ptpSta 0 then u.rd Reg.ptpFint else s.rd Reg.ptpAdj) ∧
        OffRegs [Reg.ptpFint, Reg.ptpAdj] s u ∧ u = { s with regs := u.regs, w1set := u.w1set }) ∧
      Completes (.timelRead req) s (fun u =>
        u.rdata = [lo32 s.time.w0] ∧ u.shadow req.index Reg.ptpTimeh = hi32 s.time.w0 ∧
        u.shadow req.index Reg.ptpNsec = w32 (s.time.w0 % 1000000000) ∧
        u = { s with rdata := u.rdata, shadows := u.shadows }) ∧
      Completes (.epochwRead req) s (fun u =>
        u.rdata = [s.rd Reg.ptpEpochw] ∧ u.shadow req.index Reg.ptpEpochs = s.rd Reg.ptpEpochs ∧
        u.shadow req.index Reg.ptpEpochsh = s.rd Reg.ptpEpochsh ∧ u.shadow req.index Reg.ptpEpochns = s.rd Reg.ptpEpochns ∧
        u = { s with rdata := u.rdata, shadows := u.shadows }) ∧
      Completes (.caplRead req) s (fun u =>
        u.rdata = [s.rd Reg.ptpCapl] ∧ u.shadow req.index Reg.ptpCaph = s.rd Reg.ptpCaph ∧
        u = { s with rdata := u.rdata, shadows := u.shadows })) ∧
    (∀ p : Fin 18, s.reaches req Page.ptpp = true →
      (field v 0 3 ≠ 3 ∨ (∀ q ∈ s.slavePort?, q = p.val) →
        Completes (.pcfgPtpWrite req p v) s (fun u =>
          u.rf (Reg.ptppPcfg p) 0 3 = (if 5 ≤ field v 0 3 then s.rf (Reg.ptppPcfg p) 0 3 else field v 0 3) ∧
          u.logSync p = clampInt (-7) 4 (sfield v 4 8) ∧ u.logDreq p = clampInt (-7) 6 (sfield v 12 8) ∧
          u.ptpP2p p = bitOf v 3 ∧ u.twoStep p = bitOf v 20 ∧
          OffPages [Page.ptpp, Page.ptp] s u ∧ u = { s with regs := u.regs, w1set := u.w1set, ptp := u.ptp, evq := u.evq })) ∧
      (field v 0 3 = 3 → (∃ q ∈ s.slavePort?, q ≠ p.val) →
        Completes (.pcfgPtpWrite req p v) s (fun u => u = s.raise Page.ptp 5))))
/-! ### Tallies, snapshots, streams and alarms (09 R300-R330) -/

/-- The tally units: a lane's switch writes its entry at SNWR with header, boundary, BW0 and restart mask, copies the tally words of every
record unchanged, restarts them for a boundary and takes a ring slot (R306, R311, R312); in a migration W2 and W3 are copied again (R82);
the seal sets SEALED of every due entry, closes it and gives the cores their event (R310, R375); SNRD frees slots (R312); SNBASE and SNCNT
take a layout while no slot is held (R313), each refused otherwise. The choices of the model in it: assumption 32. -/
def Obligations.Tallies : Prop := ∀ (s : State) (t : Fin 128),
  (∀ p : Pend, s.nextCopy t = some p → s.snRoom t ≠ 0 → s.tileAwake t = true → s.pwr.state = .run →
    let st := Store.tile t 0
    let base := s.entryWord t (s.snWr t)
    let l := mapLane (s.mapEntry p.lane)
    let bad := fun (w : CWord) => checkWord w == .uncorrectable
    Completes (.laneCopy t) s (fun u =>
      u.snWr t = (s.snWr t + 1) % s.snCnt t % 32 ∧ (u.tile t).snHeld = (s.tile t).snHeld + 1 ∧
      u.tally.pend = s.tally.pend.erase p ∧
      u.tally.entries = s.tally.entries ++ [{ tile := t, slot := s.snWr t, lane := p.lane, group := p.group, snap := p.snap,
                                              b := p.b, bw0 := p.bw0 }] ∧
      (s.unarmed = true →
        (u.peekWord st (base + 1)).toNat = p.b % 2 ^ 64 ∧ (u.peekWord st (base + 2)).toNat = p.bw0.getD 0 % 2 ^ 64 ∧
        (u.peekWord st (base + 3)).toNat = numAt s.tally.restarts p.lane % 2 ^ 64 ∧
        (p.lane < 2 ^ 14 → p.group < 16 →
          let h := (u.peekWord st base).toNat
          natField h 0 14 = p.lane ∧ natField h 14 4 = (if p.snap then 0 else p.group) ∧ h.testBit 18 = p.snap ∧
          h.testBit 19 = false ∧ h.testBit 20 = (List.range 64).any (fun ss => s.recordEarly p t l ss) ∧
          h.testBit 21 = s.tally.latePrv.contains p.lane ∧ h.testBit 22 = p.gsnap ∧ natField h 24 16 = p.seq % 2 ^ 16 ∧
          h.testBit 23 = (List.range 128).any (fun i =>
            checkWord (s.rawWord st (recWord l (i / 2) + 2 + i % 2)) == .poison ||
              bad (s.rawWord st (recWord l (i / 2) + 2 + i % 2))) ∧
          natField h 48 16 = 0) ∧
        (∀ ss < 64, ∀ i < 2,
          let w := s.rawWord st (recWord l ss + 2 + i)
          u.rawWord st (base + 4 + 2 * ss + i) = if bad w then poisonWord else w) ∧
        (p.snap = false → ∀ ss < 64, u.peekWord st (recWord l ss + 2) = 0 ∧ u.peekWord st (recWord l ss + 3) = 0) ∧
        (∀ g : Mig, p.snap = false → s.mig? p.lane = some g → (g.phase = .copied ∨ g.phase = .acked) → g.srcTile = t.val →
          g.srcLane = l → g.move.tile < 128 → g.dstLane < 128 →
          u.mig? p.lane = some { g with phase := .copied } ∧
          ∀ ss < 64, u.peekWord (Store.tile g.move.tile 0) (recWord g.dstLane ss + 2) = 0 ∧
            u.peekWord (Store.tile g.move.tile 0) (recWord g.dstLane ss + 3) = 0)) ∧
      (s.mig? p.lane = none → OffPages [Page.talg, Page.tile t, Page.ecc] s u ∧ OffStores [st] s u ∧ u.hop = s.hop) ∧
      OffUnit State.tile t s u ∧ OffPages [Page.talg, Page.tile t, Page.ecc, Page.hop] s u ∧
      u = { s with regs := u.regs, w1set := u.w1set, words := u.words, errs := u.errs, jwait := u.jwait, tally := u.tally,
                   tiles := u.tiles, hop := u.hop })) ∧
  ((∀ e ∈ s.tally.entries, e.slot < 32) →
    let due := s.tally.entries.filter (fun e => e.tile == t.val && s.sealDue e)
    Completes (.entrySeal t) s (fun u =>
      u.tally.entries = s.tally.entries.filter (fun e => !(e.tile == t.val && s.sealDue e)) ∧
      (∀ e ∈ due, u.rb (Reg.hdrIraw (Page.tile t)) 8 = true ∧ (u.core (2 * t)).evin.testBit 3 = true ∧
        (u.core (2 * t + 1)).evin.testBit 3 = true ∧ (s.unarmed = true → u.entryField t e.slot 0 19 1 = 1)) ∧
      (∀ e ∈ due, (∀ x ∈ due, x.lane = e.lane → x.snap = e.snap → x = e) →
        Sparse.get (fun _ => noBound) (if e.snap then u.tally.pastSnap else u.tally.past) e.lane =
          { group := e.group, b := e.b, bw0 := e.bw0.getD 0 }) ∧
      (due = [] → u = s) ∧
      u.tally = { s.tally with entries := u.tally.entries, past := u.tally.past, pastSnap := u.tally.pastSnap } ∧
      (∀ k, { u.core k with evin := (s.core k).evin } = s.core k ∧ (k / 2 ≠ t → u.core k = s.core k)) ∧
      OffPages [Page.tile t, Page.ecc] s u ∧ OffStores [Store.tile t 0] s u ∧
      u = { s with regs := u.regs, w1set := u.w1set, words := u.words, tally := u.tally, cores := u.cores })) ∧
  (∀ (req : Req) (v : Word), s.reaches req (Page.tile t) = true →
    let n := s.snCnt t
    let k := (field v 0 5 + n - s.snRd t) % n
    let isOpen := (List.range k).any (fun i => s.tally.entries.any (fun e => e.tile == t.val && e.slot == (s.snRd t + i) % n))
    let stays := decide (k = 0 ∧ field v 0 5 = s.snRd t)
    (stays = true → Completes (.snrdWrite req t v) s (fun u => u = s)) ∧
    (stays = false → field v 0 5 < n → k ≤ (s.tile t).snHeld → isOpen = false →
      Completes (.snrdWrite req t v) s (fun u =>
        u.snRd t = field v 0 5 ∧ u.tile t = { s.tile t with snHeld := (s.tile t).snHeld - k } ∧
        (u.core (2 * t)).evin.testBit 4 = true ∧ (u.core (2 * t + 1)).evin.testBit 4 = true ∧
        (∀ j, { u.core j with evin := (s.core j).evin } = s.core j ∧ (j / 2 ≠ t → u.core j = s.core j)) ∧
        OffRegs [Reg.tileSnrd t] s u ∧ OffUnit State.tile t s u ∧
        u = { s with regs := u.regs, tiles := u.tiles, cores := u.cores })) ∧
    (stays = false → n ≤ field v 0 5 ∨ (s.tile t).snHeld < k ∨ isOpen = true →
      Completes (.snrdWrite req t v) s (fun u => u = s.raise (Page.tile t) 5)) ∧
    (∀ cnt : Bool,
      let base := if cnt then s.snBase t else field v 3 12
      let m := if cnt then max 1 (field v 0 5) else n
      ((s.tile t).snHeld = 0 → 8 * base + 1056 * m ≤ 32768 →
        Completes (.snbaseWrite req t cnt v) s (fun u =>
          u.snBase t = base ∧ u.snCnt t = m ∧ u.snWr t = 0 ∧ u.snRd t = 0 ∧
          OffRegs [Reg.tileSnbase t, Reg.tileSncnt t, Reg.tileSnwr t, Reg.tileSnrd t] s u ∧ u = { s with regs := u.regs })) ∧
      ((s.tile t).snHeld ≠ 0 ∨ 32768 < 8 * base + 1056 * m →
        Completes (.snbaseWrite req t cnt v) s (fun u => u = s.raise (Page.tile t) 5))))

/-- Snapshots of the counters: the global one latches every counter of every page, and the leat's MASKED and SRCN, at once and marks the
pages (R315); the lanes of the groups with GSCFG take their entries, shared with a boundary at the same position (R317, R308); outside RUN
it is skipped and counted (R318). SNAP latches and releases the counters of one page (R316); a read of BPOSL, BW0L or GSL latches the high
word (R453). The choices of the model in it: assumption 32. -/
def Obligations.Snapshots : Prop := ∀ (s : State),
  let latched := fun (page : Nat) (u : State) =>
    (∀ off < 1024, isCounter (1024 * page + off) = true →
      Sparse.get regReset u.held (1024 * page + off) = s.rd (1024 * page + off)) ∧
    (∀ ch ∈ pageChans page, Sparse.get regReset u.held (cstaReg ch) = s.csta ch)
  let again := fun (page : Nat) => s.rb (Reg.hdrSnapsta page) 0 || s.rb (Reg.hdrSnapsta page) 2
  (∀ p : Nat, s.tally.gsnap = some p → p ≤ s.time.w0 → s.pwr.state = .run → (∀ e ∈ s.tally.entries, e.tile < 128 ∧ e.slot < 32) →
    let serves := fun (e : OpenEntry) => !e.snap && e.b == p && s.groupWheel e.group == 0 && s.rb Reg.talgGscfg e.group
    Completes .globalSnapshot s (fun u =>
      (s.tally.latched = false → ∀ page ∈ allPages, latched page u ∧
        u.rd (Reg.hdrSnapsta page) = w32 (1 + b2n (again page) * 4 + (s.rd Reg.talgGsseq).toNat % 2 ^ 16 * 2 ^ 16)) ∧
      (s.tally.latched = true → u.held = s.held ∧ ∀ page ∈ allPages, u.rd (Reg.hdrSnapsta page) = s.rd (Reg.hdrSnapsta page)) ∧
      u.tally.gsnap = none ∧ u.tally.latched = false ∧ u.rb (Reg.hdrIraw Page.talg) 1 = true ∧
      (∀ e ∈ s.tally.entries, serves e = true → s.unarmed = true → u.entryField e.tile e.slot 0 22 1 = 1) ∧
      (∀ x ∈ s.seated, s.rb Reg.talgGscfg (s.ctxGroup (mapTile x.2) (mapLane x.2)) = true →
        (∃ q ∈ u.tally.pend, q.lane = x.1 ∧ (q.snap = true ∧ q.bw0 = some p ∨ q.gsnap = true)) ∨
        (∃ q ∈ s.tally.pend, q.snap = false ∧ q.lane = x.1 ∧ q.b = p) ∨
        (∃ e ∈ s.tally.entries, e.snap = false ∧ e.lane = x.1 ∧ e.b = p)) ∧
      (∀ q ∈ s.tally.pend, q ∈ u.tally.pend ∨ { q with gsnap := true } ∈ u.tally.pend) ∧
      u.tally = { s.tally with gsnap := none, latched := false, pend := u.tally.pend } ∧
      (∀ a, a / 1024 ≠ Page.ecc → a ∉ Reg.hdrIraw Page.talg :: allPages.map (fun page => Reg.hdrSnapsta page) → u.rd a = s.rd a) ∧
      OffStores ((s.tally.entries.filter serves).map (fun e => Store.tile e.tile 0)) s u ∧
      u = { s with regs := u.regs, w1set := u.w1set, words := u.words, held := u.held, tally := u.tally })) ∧
  (∀ p : Nat, s.tally.gsnap = some p → p ≤ s.time.w0 → s.pwr.state ≠ .run →
    Completes .globalSnapshot s (fun u =>
      u.tally = { s.tally with gsnap := none, latched := false } ∧ u.rd Reg.talgGsskip = s.rd Reg.talgGsskip + 1 ∧
      (s.tally.latched = false → ∀ page ∈ allPages, s.pageOff page = false → u.rb (Reg.hdrSnapsta page) 0 = true) ∧
      OffRegs (Reg.talgGsskip :: allPages.map (fun page => Reg.hdrSnapsta page)) s u ∧
      u = { s with regs := u.regs, held := u.held, tally := u.tally })) ∧
  (∀ (req : Req) (page : Fin 16384), (pageKind? page).isSome = true → s.reaches req page = true →
    Completes (.snapLatch req page) s (fun u =>
      latched page u ∧ u.rd (Reg.hdrSnapsta page) = w32 (3 + b2n (again page) * 4) ∧
      (∀ a, a / 1024 ≠ page.val → Sparse.get regReset u.held a = Sparse.get regReset s.held a) ∧
      OffRegs [Reg.hdrSnapsta page] s u ∧ u = { s with regs := u.regs, held := u.held }) ∧
    Completes (.snapRelease req page) s (fun u =>
      u.rd (Reg.hdrSnapsta page) = 0 ∧ u.held = s.held.filter (fun r => r.1 / 1024 != page.val) ∧
      OffRegs [Reg.hdrSnapsta page] s u ∧ u = { s with regs := u.regs, held := u.held })) ∧
  (∀ (req : Req) (r : TalgLatch), s.reaches req Page.talg = true →
    let lo := match r with
      | .bposl g => Reg.talgBposl g
      | .bw0l g => Reg.talgBw0l g
      | .gsl => Reg.talgGsl
    Completes (.talgLatchRead req r) s (fun u =>
      u.rdata = [s.rd lo] ∧ u.shadow req.index (lo + 4) = s.rd (lo + 4) ∧
      u = { s with rdata := u.rdata, shadows := u.shadows }))

/-- Host streams: a core's append, after the BCLOSE landings of its FAB cycle (R320), enters the filling bank byte for byte and counts
(R319-R321, R392), a tagged byte poisons its word, and one with no filling bank is dropped with DROP and one alarm (R321, R330); CLOSE
closes a bank that holds bytes with its header (R320-R322), as an append that does not fit does first, and counts an empty one; SPILLTMO
starts a spill (R324); the flash controller's acceptance takes the record into staging, unchanged, and drains the bank, its refusal closes
it again and posts the alarm (R324, R397, R439). The choices of the model in it: assumption 33. -/
def Obligations.Streams : Prop := ∀ (s : State) (n : Fin 4),
  (∀ k : Fin 256, s.canAsk (.core k) = true → (s.core k).devNat Dev.apstr 1 = n.val → s.streamOn n = true →
    let s1 := (s.landClose n).landClose n
    let len := (s.core k).devNat Dev.aplen 1
    let full := (s1.stream n).fill.any (fun b => decide (32768 < ((s1.stream n).bank b).len + len))
    let s2 := if full then s1.closeBank n 0 none else s1
    let status := fun (x : Byte) (u : State) => u.core k = (s.core k).setDev Dev.apsta x false ∧ OffUnit State.core k s u
    let fits := decide (1 ≤ len) && decide (len ≤ 64) && (!s.rb (Reg.strmScfg n) 3 || decide (len = 16))
    (fits = false → Completes (.append n [k]) s (fun u => status 1 u ∧ u = { s1 with cores := u.cores })) ∧
    (fits = true → (s2.stream n).fill = none →
      Completes (.append n [k]) s (fun u =>
        status 2 u ∧ u.rd (Reg.strmDrop n) = s2.rd (Reg.strmDrop n) + 1 ∧ u.rb (Reg.strmSsta n) 22 = true ∧
        u.rb (Reg.hdrIraw Page.strm) (8 + n) = true ∧ u.stream n = { s2.stream n with dropped := true } ∧
        u.alarmPosts = (if (s2.stream n).dropped then s2.alarmPosts else
          s2.alarmPosts ++ [{ req := 256 + Page.strm, entry := alarmEntry (s.rf Reg.strmAlprio 0 4) n 0x30 s.stampNow }]) ∧
        OffUnit State.stream n s2 u ∧ OffRegs [Reg.strmDrop n, Reg.strmSsta n, Reg.hdrIraw Page.strm] s2 u ∧
        u = { s2 with regs := u.regs, w1set := u.w1set, streams := u.streams, cores := u.cores, alarmPosts := u.alarmPosts })) ∧
    (∀ b < 2, fits = true → (s2.stream n).fill = some b →
      let at_ := ((s2.stream n).bank b).len
      at_ + len ≤ 32768 →
      Completes (.append n [k]) s (fun u =>
        status 0 u ∧ u.rd (Reg.strmAppcnt n) = s2.rd (Reg.strmAppcnt n) + 1 ∧ ((u.stream n).bank b).len = at_ + len ∧
        (at_ + len < 32768 → (u.stream n).bank b = { (s2.stream n).bank b with len := at_ + len } ∧
          (u.stream n).bank (1 - b) = (s2.stream n).bank (1 - b) ∧ (u.stream n).fill = some b) ∧
        (at_ + len = 32768 → ((u.stream n).bank b).state = (if s.streamDest n = 3 then .spilling else .closed) ∧
          (u.stream n).fill = (if ((s2.stream n).bank (1 - b)).state = .empty then some (1 - b) else none) ∧
          u.rb (Reg.hdrIraw Page.strm) n = true) ∧
        (s2.unarmed = true →
          ((at_ % 8 = 0 ∨ s2.rawWord Store.stream (bankWord n b + at_ / 8) ≠ poisonWord) →
            (∀ i < len, (s.core k).devTagged (Dev.apbuf + i) = false) →
            ∀ i < len, byteOf (wordData (u.rawWord Store.stream (bankWord n b + (at_ + i) / 8))).toNat ((at_ + i) % 8) =
              (s.core k).devByte (Dev.apbuf + i)) ∧
          (∀ i < len, (s.core k).devTagged (Dev.apbuf + i) = true →
            u.rawWord Store.stream (bankWord n b + (at_ + i) / 8) = poisonWord)) ∧
        OffUnit State.stream n s2 u ∧ OffPages [Page.strm, Page.ecc] s2 u ∧ OffStores [Store.stream] s2 u ∧
        u = { s2 with regs := u.regs, w1set := u.w1set, words := u.words, streams := u.streams, cores := u.cores, evq := u.evq }))) ∧
  (∀ req : Req, s.reaches req Page.strm = true → s.pageEn Page.strm = true →
    (∀ b < 2, (s.stream n).fill = some b →
      let k := (s.stream n).bank b
      let o := (s.stream n).bank (1 - b)
      (k.len ≠ 0 →
        Completes (.close req n) s (fun u =>
          let seq := (s.rf (Reg.strmBseq n) 0 22 + 1) % 2 ^ 22
          (u.stream n).bank b = { k with
            state := if s.streamDest n = 3 then .spilling else .closed, closedAt := s.time.fab, spillW0 := s.w0,
            header := n + seq * 4 + k.len * 2 ^ 24 + ((k.len + 7) % 8 + 1) * 2 ^ 40 + 2 * 2 ^ 44 +
              b2n (s.stream n).dropped * 2 ^ 46 + s.time.w0 % 2 ^ 16 * 2 ^ 48 } ∧
          u.rd (Reg.strmBseq n) = w32 seq ∧ u.rb (Reg.hdrIraw Page.strm) n = true ∧ (u.stream n).dropped = false ∧
          (o.state = .empty → (u.stream n).fill = some (1 - b) ∧ (u.stream n).bank (1 - b) = { o with len := 0 }) ∧
          (o.state ≠ .empty → (u.stream n).fill = none ∧ (u.stream n).bank (1 - b) = o) ∧
          OffUnit State.stream n s u ∧ OffRegs [Reg.strmBseq n, Reg.hdrIraw Page.strm] s u ∧
          u = { s with regs := u.regs, w1set := u.w1set, streams := u.streams, evq := u.evq })) ∧
      (k.len = 0 → Completes (.close req n) s (fun u => u = s.bump (Reg.strmEmptycl n)))) ∧
    ((s.stream n).fill = none → Completes (.close req n) s (fun u => u = s.bump (Reg.strmEmptycl n)))) ∧
  (∀ b : Nat, s.closedBank n = some b →
    let due := s.pwr.state == .run && (s.rb (Reg.strmScfg n) 4 || s.streamDest n == 3) &&
      decide (400000 * s.rf (Reg.strmSpilltmo n) 0 24 < s.time.fab - ((s.stream n).bank b).closedAt)
    (due = true →
      Completes (.spilltmoExpiry n) s (fun u =>
        (u.stream n).bank b = { (s.stream n).bank b with state := .spilling, spillW0 := s.w0 } ∧
        (u.stream n).bank (1 - b) = (s.stream n).bank (1 - b) ∧ (u.stream n).fill = (s.stream n).fill ∧
        (u.stream n).dropped = (s.stream n).dropped ∧ OffUnit State.stream n s u ∧ u = { s with streams := u.streams })) ∧
    (due = false → Completes (.spilltmoExpiry n) s (fun u => u = s))) ∧
  (∀ b : Nat, s.bankIn n .spilling = some b →
    let rec_ := (s.historyRecord n b).1
    let words := rec_.length
    let room := decide (s.flash.stageLen + words ≤ 8192)
    let ring := decide (s.hblk0 < s.hblk1) && (s.rb Reg.flcHcfg 4 || decide (s.flash.stageLen + words ≤ s.histRoom))
    let takes := s.rb Reg.flcFctl 0 && s.pageLive Page.flc && s.histOn && room && ring
    (takes = true →
      Completes (.spillAccepted n) s (fun u =>
        (u.stream n).bank b = {} ∧ u.rd (Reg.strmSpillcnt n) = s.rd (Reg.strmSpillcnt n) + 1 ∧
        u.flash.stageLen = s.flash.stageLen + words ∧ u.flash.stageStarts = s.flash.stageStarts ++ [s.flash.stageLen] ∧
        (s.unarmed = true → ∀ i < words,
          u.rawWord Store.staging ((s.flash.stageRd + s.flash.stageLen + i) % 8192) = rec_.getD i 0) ∧
        u.rb (Reg.hdrIraw Page.strm) (12 + n) = true ∧ OffUnit State.stream n s u ∧
        OffPages [Page.strm, Page.flc, Page.ecc] s u ∧ OffStores [Store.stream, Store.staging] s u ∧
        u = { s with regs := u.regs, w1set := u.w1set, words := u.words, errs := u.errs, streams := u.streams, flash := u.flash })) ∧
    (takes = false →
      Completes (.spillAccepted n) s (fun u =>
        (u.stream n).bank b = { (s.stream n).bank b with state := .closed, closedAt := s.time.fab } ∧
        u.rd (Reg.strmSpillerr n) = s.rd (Reg.strmSpillerr n) + 1 ∧ u.rb (Reg.hdrIraw Page.strm) (16 + n) = true ∧
        u.rd Reg.flcSprej = s.rd Reg.flcSprej + 1 ∧ ((room && ring) = false → u.rb (Reg.hdrIraw Page.flc) 3 = true) ∧
        u.alarmPosts = s.alarmPosts ++
          [{ req := 256 + Page.strm, entry := alarmEntry (s.rf Reg.strmAlprio 0 4) n 0x31 s.stampNow }] ∧
        OffUnit State.stream n s u ∧
        OffRegs [Reg.strmSpillerr n, Reg.hdrIraw Page.strm, Reg.flcSprej, Reg.hdrIraw Page.flc] s u ∧
        u = { s with regs := u.regs, w1set := u.w1set, streams := u.streams, alarmPosts := u.alarmPosts })))

/-- The alarm queue: the posts of a FAB cycle wait for its end (R327), a register write's with the requester's POSTL (R453), ALCMD's,
behind the core's earlier stores, for a point of its tile whose slot has AE (R393), and enter in ascending order of requester: one with
room with its priority and entry (R327), one without is dropped, counted and sets OVR (R328); a core learns which (R393). A pop takes the
oldest entry of the lowest-numbered priority held and a peek leaves it (R327, R329), an entry posted in the same FAB cycle among them only
where the queue began it empty; a pop of none sets UNDR (R329). The choices of the model in it: assumption 34. -/
def Obligations.Alarms : Prop := ∀ (s : State),
  (∀ (req : Req) (v : Word), s.reaches req Page.alq = true →
    Completes (.alarmPost req v) s (fun u => u = { s with alarmPosts := s.alarmPosts ++
      [{ req := postOrder req.index, entry := v ++ s.shadow req.index Reg.alqPostl }] })) ∧
  (∀ k : Fin 256, s.canAsk (.core k) = true →
    let t := s.drainStores k
    let c := t.core k
    let point := c.devNat Dev.alpt 3 % 2 ^ 20
    let e := t.mapEntry (point / 64)
    let here := mapValid e && mapTile e == k.val / 2
    let slot := t.slotByte (mapTile e) (mapLane e) (point % 64) 2
    let own := (c.devByte Dev.alpri).toNat.testBit 7
    let status := fun (x : Byte) (u : State) =>
      u.core k = { c.setDev Dev.alsta x false with alstmpSet := false } ∧ OffUnit State.core k t u
    (here = true → slot.testBit 4 = false →
      Completes (.alcmd k) s (fun u => status 1 u ∧ u.rd Reg.alqDiscnt = t.rd Reg.alqDiscnt + 1 ∧ OffRegs [Reg.alqDiscnt] t u ∧
        u = { t with regs := u.regs, cores := u.cores })) ∧
    (here = false → own = true → Completes (.alcmd k) s (fun u => status 3 u ∧ u = { t with cores := u.cores })) ∧
    ((here = true ∧ slot.testBit 4 = true ∨ here = false ∧ own = false) →
      Completes (.alcmd k) s (fun u =>
        u.core k = { c with alstmpSet := false } ∧ OffUnit State.core k t u ∧
        u = { t with cores := u.cores, alarmPosts := t.alarmPosts ++
          [{ req := k, core := some k.val,
             entry := alarmEntry (if own then slot % 16 else (c.devByte Dev.alpri).toNat % 16) point (c.devByte Dev.alkind).toNat
               (if c.alstmpSet then w32 (c.devNat Dev.alstmp 4) else t.stampNow) }] }))) ∧
  (∀ p : AlarmPost, s.alarmPosts = [p] → s.alarmsOn = true →
    let prio := natField p.entry.toNat 60 4
    let full := decide (2048 ≤ s.alarms.length) ||
      (decide (s.rf Reg.alqActl 12 4 < prio) && decide (2048 - s.alarmResv ≤ s.alarms.length))
    let u := s.landAlarms
    let told := fun (x : Byte) =>
      (∀ k, p.core = some k → u.core k = (s.core k).setDev Dev.alsta x false ∧ OffUnit State.core k s u) ∧
      (p.core = none → u.cores = s.cores)
    (full = false →
      u.alarms = s.alarms ++ [(s.freeAlarm, prio)] ∧ (∀ a ∈ s.alarms, a.1 ≠ s.freeAlarm) ∧
      (s.unarmed = true → u.peekWord Store.alarm s.freeAlarm = p.entry) ∧ told 0 ∧
      (s.alarms = [] → u.rb (Reg.hdrIraw Page.alq) 0 = true) ∧
      (prio ≤ s.rf Reg.alqActl 16 4 → u.rb (Reg.hdrIraw Page.alq) 1 = true) ∧
      OffPages [Page.alq, Page.ecc] s u ∧ OffStores [Store.alarm] s u ∧
      u = { s with regs := u.regs, w1set := u.w1set, words := u.words, alarms := u.alarms, alarmPosts := [], cores := u.cores,
                   evq := u.evq }) ∧
    (full = true →
      u.rb Reg.alqSta 0 = true ∧ u.rb (Reg.hdrIraw Page.alq) 2 = true ∧ u.rd Reg.alqDrop = s.rd Reg.alqDrop + 1 ∧ told 2 ∧
      OffRegs [Reg.alqSta, Reg.hdrIraw Page.alq, Reg.alqDrop] s u ∧
      u = { s with regs := u.regs, w1set := u.w1set, alarmPosts := [], cores := u.cores })) ∧
  (∀ p q : AlarmPost, q.req < p.req →
    State.landAlarms { s with alarmPosts := [p, q] } = State.landAlarms { s with alarmPosts := [q, p] }) ∧
  (s.alarmCyc.cyc ≠ s.time.fab + 1 →
    (s.alarms ≠ [] → s.alarmsSeen = { s with alarmCyc := { cyc := s.time.fab + 1, held := true } }) ∧
    (s.alarms = [] → s.alarmsSeen = State.landAlarms { s with alarmCyc := { cyc := s.time.fab + 1, held := false } })) ∧
  (∀ q r : Req, q.index ≠ r.index → exec (.poplRead [q, r]) s = exec (.poplRead [r, q]) s) ∧
  (∀ req : Req, s.reaches req Page.alq = true →
    let t := s.alarmsSeen
    (∀ a : Nat × Nat, t.nextAlarm = some a → t.clean Store.alarm a.1 1 = true →
      let e := (t.peekWord Store.alarm a.1).toNat
      (t.alarms.find? (fun x => x.2 == a.2) = some a ∧ ∀ x ∈ t.alarms, x.2 < 16 → a.2 ≤ x.2) ∧
      (s.alarmsOn = true →
        Completes (.poplRead [req]) s (fun u =>
          u.rdata = [lo32 e] ∧ u.shadow req.index Reg.alqPoph = hi32 e ∧
          u = { t with alarms := t.alarms.erase a, lastPop := t.peekWord Store.alarm a.1, rdata := u.rdata,
                       shadows := u.shadows })) ∧
      Completes (.peeklRead req) s (fun u =>
        u.rdata = [lo32 e] ∧ u.shadow req.index Reg.alqPeekh = hi32 e ∧ u = { t with rdata := u.rdata, shadows := u.shadows })) ∧
    (t.nextAlarm = none →
      (s.alarmsOn = true →
        Completes (.poplRead [req]) s (fun u =>
          u.rdata = [lo32 s.lastPop.toNat] ∧ u.rb Reg.alqSta 1 = true ∧ u.rb (Reg.hdrIraw Page.alq) 2 = true ∧
          OffRegs [Reg.alqSta, Reg.hdrIraw Page.alq] t u ∧
          u = { t with regs := u.regs, w1set := u.w1set, rdata := u.rdata, shadows := u.shadows })) ∧
      Completes (.peeklRead req) s (fun u => u.rdata = [0] ∧ u = { t with rdata := u.rdata, shadows := u.shadows })))
/-! ### The leat and the tiles (10 R331-R348, 11 R351, R379-R385) -/

/-- The leat's commands: FIRE and FIREMn queue firings of the channels they name (R337); STORMn unmasks with MASKED cleared and an empty
window (R343); a routing write takes its value (R334, R335), an EVSEL that runs past channel 255 is refused, one that would close the trip
loop is refused and logged (R341); CCFG holds the old value until the next NET cycle, REFR 0 stored as 1 (R344); the global boundary
reaches every group of GSNAPEN, and the lanes seated on it owe a switch (R345, R306). The choices of the model in it: assumption 35. -/
def Obligations.Leat : Prop := ∀ (s : State) (req : Req) (v : Word),
  let refused := fun (u : State) =>
    u.rd Reg.leatRejcnt = s.rd Reg.leatRejcnt + 1 ∧ u.rb (Reg.hdrIraw Page.leat) 0 = true ∧
    OffRegs [Reg.leatCyclog, Reg.leatRejcnt, Reg.hdrIraw Page.leat] s u ∧ u = { s with regs := u.regs, w1set := u.w1set }
  (s.reaches req Page.leat = true →
    Completes (.fire req v) s (fun u => u = { s with evq := s.evq ++ [.chan (field v 0 8)] }) ∧
    (∀ n : Fin 8,
      Completes (.firem req n v) s (fun u => u = { s with evq := s.evq ++ (bitsBelow v.toNat 32).map (fun b => .chan (32 * n.val + b)) }) ∧
      Completes (.stormUnmask req n v) s (fun u =>
        u.rd (Reg.leatStorm n) = s.rd (Reg.leatStorm n) &&& ~~~ v ∧
        (∀ b < 32, bitOf v b = true → s.masked (32 * n + b) = true →
          u.rf (cstaReg (32 * n + b)) 16 16 = 0 ∧ (u.chan (32 * n + b)).fires = []) ∧
        (∀ ch, bitOf v (ch % 32) = false ∨ ch / 32 ≠ n.val ∨ s.masked ch = false → u.chan ch = s.chan ch) ∧
        OffRegs (Reg.leatStorm n :: (List.range 32).map (fun b => cstaReg (32 * n + b))) s u ∧
        u = { s with regs := u.regs, chans := u.chans })) ∧
    Completes (.leatBposlRead req) s (fun u =>
      u.rdata = [s.rd Reg.leatBposl] ∧ u.shadow req.index Reg.leatBposh = s.rd Reg.leatBposh ∧
      u = { s with rdata := u.rdata, shadows := u.shadows })) ∧
  (∀ page : Fin 16384, s.reaches req page = true →
    (∀ cls i, pageKind? page = some (cls, i) → hasEvsel cls = true →
      ((∀ e < 4, bitOf v (8 + e) = true → field v 0 8 + e ≤ 255) →
        (page.val = Page.trip → tripLoop v (s.rd (Reg.hdrEvin page)) = false) →
        Completes (.routingWrite req (BitVec.ofNat 24 (Reg.hdrEvsel page)) v) s (fun u => u = s.wr (Reg.hdrEvsel page) (v &&& 0xFFF))) ∧
      ((∃ e < 4, bitOf v (8 + e) = true ∧ 255 < field v 0 8 + e) →
        Completes (.routingWrite req (BitVec.ofNat 24 (Reg.hdrEvsel page)) v) s (fun u => u = s.raise Page.leat 1)) ∧
      (page.val = Page.trip → (∀ e < 4, bitOf v (8 + e) = true → field v 0 8 + e ≤ 255) →
        tripLoop v (s.rd (Reg.hdrEvin page)) = true →
        Completes (.routingWrite req (BitVec.ofNat 24 (Reg.hdrEvsel page)) v) s (fun u =>
          u.rd Reg.leatCyclog = w32 (page + 0x20 * 2 ^ 14) ∧ refused u))) ∧
    (∀ cls i, pageKind? page = some (cls, i) → hasEvin cls = true →
      (page.val = Page.trip → tripLoop (s.rd (Reg.hdrEvsel page)) v = false) →
      Completes (.routingWrite req (BitVec.ofNat 24 (Reg.hdrEvin page)) v) s (fun u =>
        u = s.wr (Reg.hdrEvin page) (v &&& 0x01FF01FF))) ∧
    (page.val = Page.trip → tripLoop (s.rd (Reg.hdrEvsel page)) v = true →
      Completes (.routingWrite req (BitVec.ofNat 24 (Reg.hdrEvin page)) v) s (fun u =>
        u.rd Reg.leatCyclog = w32 (page + 0x24 * 2 ^ 14) ∧ refused u))) ∧
  (s.reaches req Page.trip = true →
    (s.locked Page.trip = false →
      Completes (.routingWrite req (BitVec.ofNat 24 Reg.tripLtmask) v) s (fun u => u = (s.wr Reg.tripLtmask (v &&& 0xFFFF)).checkTrips)) ∧
    (s.locked Page.trip = true → Completes (.routingWrite req (BitVec.ofNat 24 Reg.tripLtmask) v) s (fun u => u = s))) ∧
  (∀ w : Fin 16, s.reaches req (Page.weir (w / 8)) = true →
    Completes (.routingWrite req (BitVec.ofNat 24 (Reg.weirWev (w / 8) (w % 8))) v) s (fun u =>
      u = s.wr (Reg.weirWev (w / 8) (w % 8)) (v &&& 0x7FFFFFF))) ∧
  (∀ k : Fin 16, s.reaches req Page.pls = true →
    Completes (.routingWrite req (BitVec.ofNat 24 (Reg.plsPlev k)) v) s (fun u => u = s.wr (Reg.plsPlev k) (v &&& 0x3FFFF))) ∧
  (∀ ch : Fin 256, s.reaches req (ccfgReg ch / 1024) = true →
    Completes (.ccfgWrite req ch v) s (fun u =>
      u.rd (ccfgReg ch) = (if field v 1 13 = 0 then v ||| 2 else v) &&& 0x7FFF ∧
      u.ccfg ch = s.ccfg ch ∧
      (let from_ := (5 * (s.time.fab + 1) + 15) / 16
       (∀ x ∈ (s.chan ch).ccfgOld, x.2 ≤ from_) → ∀ f, from_ ≤ f * 5 / 16 →
         State.ccfg { u with time := { u.time with fab := f } } ch = u.rd (ccfgReg ch)) ∧
      u.chan ch = { s.chan ch with ccfgOld := (u.chan ch).ccfgOld } ∧
      OffUnit State.chan ch s u ∧ OffRegs [ccfgReg ch] s u ∧ u = { s with regs := u.regs, chans := u.chans })) ∧
  (∀ p : Nat, s.boundary = some p → p ≤ s.time.w0 → (∀ e ∈ s.tally.entries, e.tile < 128 ∧ e.slot < 32) →
    Completes .globalPeriodBoundary s (fun u =>
      u.boundary = none ∧
      (∀ g : Fin 16, s.rb Reg.talgGscfg g = true → numAt s.tally.landedAt g ≠ s.time.fab + 1 →
        let b := if s.groupWheel g = 0 then p else s.high (s.groupWheel g)
        u.rd (Reg.talgBseq g) = s.rd (Reg.talgBseq g) + 1 ∧ u.rd64 (Reg.talgBposl g) (Reg.talgBposh g) = b % 2 ^ 64 ∧
        u.rd64 (Reg.talgBw0l g) (Reg.talgBw0h g) = p % 2 ^ 64 ∧ u.rb (Reg.hdrIraw Page.talg) 0 = true ∧
        ∀ x ∈ s.seated, s.ctxGroup (mapTile x.2) (mapLane x.2) = g →
          (∃ q ∈ u.tally.pend, q.lane = x.1 ∧ q.group = g ∧ q.snap = false ∧ q.b = b ∧ q.bw0 = some p) ∨
          (∃ e ∈ u.tally.entries, e.lane = x.1 ∧ e.group = g ∧ e.snap = false ∧ e.b = b ∧ e.bw0 = some p)) ∧
      (∀ g : Fin 16, s.rb Reg.talgGscfg g = false → u.rd (Reg.talgBseq g) = s.rd (Reg.talgBseq g)) ∧
      OffPages [Page.talg, Page.ecc] s u ∧
      u = { s with regs := u.regs, w1set := u.w1set, words := u.words, tally := u.tally, boundary := none, evq := u.evq }))

/-- A firing (R338, R342, R344): in RUN or SLEEP an event that reaches a channel is only counted in MASKED while the channel is masked,
only counted in COAL during its refractory time, masks the channel where the storm limit is met, and otherwise counts in FIRECNT, starts
the refractory time of REFR NET cycles and acts at every task input that names the channel. In HIBERNATE only channels 0-7 fire, and only
the wake task is there (R348, R494). -/
def Obligations.Firing : Prop := ∀ (s : State) (ch : Fin 256),
  (s.pwr.state = .hibernate →
    (8 ≤ ch.val ∨ s.net < (s.chan ch).refrEnd → s.reach ch = s) ∧
    (ch.val < 8 → (s.chan ch).refrEnd ≤ s.net →
      s.reach ch = (s.setChan ch { s.chan ch with refrEnd := s.net + 3815 }).wakeTask ch)) ∧
  (s.pwr.state ≠ .hibernate →
  (s.masked ch = true → s.reach ch = s.countMasked ch) ∧
  (s.masked ch = false → s.net < (s.chan ch).refrEnd → s.reach ch = s.bump (coalReg ch)) ∧
  (s.masked ch = false → (s.chan ch).refrEnd ≤ s.net →
    let n := (recentFires s.net (s.chan ch).fires).length
    (bitOf (s.ccfg ch) 14 = true → s.rf Reg.leatLctl 0 8 ≤ n →
      (s.reach ch).masked ch = true ∧ (s.reach ch).chan ch = s.chan ch ∧ (s.reach ch).rb (Reg.hdrIraw Page.leat) 2 = true ∧
      (s.reach ch).rd (firecntReg ch) = s.rd (firecntReg ch)) ∧
    (bitOf (s.ccfg ch) 14 = false ∨ n < s.rf Reg.leatLctl 0 8 →
      s.reach ch = ((s.setChan ch { s.chan ch with
        refrEnd := s.net + field (s.ccfg ch) 1 13,
        fires := s.net :: recentFires s.net (s.chan ch).fires }).bump (firecntReg ch)).activateAll ch)))

/-- The tiles: the oldest dispatch on its way is among those that enter the queue at the end of its FAB cycle, by ascending lane, or counts
as NOPROG (R382); a free core starts the oldest dispatch it may run with the registers of R383, and the context counts it (R51); CCTL stops
a core, clears its FAULT or starts it at ENTRY (R379, R385); IMDATA reads and writes the word at IMADDR under the instruction words' code
and steps it, a write refused while the core runs, and an uncorrectable word starts the tile's retirement (R86, R351). The choices of the
model in it: assumption 16. -/
def Obligations.Tiles : Prop := ∀ (s : State) (t : Fin 128),
  (∀ d : Disp, s.pwr.state = .run → s.nextArrival t = some d → s.tileAwake t = true → s.pageEn (Page.tile t) = true →
    s.pwr.reload.contains t = false →
    Completes (.dispatchArrival t) s (fun u =>
      (s.permits t d 0 = true ∨ s.permits t d 1 = true →
        u = { s with sent := s.sent.erase (t.val, d) }.setTile t
          { s.tile t with arrivals := insertLane d (s.tile t).arrivals }) ∧
      (s.permits t d 0 = false → s.permits t d 1 = false →
        u = ({ s with sent := s.sent.erase (t.val, d) }.bump (Reg.tileNoprog t)).raise (Page.tile t) 6))) ∧
  ((s.tile t).arrivals ≠ [] →
    s.landArrivals.tile t = { s.tile t with dq := (s.tile t).dq ++ (s.tile t).arrivals, arrivals := [] }) ∧
  (∀ (c : Fin 2) (d : Disp), s.pwr.state = .run → s.tileAwake t = true → s.pageEn (Page.tile t) = true →
    s.takes? (2 * t + c) = some d → (c = 1 → s.takes? (2 * t) = none) →
    Completes (.dispatchStart t) s (fun u =>
      let k := 2 * t.val + c.val
      let l := mapLane (s.mapEntry d.lane)
      let n := if c = 0 then Reg.tileDispn0 t else Reg.tileDispn1 t
      u.tile t = { s.tile t with dq := (s.tile t).dq.erase d } ∧
      u.core k = { s.core k with
        running := true, wait := .none, pc := (s.dispProg t d).truncate 13, g := startRegs l, gTag := 0, abnk := l / 16,
        bbnk := 16 + l / 64, lk := 0, lact := 0, busy := 0, intrap := false,
        disp := some { d := d, lidx := l, start := s.time.w0, budgetTaken := false } } ∧
      u.rd n = s.rd n + 1 ∧
      (s.unarmed = true →
        u.ctx t l 6 = d.due % 2 ^ 64 ∧ u.ctxDispcnt t l = (s.ctxDispcnt t l + 1) % 2 ^ 32 ∧
        u.ctxLastwu t l = s.ctxLastwu t l ∧ u.ctxOvrun t l = s.ctxOvrun t l) ∧
      OffUnit State.core k s u ∧ OffUnit State.tile t s u ∧ OffRegs [n, Reg.eccEinj0, Reg.hdrIraw Page.ecc] s u ∧
      OffStores [Store.tile t 0] s u ∧
      u = { s with regs := u.regs, w1set := u.w1set, words := u.words, cores := u.cores, tiles := u.tiles })) ∧
  (∀ (req : Req) (c : Fin 2) (v : Word), s.reaches req (Page.tile t) = true →
    let k := 2 * t.val + c.val
    (∀ e ∈ (s.core k).wbuf, e.st / 8 = t ∧ e.word < 2 ^ 40) → (∀ r, (s.core k).disp = some r → r.lidx < 128) →
    Completes (.cctlCoreWrite req t c v) s (fun u =>
      u.rd (cctlReg k) = v &&& 3 ∧
      (bitOf v 0 = false → (u.core k).running = false ∧ (u.core k).disp = none ∧ (u.core k).halted = false ∧
        (u.core k).pc = (s.core k).pc ∧ (u.core k).g = (s.core k).g) ∧
      (bitOf v 0 = true → (s.core k).running = true ∨ bitOf v 1 = true →
        u.core k = { s.core k with fault := false } ∧ OffRegs [cctlReg k] s u ∧ u.words = s.words) ∧
      (bitOf v 0 = true → (s.core k).running = false → bitOf v 1 = false →
        u.core k = { s.core k with
          fault := false, running := true, wait := .none, intrap := false,
          pc := (if c = 0 then s.rd (Reg.tileEntry0 t) else s.rd (Reg.tileEntry1 t)).truncate 13 } ∧
        OffRegs [cctlReg k] s u ∧ u.words = s.words) ∧
      OffUnit State.core k s u ∧ OffPages [Page.tile t, Page.ecc] s u ∧
      OffStores ((List.range 8).map (fun sub => Store.tile t sub)) s u ∧ OffUnit State.tile t s u ∧
      u = { s with regs := u.regs, w1set := u.w1set, words := u.words, errs := u.errs, cores := u.cores, tiles := u.tiles })) ∧
  (∀ (req : Req) (v : Word), s.reaches req (Page.tile t) = true →
    let k := s.imCore t
    let st := Store.tile t (3 + k % 2)
    let found := checkAt st (s.rawWord st (s.imAddr t))
    (s.coreRun k = false → (s.core k).disp = none →
      Completes (.imdataAccess req t (some v)) s (fun u =>
        (s.unarmed = true → checkAt st (u.rawWord st (s.imAddr t)) = .good ((v &&& 0xFFFFFF).zeroExtend 64)) ∧
        u.imAddr t = (s.imAddr t + 1) % 2 ^ 13 ∧ OffRegs [Reg.tileImaddr t, Reg.eccEinj0, Reg.hdrIraw Page.ecc] s u ∧
        OffStores [st] s u ∧ u = { s with regs := u.regs, w1set := u.w1set, words := u.words })) ∧
    (s.coreRun k = true ∨ (s.core k).disp ≠ none →
      Completes (.imdataAccess req t (some v)) s (fun u => u = (s.raise (Page.tile t) 4).stepImaddr t)) ∧
    (s.pwr.reload.contains t = false →
      (∀ d, found = .good d →
        Completes (.imdataAccess req t none) s (fun u =>
          u.rdata = [((d.truncate 24 : BitVec 24)).zeroExtend 32] ∧ u = { s.stepImaddr t with rdata := u.rdata })) ∧
      (∀ d, found = .corrected d →
        Completes (.imdataAccess req t none) s (fun u =>
          u.rdata = [((d.truncate 24 : BitVec 24)).zeroExtend 32] ∧
          u = { (s.bump (Reg.hdrErrcnt (Page.tile t))).stepImaddr t with rdata := u.rdata })) ∧
      (found = .poison →
        Completes (.imdataAccess req t none) s (fun u =>
          u.rdata = [0xFFFFFFFF] ∧ u = { (s.bump Reg.eccPreadcnt).stepImaddr t with rdata := u.rdata })) ∧
      (found = .uncorrectable →
        Completes (.imdataAccess req t none) s (fun u =>
          u.rdata = [0xFFFFFFFF] ∧ (u.tile t).uncorr = true ∧ u.rb (Reg.hdrIraw (Page.tile t)) 7 = true ∧
          u.imAddr t = (s.imAddr t + 1) % 2 ^ 13 ∧ u.rawWord st (s.imAddr t) = instrPoison ∧
          OffPages [Page.tile t, Page.ecc] s u ∧ OffStores [st] s u ∧ OffUnit State.tile t s u ∧
          u = { s with regs := u.regs, w1set := u.w1set, words := u.words, errs := u.errs, tiles := u.tiles,
                       rdata := u.rdata }))))
/-! ### The Hopper (02 R54-R89, R551-R553; 12 R412, R413) -/

/-- An evaluation takes the measures of the time since the last one, L of the tiles and ℓ of the lanes, and starts a new period, shows the
hot clusters and OVERBUD, and queues at most MOVEMAX policy moves behind those queued, none while HCTL.EN = 0; a regular one sets the next
one's time, one out of turn does not (R57-R69). No move starts, no word changes. Moves posted and completed: MOVE1 posts a firmware move
behind the others, one that fails its test at queuing ends at once with the first status of R551, and a move, or its completion, that
finds its queue full is dropped (R72, R77, R551); MVDONE0 returns the oldest completion, of none the last and UNDR (R77). The choices of
the model in it: assumption 36. -/
def Obligations.MovePosts : Prop :=
  (∀ (s : State),
   let took := fun (u : State) =>
     let cycles := s.time.fab - s.hop.lastEval
     (s.hop.lastEval ≤ s.time.fab → u.hop.lastEval = s.time.fab) ∧
     (s.hop.lastEval < s.time.fab →
       (∀ t < 128, numAt u.hop.load t = numAt s.hop.busy t * 25000000 / cycles) ∧
       (∀ x ∈ s.seated,
         let n := s.ctxDispcnt (mapTile x.2) (mapLane x.2)
         let base := ((s.hop.cnt0.find? (fun y => y.1 == x.1)).map (·.2)).getD n
         s.seated.filter (fun y => y.1 == x.1) = [x] →
         numAt u.hop.laneLoad x.1 = max (s.ctxWork (mapTile x.2) (mapLane x.2)) (s.ctxLastwu (mapTile x.2) (mapLane x.2)) *
           ((n + 2 ^ 32 - base) % 2 ^ 32) * 400000000 / cycles)) ∧
     (∀ c < 8, u.hotCluster c = (if s.hotCluster c then
         !decide (s.clusterTemp c < (s.rf Reg.hopTarget 24 8 : Int) - s.rf Reg.hopTherm 0 8)
       else decide ((s.rf Reg.hopTarget 24 8 : Int) ≤ s.clusterTemp c))) ∧
     u.rb Reg.hopHsta 4 = (List.range 128).any (fun t => decide (s.tbud t < numAt u.hop.load t)) ∧
     u.hop.policyq.take s.hop.policyq.length = s.hop.policyq ∧
     u.hop.policyq.length ≤ s.hop.policyq.length + s.rf Reg.hopWeight 24 8 ∧
     (s.rb Reg.hopHctl 0 = false → u.hop.policyq = s.hop.policyq) ∧
     u.hop.migs = s.hop.migs ∧ u.hop.fwq = s.hop.fwq ∧ u.hop.flips = s.hop.flips ∧ u.hop.doneq = s.hop.doneq ∧
     OffPages [Page.hop, Page.hoplim1] s u ∧ u = { s with regs := u.regs, w1set := u.w1set, hop := u.hop, tiles := u.tiles }
   (s.evalDue = true →
     Completes .evaluation s (fun u => took u ∧ u.hop.lastRegular = s.time.fab ∧ u.hop.outOfTurn = s.hop.outOfTurn)) ∧
   (s.hopperOn = true → s.hop.outOfTurn = true →
     Completes .outOfTurnEvaluation s (fun u =>
       took u ∧ u.hop.lastRegular = s.hop.lastRegular ∧ u.hop.outOfTurn = false))) ∧
  (∀ (s : State) (req : Req) (v : Word), s.reaches req Page.hop = true →
   (let m : Move := { lane := s.rf Reg.hopMove0 0 14, cls := .firmware, force := s.rb Reg.hopMove0 31, tile := field v 8 7,
                      seat := if bitOf v 7 then none else some (field v 0 7), tag := field v 16 8 }
    let dropped := fun (u : State) =>
      u.rb Reg.hopMvsta 14 = true ∧ u.rf Reg.hopMvsta 16 16 = (s.rf Reg.hopMvsta 16 16 + 1) % 2 ^ 16 ∧
      u.rb (Reg.hdrIraw Page.hop) 7 = true ∧ OffRegs [Reg.hopMvsta, Reg.hdrIraw Page.hop] s u ∧
      u = { s with regs := u.regs, w1set := u.w1set }
    (s.hop.fwq.length < 32 → s.moveTest m false = none →
      Completes (.move1Post req v) s (fun u => u = { s with hop := { s.hop with fwq := s.hop.fwq ++ [m] } })) ∧
    (∀ st : Nat, s.hop.fwq.length < 32 → s.hop.doneq.length < 32 → s.moveTest m false = some st →
      Completes (.move1Post req v) s (fun u =>
        u.hop = { s.hop with doneq := s.hop.doneq ++ [{ w0 := w32 (m.lane + st * 2 ^ 16 + m.tag * 2 ^ 24),
                                                         w1 := w32 (s.mapEntry m.lane + s.time.w0 % 2 ^ 16 * 2 ^ 16) }] } ∧
        u.rb (Reg.hdrIraw Page.hop) 0 = true ∧ OffRegs [Reg.hdrIraw Page.hop] s u ∧
        u = { s with regs := u.regs, w1set := u.w1set, hop := u.hop })) ∧
    (32 ≤ s.hop.fwq.length ∨ 32 ≤ s.hop.doneq.length ∧ (s.moveTest m false).isSome = true →
      Completes (.move1Post req v) s dropped)) ∧
   (∀ (d : MoveDone) (rest : List MoveDone), s.hop.doneq = d :: rest →
     Completes (.mvdone0Read req) s (fun u =>
       u.rdata = [d.w0] ∧ u.shadow req.index Reg.hopMvdone1 = d.w1 ∧
       u = { s with hop := { s.hop with doneq := rest, lastDone := d }, rdata := u.rdata, shadows := u.shadows })) ∧
   (s.hop.doneq = [] →
     Completes (.mvdone0Read req) s (fun u =>
       u.rdata = [s.hop.lastDone.w0] ∧ u.rb Reg.hopMvsta 15 = true ∧ u.rb (Reg.hdrIraw Page.hop) 7 = true ∧
       OffRegs [Reg.hopMvsta, Reg.hdrIraw Page.hop] s u ∧
       u = { s with regs := u.regs, w1set := u.w1set, rdata := u.rdata, shadows := u.shadows })))

/-- A migration's steps (R55, R79): the start takes the next move of the queues' order and tests it afresh; the hold takes the destination
seat, refusing an OPEN that reaches the lane in its cycle (R388), or ends the move; PINWAIT without a gap pins the lane; the copy carries
the records and the context word for word, or ends ABORTED where the destination is to be retired; the destination's acknowledgement lets
the flip be issued; the flip gives the lane its new seat, keeps PIN, and counts, and retires the tile that it leaves empty (R86); a release
counts the held dispatches (R81); a mark waits for the end of a hold and changes QUAL and STALE only (R36, R82). The choices of the model
in it: assumption 36. -/
def Obligations.Migrations : Prop := ∀ (s : State),
  (∀ m : Move, s.nextMove = some m → s.hopperOn = true →
    let test := (s.dequeue m).moveTest m false
    Completes .migrationStart s (fun u =>
      (test = none →
        u.hop.migs.map (·.move) = s.hop.migs.map (·.move) ++ [m] ∧ u.hop.doneq = s.hop.doneq ∧
        ∃ f, u.hop.migs.getLast? = some {
          move := m, srcTile := mapTile (s.mapEntry m.lane), srcLane := mapLane (s.mapEntry m.lane), firstTest := f }) ∧
      (∀ st ∈ test, u.hop.migs = s.hop.migs ∧ u.tiles = s.tiles ∧ u.clusters = s.clusters ∧
        (s.hop.doneq.length < 32 → u.hop.doneq = s.hop.doneq ++ [{
          w0 := w32 (m.lane + st * 2 ^ 16 + m.tag * 2 ^ 24), w1 := w32 (s.mapEntry m.lane + s.time.w0 % 2 ^ 16 * 2 ^ 16) }])) ∧
      u.hop.retireq = (if m.cls = .retire then s.hop.retireq.erase m else s.hop.retireq) ∧
      u.hop.fwq = (if m.cls = .firmware then s.hop.fwq.erase m else s.hop.fwq) ∧
      u.hop.policyq = (if m.cls = .policy then s.hop.policyq.erase m else s.hop.policyq) ∧ OffPages [Page.hop] s u ∧
      u = { s with regs := u.regs, w1set := u.w1set, hop := u.hop, tiles := u.tiles, clusters := u.clusters,
                   pwr := { s.pwr with rampAt := u.pwr.rampAt } })) ∧
  (∀ (lane : Fin 16384) (g : Mig), s.mig? lane = some g →
    let ended := s.hop.migs.filter (fun m => m.move.lane != g.move.lane)
    let done := fun (st e : Nat) (u : State) => s.hop.doneq.length < 32 → u.hop.doneq = s.hop.doneq ++
      [{ w0 := w32 (g.move.lane + st * 2 ^ 16 + g.move.tag * 2 ^ 24), w1 := w32 (e + s.time.w0 % 2 ^ 16 * 2 ^ 16) }]
    (g.phase = .copied →
      Completes (.fabricWriteAck (.migration lane)) s (fun u => u = s.setMig lane { g with phase := .acked })) ∧
    (s.mayHold g = true →
      (s.moveTest g.move true = none →
        Completes (.migrationHold lane) s (fun u =>
          u.hop = (s.setMig g.move.lane { g with
            phase := .copying, dstLane := g.move.seat.getD ((s.lowestFree g.move.tile).getD 0),
            held := [0, 1, 2, 3].map s.high }).hop ∧
          (∀ k, (s.core k).ppoint.any (fun o => o.point / 64 == lane.val && o.fab == s.time.fab) = true →
            u.core k = { s.core k with ppoint := none }.setDev Dev.ppsta 2 false) ∧
          (∀ k, (s.core k).ppoint.any (fun o => o.point / 64 == lane.val && o.fab == s.time.fab) = false → u.core k = s.core k) ∧
          u = { s with hop := u.hop, cores := u.cores })) ∧
      (∀ st : Nat, s.moveTest g.move true = some st → g.marks = [] →
        Completes (.migrationHold lane) s (fun u =>
          u.hop.migs = ended ∧ done st (s.mapEntry g.move.lane) u ∧ OffPages [Page.hop] s u ∧
          u = { s with regs := u.regs, w1set := u.w1set, hop := u.hop }))) ∧
    (s.pinDue g = true → g.marks = [] →
      Completes (.pinned lane) s (fun u =>
        (s.unarmed = true → mapPin (u.mapEntry lane) = true ∧ u.mapEntry lane % 128 = s.mapEntry lane % 128 ∧
          u.mapEntry lane / 256 = s.mapEntry lane / 256 ∧ OffUnit State.mapEntry lane s u ∧ done 9 (u.mapEntry lane) u) ∧
        u.rb (Reg.hdrIraw Page.hop) 1 = true ∧ u.hop.migs = ended ∧
        OffPages [Page.hop, Page.ecc] s u ∧ OffStores [Store.laneMap] s u ∧
        u = { s with regs := u.regs, w1set := u.w1set, words := u.words, hop := u.hop })) ∧
    (g.phase = .copying → g.srcLane < 128 → g.dstLane < 128 → g.move.tile < 128 →
      let copied := fun (u : State) => s.unarmed = true → g.srcTile ≠ g.move.tile →
        (∀ i < 256, u.rawWord (Store.tile g.move.tile 0) (recWord g.dstLane 0 + i) =
          s.rawWord (Store.tile g.srcTile 0) (recWord g.srcLane 0 + i)) ∧
        (∀ i < 32, u.rawWord (Store.tile g.move.tile 0) (ctxWord g.dstLane + i) =
          s.rawWord (Store.tile g.srcTile 0) (ctxWord g.srcLane + i))
      (s.retPend g.move.tile = false →
        Completes (.migrationCopyDone lane) s (fun u =>
          u.hop = (s.setMig g.move.lane { g with phase := .copied }).hop ∧ copied u ∧
          OffRegs [Reg.hdrPgsta Page.hop, Reg.eccEinj0, Reg.hdrIraw Page.ecc] s u ∧ OffStores [Store.tile g.move.tile 0] s u ∧
          u = { s with regs := u.regs, w1set := u.w1set, words := u.words, hop := u.hop })) ∧
      (s.retPend g.move.tile = true → g.marks = [] →
        Completes (.migrationCopyDone lane) s (fun u =>
          u.hop.migs = ended ∧ done 10 (s.mapEntry g.move.lane) u ∧
          u.rd Reg.hopLatecnt = s.rd Reg.hopLatecnt + w32 (s.heldCount g) ∧ OffPages [Page.hop, Page.ecc] s u ∧
          u = { s with regs := u.regs, w1set := u.w1set, words := u.words, hop := u.hop }))) ∧
    (s.mayFlip g = true → g.srcTile < 128 → g.move.tile < 128 → g.dstLane < 128 → g.marks = [] →
      let e := mkMap g.move.tile g.dstLane (mapPin (s.mapEntry lane))
      Completes (.mapFlip lane) s (fun u =>
        (s.unarmed = true → u.mapEntry lane = e ∧ OffUnit State.mapEntry lane s u ∧
          done 0 (g.dstLane + g.move.tile * 256 + 2 ^ 15) u ∧
          (s.retPend g.srcTile = true → u.lanesOn g.srcTile = [] → u.retired g.srcTile = true ∧ u.retPend g.srcTile = false ∧
            u.hop.retMapDirty = true)) ∧
        u.rd Reg.hopMigcnt = s.rd Reg.hopMigcnt + 1 ∧
        u.rd Reg.hopLatecnt = s.rd Reg.hopLatecnt + w32 ((s.setMapEntry lane e).heldCount g) ∧
        u.hop.flips = s.hop.flips ++ [{ lane := lane, entry := e, freed := seatOf g.srcTile g.srcLane }] ∧
        u.hop.migs = ended ∧ OffPages [Page.hop, Page.hoplim1, Page.ecc] s u ∧ OffStores [Store.laneMap] s u ∧
        u = { s with regs := u.regs, w1set := u.w1set, words := u.words, tiles := u.tiles, hop := u.hop })) ∧
    (∀ x : Mark, s.releaseLane { g with marks := g.marks ++ [x] } = (s.releaseLane g).mark x)) ∧
  (∀ x : Mark,
    let e := s.mapEntry (x.point / 64)
    let st := Store.tile (mapTile e) 0
    let i := recWord (mapLane e) (x.point % 64)
    (s.laneHeld (x.point / 64) = true → mapValid e = true →
      s.mark x = { s with hop := { s.hop with migs := s.hop.migs.map (fun g =>
        if g.move.lane = x.point / 64 then { g with marks := g.marks ++ [x] } else g) } }) ∧
    (s.laneHeld (x.point / 64) = false → mapValid e = true → s.tileAwake (mapTile e) = true → s.clean st i 1 = true →
      let u := s.mark x
      let w := (s.peekWord st i).toNat
      let w' := (u.peekWord st i).toNat
      (s.unarmed = true → natField w' 24 8 = x.qual.toNat ∧ w'.testBit 18 = x.stale ∧
        ∀ b, b ≠ 18 → b < 24 ∨ 32 ≤ b → w'.testBit b = w.testBit b) ∧
      u.rd (Reg.tileCommits (mapTile e)) = s.rd (Reg.tileCommits (mapTile e)) + 1 ∧
      OffRegs [Reg.tileCommits (mapTile e), Reg.eccEinj0, Reg.hdrIraw Page.ecc] s u ∧
      (∀ j < 2 ^ 40, j ≠ i → u.rawWord st j = s.rawWord st j) ∧ OffStores [st] s u ∧
      u = { s with regs := u.regs, w1set := u.w1set, words := u.words }))

/-- The map: MAPDAT writes an entry while HCTL.EN = 0, no migration is in flight and no other lane holds the seat, and is refused with
MAPREJ otherwise (R14, R56); PINCLR clears PIN (R85); the journal takes the oldest flip (R55, R413). Posted writes of a core act in order
(R359). The point read port: PRDPT starts a read and shows BUSY (R88); its end copies the record's four words to PRDW with the tag, a
poisoned one as all ones with POISON, or shows UNMAPPED, and after a soft reset of HOP is discarded (R88, R89, R553). The choices of the
model in it: assumption 36. -/
def Obligations.LaneMap : Prop :=
  (∀ (s : State),
   (∀ (req : Req) (v : Word), s.reaches req Page.hop = true →
     (let lane := s.rf Reg.hopMapidx 0 14
      let e := field v 0 16
      let clash := mapValid e && s.seated.any (fun x => x.1 != lane && x.2 / 256 == e / 256 && mapLane x.2 == mapLane e)
      (s.rb Reg.hopHctl 0 = false → s.hop.migs = [] → clash = false →
        Completes (.mapdatWrite req v) s (fun u =>
          (s.unarmed = true → u.mapEntry lane = e ∧ OffUnit State.mapEntry lane s u ∧ u.regs = s.regs) ∧
          OffPages [Page.ecc] s u ∧ OffStores [Store.laneMap] s u ∧ u = { s with regs := u.regs, w1set := u.w1set, words := u.words })) ∧
      (s.rb Reg.hopHctl 0 = true ∨ s.hop.migs ≠ [] ∨ clash = true →
        Completes (.mapdatWrite req v) s (fun u => u = (s.setb Reg.hopHsta 6 true).raise Page.hop 8))) ∧
     (let lane := field v 0 14
      Completes (.pinclrWrite req v) s (fun u =>
        (s.unarmed = true → mapPin (u.mapEntry lane) = false ∧ u.mapEntry lane % 128 = s.mapEntry lane % 128 ∧
          OffUnit State.mapEntry lane s u) ∧
        (mapPin (s.mapEntry lane) = false → u = s) ∧
        OffPages [Page.ecc] s u ∧ OffStores [Store.laneMap] s u ∧ u = { s with regs := u.regs, w1set := u.w1set, words := u.words }))) ∧
   (∀ (f : Flip) (rest : List Flip), s.hop.flips = f :: rest →
     Completes .mapJournalWrite s (fun u =>
       let seq := (s.flash.mapLogSeq + 1) % 2 ^ 32
       u.hop = { s.hop with flips := rest } ∧ u.flash.mapLogSeq = seq ∧
       (s.unarmed = true → s.pwr.pgoodFell = none →
         (u.peekWord Store.journal (0x6000 + seq % 4096)).toNat = (f.lane + f.entry * 2 ^ 16 + seq * 2 ^ 32) % 2 ^ 64) ∧
       OffPages [Page.ecc] s u ∧ OffStores [Store.journal] s u ∧
       u = { s with regs := u.regs, w1set := u.w1set, words := u.words, hop := u.hop, flash := u.flash, jwait := u.jwait })) ∧
   (∀ (k : Fin 256) (a : Nat) (w : Word) (rest : List (Nat × Word)), (s.core k).posted = (a, w) :: rest →
     Completes (.fabricWriteAck (.core k)) s (fun u =>
       u = (s.onCore k (fun c => { c with posted := rest })).busWrite k a w))) ∧
  (∀ (s : State),
   (∀ (req : Req) (v : Word), s.reaches req Page.hop = true →
     Completes (.prdptWrite req v) s (fun u =>
       u.rd Reg.hopPrdpt = v &&& 0xFF0FFFFF ∧ u.rb Reg.hopPrdsta 0 = true ∧
       u.hop = { s.hop with prd := some (field v 0 20, field v 24 8), prdDiscard := false } ∧
       (let e := s.mapEntry (field v 0 20 / 64)
        mapValid e = true → (u.tile (mapTile e)).awake = true ∨ (u.tile (mapTile e)).waking = true) ∧
       OffRegs [Reg.hopPrdpt, Reg.hopPrdsta] s u ∧
       u = { s with regs := u.regs, hop := u.hop, tiles := u.tiles, clusters := u.clusters,
                    pwr := { s.pwr with rampAt := u.pwr.rampAt } })) ∧
   (∀ p tag : Nat, s.hop.prd = some (p, tag) → s.pointReadReady = true → s.hop.prdDiscard = true →
     Completes .pointReadDone s (fun u => u = { s with hop := { s.hop with prd := none, prdDiscard := false } })) ∧
   (∀ p tag : Nat, s.hop.prd = some (p, tag) → s.pointReadReady = true → s.hop.prdDiscard = false →
     let e := s.mapEntry (p / 64)
     let st := Store.tile (mapTile e) 0
     let i := recWord (mapLane e) (p % 64)
     (mapValid e = true → s.clean st i 4 = true →
       Completes .pointReadDone s (fun u =>
         (∀ j < 4, u.rd64 (Reg.hopPrdw (2 * j)) (Reg.hopPrdw (2 * j + 1)) = (s.peekWord st (i + j)).toNat) ∧
         u.rd Reg.hopPrdsta = w32 (tag * 2 ^ 24) ∧ u.hop = { s.hop with prd := none } ∧
         OffRegs (Reg.hopPrdsta :: (List.range 8).map (fun j => Reg.hopPrdw j)) s u ∧ u = { s with regs := u.regs, hop := u.hop })) ∧
     (mapValid e = true → s.clean st i 4 = false →
       Completes .pointReadDone s (fun u =>
         (∀ j < 4, checkWord (s.rawWord st (i + j)) = .poison ∨ checkWord (s.rawWord st (i + j)) = .uncorrectable →
           u.rd64 (Reg.hopPrdw (2 * j)) (Reg.hopPrdw (2 * j + 1)) = 2 ^ 64 - 1 ∧ u.rb Reg.hopPrdsta 1 = true) ∧
         (∀ j < 4, ∀ d, checkWord (s.rawWord st (i + j)) = .good d ∨ checkWord (s.rawWord st (i + j)) = .corrected d →
           u.rd64 (Reg.hopPrdw (2 * j)) (Reg.hopPrdw (2 * j + 1)) = d.toNat) ∧
         u.rb Reg.hopPrdsta 0 = false ∧ u.hop = { s.hop with prd := none } ∧
         OffPages [Page.hop, Page.tile (mapTile e), Page.ecc] s u ∧ OffStores [st] s u ∧
         u = { s with regs := u.regs, w1set := u.w1set, words := u.words, errs := u.errs, hop := u.hop, tiles := u.tiles })) ∧
     (mapValid e = false →
       Completes .pointReadDone s (fun u =>
         (∀ j < 8, u.rd (Reg.hopPrdw j) = 0) ∧ u.rd Reg.hopPrdsta = w32 (4 + tag * 2 ^ 24) ∧
         u.hop = { s.hop with prd := none } ∧
         OffRegs (Reg.hopPrdsta :: (List.range 8).map (fun j => Reg.hopPrdw j)) s u ∧ u = { s with regs := u.regs, hop := u.hop }))))

/-- Retirement, gates and wakes: an uncorrectable word puts its tile into retire-pending and calls for an evaluation (R57, R86); the
retired map is journaled, and RETIREn clears bits, but those set in the same FAB cycle, unless HOPLIM1 is locked (R86, R87, R449); a tile
or cluster that may be gated is (R353, R485); a wake ends with its count (R123, R353), and a guard starts the wakes it calls for and
counts them (R123), the ramps of two clusters 1 µs apart (R509). The choices of the model in it: assumption 3. -/
def Obligations.Gating : Prop := ∀ (s : State),
  (∀ t : Fin 128,
    ((s.tile t).uncorr = true → s.retired t = false → s.retPend t = false →
      Completes (.tileRetirePending t) s (fun u =>
        u.retPend t = true ∧ u.hop = { s.hop with outOfTurn := true } ∧ u.tile t = { s.tile t with uncorr := false } ∧
        u.rb (Reg.hdrIraw Page.hop) 3 = true ∧ OffUnit State.tile t s u ∧
        OffRegs [Reg.hoplim1Retpend (t / 32), Reg.hdrIraw Page.hop] s u ∧
        u = { s with regs := u.regs, w1set := u.w1set, hop := u.hop, tiles := u.tiles })) ∧
    ((s.tile t).uncorr = true → s.retired t = true ∨ s.retPend t = true →
      Completes (.tileRetirePending t) s (fun u => u = s.setTile t { s.tile t with uncorr := false })) ∧
    (s.mayGateTile t = true →
      Completes (.tileGate (.tile t)) s (fun u => u = s.setTile t { s.tile t with awake := false, waking := false })) ∧
    ((s.tile t).waking = true → (s.cluster (t / 16)).awake = true →
      Completes (.tileWakeDone t) s (fun u =>
        u.tile t = { s.tile t with awake := true, waking := false } ∧ u.rd (Reg.cluTwake (t / 16)) = s.rd (Reg.cluTwake (t / 16)) + 1 ∧
        u.hop.migs.map (·.move) = s.hop.migs.map (·.move) ∧
        OffUnit State.tile t s u ∧ OffRegs [Reg.cluTwake (t / 16)] s u ∧
        u = { s with regs := u.regs, tiles := u.tiles, hop := { s.hop with migs := u.hop.migs } })) ∧
    (s.millOn = true →
      Completes (.wakeGuard t) s (fun u =>
        (s.withinGuard t 3000 = true → (s.tile t).awake = false → (u.tile t).waking = true) ∧
        (s.withinGuard t 40000 = true → (s.cluster (t / 16)).awake = false →
          (u.cluster (t / 16)).waking = true ∨ (u.cluster (t / 16)).asked = true) ∧
        (s.withinGuard t 3000 = false → u.tile t = s.tile t) ∧
        (s.withinGuard t 40000 = false → u.cluster (t / 16) = s.cluster (t / 16)) ∧
        (let starts := fun (x y : Bool) => b2n (!x && y)
         u.rd (Reg.mrcWakecnt (t / 16)) = s.rd (Reg.mrcWakecnt (t / 16)) +
           w32 (starts (s.tile t).waking (u.tile t).waking +
             starts ((s.cluster (t / 16)).waking || (s.cluster (t / 16)).asked)
               ((u.cluster (t / 16)).waking || (u.cluster (t / 16)).asked))) ∧
        OffUnit State.tile t s u ∧ OffUnit State.cluster (t / 16) s u ∧ OffRegs [Reg.mrcWakecnt (t / 16)] s u ∧
        u = { s with regs := u.regs, tiles := u.tiles, clusters := u.clusters, pwr := { s.pwr with rampAt := u.pwr.rampAt } }))) ∧
  (∀ c : Fin 8,
    (s.mayGateCluster c = true →
      Completes (.tileGate (.cluster c)) s (fun u =>
        u.cluster c = { s.cluster c with awake := false, waking := false } ∧ u.rb (Reg.hdrIraw (Page.clu c)) 1 = true ∧
        OffUnit State.cluster c s u ∧ OffRegs [Reg.hdrIraw (Page.clu c)] s u ∧
        u = { s with regs := u.regs, w1set := u.w1set, clusters := u.clusters })) ∧
    ((s.cluster c).asked = true → (∀ d < c.val, (s.cluster d).asked = false) →
      (s.rampFree = true → s.tickRamp.cluster c = { s.cluster c with waking := true, asked := false } ∧
        (∀ f, State.rampFree { s.tickRamp with time := { s.time with fab := f } } = decide (s.time.fab + 400 ≤ f))) ∧
      (s.rampFree = false → s.tickRamp = s)) ∧
    ((s.cluster c).waking = true →
      Completes (.clusterWakeDone c) s (fun u =>
        u.cluster c = { s.cluster c with awake := true, waking := false } ∧
        ((s.cluster c).awake = false → u.rd (Reg.cluCwake c) = s.rd (Reg.cluCwake c) + 1 ∧
          u.rb (Reg.hdrIraw (Page.clu c)) 0 = true) ∧
        ((s.cluster c).awake = true → u.regs = s.regs) ∧
        OffUnit State.cluster c s u ∧ OffPages [Page.clu c] s u ∧
        u = { s with regs := u.regs, w1set := u.w1set, clusters := u.clusters, hop := { s.hop with migs := u.hop.migs } }))) ∧
  (s.hop.retMapDirty = true →
    Completes .retiredMapJournalWrite s (fun u =>
      let slot := (s.flash.retSlot + 1) % 16
      u.hop = { s.hop with retMapDirty := false } ∧ u.flash.retSlot = slot ∧
      u.flash.retGen = (s.flash.retGen + 1) % 2 ^ 32 ∧
      (s.unarmed = true → s.pwr.pgoodFell = none →
        natField (u.peekWord Store.journal (0x40 + 4 * slot + 3)).toNat 0 32 = u.flash.retGen ∧
        (u.peekWord Store.journal (0x40 + 4 * slot)).toNat =
          (s.rd (Reg.hoplim1Retire 0)).toNat + (s.rd (Reg.hoplim1Retire 1)).toNat * 2 ^ 32 ∧
        (u.peekWord Store.journal (0x40 + 4 * slot + 1)).toNat =
          (s.rd (Reg.hoplim1Retire 2)).toNat + (s.rd (Reg.hoplim1Retire 3)).toNat * 2 ^ 32) ∧
      OffPages [Page.ecc] s u ∧ OffStores [Store.journal] s u ∧
      u = { s with regs := u.regs, w1set := u.w1set, words := u.words, hop := u.hop, flash := u.flash, jwait := u.jwait })) ∧
  (∀ (req : Req) (n : Fin 4) (v : Word), s.reaches req Page.hoplim1 = true →
    let w := s.clears (Reg.hoplim1Retire n) v
    (s.lockedFor Page.hoplim1 = false →
      Completes (.retireClear req n v) s (fun u =>
        u.rd (Reg.hoplim1Retire n) = s.rd (Reg.hoplim1Retire n) &&& ~~~ w ∧
        (s.rd (Reg.hoplim1Retire n) &&& w ≠ 0 → u.hop = { s.hop with retMapDirty := true }) ∧
        (s.rd (Reg.hoplim1Retire n) &&& w = 0 → u = s) ∧
        OffRegs [Reg.hoplim1Retire n] s u ∧ u = { s with regs := u.regs, hop := u.hop })) ∧
    (s.lockedFor Page.hoplim1 = true → Completes (.retireClear req n v) s (fun u => u = s)))

/-! ### Flash, journal page and data integrity (12 R396-R441) -/

/-- A write of FCMD3 posts the command that FCMD0-FCMD3 spell, behind those queued (R424, R425); a reserved USE keeps the field (R8); a
full queue loses it and a disabled controller ends it ABORTED (R424, R426); a READ of the suspended block ends at once, its target poisoned
(R431); SUSPEND and RESUME act at the end of the FAB cycle of their post, after an erase that completes in it (R430, R432). The choices of
the model in it: assumption 13. -/
def Obligations.FlashPosts : Prop :=
  (∀ (s : State) (req : Req) (v : Word), s.reaches req Page.flc = true →
   let w := v &&& 0xFF07FF
   let kept := if 3 ≤ field w 7 4 then putField w 7 4 (s.rf Reg.flcFcmd3 7 4) else w
   let c := s.flashCmdOf kept
   let t := s.wr Reg.flcFcmd3 kept
   let on := s.rb Reg.flcFctl 0 && s.pageEn Page.flc
   let blocked := s.flash.suspended.any (fun e => e.block == c.block && e.param == c.param)
   (∀ x : Instr × Nat, x ∈ [(.flashRead req v, 1), (.prog req v, 2), (.erase req v, 3), (.suspend req v, 4), (.resume req v, 5),
       (.markbad req v, 6), (.flashClose req v, 7)] → field v 0 4 = x.2 →
     (s.flash.queue.length < 32 → on = true → x.2 ≠ 4 → x.2 ≠ 5 → (x.2 = 1 → blocked = false) →
       Completes x.1 s (fun u => u = { t with flash := { s.flash with queue := s.flash.queue ++ [c] } })) ∧
     (s.flash.queue.length < 32 → on = true → x.2 = 4 ∨ x.2 = 5 →
       Completes x.1 s (fun u => u = { t with flash := { s.flash with asks := s.flash.asks ++ [c] } })) ∧
     (32 ≤ s.flash.queue.length →
       Completes x.1 s (fun u =>
         u.rb Reg.flcFsta 14 = true ∧ u.rf Reg.flcFsta 16 16 = (s.rf Reg.flcFsta 16 16 + 1) % 2 ^ 16 ∧
         u.rb (Reg.hdrIraw Page.flc) 6 = true ∧ OffRegs [Reg.flcFcmd3, Reg.flcFsta, Reg.hdrIraw Page.flc] s u ∧
         u = { s with regs := u.regs, w1set := u.w1set })) ∧
     (s.flash.queue.length < 32 → s.flash.doneq.length < 32 → on = false →
       Completes x.1 s (fun u =>
         u = ((State.raise { t with flash := { s.flash with doneq := s.flash.doneq ++ [c.entry 13 false false 0] } }
           Page.flc 0).raise Page.flc 1)))) ∧
   (field v 0 4 = 1 → s.flash.queue.length < 32 → s.flash.doneq.length < 32 → on = true → blocked = true → s.badTarget c = false →
     s.tileAwake c.tile = true →
     Completes (.flashRead req v) s (fun u =>
       u.flash = { s.flash with doneq := s.flash.doneq ++ [c.entry 4 false false 0] } ∧
       (s.unarmed = true → ∀ k < c.moved, u.rawWord (Store.tile c.tile 0) (c.targetWord + k) = poisonWord) ∧
       u.rd Reg.flcSuspblk = s.rd Reg.flcSuspblk + 1 ∧ u.rb (Reg.hdrIraw Page.flc) 1 = true ∧
       OffPages [Page.flc, Page.ecc] s u ∧ OffStores [Store.tile c.tile 0] s u ∧
       u = { s with regs := u.regs, w1set := u.w1set, words := u.words, flash := u.flash }))) ∧
  (∀ (s : State) (c : FlashCmd), s.flash.asks = [c] → s.flash.doneq.length < 32 →
   let u := s.takeAsks
   let ended := fun (st : Nat) =>
     u.flash = { s.flash with asks := [], doneq := s.flash.doneq ++ [c.entry st false false 0] } ∧ OffPages [Page.flc] s u ∧
     u = { s with regs := u.regs, w1set := u.w1set, flash := u.flash }
   (c.op = 4 →
     (∀ e : FlashCmd, s.flash.running = some e → e.op = 3 → s.flash.suspCount < s.rf Reg.flcFctl 4 8 → s.rb Reg.flcFctl 1 = false →
       let mine := fun (c : FlashCmd) => c.op == 1 && c.block == e.block && c.param == e.param
       u.flash.running = none ∧ u.flash.suspended = some e ∧ u.flash.suspCount = s.flash.suspCount + 1 ∧
       u.flash.queue = s.flash.queue.filter (fun c => !mine c) ∧ u.rd Reg.flcSuspcnt = s.rd Reg.flcSuspcnt + 1 ∧
       (s.flash.queue.any mine = false →
         u.flash.doneq = s.flash.doneq ++ [c.entry 0 false false 0] ∧ OffPages [Page.flc] s u ∧
         u = { s with regs := u.regs, w1set := u.w1set, flash := u.flash })) ∧
     (s.flash.running.any (fun e => e.op == 3 && decide (s.flash.suspCount < s.rf Reg.flcFctl 4 8)) = false → ended 12)) ∧
   (c.op = 5 →
     (∀ e : FlashCmd, s.flash.suspended = some e →
       u.flash.doneq = s.flash.doneq ++ [c.entry 0 false false 0] ∧
       (s.flash.running = none → s.pwr.target = none → s.pwr.state = .run →
         u.flash.running = some e ∧ u.flash.suspended = none) ∧
       (∀ r : FlashCmd, s.flash.running = some r →
         u.flash.running = some r ∧ u.flash.suspended = some e ∧ u.flash.resumeWanted = true) ∧
       OffPages [Page.flc] s u ∧ u = { s with regs := u.regs, w1set := u.w1set, flash := u.flash }) ∧
     (s.flash.suspended = none → ended 12)))

/-- The next command leaves the queue and runs, or ends with the status that refuses it (R417, R422, R425): a READ beside a running erase
suspends it (R430) and wakes its target's tile (R353); a PROG carries its words from the tile, or from the staging buffer, check bytes as
they stand (R401, R425, R438); an ERASE writes its intent (R434), and waits while ERATE erases have started within a second (R420); a
MARKBAD makes its block grown bad (R422). The choices of the model in it: assumption 13. -/
def Obligations.FlashStart : Prop := ∀ (s : State) (c : FlashCmd), s.runnable? = some c → s.flashOn = true → s.pwr.target = none →
  (s.flashRefusal c = none → (c.op = 3 → c.param = false → s.recentErases < max 1 (s.rf Reg.flcErate 0 8)) →
    c.op = 1 ∨ c.op = 2 ∨ c.op = 3 ∨ c.op = 7 →
    Completes .flashOpStart s (fun u =>
      u.flash.running = some c ∧
      (s.flash.running = none → u.flash.queue.take (s.flash.queue.length - 1) = s.flash.queue.erase c ∧
        u.flash.suspended = s.flash.suspended) ∧
      (∀ e : FlashCmd, s.flash.running = some e → u.flash.suspended = some e) ∧
      (c.op = 1 → u.rd Reg.flcReads = s.rd Reg.flcReads + 1 ∧ (s.pwr.state = .run → u.tileAwake c.tile = true)) ∧
      (c.op = 2 ∨ c.op = 7 → u.rd Reg.flcProgs = s.rd Reg.flcProgs + 1) ∧
      (c.op = 2 → u.pageProgrammed c.key = true ∧
        (s.unarmed = true → c.staged = false → ∀ i < c.moved,
          u.rawWord c.store (c.word + i) = s.rawWord (Store.tile c.tile 0) (c.targetWord + i)) ∧
        (s.unarmed = true → c.staged = true → c.param = false → ∀ i < 2016,
          u.rawWord Store.flashMain (c.word + i) =
            if i < s.flash.stageLen then s.rawWord Store.staging ((s.flash.stageRd + i) % 8192) else 0)) ∧
      (c.op = 3 → u.rd Reg.flcErases = s.rd Reg.flcErases + 1 ∧ u.flash.intentSlot = (s.flash.intentSlot + 1) % 16 ∧
        u.flash.intentGen = (s.flash.intentGen + 1) % 2 ^ 32 ∧ (c.param = false → u.flash.eraseAt.head? = some s.time.fab) ∧
        (s.unarmed = true → s.pwr.pgoodFell = none →
          (u.peekWord Store.journal (0x20 + 2 * u.flash.intentSlot)).toNat =
            (c.block + b2n c.param * 2 ^ 14 + s.eraseCount c % 2 ^ 16 * 2 ^ 16 + 2 ^ 32) % 2 ^ 64)) ∧
      OffPages ([Page.flc, Page.ecc] ++ (List.range 8).map (fun c => Page.clu c)) s u ∧
      u = { s with regs := u.regs, w1set := u.w1set, words := u.words, flashWords := u.flashWords, flash := u.flash, tiles := u.tiles,
                   clusters := u.clusters, jwait := u.jwait, orders := u.orders, hop := { s.hop with migs := u.hop.migs },
                   pwr := { s.pwr with rampAt := u.pwr.rampAt } })) ∧
  (∀ st : Nat, s.flashRefusal c = some st → s.flash.running = none → st ≠ 8 → s.flash.doneq.length < 32 →
    Completes .flashOpStart s (fun u =>
      u.flash.doneq = s.flash.doneq ++ [c.entry st false false 0] ∧
      u.flash.queue.take (s.flash.queue.length - 1) = s.flash.queue.erase c ∧ u.rb (Reg.hdrIraw Page.flc) 1 = true ∧
      OffPages [Page.flc] s u ∧ u = { s with regs := u.regs, w1set := u.w1set, flash := u.flash, orders := u.orders })) ∧
  (c.op = 3 → c.param = false → s.flashRefusal c = none → max 1 (s.rf Reg.flcErate 0 8) ≤ s.recentErases →
    Completes .flashOpStart s (fun u =>
      u.flash.running = s.flash.running ∧ u.flash.queue.take s.flash.queue.length = s.flash.queue ∧
      u.rd Reg.flcRatew = s.rd Reg.flcRatew + (if s.flash.rateWaited then 0 else 1) ∧ u.flash.rateWaited = true ∧
      OffPages [Page.flc] s u ∧ u = { s with regs := u.regs, w1set := u.w1set, flash := u.flash, orders := u.orders })) ∧
  (c.op = 6 → s.flash.running = none → c.param = false → c.block < 16384 → s.flash.doneq.length < 32 →
    Completes .flashOpStart s (fun u =>
      u.flash.doneq = s.flash.doneq ++ [c.entry 0 false false 0] ∧
      u.flash.queue.take (s.flash.queue.length - 1) = s.flash.queue.erase c ∧ u.rb (Reg.hdrIraw Page.flc) 2 = true ∧
      (s.unarmed = true → s.pwr.pgoodFell = none → entState (u.blockEnt c.block) = 2 ∧
        (entState (s.blockEnt c.block) < 2 → u.rf Reg.flcGrownbad 0 14 = (s.rf Reg.flcGrownbad 0 14 + 1) % 2 ^ 14)) ∧
      OffPages [Page.flc, Page.ecc] s u ∧ OffStores [Store.journal, Store.flashParam] s u ∧
      u = { s with regs := u.regs, w1set := u.w1set, words := u.words, flashWords := u.flashWords, flash := u.flash,
                   jwait := u.jwait, orders := u.orders }))

/-- A READ ends (R427): its target's tile is awake; an erased page reads as all ones, one whose program or erase was cut off as free values
(R436); a page whose words are good or correctable arrives corrected; of a STRIPE block a bad page is rebuilt from the others; any other
ends UNCORR. FDONE0 returns the oldest completion (R426). The choices of the model in it: assumption 13. -/
def Obligations.FlashReads : Prop := ∀ (s : State),
  (∀ (c : FlashCmd) (flips : List (Nat × BitVec 72)) (ldpc : Bool),
    s.flash.running = some c → c.op = 1 → s.flashOn = true → c.target < 2 ^ 19 → s.flash.doneq.length < 32 →
    let s1 := s.wakeServed c.tile
    let torn := s.flash.torn.contains c.key
    let page := s1.pageWords c
    let die := (List.range c.words).map (fun i => page.1.getD i 0 ^^^ ((flips.find? (fun x => x.1 == i)).map (·.2)).getD 0)
    let r := sumRead die
    let ended := fun (ws : List CWord) (st k : Nat) (u : State) =>
      (s.unarmed = true → ∀ i < c.moved, u.rawWord (Store.tile c.tile 0) (c.targetWord + i) = ws.getD (c.span.1 + i) 0) ∧
      u.flash.doneq = s.flash.doneq ++ [c.entry st false false k] ∧
      OffPages [Page.flc, Page.ecc] s1 u ∧ OffStores [Store.tile c.tile 0] s u ∧
      u = { s1 with regs := u.regs, w1set := u.w1set, words := u.words, errs := u.errs, flash := u.flash, freeCtr := u.freeCtr }
    let rebuilt := c.param = false ∧ modeStripe (s.blockMode c.block) = true ∧ s.pageProgrammed (c.block * 256 + 254) = true
    (torn = false → ∀ i < c.words, page.1.getD i 0 = s.rawWord c.store (c.word + i)) ∧
    (s.pageProgrammed c.key = false → torn = false →
      Completes (.flashReadDone flips ldpc) s (ended (List.replicate c.words erasedWord) 1 0)) ∧
    (s.pageProgrammed c.key = true ∨ torn = true →
      (r.bad = 0 → ldpc = false →
        Completes (.flashReadDone flips ldpc) s (fun u => ended r.out 0 r.corrected u ∧
          u.rd (Reg.hdrErrcnt Page.flc) = s.rd (Reg.hdrErrcnt Page.flc) + BitVec.ofNat 32 r.corrected)) ∧
      (r.bad ≠ 0 ∨ ldpc = true → rebuilt →
        Completes (.flashReadDone flips ldpc) s (ended ((List.range 2048).map (s.stripeXor c.block c.page)) 3 r.corrected)) ∧
      (r.bad ≠ 0 ∨ ldpc = true → ¬ rebuilt →
        Completes (.flashReadDone flips ldpc) s (fun u => ended r.out 2 r.corrected u ∧ u.rd Reg.eccUecnt = s.rd Reg.eccUecnt + 1 ∧
          u.rb (Reg.hdrIraw Page.flc) 1 = true)))) ∧
  (∀ (req : Req), s.reaches req Page.flc = true →
    (∀ (d : Word × Word) (rest : List (Word × Word)), s.flash.doneq = d :: rest →
      Completes (.fdone0Read req) s (fun u =>
        u.rdata = [d.1] ∧ u.shadow req.index Reg.flcFdone1 = d.2 ∧
        u = { s with flash := { s.flash with doneq := rest, lastDone := d }, rdata := u.rdata, shadows := u.shadows })) ∧
    (s.flash.doneq = [] →
      Completes (.fdone0Read req) s (fun u =>
        u.rdata = [s.flash.lastDone.1] ∧ u.rb Reg.flcFsta 15 = true ∧ u.rb (Reg.hdrIraw Page.flc) 6 = true ∧
        OffRegs [Reg.flcFsta, Reg.hdrIraw Page.flc] s u ∧
        u = { s with regs := u.regs, w1set := u.w1set, rdata := u.rdata, shadows := u.shadows })))

/-- PROG, CLOSE and ERASE end (R418, R422, R428, R434): well, with DUR and DURLO, INFLIGHT cleared and the next page entered, or an erased
block with its stamp and new count; failed, the block is grown bad. The choices of the model in it: assumption 13. -/
def Obligations.FlashEnds : Prop := ∀ (s : State) (c : FlashCmd),
  s.flash.running = some c → s.flashOn = true → c.req = 3 → c.block < 16384 → s.flash.doneq.length < 32 →
  let settled := s.unarmed = true ∧ s.pwr.pgoodFell = none
  let frame := fun (u : State) =>
    OffPages [Page.flc, Page.ecc] s u ∧ OffStores [Store.journal, Store.flashMain, Store.flashParam] s u ∧
    u = { s with regs := u.regs, w1set := u.w1set, words := u.words, flashWords := u.flashWords, flash := u.flash, jwait := u.jwait }
  let paged := fun (p : Nat) (u : State) =>
    c.param = false → settled → entInflight (u.blockEnt c.block) = false ∧ entNext (u.blockEnt c.block) = p % 2 ^ 9
  let failed := fun (st : Nat) (u : State) =>
    u.flash.doneq = s.flash.doneq ++ [c.entry st false false 0] ∧ u.rb (Reg.hdrIraw Page.flc) 1 = true ∧
    (c.param = false → settled → entState (u.blockEnt c.block) = 2) ∧
    (c.param = false → entState (s.blockEnt c.block) < 2 → settled →
      u.rf Reg.flcGrownbad 0 14 = (s.rf Reg.flcGrownbad 0 14 + 1) % 2 ^ 14) ∧ frame u
  (c.op = 2 →
    (let d := s.durability c
     Completes (.progDone true) s (fun u =>
       u.flash.doneq = s.flash.doneq ++ [c.entry 0 d.1 d.2 0] ∧ paged (c.page + 1) u ∧ frame u)) ∧
    Completes (.progDone false) s (fun u => failed 5 u)) ∧
  (c.op = 7 →
    (let d := s.durability { c with page := 254 }
     Completes (.closeDone true) s (fun u =>
       u.flash.doneq = s.flash.doneq ++ [c.entry 0 d.1 d.2 0] ∧ paged 255 u ∧ frame u)) ∧
    Completes (.closeDone false) s (fun u => failed 5 u)) ∧
  (c.op = 3 →
    (let n := s.eraseCount c
     Completes (.eraseDone true) s (fun u =>
       u.flash.doneq = s.flash.doneq ++ [c.entry 0 false false 0] ∧ u.flash.running = none ∧
       (c.param = false → n ≤ 30000 → c.use < 16 → s.unarmed = true →
         (s.pwr.pgoodFell = none → u.blockEnt c.block = n + nextPayload c.mode 1 * 2 ^ 16 + c.use * 2 ^ 28) ∧
         u.blockMode c.block = c.mode ∧ u.pageProgrammed (c.block * 256) = true ∧
         (∀ p < 256, p ≠ 0 → u.pageProgrammed (c.block * 256 + p) = false ∧
           ∀ i < 2048, u.rawWord Store.flashMain (flashWord c.block p + i) = erasedWord) ∧
         (∀ p < 256, u.flash.torn.contains (c.block * 256 + p) = false)) ∧
       frame u)) ∧
    Completes (.eraseDone false) s (fun u => failed 6 u))

/-- The JRN page (R409, R411, R455): JDATL reads the low half of the word at JADDR and latches the high half, JDATH returns it and steps
JADDR; a write of JDATH writes the word with the staged low half where the page may write, and is refused with JSTA.REJ elsewhere. The
scrubber's word is left, or corrected in place with SCRCOR and the page's ERRCNT, or poisoned and logged; the last word of the last store
ends the pass, and a gated tile is skipped and counted once (R405). MBIST takes a retired tile with no lane and no core running, wakes it,
and clears its words (R407). ELCLR clears the valid bits of a page's log, in which an error of the same FAB cycle stays (R403). The
choices of the model in it: assumption 13. -/
def Obligations.JournalAndScrub : Prop :=
  (∀ (s : State) (req : Req), s.reaches req Page.jrn = true →
   let i := s.rf Reg.jrnJaddr 0 19
   (∀ d : BitVec 64, checkWord (s.rawWord Store.journal i) = .good d →
     Completes (.jdatlRead req) s (fun u =>
       u.rdata = [lo32 d.toNat] ∧ Sparse.get (fun _ => 0) u.jshadow req.index = hi32 d.toNat ∧ u.rb Reg.jrnJsta 1 = false ∧
       OffRegs [Reg.jrnJsta] s u ∧ u = { s with regs := u.regs, rdata := u.rdata, jshadow := u.jshadow })) ∧
   (∀ d : BitVec 64, checkWord (s.rawWord Store.journal i) = .corrected d →
     Completes (.jdatlRead req) s (fun u =>
       u.rdata = [lo32 d.toNat] ∧ Sparse.get (fun _ => 0) u.jshadow req.index = hi32 d.toNat ∧ u.rb Reg.jrnJsta 1 = false ∧
       u.rd (Reg.hdrErrcnt Page.jrn) = s.rd (Reg.hdrErrcnt Page.jrn) + 1 ∧ OffRegs [Reg.jrnJsta, Reg.hdrErrcnt Page.jrn] s u ∧
       u = { s with regs := u.regs, rdata := u.rdata, jshadow := u.jshadow })) ∧
   (checkWord (s.rawWord Store.journal i) = .uncorrectable →
     Completes (.jdatlRead req) s (fun u =>
       u.rdata = [0xFFFFFFFF] ∧ u.rb Reg.jrnJsta 1 = true ∧ u.rd Reg.eccUecnt = s.rd Reg.eccUecnt + 1 ∧
       u.rawWord Store.journal i = poisonWord ∧ OffPages [Page.jrn, Page.ecc] s u ∧ OffStores [Store.journal] s u ∧
       u = { s with regs := u.regs, w1set := u.w1set, words := u.words, errs := u.errs, rdata := u.rdata, jshadow := u.jshadow })) ∧
   (checkWord (s.rawWord Store.journal i) = .poison →
     Completes (.jdatlRead req) s (fun u =>
       u.rdata = [0xFFFFFFFF] ∧ u.rb Reg.jrnJsta 1 = true ∧ u.rd Reg.eccPreadcnt = s.rd Reg.eccPreadcnt + 1 ∧
       OffRegs [Reg.jrnJsta, Reg.eccPreadcnt] s u ∧ u = { s with regs := u.regs, rdata := u.rdata, jshadow := u.jshadow })) ∧
   Completes (.jdathRead req) s (fun u =>
     u.rdata = [Sparse.get (fun _ => 0) s.jshadow req.index] ∧ u.rf Reg.jrnJaddr 0 19 = (i + 1) % 2 ^ 19 ∧
     OffRegs [Reg.jrnJaddr] s u ∧ u = { s with regs := u.regs, rdata := u.rdata }) ∧
   (∀ v : Word,
     Completes (.jdatlWrite req v) s (fun u => u = { s with jstaged := v }) ∧
     (s.mayWriteJournal i = true →
       Completes (.jdathWrite req v) s (fun u =>
         (s.unarmed = true → s.pwr.pgoodFell = none →
           u.rawWord Store.journal i = encodeWord (v ++ s.jstaged) ∧
           ∀ j < 2 ^ 19, j ≠ i → u.rawWord Store.journal j = s.rawWord Store.journal j) ∧
         u.rd Reg.jrnJwrcnt = s.rd Reg.jrnJwrcnt + 1 ∧ u.rf Reg.jrnJaddr 0 19 = (i + 1) % 2 ^ 19 ∧
         OffPages [Page.jrn, Page.ecc] s u ∧ OffStores [Store.journal] s u ∧
         u = { s with regs := u.regs, w1set := u.w1set, words := u.words, jwait := u.jwait })) ∧
     (s.mayWriteJournal i = false →
       Completes (.jdathWrite req v) s (fun u =>
         u.rb Reg.jrnJsta 0 = true ∧ u.rb (Reg.hdrIraw Page.jrn) 0 = true ∧
         OffRegs [Reg.jrnJsta, Reg.hdrIraw Page.jrn] s u ∧ u = { s with regs := u.regs, w1set := u.w1set })))) ∧
  (∀ (s : State),
   (∀ st i : Nat, s.rb Reg.eccScrub 0 = true → s.pageLive Page.ecc = true → scrubbed st = true → i < storeSize st →
     let ended := fun (u : State) =>
       u.scrubAt = some (st, i) ∧ u.rb Reg.eccScrsta 0 = true ∧
       (st = 1051 → i + 1 = storeSize st → u.rb (Reg.hdrIraw Page.ecc) 1 = true ∧
         u.rf Reg.eccScrsta 16 16 = (s.rf Reg.eccScrsta 16 16 + 1) % 2 ^ 16)
     ((st < 1024 → (s.tile (st / 8)).awake = true) →
       Completes (.scrubRead st i) s (fun u =>
         let w := s.rawWord st i
         ended u ∧
         u.rawWord st i = (match checkAt st w with
           | .good _ => w
           | .poison => w
           | .corrected d => encodeAt st d
           | .uncorrectable => poisonAt st) ∧
         (∀ d, checkAt st w = .corrected d → u.rd Reg.eccScrcor = s.rd Reg.eccScrcor + 1 ∧
           u.rd (Reg.hdrErrcnt (storePage st).1) = s.rd (Reg.hdrErrcnt (storePage st).1) + 1) ∧
         (checkAt st w = .uncorrectable → u.rd Reg.eccUecnt = s.rd Reg.eccUecnt + 1 ∧ u.rb (Reg.hdrErrlog (storePage st).1) 31 = true ∧
           (st < 1024 → st % 8 ≠ 1 → st % 8 ≠ 2 → (u.tile (st / 8)).uncorr = true)) ∧
         (∀ st' i', i' < 2 ^ 40 → st' ≠ st ∨ i' ≠ i → u.rawWord st' i' = s.rawWord st' i') ∧
         OffPages [Page.ecc, (storePage st).1] s u ∧
         u = { s with regs := u.regs, w1set := u.w1set, words := u.words, errs := u.errs, tiles := u.tiles, scrubAt := u.scrubAt })) ∧
     (st < 1024 → (s.tile (st / 8)).awake = false →
       Completes (.scrubRead st i) s (fun u =>
         ended u ∧ u.rd Reg.eccScrskip = s.rd Reg.eccScrskip + (if st % 8 = 0 ∧ i = 0 then 1 else 0) ∧
         OffRegs [Reg.eccScrsta, Reg.eccScrskip] s u ∧ u = { s with regs := u.regs, scrubAt := u.scrubAt }))) ∧
   (∀ (req : Req) (v : Word), s.reaches req Page.ecc = true →
     (let t := field v 0 7
      let idle := s.retired t && (s.lanesOn t).isEmpty && !s.coreRun (2 * t) && !s.coreRun (2 * t + 1)
      let started := (s.wr Reg.eccMbist (w32 t)).wr Reg.eccMbsta 1
      (s.rb Reg.eccMbsta 0 = false → bitOf v 8 = true →
        (idle = true →
          Completes (.mbistStart req v) s (fun u => u = started.wakeServed t ∧ (s.pwr.state = .run → u.tileAwake t = true))) ∧
        (idle = false →
          Completes (.mbistStart req v) s (fun u =>
            u.rd Reg.eccMbist = w32 t ∧ u.rf Reg.eccMbsta 0 3 = 6 ∧ OffRegs [Reg.eccMbist, Reg.eccMbsta] s u ∧
            u = { s with regs := u.regs }))) ∧
      (s.rb Reg.eccMbsta 0 = false → bitOf v 8 = false →
        Completes (.mbistStart req v) s (fun u => u = s.wr Reg.eccMbist (w32 t))) ∧
      (s.rb Reg.eccMbsta 0 = true → Completes (.mbistStart req v) s (fun u => u = s))) ∧
     (let p := field v 0 14
      let a := Reg.hdrErrlog p
      (s.errs.all (fun e => e.1 != p) = true →
        Completes (.elclr req v) s (fun u =>
          u.rb a 31 = false ∧ u.rb a 30 = false ∧ u.rf a 0 30 = s.rf a 0 30 ∧ OffRegs [a] s u ∧ u = { s with regs := u.regs })) ∧
      (∀ (e : Nat × Word) (rest : List (Nat × Word)), s.errs.filter (fun x => x.1 == p) = e :: rest →
        Completes (.elclr req v) s (fun u => u.rd a = putBit e.2 30 (!rest.isEmpty) ∧ OffRegs [a] s u ∧ u = { s with regs := u.regs })))) ∧
   (∀ (pass : Bool) (word : BitVec 16), s.rb Reg.eccMbsta 0 = true →
     let t := s.rf Reg.eccMbist 0 7
     Completes (.mbdone pass word) s (fun u =>
       (∀ sub < 5, ∀ i < 2 ^ 40, u.rawWord (Store.tile t sub) i = 0) ∧
       (∀ st i, st / 8 ≠ t → i < 2 ^ 40 → u.rawWord st i = s.rawWord st i) ∧
       u.rd Reg.eccMbsta = w32 (if pass then 2 else 4 + word.toNat * 65536) ∧ u.rb (Reg.hdrIraw Page.ecc) 2 = true ∧
       u.tile t = { s.tile t with awake := false, waking := false } ∧ OffUnit State.tile t s u ∧
       OffRegs [Reg.eccMbsta, Reg.hdrIraw Page.ecc] s u ∧ u = { s with regs := u.regs, w1set := u.w1set, words := u.words, tiles := u.tiles })))

/-! ### Register pages and host port (13 R443-R469) -/

/-- A write frame on HSEL0 (R457, R462, R466): whole and passing every test, its words join the commit queue, the last one marked; a frame
without data words is only counted; any other is refused whole, with the first reason of the table that holds: REJCNT, the reason's bit of
HSTA, IRAW.REJ and LASTREJ tell it, and nothing else changes. CRCEN is HCFG's, or that before HCFG's last change for a frame begun before it
(R456). The choices of the model in it: assumption 19. -/
def Obligations.WriteFrames : Prop := ∀ (s : State) (a b c : Byte) (data : List Byte) (crc : Option Byte) (early : Bool),
  s.hostLive = true → crc.isSome = bitOf (if early then s.host.cfgWas else s.rd Reg.hptHcfg) 7 →
  let addr := a.toNat + 256 * b.toNat + 65536 * c.toNat
  let bytes := [a, b, c] ++ data ++ crc.toList
  let n := data.length / 4
  let counted := s.rd Reg.hptFrmcnt + 1
  let refused := fun (at_ code bit : Nat) (u : State) =>
    u.rd Reg.hptRejcnt = s.rd Reg.hptRejcnt + 1 ∧ u.rb Reg.hptHsta bit = true ∧ u.rb (Reg.hdrIraw Page.hpt) 0 = true ∧
    u.rd Reg.hptLastrej = w32 (at_ + code * 2 ^ 24) ∧ u.rd Reg.hptFrmcnt = counted ∧
    u.rd Reg.hptCrcerr = s.rd Reg.hptCrcerr + (if code = 3 then 1 else 0) ∧
    OffRegs [Reg.hptRejcnt, Reg.hptHsta, Reg.hdrIraw Page.hpt, Reg.hptLastrej, Reg.hptFrmcnt, Reg.hptCrcerr] s u ∧
    u = { s with regs := u.regs, w1set := u.w1set }
  ∀ x : Instr × Byte, x ∈ [(.hostWr bytes false false early, 2), (.hostWrf bytes false false early, 3)] →
    let ok := ∀ k ∈ crc, crc8 (x.2 :: [a, b, c] ++ data) = k
    let inPage := x.2 = 2 → addr % 1024 + 4 * n ≤ 1024
    (data = [] → Completes x.1 s (fun u => u = s.wr Reg.hptFrmcnt counted)) ∧
    (data ≠ [] → data.length % 4 = 0 → ok →
      (n ≤ 64 → addr % 4 = 0 → inPage →
        (∀ k, pageKind? (addr / 1024) = some k → s.pageDark k.1 (addr / 1024) = false →
          Completes x.1 s (fun u =>
            u = { s.wr Reg.hptFrmcnt counted with
              host := { s.host with commit := s.host.commit ++ (List.range n).map (fun i =>
                (if x.2 = 3 then addr else addr + 4 * i, w32 (ofBytes ((data.drop (4 * i)).take 4)), i + 1 == n)) } })) ∧
        (pageKind? (addr / 1024) = none → Completes x.1 s (refused addr 7 8)) ∧
        (∀ k, pageKind? (addr / 1024) = some k → s.pageDark k.1 (addr / 1024) = true → Completes x.1 s (refused addr 8 9))) ∧
      (¬ inPage → Completes x.1 s (refused addr 4 4)) ∧
      (inPage → addr % 4 ≠ 0 → Completes x.1 s (refused addr 5 5)) ∧
      (inPage → addr % 4 = 0 → 64 < n → Completes x.1 s (refused addr 6 6))) ∧
    (data ≠ [] → data.length % 4 = 0 → ¬ ok → Completes x.1 s (refused addr 3 3)) ∧
    (data.length % 4 ≠ 0 → Completes x.1 s (refused addr 2 2)) ∧
    (∀ y : Instr, y ∈ [.hostWr bytes true false early, .hostWrf bytes true false early] → Completes y s (refused addr 2 2)) ∧
    (∀ y : Instr × List Byte, y.2 ∈ [[], [a], [a, b]] → y.1 ∈ [.hostWr y.2 false false early, .hostWrf y.2 true false early] →
      Completes y.1 s (refused (ofBytes y.2) 1 1))

/-- The frames of the port (R458-R461, R464, R465, R467, R468): a read waits until the words committed before it have applied, then sends
its words in order, wrapped at the page's end, and reads up to 8 ahead but never from a register that pops; RDSTA sends HSTA; a misaligned
read sends zeros; a port reset, an invalid command and a timeout set their flags; a stream read delivers a closed bank with its header and
drains it with its last word, or empty headers, or the alarm count and the alarms; a committed word takes effect as one write, one in a FAB
cycle; with CRCEN each word sent carries its CRC. The choices of the model in it: assumption 19. -/
def Obligations.PortFrames : Prop := ∀ (s : State) (early : Bool),
  let crcen := bitOf (if early then s.host.cfgWas else s.rd Reg.hptHcfg) 7
  let crcs := fun (head : List Byte) (ws : List (List Byte)) => if crcen then crcChain (crc8 head) ws else []
  let words := fun (ws : List Word) => ws.map (fun w => bytesOf 4 w.toNat)
  let t := (s.bump Reg.hptFrmcnt).applyAll s.host.commit.length
  (s.hostLive = true →
    (∀ (addr : BitVec 24) (n ahead : Nat) (x : Instr × Bool × Byte),
      x ∈ [(.hostRd addr n ahead false early, false, 0x0B), (.hostRdf addr n ahead false early, true, 0x0C)] →
      (addr.toNat % 4 ≠ 0 → Completes x.1 s (fun u =>
        u.rdata = List.replicate n 0 ∧ u.rb Reg.hptHsta 5 = true ∧ u.rd Reg.hptRdwords = t.rd Reg.hptRdwords + BitVec.ofNat 32 n ∧
        u.host = { t.host with crcs := crcs (frameHead x.2.2 addr.toNat) (words u.rdata) } ∧
        OffRegs [Reg.hptHsta, Reg.hptRdwords] t u ∧
        u = { t with regs := u.regs, w1set := u.w1set, rdata := u.rdata, host := u.host })) ∧
      (addr.toNat % 4 = 0 → Completes x.1 s (fun u =>
        let r := t.readFrom x.2.1 addr.toNat 0 n
        let sent : State := { r.2.bumpBy Reg.hptRdwords n with
          rdata := r.1, host := { r.2.host with crcs := crcs (frameHead x.2.2 addr.toNat) (words r.1) } }
        r.1.length = n ∧ u.rdata = r.1 ∧ (ahead = 0 → u = sent) ∧
        (ahead ≠ 0 → u = if popRegister (readAddr x.2.1 addr.toNat n).1 then sent
          else (sent.readWordAt x.2.1 addr.toNat n).2.readAhead x.2.1 addr.toNat (n + 1) (min ahead 8 - 1))))) ∧
    (∀ n : Nat, s.host.commit = [] → s.srbusy.contains Page.hpt = false →
      Completes (.rdsta n false early) s (fun u =>
        u.rdata = List.replicate n (s.rd Reg.hptHsta) ∧ u.rd Reg.hptFrmcnt = s.rd Reg.hptFrmcnt + 1 ∧
        u.rd Reg.hptRdwords = s.rd Reg.hptRdwords + BitVec.ofNat 32 n ∧
        u.host = { s.host with crcs := crcs [0x05] (words u.rdata) } ∧
        OffRegs [Reg.hptFrmcnt, Reg.hptRdwords] s u ∧ u = { s with regs := u.regs, rdata := u.rdata, host := u.host })) ∧
    (∀ addr : BitVec 24, Completes (.rto addr) s (fun u =>
      let r := (s.applyAll s.host.commit.length).portRead addr.toNat
      u.rdata = [0xFFFFFFFF] ∧ u.rb Reg.hptHsta 11 = true ∧ u.rb (Reg.hdrIraw Page.hpt) 2 = true ∧
      OffRegs [Reg.hptHsta, Reg.hdrIraw Page.hpt, Reg.hptRdwords] r.2 u ∧
      u = { r.2 with regs := u.regs, w1set := u.w1set, rdata := u.rdata, host := { r.2.host with crcs := [] } })) ∧
    Completes (.prst false) s (fun u =>
      u.rd Reg.hptHcfg = 0x10 ∧ u.rb Reg.hptHsta 13 = true ∧ u.rb (Reg.hdrIraw Page.hpt) 3 = true ∧
      u.rd Reg.hptFrmcnt = s.rd Reg.hptFrmcnt + 1 ∧
      OffRegs [Reg.hptHcfg, Reg.hptHsta, Reg.hdrIraw Page.hpt, Reg.hptFrmcnt] s u ∧
      u = { s with regs := u.regs, w1set := u.w1set, host := { s.host with cfgWas := s.rd Reg.hptHcfg } }) ∧
    (let bad := fun (u : State) =>
       u.rb Reg.hptHsta 7 = true ∧ u.rb (Reg.hdrIraw Page.hpt) 4 = true ∧ u.rd Reg.hptFrmcnt = s.rd Reg.hptFrmcnt + 1 ∧
       OffRegs [Reg.hptHsta, Reg.hdrIraw Page.hpt, Reg.hptFrmcnt] s u ∧ u = { s with regs := u.regs, w1set := u.w1set }
     Completes (.badcmd false) s bad ∧
     (∀ (addr : BitVec 24) (n : Nat), 20 ≤ addr.toNat → Completes (.streamRd addr n false early) s bad)) ∧
    (∀ (addr : BitVec 24) (n : Nat) (ds : List DWord),
      let halves := ds.flatMap (fun d => [lo32 d.toNat, hi32 d.toNat])
      let sent := fun (v u : State) =>
        u.rdata = halves ∧ u.rd Reg.hptFrmcnt = s.rd Reg.hptFrmcnt + 1 ∧
        u.rd Reg.hptRdwords = s.rd Reg.hptRdwords + BitVec.ofNat 32 (2 * ds.length) ∧
        u.host = { s.host with crcs := crcs (frameHead 0x0B addr.toNat) (ds.map (fun d => bytesOf 8 d.toNat)) } ∧
        u = { v with regs := u.regs, w1set := u.w1set, rdata := u.rdata, host := u.host }
      let own := [Reg.hptFrmcnt, Reg.hptRdwords]
      (addr.toNat < 20 → addr.toNat % 4 ≠ 0 → ds = List.replicate n 0 →
        Completes (.streamRd addr n false early) s (fun u =>
          sent s u ∧ u.rb Reg.hptHsta 5 = true ∧ OffRegs (Reg.hptHsta :: own) s u)) ∧
      (∀ k : Nat, addr.toNat = 4 * k → k < 4 →
        (∀ c : Nat, s.streamDest k = 0 → s.closedBank k = some c →
          let m := (((s.stream k).bank c).len + 7) / 8
          s.clean Store.stream (bankWord k c) m = true →
          ds = (BitVec.ofNat 64 ((s.stream k).bank c).header ::
            (List.range m).map (fun i => wordData (s.rawWord Store.stream (bankWord k c + i)))).take n →
          (n = m + 1 → Completes (.streamRd addr n false early) s (fun u =>
            sent { s with streams := u.streams } u ∧ (u.stream k).bank c = {} ∧
            (u.stream k).bank (1 - c) = (s.stream k).bank (1 - c) ∧
            (u.stream k).fill = some ((s.stream k).fill.getD c) ∧ (u.stream k).dropped = (s.stream k).dropped ∧
            u.rb (Reg.hdrIraw Page.strm) (4 + k) = true ∧ OffUnit State.stream k s u ∧
            OffRegs (Reg.hdrIraw Page.strm :: own) s u)) ∧
          (n ≤ m → Completes (.streamRd addr n false early) s (fun u => sent s u ∧ OffRegs own s u))) ∧
        (s.streamDest k = 0 → s.closedBank k = none → ds = List.replicate n (BitVec.ofNat 64 k) →
          Completes (.streamRd addr n false early) s (fun u => sent s u ∧ OffRegs own s u)) ∧
        (s.streamDest k ≠ 0 → n ≠ 0 → ds = List.replicate n (BitVec.ofNat 64 k) →
          Completes (.streamRd addr n false early) s (fun u =>
            sent s u ∧ u.rb Reg.hptHsta 12 = true ∧ OffRegs (Reg.hptHsta :: own) s u))) ∧
      (addr.toNat = 16 →
        let c := if s.alarmsOn then s.alarms.length else 0
        let e := (s.bump Reg.hptFrmcnt).laterCycle.popAlarm
        (n = 1 → ds = [BitVec.ofNat 64 c] →
          Completes (.streamRd addr n false early) s (fun u => sent s u ∧ OffRegs own s u)) ∧
        (n = 2 → c ≠ 0 → ds = [BitVec.ofNat 64 c, e.1] →
          Completes (.streamRd addr n false early) s (fun u =>
            u.rdata = halves ∧ u.alarms = e.2.alarms ∧ OffRegs [Reg.hptRdwords] e.2 u ∧
            u = { e.2 with regs := u.regs, w1set := u.w1set, rdata := u.rdata, host := u.host })) ∧
        (c = 0 → ds = List.replicate n 0 →
          Completes (.streamRd addr n false early) s (fun u => sent s u ∧ OffRegs own s u)))) ∧
    (∀ (a : Nat) (v : Word) (last : Bool) (rest : List (Nat × Word × Bool)),
      s.host.commit = (a, v, last) :: rest → s.host.appliedAt ≠ some s.time.fab →
      Completes .hostWordApply s (fun u =>
        let y := State.busWrite { s with host := { s.host with commit := rest, appliedAt := some s.time.fab } } hostReq a v
        u = if last then y.applyCtl else y)) ∧
    (s.host.commit = [] ∨ s.host.appliedAt = some s.time.fab → Completes .hostWordApply s (fun u => u = s)) ∧
    (∀ (addr : BitVec 24) (bytes : List Byte) (cut : Bool) (n ahead : Nat) (x : Instr × Instr),
      x ∈ [(.hostWr bytes cut true early, .hostWr bytes cut false early), (.hostWrf bytes cut true early, .hostWrf bytes cut false early),
           (.hostRd addr n ahead true early, .hostRd addr n ahead false early),
           (.hostRdf addr n ahead true early, .hostRdf addr n ahead false early), (.rdsta n true early, .rdsta n false early),
           (.prst true, .prst false), (.badcmd true, .badcmd false), (.streamRd addr n true early, .streamRd addr n false early)] →
      ∃ u, u.rb Reg.hptHsta 10 = true ∧ OffRegs [Reg.hptHsta] s u ∧ u = { s with regs := u.regs, w1set := u.w1set } ∧
        exec x.1 s = exec x.2 u)) ∧
  (s.hostLive = false →
    ∀ (addr : BitVec 24) (bytes : List Byte) (cut both : Bool) (n ahead : Nat) (x : Instr),
      x ∈ [.hostWr bytes cut both early, .hostWrf bytes cut both early, .hostRd addr n ahead both early, .hostRdf addr n ahead both early,
           .rdsta n both early, .prst both, .badcmd both, .streamRd addr n both early, .hostWordApply, .rto addr] →
      Completes x s (fun u => u = s)) ∧
  (∀ (v : State) (addr i : Nat),
    v.readWordAt true addr i = v.portRead addr ∧
    (addr % 1024 + 4 * i < 1024 → v.readWordAt false addr i = v.portRead (addr + 4 * i)) ∧
    (1024 ≤ addr % 1024 + 4 * i →
      v.readWordAt false addr i = ((v.set1 Reg.hptHsta 0).raise Page.hpt 1).portRead
        (addr - addr % 1024 + (addr % 1024 + 4 * i) % 1024)) ∧
    (∀ k, pageKind? (addr / 1024) = some k → v.pageDark k.1 (addr / 1024) = true → v.portRead addr = (0, v.set1 Reg.hptHsta 9)))

/-- The access codes (R444, R447, R448, R450, R451, R463): a write to an RO register, to an RWL register under LOCK, to a page that is not
there, off, under a soft reset or reserved at that offset, is ignored; a read of what is not there or is write-only gives 0, of a page under
a soft reset the reset value; a write of 1s to an RW1C register clears them but for those set in the same FAB cycle (R449); a plain RW
register takes the bits it has and a read gives its value; two writers in one FAB cycle act in the order list's order and the first goes to
its back (R26, R452). HCFG holds BMAX in its span and keeps a reserved mode out (R8, R9, R456). -/
def Obligations.AccessCodes : Prop := ∀ (s : State) (req : Req) (v : Word),
  (∀ addr : BitVec 24, s.reaches req (addr.toNat / 1024) = true →
    (∀ t, pageKind? (addr.toNat / 1024) = some (.tile, t) → s.pwr.reload.contains t = false) →
    (∀ (cls : PageClass) (i n : Nat) (r : RegRow), busTarget addr.toNat = some (cls, i, r, n) →
      (r.access = .ro ∨ (r.access = .rwl ∧ s.lockedFor (addr.toNat / 1024) = true) →
        Completes (.registerWrite addr [(req, v)]) s (fun u => u = s)) ∧
      (r.access = .wo → s.readReg req.index addr.toNat = (0, s)) ∧
      (r.access = .rw1c → cls ≠ .leat → cls ≠ .hoplim1 →
        Completes (.registerWrite addr [(req, v)]) s (fun u =>
          u = s.wr addr.toNat (s.rd addr.toNat &&& ~~~ (v &&& ~~~ Sparse.get (fun _ => 0) s.w1set addr.toNat))))) ∧
    (busTarget addr.toNat = none → 64 ≤ addr.toNat % 1024 →
      Completes (.registerWrite addr [(req, v)]) s (fun u => u = s) ∧ (s.readReg req.index addr.toNat).1 = 0) ∧
    (∀ m : Word, (addr.toNat, m) ∈ [(Reg.hptScratch, 0xFFFFFFFF), (Reg.gpioGdir, 0xFFF), (Reg.gpioGpull, 0xFFF0FFF),
        (Reg.monProcmin, 0xFFFF), (Reg.pwrSlptmo, 0xFFFFF), (Reg.jrnJaddr, 0x7FFFF), (Reg.flcCkblk, 0x3FFF3FFF)] →
      Completes (.registerWrite addr [(req, v)]) s (fun u => u = s.wr addr.toNat (v &&& m)) ∧
      s.readReg req.index addr.toNat = (s.rd addr.toNat, s) ∧
      (∀ (k j : Fin 256) (w : Word), req = .core k → k ≠ j →
        Completes (.registerWrite addr [(.core k, v), (.core j, w)]) s (fun u =>
          let first := grantBefore (s.backOf (resReg addr.toNat)) k j
          u.rd addr.toNat = (if first then w else v) &&& m ∧
          u.backOf (resReg addr.toNat) = (s.backOf (resReg addr.toNat)).filter (· != (if first then k.val else j.val)) ++
            [if first then k.val else j.val] ∧
          OffRegs [addr.toNat] s u ∧ u = { s with regs := u.regs, orders := u.orders })))) ∧
  (s.canAsk req = true → s.pwr.goWanted = false → s.host.ctlWrite = none →
    ∀ addr : BitVec 24,
      ((∀ k, pageKind? (addr.toNat / 1024) = some k → s.pageDark k.1 (addr.toNat / 1024) = true) →
        Completes (.registerWrite addr [(req, v)]) s (fun u => u = s) ∧ s.readReg req.index addr.toNat = (0, s)) ∧
      (s.pageOff (addr.toNat / 1024) = false → s.srbusy.contains (addr.toNat / 1024) = true →
        Completes (.registerWrite addr [(req, v)]) s (fun u => u = s) ∧
        ((pageKind? (addr.toNat / 1024)).isSome = true → 8 ≤ addr.toNat % 1024 → addr.toNat % 1024 ≠ 0x00C →
          s.readReg req.index addr.toNat = (regReset addr.toNat, s))) ∧
      (∀ t, pageKind? (addr.toNat / 1024) = some (.tile, t) → s.pwr.state = .run → s.pageOff (addr.toNat / 1024) = true →
        s.srbusy.contains (addr.toNat / 1024) = false → 64 ≤ addr.toNat % 1024 → busTarget addr.toNat = none →
        Completes (.registerWrite addr [(req, v)]) s (fun u => u = s.wakeServed t))) ∧
  (s.canAsk req = false →
    ∀ addr : BitVec 24, s.pwr.goWanted = false → s.host.ctlWrite = none →
      Completes (.registerWrite addr [(req, v)]) s (fun u => u = s)) ∧
  (s.reaches req Page.hpt = true →
    Completes (.hcfgWrite req v) s (fun u =>
      u.rf Reg.hptHcfg 0 2 = (if field v 0 2 < 2 then field v 0 2 else s.rf Reg.hptHcfg 0 2) ∧
      u.rf Reg.hptHcfg 2 5 = max 2 (field v 2 5) ∧ u.rb Reg.hptHcfg 7 = bitOf v 7 ∧ u.rf Reg.hptHcfg 8 24 = 0 ∧
      OffRegs [Reg.hptHcfg] s u ∧ u = { s with regs := u.regs, host := { s.host with cfgWas := s.rd Reg.hptHcfg } }))

/-- The page header (R445, R446, R448): a write of IRAW clears the bits written as 1 but for those set in the same FAB cycle (R449), ISET
sets those the block has; PGCTL sets EN where it is not fixed, HIRQ as written and LOCK for good; a soft reset returns the page to its reset
values but for LOCK and locked registers, is refused on the pages of R448, leaves EN and HIRQ as written and stands to the end of the FAB
cycle. The choices of the model in it: assumption 17. -/
def Obligations.PageHeaders : Prop := ∀ (s : State) (req : Req) (page : Fin 16384) (v : Word) (cls : PageClass) (i : Nat),
  pageKind? page = some (cls, i) → s.reaches req page = true →
  let pgctl := Reg.hdrPgctl page
  Completes (.irawClear req page v) s (fun u =>
    u.rd (Reg.hdrIraw page) = s.rd (Reg.hdrIraw page) &&& ~~~ (v &&& ~~~ Sparse.get (fun _ => 0) s.w1set (Reg.hdrIraw page)) ∧
    OffPages [page] s u ∧ u = { s with regs := u.regs }) ∧
  Completes (.irawSet req page v) s (fun u =>
    u.rd (Reg.hdrIraw page) = s.rd (Reg.hdrIraw page) ||| (v &&& irawMask cls) ∧ OffRegs [Reg.hdrIraw page] s u ∧
    u = { s with regs := u.regs, w1set := u.w1set }) ∧
  (let put := fun (w : Word) (u : State) =>
     u.rb pgctl 0 = (if enFixed cls i then s.rb pgctl 0 else bitOf w 0) ∧ u.rb pgctl 2 = (s.rb pgctl 2 || bitOf w 2) ∧
     u.rb pgctl 3 = bitOf w 3 ∧
     (cls ≠ .cnv → (cls = .fil → bitOf w 0 = s.rb pgctl 0) → OffRegs [pgctl] s u ∧ u = { s with regs := u.regs })
   (bitOf v 1 = false ∨ noSoftReset cls i = true → Completes (.pageEnable req page v) s (put v)) ∧
   (bitOf v 1 = false ∨ noSoftReset cls i = true → Completes (.pageLock req page v) s (fun u => put (v ||| 4) u ∧ u.rb pgctl 2 = true)) ∧
   (noSoftReset cls i = true → Completes (.softReset req page v) s (put v))) ∧
  (noSoftReset cls i = false → (cls = .hpt → req ≠ .host) →
    Completes (.softReset req page v) s (fun u =>
      u.rb pgctl 0 = (enFixed cls i || bitOf v 0) ∧ u.rb pgctl 2 = (s.rb pgctl 2 || bitOf v 2) ∧ u.rb pgctl 3 = bitOf v 3 ∧
      u.rd (Reg.hdrIena page) = 0 ∧ u.srbusy = s.srbusy ++ [page.val] ∧
      (cls ∈ [.gpio, .mon, .ecc, .fcoe, .mrc, .mrg, .talg, .clu, .hpt, .hoplim0] → ∀ a, a / 1024 = page → a ≠ pgctl →
        u.rd a = if s.keepsReset cls page a = true ∨ (cls = .mon ∧ a = Reg.monTsta) then
          (if a = Reg.monTsta then s.rd a &&& 0x1000000 else s.rd a) else regReset a))) ∧
  (cls = .hpt → req = .host →
    (s.host.commit = [] →
      Completes (.softReset .host page v) s (fun u =>
        u.rd Reg.hptScratch = 0 ∧ u.rd Reg.hptHcfg = 0x10 ∧ u.host = { s.host with cfgWas := 0x10 } ∧ u.rb pgctl 3 = bitOf v 3)) ∧
    (s.host.commit ≠ [] →
      Completes (.softReset .host page v) s (fun u => u = { s with host := { s.host with ctlWrite := some (v ||| 2) } })))

/-! ### Start-up, power, clock, health and balls (14 R471-R502, 15 R512, R527, R528) -/

/-- The resets of the part (R471-R474, R269): each names its cause in RSTCAUSE, with those that asserted in the same AON cycle (R472), and
adds them to RSTHIST; every register but the AON domain's and the balls' returns to its reset value, journal and flash stay, every other
store is cleared, W0 starts at the RTC's seconds and a start begins; POR resets the AON domain too. A rail of the core or PGOOD must be low
for tBOR. The watchdog warns at half of TMO, resets at 0, and is restarted by WDKICK; the other values of RSTCMD and WDKICK do nothing. What
a store reads as once cleared and the registers without a reset value of the spec are the model's (assumptions 1, 2). Start-up (R475-R478):
PWREN rises in phase 2, not before its low time has passed, and falls again for 1 s when PGOOD stays low for tPGTO; with PGOOD, sampled from
tPGS on, the straps are kept and the configuration is checked, a failure leading to safe acquisition; host-load and factory-test starts wait
in phase 6 for GO, which takes the journal copy; a normal start takes the first of copies A, B and the journal that passes; without one it
shows FAIL in phase 6. A start that does not apply configuration records ends in phase 9 with DONE. -/
def Obligations.StartUp : Prop :=
  (∀ (s : State),
   let started := fun (source : Nat) (por : Bool) (u : State) =>
     let cause := match s.pwr.causes with
       | some c => if c.aon = s.rtc.aon then c.bits ||| source else source
       | none => source
     u.rd Reg.devRstcause = w32 cause ∧
     u.rd Reg.devRsthist = w32 ((if por then 0 else (s.rd Reg.devRsthist).toNat) ||| cause) ∧
     (∀ a, a ∉ [Reg.devRstcause, Reg.gpioGin] ++ aonRegs → u.rd a = regReset a) ∧
     (∀ a ∈ aonRegs, a ≠ Reg.devRsthist → u.rd a = if por then regReset a else s.rd a) ∧ u.rd Reg.gpioGin = s.rd Reg.gpioGin ∧
     u.rtc = (if por then {} else { s.rtc with sync := none }) ∧ u.time.w0 = u.rtc.sec * 1000000000 ∧ u.time.fab = 0 ∧
     (∀ st i, i < 2 ^ 40 → u.rawWord st i = if isFlash st || st == Store.journal then s.rawWord st i else 0) ∧
     u.flash.programmed = s.flash.programmed ∧ u.flash.modes = s.flash.modes ∧ u.flash.queue = [] ∧ u.flash.running = none ∧
     u.pwr.booting = true ∧ u.pwr.state = .run ∧ u.pwr.pwren = false ∧
     u.pwr.offUntil = (if cause.testBit 6 then 400000000 else 0) ∧ u.pwr.wakeLevel = s.pwr.wakeLevel ∧ u.pending = s.pending ∧
     u.cores = [] ∧ u.hop.migs = [] ∧ u.streams = [] ∧ u.alarms = [] ∧ u.chans = [] ∧ u.armed = [] ∧ u.ports = []
   Completes .por s (started 1 true) ∧
   Completes .nrstPin s (started 2 false) ∧
   (let low := (∃ x ∈ s.mon.lowAt, x.1 ∈ [0, 1, 3, 5] ∧ x.2 + 800 ≤ s.time.fab) ∨
      ∃ f, s.pwr.pgoodFell = some f ∧ f + 800 ≤ s.time.fab
    (s.pwr.state ≠ .hibernate → low → Completes .bor s (started 4 false)) ∧
    (s.pwr.state = .hibernate ∨ ¬ low → Completes .bor s (fun u => u = s))) ∧
   (s.dogRuns = true →
     (s.mon.wd = 0 → Completes .wdog s (started 8 false)) ∧
     (s.mon.warned = false → 2 * s.mon.wd ≤ 400000 * max 1 (s.rf Reg.devWdctl 0 16) →
       Completes .wdwarn s (fun u => u = State.raise { s with mon := { s.mon with warned := true } } Page.dev 0))) ∧
   (s.dogRuns = false ∨ s.mon.wd ≠ 0 → Completes .wdog s (fun u => u = s)) ∧
   (∀ (req : Req) (v : Word), s.reaches req Page.dev = true →
     (field v 0 16 = 0xD1E5 → Completes (.rstcmd req v) s (started 16 false)) ∧
     (field v 0 16 ≠ 0xD1E5 → Completes (.rstcmd req v) s (fun u => u = s)) ∧
     (field v 0 16 = 0xA5C3 →
       Completes (.wdkick req v) s (fun u =>
         u = { s with mon := { s.mon with wd := 400000 * max 1 (s.rf Reg.devWdctl 0 16), warned := false } })) ∧
     (field v 0 16 ≠ 0xA5C3 → Completes (.wdkick req v) s (fun u => u = s)))) ∧
  (∀ (s : State),
   let ended := fun (found : Option (Nat × List Byte)) (u : State) =>
     (found = none → u.rf Reg.bootBsta 0 4 = 6 ∧ u.rb Reg.bootBsta 5 = true ∧ u.pwr.booting = true) ∧
     (∀ x, found = some x → s.pwr.restoring = false → u.pwr.cfgdef = true →
       u.rf Reg.bootBsta 0 4 = 9 ∧ u.rb Reg.bootBsta 4 = true ∧ u.rf Reg.bootBsta 9 2 = x.1 % 4 ∧ u.pwr.booting = false ∧
       u.hop.lastEval = s.time.fab)
   (s.pwr.booting = true →
    (s.pwr.pwren = false → s.rf Reg.bootBsta 0 4 ≤ 2 →
      (s.pwr.offUntil ≤ s.time.fab →
        Completes .coldStart s (fun u =>
          u.rf Reg.bootBsta 0 4 = 2 ∧ OffRegs [Reg.bootBsta] s u ∧
          u = { s with regs := u.regs, pwr := { s.pwr with pwren := true, onAt := s.time.fab } })) ∧
      (s.time.fab < s.pwr.offUntil → Completes .coldStart s (fun u => u = s))) ∧
    (s.pwr.pwren = true → s.rf Reg.bootBsta 0 4 = 2 →
      Completes .pgoodTimeout s (fun u =>
        u = { s with pwr := { s.pwr with pwren := false, offUntil := s.time.fab + 400000000 } }) ∧
      (∀ straps : BitVec 2, s.pwr.onAt + 400000 ≤ s.time.fab →
        let mode := straps.toNat
        let rej := mode == 3 || (mode == 2 && s.fuses.prodlock)
        let ready := ((s.takeStraps mode).checkConfig).recoverStores
        let t := (ready.bootPhase 6).setb Reg.bootBsta 5 false
        (mode = 1 ∨ mode = 3 ∨ (mode = 2 ∧ rej = false) →
          Completes (.pgoodHigh straps) s (fun u =>
            u.rf Reg.bootBsta 0 4 = 6 ∧ u.rf Reg.bootBsta 6 2 = mode ∧ u.rb Reg.bootBsta 8 = rej ∧ u.pwr.booting = true ∧
            u.pwr.hostload = (mode == 1 || mode == 3) ∧ u.pwr.ftest = (mode == 2) ∧ u.pwr.cfgdef = !s.configOk)) ∧
        (mode = 0 ∨ (mode = 2 ∧ rej = true) →
          Completes (.pgoodHigh straps) s (fun u => t.pwr.cfgdef = !s.configOk ∧ ended (t.findCopy [0, 1, 2]).1 u)))) ∧
    (s.rf Reg.bootBsta 0 4 = 6 → s.reaches .host Page.boot = true → s.pwr.cfgdef = true →
      Completes (.go .host) s (fun u => ended (((s.bootPhase 6).setb Reg.bootBsta 5 false).findCopy [2]).1 u))) ∧
   (∀ req : Req, s.pwr.booting = false → s.reaches req Page.boot = true → Completes (.go req) s (fun u => u = s)))

/-- Requests for a power state (R486-R489): refused with the first code that holds and PSSTA.REJ, IRAW.REJ, or quiescence begins;
it ends in SLEEP, in the entry of HIBERNATE, or with BUSY after SLPTMO; a wake ends SLEEP with WAKESRC and the cores' task, is latched
during the entry of SLEEP, aborts that of HIBERNATE and leaves the checkpoint invalid (R491), and in HIBERNATE raises PWREN (R494). The
order of the codes is the model's (assumption 14). -/
def Obligations.PowerRequests : Prop := ∀ (s : State),
  let awake := fun (v : State) (src : Nat) (u : State) =>
    u.pwr = { v.pwr with state := .run, target := none, entering := false, rampAt := u.pwr.rampAt } ∧
    u.rd Reg.pwrWakesrc = w32 (2 ^ src) ∧ u.rb (Reg.hdrIraw Page.pwr) 0 = true ∧
    u.mon.wd = 400000 * max 1 (s.rf Reg.devWdctl 0 16) ∧ (u.core 0).evin.testBit 1 = true ∧ (u.core 1).evin.testBit 1 = true ∧
    (s.doze = false → ∀ t < 128, s.retired t = false → ((u.tile t).awake || (u.tile t).waking) = true) ∧
    u.time = s.time ∧ u.ports = s.ports ∧ u.wheels = s.wheels ∧ u.mill = s.mill ∧ u.chans = s.chans
  (∀ (req : Req), s.reaches req Page.pwr = true →
    ∀ x : Instr × Nat × PwrState, x ∈ [(.psreqSleep req, 2, .sleep), (.psreqHibernate req, 3, .hibernate)] →
      (let code := s.psreqRefusal (x.2.1 == 3)
       (code = 0 →
         Completes x.1 s (fun u =>
           u.pwr = { s.pwr with target := some x.2.2, since := s.time.fab } ∧ u.rd Reg.pwrPsreq = w32 x.2.1 ∧
           u.rb Reg.pwrPssta 8 = false ∧ u.armed = [] ∧
           (∀ e : FlashCmd, s.flash.running = some e → e.op = 3 → s.flash.suspCount < s.rf Reg.flcFctl 4 8 →
             u.flash.running = none ∧ u.flash.suspended = some e))) ∧
       (code ≠ 0 → x.2.1 = 3 ∨ s.pwr.state ≠ .sleep →
         Completes x.1 s (fun u =>
           u.rf Reg.pwrPssta 4 4 = code ∧ u.rb (Reg.hdrIraw Page.pwr) 1 = true ∧ u.rd Reg.pwrPsreq = w32 x.2.1 ∧
           OffRegs [Reg.pwrPsreq, Reg.pwrPssta, Reg.hdrIraw Page.pwr] s u ∧ u = { s with regs := u.regs, w1set := u.w1set })) ∧
       (x.2.1 = 2 → s.pwr.state = .sleep → Completes x.1 s (fun u => u = s.wr Reg.pwrPsreq 2)) ∧
       (s.pwr.target.isSome = true ∨ s.pwr.booting = true ∨ s.pwr.state ≠ .run → code = 1) ∧
       (code = 0 → x.2.1 = 3 → s.rb Reg.pwrCksta 2 = true ∧ s.pwr.cfgdef = false ∧ s.rb Reg.flcFctl 0 = true ∧
         21 * s.savedTiles.length ≤ 127 * (s.ckSet s.idleSet).length) ∧
       (code = 0 → s.wakePending (x.2.1 == 3) = false))) ∧
  (s.reaches .host Page.pwr = true →
    (s.pwr.state = .sleep → Completes .psreqRun s (awake s 4)) ∧
    (s.pwr.state = .run → s.pwr.target = some .sleep →
      Completes .psreqRun s (fun u =>
        u.rb Reg.pwrPssta 8 = true ∧ u.rd Reg.pwrWakesrc = 16 ∧ u.rd Reg.pwrPsreq = 0 ∧
        OffRegs [Reg.pwrPsreq, Reg.pwrPssta, Reg.pwrWakesrc] s u ∧ u = { s with regs := u.regs, w1set := u.w1set })) ∧
    (s.pwr.state ≠ .sleep → s.pwr.target ≠ some .sleep → Completes .psreqRun s (fun u => u = s.wr Reg.pwrPsreq 0))) ∧
  (∀ (req : Req) (v : Word), s.reaches req Page.hop = true →
    Completes (.hctlWrite req v) s (fun u =>
      u.rd Reg.hopHctl = v &&& 0x1F ∧ (s.doze = false ∨ u.doze = true → u = s.wr Reg.hopHctl (v &&& 0x1F)) ∧
      (s.doze = true → u.doze = false → ∀ t < 128, s.retired t = false →
        ((u.tile t).awake || (u.tile t).waking) = true ∧
        ((u.cluster (t / 16)).awake || (u.cluster (t / 16)).waking || (u.cluster (t / 16)).asked) = true) ∧
      OffRegs [Reg.hopHctl] s u ∧
      u = { s with regs := u.regs, tiles := u.tiles, clusters := u.clusters, pwr := { s.pwr with rampAt := u.pwr.rampAt } })) ∧
  (∀ tgt : PwrState, s.pwr.target = some tgt → s.pwr.entering = false →
    (s.quiet = true →
      (tgt = .sleep → s.rb Reg.pwrPssta 8 = false →
        Completes .quiescent s (fun u =>
          u.pwr = { s.pwr with state := .sleep, target := none } ∧ (u.port 16).link = false ∧ (u.port 17).link = false ∧
          (∀ t < 128, (u.tile t).awake = false) ∧ (∀ c < 8, (u.cluster c).awake = false) ∧ (∀ ch < 16, (u.pulse ch).active = false) ∧
          u.words = s.words ∧ u.cores = s.cores)) ∧
      (∀ src : Fin 6, tgt = .sleep → s.rb Reg.pwrPssta 8 = true → s.rd Reg.pwrWakesrc = w32 (2 ^ src.val) →
        Completes .quiescent s (fun u =>
          u.pwr.state = .run ∧ u.pwr.target = none ∧ u.rd Reg.pwrWakesrc = w32 (2 ^ src.val) ∧
          u.rb (Reg.hdrIraw Page.pwr) 0 = true ∧ (u.core 0).evin.testBit 1 = true ∧ (u.core 1).evin.testBit 1 = true)) ∧
      (tgt ≠ .sleep →
        Completes .quiescent s (fun u =>
          u.pwr = { s.pwr with entering := true } ∧ u.cores = s.cores ∧ u.ports = s.ports ∧ u.time = s.time ∧
          ∀ n < 4, u.closedBank n = none ∧ u.bankIn n .spilling = none))) ∧
    (s.quiet = false →
      Completes .quiescent s (fun u => u = s) ∧
      (s.pwr.since + 400 * s.rf Reg.pwrSlptmo 0 20 ≤ s.time.fab →
        Completes .quiesceTimeout s (fun u =>
          u.pwr = { s.pwr with target := none } ∧ u.rf Reg.pwrPssta 4 4 = 1 ∧ u.rb (Reg.hdrIraw Page.pwr) 1 = true ∧
          OffRegs [Reg.pwrPssta, Reg.hdrIraw Page.pwr] s u ∧
          u = { s with regs := u.regs, w1set := u.w1set, pwr := u.pwr, flash := u.flash })) ∧
      (s.time.fab < s.pwr.since + 400 * s.rf Reg.pwrSlptmo 0 20 → Completes .quiesceTimeout s (fun u => u = s)))) ∧
  (∀ (i : Fin 2) (level : Bool),
    (s.pwr.wakeRaw.testBit i = level → Completes (.wakePin i level) s (fun u => u = s)) ∧
    (s.pwr.wakeRaw.testBit i ≠ level →
      let stable := s.rf Reg.pwrWakecfg 16 4
      let differs := s.pwr.wakeLevel.testBit i != level
      let heard : State := { s with
        pwr := { s.pwr with wakeRaw := s.pwr.wakeRaw ^^^ 2 ^ i.val,
                            wakeHold := setNum s.pwr.wakeHold i (if differs then stable else 0) } }
      (stable ≠ 0 ∨ differs = false → Completes (.wakePin i level) s (fun u => u = heard)) ∧
      (stable = 0 → differs = true →
        let moved : State := { heard with pwr := { heard.pwr with wakeLevel := s.pwr.wakeLevel ^^^ 2 ^ i.val } }
        let asserted := level == s.rb Reg.pwrWakecfg (3 * i + 1)
        (asserted = false → Completes (.wakePin i level) s (fun u => u = moved)) ∧
        (asserted = true → s.rb Reg.pwrWakecfg (3 * i) = false →
          Completes (.wakePin i level) s (fun u => u = moved.event Page.pwr i)) ∧
        (asserted = true → s.rb Reg.pwrWakecfg (3 * i) = true →
          (s.pwr.state = .sleep → Completes (.wakePin i level) s (awake moved i)) ∧
          (s.pwr.state = .hibernate →
            Completes (.wakePin i level) s (fun u =>
              u.pwr = { moved.pwr with woken := true, pwren := true, causes := some ⟨0x80, s.rtc.aon, true⟩ } ∧
              u.rd Reg.pwrWakesrc = w32 (2 ^ i.val) ∧ OffRegs [Reg.pwrWakesrc] s u)) ∧
          (s.pwr.state = .run → s.pwr.target = some .sleep →
            Completes (.wakePin i level) s (fun u =>
              u.rb Reg.pwrPssta 8 = true ∧ u.rd Reg.pwrWakesrc = w32 (2 ^ i.val) ∧ u.pwr = moved.pwr ∧
              OffRegs [Reg.pwrPssta, Reg.pwrWakesrc] s u)) ∧
          (s.pwr.state = .run → s.pwr.target = some .hibernate → s.pwr.entering = true →
            Completes (.wakePin i level) s (fun u =>
              u.pwr.state = .run ∧ u.pwr.target = none ∧ u.pwr.entering = false ∧
              u.pwr.ck = s.pwr.ck.map (fun c => { c with valid := false }) ∧ u.rb Reg.pwrCksta 2 = false ∧
              (s.unarmed = true → s.pwr.pgoodFell = none →
                u.peekWord Store.journal ckLastWord = ~~~ s.peekWord Store.journal ckLastWord) ∧
              u.rb (Reg.hdrIraw Page.pwr) 2 = true ∧ u.rd Reg.pwrWakesrc = w32 (2 ^ i.val))) ∧
          (s.pwr.state = .run → s.pwr.target = none →
            (∀ c, s.pwr.causes = some c → c.hib = false ∨ c.aon ≠ s.rtc.aon) →
            Completes (.wakePin i level) s (fun u => u = moved.event Page.pwr i))))))

/-- HIBERNATE (R491-R496): the entry ends with a new checkpoint in the idle set, the Millrace's words and the registers in the journal's
body and its header before them, and PWREN low; a wake restores from a valid checkpoint under a passing configuration check, else cold-starts
with CKBAD; a restore takes back registers, wheels and plant time, later than the checkpoint's, and leaves the other tiles to the background
reload. The checkpoint's layout within its regions is the model's (assumption 18). -/
def Obligations.Hibernation : Prop := ∀ (s : State),
  (s.pwr.entering = true → s.flash.running = none → s.flash.queue = [] →
    Completes .hibernateEntryDone s (fun u =>
      let gen := ((s.pwr.ck.map (·.gen)).getD 0 + 1) % 2 ^ 32
      u.pwr = { s.pwr with state := .hibernate, target := none, entering := false, pwren := false, woken := false,
                           ck := some ⟨gen, s.idleSet, s.savedTiles.length, true⟩ } ∧
      u.rd Reg.pwrHibcnt = s.rd Reg.pwrHibcnt + 1 ∧ u.rb Reg.pwrCksta 2 = false ∧
      (s.unarmed = true → s.pwr.pgoodFell = none →
        (∀ i < 196864, u.rawWord Store.journal (ckMillWord + i) = s.rawWord Store.millrace i) ∧
        (∀ j < 3642, u.peekWord Store.journal (ckRegWord + j) =
          BitVec.ofNat 64 (s.rn (ckRegs.getD (2 * j) 0) + s.rn (ckRegs.getD (2 * j + 1) 0) * 2 ^ 32)) ∧
        u.peekWord Store.journal ckHeadWord = BitVec.ofNat 64 (gen + s.idleSet * 2 ^ 32) ∧
        u.peekWord Store.journal (ckHeadWord + 1) = BitVec.ofNat 64 s.time.w0 ∧ u.ckTiles = s.savedTiles) ∧
      OffPages [Page.pwr, Page.ecc] s u ∧ OffStores [Store.journal, Store.flashMain] s u)) ∧
  (s.pwr.entering = false → Completes .hibernateEntryDone s (fun u => u = s)) ∧
  (s.pwr.state ≠ .hibernate ∨ s.pwr.woken = false → ∀ straps : BitVec 2, Completes (.restore straps) s (fun u => u = s)) ∧
  (s.pwr.state = .hibernate → s.pwr.woken = true → ∀ straps : BitVec 2,
    ((s.configOk && s.ckValid) = false →
      Completes (.restore straps) s (fun u =>
        u.rd Reg.devRstcause = w32 (s.causesWith 0x180) ∧ u.pwr.booting = true ∧ u.pwr.state = .run ∧ u.pwr.pwren = false ∧
        u.pwr.restored = false ∧ u.rtc = { s.rtc with sync := none })) ∧
    (s.configOk = true → s.ckValid = true →
      let w := s.deviceReset 0x80 false
      let woken : State := { w with pwr := { w.pwr with pwren := true, restoring := true } }
      let ready := ((woken.takeStraps straps.toNat).checkConfig).recoverStores
      let t := (ready.bootPhase 6).setb Reg.bootBsta 5 false
      (straps = 0 → (t.findCopy [0, 1, 2]).1.isSome = true →
        Completes (.restore straps) s (fun u =>
          u.rd Reg.devRstcause = w32 (s.causesWith 0x80) ∧ u.pwr.booting = false ∧ u.pwr.restored = true ∧
          u.rb Reg.bootBsta 4 = true ∧ u.pwr.reload = s.ckTiles.filter (· != 0) ∧
          u.time.w0 = max (s.rtc.sec * 1000000000) ((s.peekWord Store.journal (ckHeadWord + 1)).toNat + 1) ∧
          (∀ j < ckRegs.length, ckRegs.getD j 0 / 1024 ∈ [Page.gpio, Page.mon] →
            u.rd (ckRegs.getD j 0) = w32 ((s.peekWord Store.journal (ckRegWord + j / 2)).toNat >>> (32 * (j % 2)))) ∧
          u.rtc = { s.rtc with sync := none })) ∧
      (straps = 0 → (t.findCopy [0, 1, 2]).1 = none →
        Completes (.restore straps) s (fun u =>
          u.rd Reg.devRstcause = w32 (s.causesWith 0x80) ∧ u.pwr.booting = true ∧ u.rb Reg.bootBsta 5 = true ∧
          u.rf Reg.bootBsta 0 4 = 6)))) ∧
  (∀ (t : Nat) (rest : List Nat), s.pwr.booting = false → s.pwr.reload = t :: rest → t < 128 →
    Completes .tileReload s (fun u =>
      let place := (s.peekWord Store.journal (ckHeadWord + 4 + t)).toNat
      let blocks := s.ckSet (natField (s.peekWord Store.journal ckHeadWord).toNat 32 1)
      let first := 127 * (blocks.findIdx? (· == natField place 0 14)).getD 0 +
        ((payloadPages 1).findIdx? (· == natField place 16 8)).getD 0
      u.pwr = { s.pwr with reload := rest } ∧ (rest = [] → u.rb (Reg.hdrIraw Page.pwr) 5 = true) ∧
      u.rd Reg.pwrRstlate = s.rd Reg.pwrRstlate + BitVec.ofNat 32 (s.sent.filter (fun d => d.1 == t)).length ∧
      (s.unarmed = true → ∀ j < 21, ∀ k < min 2016 (40960 - 2016 * j),
        let bp := ckPage blocks (first + j)
        u.rawWord (Store.tile t 0) (2016 * j + k) = s.rawWord Store.flashMain (flashWord bp.1 bp.2 + k)) ∧
      OffPages [Page.pwr, Page.ecc] s u ∧ OffStores [Store.tile t 0] s u ∧
      u = { s with regs := u.regs, w1set := u.w1set, words := u.words, pwr := u.pwr }))

/-- The monitors (R499-R502, R512): temperatures, warnings, trips and throttle levels follow the samples and the limits, a sensor at 140 °C
resets the part; THCLR and TLIM act under their conditions; a throttled cluster's cores lose no cycle (R500); a rail's bits, count and
response; a slow oscillator warns; while PGOOD is low the journal takes no word, and those that waited follow in order where it returns
within tBOR. The choices of the model in it: assumption 14. -/
def Obligations.Monitors : Prop := ∀ (s : State),
  let judged := fun (lim : Word) (temp : Nat → Int) (u : State) =>
    (∀ i < 9, u.rb Reg.monTsta i = decide (4 * (field lim 0 8 : Int) ≤ temp i) ∧
      u.rb Reg.monTsta (9 + i) = decide (4 * (field lim 16 8 : Int) ≤ temp i) ∧
      (u.rb Reg.monTsta i = true → s.rb Reg.monTsta i = false → u.rb (Reg.hdrIraw Page.mon) 0 = true)) ∧
    (∀ c < 8, u.rf Reg.monThrlvl (2 * c) 2 = throttleLevel (s.rf Reg.monThrlvl (2 * c) 2) (temp c)
      (4 * (field lim 8 8 : Int)) (4 * (field lim 24 8 : Int))) ∧
    (∀ k < 256, u.coreCyc k = s.coreCyc k) ∧
    (u.rb Reg.monTsta 24 = (s.rb Reg.monTsta 24 || (List.range 9).any (fun i => decide (4 * (field lim 16 8 : Int) ≤ temp i)))) ∧
    (4 * (field lim 16 8 : Int) ≤ temp 8 → u.mon.aot = true ∧ (s.mon.aot = false → u.rb Reg.excXsta 24 = true)) ∧
    u.time = s.time ∧ u.pwr = s.pwr
  (s.pwr.state ≠ .hibernate →
    (∀ ts : List Int, ts.length = 9 →
      ((∀ t ∈ ts, -1024 ≤ t ∧ t < 560) → Completes (.tempSample ts) s (fun u =>
        (∀ i < 9, u.rd (Reg.monTemp i) = w32 (natOf (ts.getD i 0) 11)) ∧ judged (s.rd Reg.monTlim) (ts.getD · 0) u)) ∧
      ((∃ t ∈ ts, 560 ≤ t) → Completes (.tempSample ts) s (fun u =>
        u.rd Reg.devRstcause = w32 (s.causesWith 64) ∧ u.pwr.booting = true))) ∧
    (∀ (c : Fin 8) (n : BitVec 16), Completes (.procCount c n) s (fun u =>
      u.rd (Reg.monProc c) = w32 n.toNat ∧ (n.toNat < s.rf Reg.monProcmin 0 16 → u.rb (Reg.hdrIraw Page.mon) 5 = true) ∧
      OffRegs [Reg.monProc c, Reg.hdrIraw Page.mon] s u ∧ u = { s with regs := u.regs, w1set := u.w1set }))) ∧
  (∀ (req : Req) (v : Word), s.reaches req Page.mon = true →
    (let cool := (List.range 9).all (fun i => decide (s.temp i < 4 * (s.rf Reg.monTlim 16 8 : Int) - 4 * (s.rf Reg.monTlim 24 8 : Int)))
     (bitOf v 0 = true → cool = true → Completes (.thclr req v) s (fun u => u = s.setb Reg.monTsta 24 false)) ∧
     (bitOf v 0 = false ∨ cool = false → Completes (.thclr req v) s (fun u => u = s))) ∧
    (let fits := field v 0 8 ≤ field v 8 8 ∧ field v 8 8 < field v 16 8 ∧ field v 16 8 ≤ 130
     s.lockedFor Page.mon = false →
     (fits → Completes (.tlimWrite req v) s (fun u => u.rd Reg.monTlim = v ∧ judged v s.temp u)) ∧
     (¬ fits → Completes (.tlimWrite req v) s (fun u => u = s.raise Page.mon 7)))) ∧
  (∀ (r : Fin 8) (mv : BitVec 16),
    let read := fun (u : State) => u.rd (Reg.monVmon r) = w32 mv.toNat
    let levels := railLevels r
    let faulty := mv.toNat < levels.2.2
    let warns := mv.toNat < levels.2.1 ∨ (levels.1 ≠ 0 ∧ 11 * levels.1 < 10 * mv.toNat)
    (s.railSeen r = true →
      (warns → Completes (.railWarn r mv) s (fun u =>
        read u ∧ u.rb Reg.monVsta r = true ∧ (s.rb Reg.monVsta r = false → u.rb (Reg.hdrIraw Page.mon) 3 = true) ∧
        OffRegs [Reg.monVmon r, Reg.monVsta, Reg.hdrIraw Page.mon] s u ∧ u = { s with regs := u.regs, w1set := u.w1set })) ∧
      (¬ warns → Completes (.railWarn r mv) s (fun u => u = s)) ∧
      (faulty → Completes (.railFault r mv) s (fun u =>
        read u ∧ u.rb Reg.monVsta r = true ∧ u.rb Reg.monVsta (8 + r) = true ∧ u.rb (Reg.hdrIraw Page.mon) 4 = true ∧
        u.rd Reg.monVfcnt = s.rd Reg.monVfcnt + 1 ∧ (u.mon.lowAt.any (·.1 == r.val)) = true ∧
        (r.val = 2 → u.rb Reg.excXsta 24 = true ∧ u.mon.vddaFault = true) ∧
        (r.val = 4 → (u.port 16).link = false ∧ (u.port 17).link = false) ∧
        (r.val = 6 → u.flash.stopped = true ∧ u.flash.running = none ∧ u.flash.queue = []) ∧
        (r.val ∉ [2, 4, 6] → OffPages [Page.mon] s u ∧
          u = { s with regs := u.regs, w1set := u.w1set, mon := { s.mon with lowAt := u.mon.lowAt } }))) ∧
      (¬ faulty → Completes (.railFault r mv) s (fun u => u = s)) ∧
      Completes (.railRecover r mv) s (fun u =>
        read u ∧ u.rb Reg.monVsta r = decide warns ∧ u.rb Reg.monVsta (8 + r) = (s.rb Reg.monVsta (8 + r) && decide faulty) ∧
        (¬ faulty → (u.mon.lowAt.any (·.1 == r.val)) = false ∧ (r.val = 2 → u.mon.vddaFault = false) ∧
          (r.val = 6 → u.flash.stopped = false)) ∧
        OffRegs [Reg.monVmon r, Reg.monVsta] s u ∧
        u = { s with regs := u.regs, mon := u.mon, flash := { s.flash with stopped := u.flash.stopped } })) ∧
    (s.railSeen r = false → ∀ c ∈ [Instr.railWarn r mv, .railFault r mv, .railRecover r mv], Completes c s (fun u => u = s))) ∧
  (s.pwr.state ≠ .hibernate → 3 ≤ s.rf Reg.bootBsta 0 4 → s.pwr.pgoodFell = none →
    Completes .pgoodFall s (fun u => u = { s with pwr := { s.pwr with pgoodFell := some s.time.fab } })) ∧
  (s.pwr.state = .hibernate ∨ s.rf Reg.bootBsta 0 4 < 3 → Completes .pgoodFall s (fun u => u = s)) ∧
  (∀ f : Nat, s.pwr.pgoodFell = some f →
    (s.time.fab < f + 800 →
      Completes .pgoodReturn s (fun u =>
        u.pwr = { s.pwr with pgoodFell := none } ∧ u.jwait = [] ∧
        (s.unarmed = true → ∀ i w, s.jwait = [(i, w)] → u.rawWord Store.journal i = w) ∧
        OffPages [Page.ecc] s u ∧ ((∀ x ∈ s.jwait, x.1 < 2 ^ 40) → OffStores [Store.journal] s u) ∧
        u = { s with regs := u.regs, w1set := u.w1set, words := u.words, pwr := u.pwr, jwait := u.jwait })) ∧
    (f + 800 ≤ s.time.fab →
      Completes .pgoodReturn s (fun u => u.rd Reg.devRstcause = w32 (s.causesWith 4) ∧ u.pwr.booting = true)) ∧
    (∀ (i : Nat) (w : BitVec 72), s.putWord Store.journal i w = { s with jwait := s.jwait ++ [(i, w)] }))

/-- The real-time clock (R498): SET loads the seconds of RTCSL and RTCSH in the next AON cycle, SYNC waits for PTP's next whole second and
loads it; a read of RTCL latches the rest; the alarm fires once in its second, wakes where it is enabled (R489, R494) and at no other time.
The general balls (R527, R528): an edge is shown in GIN, counted, raises the ball's interrupt of its direction and sets out for the channel
that GEV names; GSET sets and GCLR clears the outputs written as 1. The choices of the model in it: assumption 38. -/
def Obligations.ClockAndBalls : Prop :=
  (∀ (s : State),
   (∀ req : Req, s.reaches req Page.pwr = true →
     Completes (.rtccmdSet req) s (fun u =>
       u = { s with
         rtc := { s.rtc with set := some ((s.rd Reg.pwrRtcsl).toNat + s.rf Reg.pwrRtcsh 0 16 * 2 ^ 32), valid := true } }) ∧
     Completes (.rtccmdSync req) s (fun u =>
       u = { s with rtc := { s.rtc with sync := some (s.time.w0 / 1000000000 + 1), valid := true } }) ∧
     Completes (.rtclRead req) s (fun u =>
       u.rdata = [lo32 s.rtc.sec] ∧ u.shadow req.index Reg.pwrRtch = (hi32 s.rtc.sec ||| w32 (b2n s.rtc.valid * 2 ^ 31)) ∧
       u.shadow req.index Reg.pwrRtcsub = w32 s.rtc.sub ∧ u = { s with rdata := u.rdata, shadows := u.shadows })) ∧
   (∀ n : Nat, s.rtc.set = some n →
     s.aonCycle.rtc = { s.rtc with sec := n, sub := 0, set := none, alarmed := false, aon := s.rtc.aon + 1 }) ∧
   (∀ n : Nat, s.rtc.sync = some n →
     (s.pwr.state ≠ .hibernate → n ≤ s.time.w0 / 1000000000 →
       Completes .rtcSyncLoad s (fun u =>
         u = { s with rtc := { s.rtc with sec := n % 2 ^ 48, sub := 0, acc := 0, sync := none, alarmed := false } })) ∧
     (s.pwr.state = .hibernate ∨ s.time.w0 / 1000000000 < n → Completes .rtcSyncLoad s (fun u => u = s))) ∧
   (let due := s.rb Reg.pwrAlmh 31 = true ∧ s.rtc.sec = (s.rd Reg.pwrAlml).toNat + s.rf Reg.pwrAlmh 0 16 * 2 ^ 32 ∧
      s.rtc.alarmed = false
    (due → s.rb Reg.pwrWakecfg 6 = false ∨ (s.pwr.state = .run ∧ s.pwr.target = none ∧
        ∀ c, s.pwr.causes = some c → c.hib = false ∨ c.aon ≠ s.rtc.aon) →
      Completes .rtcAlarm s (fun u =>
        u.rtc = { s.rtc with alarmed := true } ∧ u.rb (Reg.hdrIraw Page.pwr) 4 = true ∧ OffRegs [Reg.hdrIraw Page.pwr] s u ∧
        u = { s with regs := u.regs, w1set := u.w1set, rtc := u.rtc, evq := u.evq })) ∧
    (due → s.rb Reg.pwrWakecfg 6 = true →
      (s.pwr.state = .hibernate →
        Completes .rtcAlarm s (fun u =>
          u.pwr = { s.pwr with woken := true, pwren := true, causes := some ⟨0x80, s.rtc.aon, true⟩ } ∧ u.rd Reg.pwrWakesrc = 4)) ∧
      (s.pwr.state = .sleep →
        Completes .rtcAlarm s (fun u => u.pwr.state = .run ∧ u.rd Reg.pwrWakesrc = 4 ∧ u.rb (Reg.hdrIraw Page.pwr) 0 = true))) ∧
    (¬ due → Completes .rtcAlarm s (fun u => u = s)))) ∧
  (∀ (s : State),
   (∀ (n : Fin 12) (level : Bool),
     let seen := s.pageOff Page.gpio = false ∧ s.rb Reg.gpioGin n ≠ level ∧ (s.gpioOut n = true → s.rb Reg.gpioGout n = level)
     (seen → Completes (.gpioEdge n level) s (fun u =>
       u.rb Reg.gpioGin n = level ∧ u.rd Reg.gpioGedgcnt = s.rd Reg.gpioGedgcnt + 1 ∧
       u.rb (Reg.hdrIraw Page.gpio) (if level then n else 16 + n) = true ∧
       u.evq = s.evq ++ (if s.pageEn Page.gpio then [.gev n level] else []) ∧
       OffRegs [Reg.gpioGin, Reg.gpioGedgcnt, Reg.hdrIraw Page.gpio] s u ∧
       u = { s with regs := u.regs, w1set := u.w1set, evq := u.evq })) ∧
     (¬ seen → Completes (.gpioEdge n level) s (fun u => u = s)) ∧
     s.evChan (.gev n level) = if s.rb (Reg.gpioGev n) (if level then 8 else 9) then some (s.rf (Reg.gpioGev n) 0 8) else none) ∧
   (∀ (req : Req) (v : Word), s.reaches req Page.gpio = true →
     Completes (.gset req v) s (fun u => u = s.wr Reg.gpioGout (s.rd Reg.gpioGout ||| (v &&& 0xFFF))) ∧
     Completes (.gclr req v) s (fun u => u = s.wr Reg.gpioGout (s.rd Reg.gpioGout &&& ~~~ (v &&& 0xFFF)))))

/-! ### Debug port (16 R530-R544) -/

/-- Packets (R530-R537): a silent port hears nothing; a bad CRC is answered CRCERR, any packet but COLLECT and IDCODE while an operation
is pending BUSYTAG, and an operation while locked LOCKED; an operation that outlasts its status cycle is PENDING; else it runs and its
answer carries its status and data. Which of the answers goes first is the model's (assumption 22). -/
def Obligations.DebugPackets : Prop :=
  ∀ (s : State) (tag : Fin 16) (addr : BitVec 24) (a : BitVec 32) (v : Word) (d : BitVec 64) (k : Fin 256) (sel : Fin 512) (h : BitVec 16),
  let answered := fun (t : State) (st : Nat) (data : List Word) (u : State) =>
    u = { t.bump Reg.dbgcPktcnt with dbg := { t.dbg with status := some (tag * 16 + st) }, rdata := data }
  ∀ x : (Bool → Bool → Instr) × DbgOp,
    x ∈ [((.rdreg tag · · addr), .rdreg addr.toNat), ((.wrreg tag · · addr v), .wrreg addr.toNat v),
         ((.rdmem tag · · a), .rdmem a.toNat), ((.wrmem tag · · a d), .wrmem a.toNat d.toNat), ((.halt tag · · k), .halt k),
         ((.ctlResume tag · · k), .resume k), ((.ctlStep tag · · k), .step k), ((.haltall tag · ·), .haltall),
         ((.resumeall tag · ·), .resumeall), ((.crd tag · · k sel), .crd k sel), ((.cwr tag · · k sel h), .cwr k sel h.toNat)] →
  (s.dbgLive = false → ∀ crcOk late, Completes (x.1 crcOk late) s (fun u => u = s)) ∧
  (s.dbgLive = true →
    (∀ late, Completes (x.1 false late) s (answered (s.bump Reg.dbgcDcrcerr) 4 [])) ∧
    (∀ late, s.dbg.pend.isSome = true → Completes (x.1 true late) s (answered s 6 [])) ∧
    (∀ late, s.dbg.pend = none → s.dbgOpen = false → Completes (x.1 true late) s (answered s 3 [])) ∧
    (s.dbg.pend = none → s.dbgOpen = true →
      Completes (x.1 true true) s (answered { s with dbg := { s.dbg with pend := some (tag, x.2), result := none } } 1 []) ∧
      Completes (x.1 true false) s (answered (s.runDbg x.2).2 (s.runDbg x.2).1.1 (s.runDbg x.2).1.2)))

/-- The operations of the port (R534, R535, R540, R541, R543): registers as requester 256; a tile's words, refused out of span, in SLEEP
or on a running core's instruction SRAM, a gated tile waking first (R353); HALT asks a running core to halt, RESUME and STEP free a halted
one, each refused otherwise; HALTALL and RESUMEALL act on every core; CRD and CWR reach a halted core's registers. The choices of the
model in it: assumption 22. -/
def Obligations.DebugOperations : Prop := ∀ (s : State),
  let no : Nat × List Word := (2, [])
  (∀ (addr : Nat) (v : Word),
    (s.regPoison 256 addr = false → s.runDbg (.rdreg addr) = ((0, [(s.readReg 256 addr).1]), (s.readReg 256 addr).2)) ∧
    (s.regPoison 256 addr = true → s.runDbg (.rdreg addr) = ((5, [0]), (s.readReg 256 addr).2)) ∧
    s.runDbg (.wrreg addr v) = ((0, []), s.busWrite 256 addr v)) ∧
  (∀ (t : Fin 128) (sp : Fin 4) (c : Fin 2) (w : Fin 65536) (v : BitVec 64),
    let a := t.val + 128 * sp + 512 * c + 65536 * w
    let size := [40960, 1024, 8192, 0].getD sp 0
    let st := Store.tile t (if sp.val = 0 then 0 else if sp.val = 1 then 1 + c else 3 + c)
    let word : BitVec 64 := if sp.val = 2 then BitVec.ofNat 64 (v.toNat % 2 ^ 24) else v
    let k := 2 * t.val + c.val
    let mayWrite := (s.core k).halted = true ∨ (s.coreRun k = false ∧ (s.core k).disp = none)
    (size ≤ w.val ∨ s.pwr.state ≠ .run → s.runDbg (.rdmem a) = (no, s) ∧ s.runDbg (.wrmem a v.toNat) = (no, s)) ∧
    (w < size → s.pwr.state = .run →
      (s.tileAwake t = false → s.runDbg (.rdmem a) = (s.wakeServed t).runDbg (.rdmem a) ∧ (s.wakeServed t).tileAwake t = true) ∧
      (s.tileAwake t = true →
        (∀ d, checkAt st (s.rawWord st w) = .good d → s.runDbg (.rdmem a) = ((0, [lo32 d.toNat, hi32 d.toNat]), s)) ∧
        (checkAt st (s.rawWord st w) = .poison → (s.runDbg (.rdmem a)).1 = (5, [0, 0]))) ∧
      (sp.val = 2 → ¬ mayWrite → s.runDbg (.wrmem a v.toNat) = (no, s)) ∧
      (sp.val ≠ 2 ∨ mayWrite → (s.runDbg (.wrmem a v.toNat)).1 = (0, []) ∧
        (s.unarmed = true → (s.runDbg (.wrmem a v.toNat)).2.rawWord st w = encodeAt st word)))) ∧
  (∀ (a : Nat) (v : Nat), natField a 10 6 ≠ 0 → s.runDbg (.rdmem a) = (no, s) ∧ s.runDbg (.wrmem a v) = (no, s)) ∧
  (∀ k : Fin 256,
    let c := s.core k
    (s.coreRun k = false → s.runDbg (.halt k) = (no, s)) ∧
    (s.coreRun k = true → c.halted = false →
      (s.runDbg (.halt k)).1 = (0, []) ∧ CoreBecomes k { c with haltReq := c.haltReq ||| 1 } s (s.runDbg (.halt k)).2) ∧
    (c.halted = false → s.runDbg (.resume k) = (no, s) ∧ s.runDbg (.step k) = (no, s) ∧
      (∀ sel v, s.runDbg (.crd k sel) = (no, s) ∧ s.runDbg (.cwr k sel v) = (no, s))) ∧
    (c.halted = true →
      (s.runDbg (.resume k)).1 = (0, []) ∧
      CoreBecomes k { c with halted := false, bpSkip := true, haltReq := 0, wpHit := false } s (s.runDbg (.resume k)).2 ∧
      (s.runDbg (.step k)).1 = (0, []) ∧
      (s.runDbg (.step k)).2.core k = { c with halted := false, bpSkip := true, haltReq := 4, wpHit := false } ∧
      (c.mulq = [] →
        (∀ i < 16, (c.tag i = false → (s.runDbg (.crd k (0x100 + i))).1 = (0, [w32 (c.reg i).toNat])) ∧
          (c.tag i = true → (s.runDbg (.crd k (0x100 + i))).1 = (5, [0])) ∧
          ∀ v, CoreBecomes k (c.setReg i (BitVec.ofNat 8 v) false) s (s.runDbg (.cwr k (0x100 + i) v)).2) ∧
        (s.runDbg (.crd k 0x110)).1 = (0, [w32 c.pc.toNat]) ∧
        (∀ v, CoreBecomes k { c with pc := BitVec.ofNat 13 v, atBkpt := false } s (s.runDbg (.cwr k 0x110 v)).2) ∧
        (∀ i < 4, (s.runDbg (.crd k (0x120 + i))).1 = (0, [w32 (c.bp.getD i 0).toNat]) ∧
          ∀ v, CoreBecomes k { c with bp := c.bp.set i (BitVec.ofNat 16 v &&& 0x9FFF) } s (s.runDbg (.cwr k (0x120 + i) v)).2) ∧
        (∀ i < 2, (s.runDbg (.crd k (0x128 + i))).1 = (0, [w32 (c.wpa.getD i 0).toNat]) ∧
          (s.runDbg (.crd k (0x12A + i))).1 = (0, [w32 (c.wpc.getD i 0).toNat]) ∧
          ∀ v, CoreBecomes k { c with wpa := c.wpa.set i (BitVec.ofNat 16 v) } s (s.runDbg (.cwr k (0x128 + i) v)).2 ∧
            CoreBecomes k { c with wpc := c.wpc.set i (BitVec.ofNat 16 v &&& 0x3F) } s (s.runDbg (.cwr k (0x12A + i) v)).2) ∧
        (∀ sel v, sel < 0x100 → srReserved sel = true → s.runDbg (.crd k sel) = (no, s) ∧ s.runDbg (.cwr k sel v) = (no, s))))) ∧
  (∀ k < 256,
    ((s.runDbg .haltall).2.core k).haltReq =
      (if s.coreRun k && !(s.core k).halted then (s.core k).haltReq ||| 2 else (s.core k).haltReq) ∧
    ((s.runDbg .resumeall).2.core k).halted = false)

/-- The rest of the port (R530-R533, R536-R541, R544): identity, a reserved OP, challenge and response with the lockout that doubles, reset,
COLLECT, completion in the background, line resets, relocking, and the halts of cores. The choices of the model in it: assumption 22. -/
def Obligations.DebugControl : Prop := ∀ (s : State),
  (s.dbgLive = true → ∀ tag : Fin 16,
    let answered := fun (t : State) (st : Nat) (data : List Word) (u : State) =>
      u = { t.bump Reg.dbgcPktcnt with dbg := { t.dbg with status := some (tag * 16 + st) }, rdata := data }
    Completes (.idcode tag true false) s (answered s 0 [s.rd Reg.devPartid, s.rd Reg.devStep]) ∧
    (∀ crcOk, Completes (.idcode tag crcOk true) s (fun u =>
      u = { s.bump Reg.dbgcBadpkt with dbg := { s.dbg with silent := true, status := none } })) ∧
    (∀ (v : BitVec 128) (w : BitVec 16) (t : Fin 16),
      (∀ x ∈ [Instr.idcode tag false false, .chal tag false, .resp tag false v, .dbgReset tag false w, .collect tag false t],
        Completes x s (answered (s.bump Reg.dbgcDcrcerr) 4 [])) ∧
      (s.dbg.pend.isSome = true → ∀ x ∈ [Instr.chal tag true, .resp tag true v, .dbgReset tag true w],
        Completes x s (answered s 6 []))) ∧
    (s.dbg.pend = none →
      (let c := Config.challenge s.dbg.challenges
       (s.dbgLevel ≠ 2 → s.dbg.lockoutTo ≤ s.time.fab →
         Completes (.chal tag true) s (answered { s with dbg := { s.dbg with challenge := some c, challenges := s.dbg.challenges + 1 } } 0
           ((List.range 4).map (fun i => w32 (c.toNat / 2 ^ (32 * i)))))) ∧
       (s.dbgLevel = 2 ∨ s.time.fab < s.dbg.lockoutTo → Completes (.chal tag true) s (answered s 3 []))) ∧
      (∀ v : BitVec 128,
        let t : State := { s with dbg := { s.dbg with challenge := none } }
        (s.dbgLevel = 2 → Completes (.resp tag true v) s (answered s 3 [])) ∧
        (s.dbgLevel ≠ 2 → s.rb Reg.dbgcDlctl 1 = true → Completes (.resp tag true v) s (answered t 3 [])) ∧
        (s.dbgLevel ≠ 2 → s.rb Reg.dbgcDlctl 1 = false →
          (∀ c, s.dbg.challenge = some c → v = s.dbgExpected c →
            Completes (.resp tag true v) s
              (answered (State.raise { t with dbg := { t.dbg with unlocked := true, fails := 0 } } Page.dbgc 0) 0 [])) ∧
          (s.dbg.challenge.any (fun c => v == s.dbgExpected c) = false →
            let n := s.dbg.fails + 1
            let f : State := { t with dbg := { t.dbg with fails := n, lockoutTo := s.time.fab + 4000000 * 2 ^ min (n - 1) 10 } }
            Completes (.resp tag true v) s (answered ((f.bump Reg.dbgcUfail).raise Page.dbgc 1) 2 [])))) ∧
      (s.dbgOpen = true →
        Completes (.dbgReset tag true 0xD1E5) s (fun u =>
          u.rd Reg.devRstcause = w32 (s.causesWith 0x20) ∧ u.pwr.booting = true ∧ u.dbg.status = some (tag.val * 16) ∧ u.rdata = []) ∧
        (∀ v, v ≠ 0xD1E5 → Completes (.dbgReset tag true v) s (answered s 2 []))) ∧
      (s.dbgOpen = false → ∀ v, Completes (.dbgReset tag true v) s (answered s 3 []))) ∧
    (∀ t : Fin 16,
      (s.dbgOpen = false → Completes (.collect tag true t) s (answered s 3 [])) ∧
      (s.dbgOpen = true →
        (s.dbg.pend = none → Completes (.collect tag true t) s (answered s 7 [])) ∧
        (∀ (i : Nat) (o : DbgOp), s.dbg.pend = some (i, o) →
          (i ≠ t → Completes (.collect tag true t) s (answered s 7 [])) ∧
          (i = t → s.dbg.result = none → Completes (.collect tag true t) s (answered s 1 [])) ∧
          (∀ st data, i = t → s.dbg.result = some (st, data) →
            Completes (.collect tag true t) s (answered { s with dbg := { s.dbg with pend := none, result := none } } st data)))))) ∧
  (∀ (o : DbgOp) (rest : List DbgOp), s.dbg.orphans = o :: rest →
    Completes .debugOperationComplete s (fun u => u = (State.runDbg { s with dbg := { s.dbg with orphans := rest } } o).2)) ∧
  (s.dbg.orphans = [] →
    (∀ (i : Nat) (o : DbgOp), s.dbg.pend = some (i, o) → s.dbg.result = none →
      Completes .debugOperationComplete s (fun u =>
        let r := s.runDbg o
        u = { r.2 with dbg := { r.2.dbg with result := some r.1 } })) ∧
    (s.dbg.pend = none ∨ s.dbg.result.isSome = true → Completes .debugOperationComplete s (fun u => u = s))) ∧
  (s.pwr.state ≠ .hibernate →
    (let left := match s.dbg.pend, s.dbg.result with
       | some (_, o), none => [o]
       | _, _ => []
     Completes (.lineReset 0x5A) s (fun u =>
       u.dbg = { s.dbg with silent := false, status := none, pend := none, result := none, orphans := s.dbg.orphans ++ left } ∧
       u.rb (Reg.hdrIraw Page.dbgc) 3 = true ∧ OffRegs [Reg.hdrIraw Page.dbgc] s u ∧
       u = { s with regs := u.regs, w1set := u.w1set, dbg := u.dbg })) ∧
    (∀ b : Byte, b ≠ 0x5A →
      Completes (.lineReset b) s (fun u => u = { s with dbg := { s.dbg with silent := true, status := none } }))) ∧
  (∀ (req : Req) (v : Word), s.reaches req Page.dbgc = true → s.lockedFor Page.dbgc = false →
    Completes (.relock req v) s (fun u =>
      u.dbg = { s.dbg with unlocked := false } ∧ u.rd Reg.dbgcDlctl = v &&& 0xE ∧ OffRegs [Reg.dbgcDlctl] s u ∧
      u = { s with regs := u.regs, dbg := u.dbg })) ∧
  (∀ k : Fin 256,
    let halts := fun (reason : Nat) (u : State) =>
      u.core k = { s.core k with halted := true, atBkpt := reason == 5, haltReq := 0, wpHit := false, wait := .none } ∧
      u.rd Reg.dbgcLasthalt = w32 (k / 2 + k % 2 * 2 ^ 7 + reason * 2 ^ 8 + s.time.w0 % 2 ^ 16 * 2 ^ 16) ∧
      u.rb (Reg.hdrIraw Page.dbgc) 2 = true ∧ OffUnit State.core k s u ∧
      OffRegs [Reg.dbgcLasthalt, Reg.hdrIraw Page.dbgc] s u ∧ u = { s with regs := u.regs, w1set := u.w1set, cores := u.cores }
    let due := (s.core k).stopDue = true ∧ (s.core k).halted = false ∧ s.coreRun k = true
    let brk := s.coreActive k = true ∧ (s.core k).wait = .none ∧ (s.core k).atBreak = true
    (due → Completes (.coreHalted k) s (halts (s.haltReason k))) ∧ (¬ due → Completes (.coreHalted k) s (fun u => u = s)) ∧
    (brk → Completes (.breakpoint k) s (halts 3)) ∧ (¬ brk → Completes (.breakpoint k) s (fun u => u = s)) ∧
    ((s.core k).running = true → (s.core k).atBreak = true → s.haltReason k = 3) ∧
    ((s.core k).atBreak = false → s.beforeBkpt k = false →
      s.haltReason k = if (s.core k).wpHit then 4 else if (s.core k).haltReq.testBit 3 then 2
        else if (s.core k).haltReq.testBit 0 then 1 else 6))

/-! ### Nimlor cores (11 R354-R394) -/

/-- Arithmetic and moves (R360-R364, R368, R370, R380), each spelled with its word: the destination takes the value computed from the
operands as numbers, its tag tells a tagged operand, and the core goes on; ADDC and SUBC into an odd register trap RESOP; a multiplier
operation joins those in flight, and at its completion, four core cycles after its issue, MP takes its result. The choices of the model in
it: assumption 21. -/
def Obligations.NimlorArithmetic : Prop := ∀ (s : State) (k : Fin 256) (d a b cc : Fin 16) (pd pa pb : Fin 8) (imm : Byte) (i16 : BitVec 16)
    (i12 : BitVec 12),
  let c := s.readyCore k
  let A : Int := (c.reg a).toNat
  let B : Int := (c.reg b).toNat
  let C : Int := (c.reg cc).toNat % 2
  let SA := (c.reg a).toInt
  let SB := (c.reg b).toInt
  let n := (c.reg b).toNat % 8
  let gives := fun (v : Int) (tag : Bool) (u : State) => CoreBecomes k ((c.setReg d (BitVec.ofInt 8 v) tag).goesOn) s u
  let r := fun (op last : Nat) => (BitVec.ofNat 24 (op * 2 ^ 18 + d * 2 ^ 14 + a * 2 ^ 10 + b * 2 ^ 6 + last) : BitVec 24)
  (∀ x : Instr × Nat × Int,
    x ∈ [(.add k, 0, A + B), (.sub k, 1, A - B), (.and_ k, 2, ((c.reg a &&& c.reg b).toNat : Int)),
         (.or_ k, 3, ((c.reg a ||| c.reg b).toNat : Int)), (.xor_ k, 4, ((c.reg a ^^^ c.reg b).toNat : Int)), (.mov k, 5, A),
         (.not_ k, 6, 255 - A), (.neg k, 7, -A), (.shl k, 8, A * 2 ^ n), (.shr k, 9, A / 2 ^ n), (.sar k, 10, SA / 2 ^ n),
         (.rol k, 11, A * 2 ^ n + A / 2 ^ (8 - n)), (.shli k, 12, A * 2 ^ b.val), (.shri k, 13, A / 2 ^ b.val),
         (.sari k, 14, SA / 2 ^ b.val), (.roli k, 15, A * 2 ^ b.val + A / 2 ^ (8 - b.val)), (.minu k, 16, min A B), (.maxu k, 17, max A B),
         (.mins k, 18, min SA SB), (.maxs k, 19, max SA SB), (.sltu k, 20, if A < B then 1 else 0), (.slt k, 21, if SA < SB then 1 else 0)] →
    (x.2.1 ∈ [5, 6, 7] → b = 0) → (x.2.1 ∈ [12, 13, 14, 15] → b < 8) → s.fetches k (r 1 x.2.1) = true →
    Completes x.1 s (gives x.2.2 (c.tag a || (!([5, 6, 7, 12, 13, 14, 15].contains x.2.1) && c.tag b)))) ∧
  (∀ x : Instr × Nat × Int,
    x ∈ [(.addc k, 2, A + B + C), (.subc k, 3, (if A < B + C then 512 else 0) + A - B - C)] → s.fetches k (r x.2.1 (4 * cc)) = true →
    let t := c.tag a || c.tag b || c.tag cc
    (d.val % 2 = 0 → Completes x.1 s (CoreBecomes k ((c.setPair (d / 2) (BitVec.ofInt 16 x.2.2) t t).goesOn) s)) ∧
    (d.val % 2 = 1 → Completes x.1 s (Trapped k 1 (r x.2.1 (4 * cc)) s))) ∧
  (∀ x : Instr × Nat × Byte,
    x ∈ [(.addi k, 4, c.reg a + imm), (.andi k, 5, c.reg a &&& imm), (.ori k, 6, c.reg a ||| imm), (.xori k, 7, c.reg a ^^^ imm)] →
    s.fetches k (BitVec.ofNat 24 (x.2.1 * 2 ^ 18 + d * 2 ^ 14 + a * 2 ^ 10 + imm.toNat * 4)) = true →
    Completes x.1 s (CoreBecomes k ((c.setReg d x.2.2 (c.tag a)).goesOn) s)) ∧
  (s.fetches k (BitVec.ofNat 24 (8 * 2 ^ 18 + d * 2 ^ 14 + imm.toNat * 2 ^ 6)) = true →
    Completes (.li k) s (CoreBecomes k ((c.setReg d imm false).goesOn) s)) ∧
  (let P : Int := (c.pair pa).toNat
   let Q : Int := (c.pair pb).toNat
   let SP := (c.pair pa).toInt
   let m := (c.pair pb).toNat % 16
   let al := c.tag (2 * pa)
   let ah := c.tag (2 * pa + 1)
   let bl := c.tag (2 * pb)
   let bh := c.tag (2 * pb + 1)
   (∀ x : Instr × Nat × Int × Bool × Bool,
     x ∈ [(.addp k, 0, P + Q, al || ah || bl || bh, al || ah || bl || bh), (.subp k, 1, P - Q, al || ah || bl || bh, al || ah || bl || bh),
          (.movp k, 2, P, al, ah), (.shlp k, 3, P * 2 ^ m, al || ah || bl, al || ah || bl),
          (.shrp k, 4, P / 2 ^ m, al || ah || bl, al || ah || bl), (.sarp k, 5, SP / 2 ^ m, al || ah || bl, al || ah || bl),
          (.sxp k, 6, (c.reg (2 * pa)).toInt, al, al), (.zxp k, 7, ((c.reg (2 * pa)).toNat : Int), al, al)] →
     (x.2.1 ∈ [2, 6, 7] → pb = 0) →
     s.fetches k (BitVec.ofNat 24 (0x0D * 2 ^ 18 + pd * 2 ^ 15 + pa * 2 ^ 12 + pb * 2 ^ 9 + x.2.1)) = true →
     Completes x.1 s (CoreBecomes k ((c.setPair pd (BitVec.ofInt 16 x.2.2.1) x.2.2.2.1 x.2.2.2.2).goesOn) s)) ∧
   (s.fetches k (BitVec.ofNat 24 ((0x0E + i16.toNat / 2 ^ 15) * 2 ^ 18 + pd * 2 ^ 15 + i16.toNat % 2 ^ 15)) = true →
     Completes (.lip k) s (CoreBecomes k ((c.setPair pd i16 false false).goesOn) s)) ∧
   (s.fetches k (BitVec.ofNat 24 (0x10 * 2 ^ 18 + pd * 2 ^ 15 + pa * 2 ^ 12 + i12.toNat)) = true →
     Completes (.addpi k) s (CoreBecomes k ((c.setPair pd (BitVec.ofInt 16 (P + i12.toInt)) (al || ah) (al || ah)).goesOn) s)) ∧
   (∀ x : Instr × Nat, x ∈ [(.mulu k, 0), (.muls k, 1), (.mulsu k, 2), (.macu k, 3), (.macs k, 4), (.mpclr k, 5)] →
     (x.2 = 5 → pa = 0 ∧ pb = 0) → s.fetches k (BitVec.ofNat 24 (0x11 * 2 ^ 18 + pa * 2 ^ 12 + pb * 2 ^ 9 + x.2)) = true →
     let tag := x.2 != 5 && (c.pairTag pa || c.pairTag pb)
     let o : MulOp := { fn := x.2, a := c.pair pa, b := c.pair pb, tag := tag, issued := s.coreCyc k }
     Completes x.1 s (CoreBecomes k (CoreSt.goesOn { c with mulq := c.mulq ++ [o] }) s))) ∧
  Completes (.multiplierComplete k) s (CoreBecomes k c s) ∧
  (∀ o : MulOp, (s.core k).mulq = [o] → o.issued + 4 ≤ s.coreCyc k →
    let x := o.a.toNat * o.b.toNat
    let old := (s.core k).mp
    c.mulq = [] ∧
    (o.fn = 0 → c.mp = BitVec.ofNat 32 x) ∧ (o.fn = 1 → c.mp = BitVec.ofInt 32 (o.a.toInt * o.b.toInt)) ∧
    (o.fn = 2 → c.mp = BitVec.ofInt 32 (o.a.toInt * o.b.toNat)) ∧ (o.fn = 3 → c.mp = old + BitVec.ofNat 32 x) ∧
    (o.fn = 4 → c.mp = old + BitVec.ofInt 32 (o.a.toInt * o.b.toInt)) ∧ (o.fn = 5 → c.mp = 0))

/-- Special registers, loads and stores (R354-R356, R358, R359, R361, R366, R367, R380, R381): a reserved number traps RESOP; a tagged
source or address POISON; a load of memory brings the newest byte of the write buffer or the byte, poison with a tag; a store enters the
buffer, or stalls at a full one, and a core cycle drains the oldest entry: the bytes it names and no other change, a tagged byte or a
poisoned word leaving poison; modes 2 and 3 step the base pair; the page window stages bytes and posts the register with the fourth. The
choices of the model in it: assumptions 20, 21. -/
def Obligations.NimlorMemory : Prop := ∀ (s : State) (k : Fin 256) (d : Fin 16) (pd pa : Fin 8) (m : Fin 4) (sc : Fin 4) (x : Fin 64) (n : Byte),
  let c := s.readyCore k
  let cyc := s.coreCyc k
  (let w : BitVec 24 := BitVec.ofNat 24 (9 * 2 ^ 18 + d * 2 ^ 14 + n.toNat * 2 ^ 6)
   s.fetches k w = true →
   (srReserved n.toNat = true → Completes (.mfs k) s (Trapped k 1 w s)) ∧
   (srReserved n.toNat = false →
     let y := c.latchCyc cyc n.toNat
     Completes (.mfs k) s (CoreBecomes k ((y.setReg d (y.sr k n.toNat).1 (y.sr k n.toNat).2).goesOn) s))) ∧
  (let w : BitVec 24 := BitVec.ofNat 24 (10 * 2 ^ 18 + d * 2 ^ 14 + n.toNat * 2 ^ 6)
   let bs := [(n.toNat, c.reg d)]
   s.fetches k w = true →
   (c.srRefuses bs = true → Completes (.mts k) s (Trapped k 1 w s)) ∧
   (c.srRefuses bs = false → c.tag d = true → Completes (.mts k) s (Trapped k 2 w s)) ∧
   (c.srRefuses bs = false → c.tag d = false → Completes (.mts k) s (CoreBecomes k ((c.writeSrs cyc bs).goesOn) s))) ∧
  (let w : BitVec 24 := BitVec.ofNat 24 (11 * 2 ^ 18 + pd * 2 ^ 15 + n.toNat * 2 ^ 6)
   s.fetches k w = true →
   (srReserved n.toNat = true ∨ srReserved (n.toNat + 1) = true → Completes (.mfsp k) s (Trapped k 1 w s)) ∧
   (srReserved n.toNat = false → srReserved (n.toNat + 1) = false →
     let y := (c.latchCyc cyc n.toNat).latchCyc cyc (n.toNat + 1)
     let lo := (c.latchCyc cyc n.toNat).sr k n.toNat
     let hi := y.sr k (n.toNat + 1)
     Completes (.mfsp k) s (CoreBecomes k ((y.setPair pd (hi.1 ++ lo.1) lo.2 hi.2).goesOn) s))) ∧
  (let w : BitVec 24 := BitVec.ofNat 24 (12 * 2 ^ 18 + pd * 2 ^ 15 + n.toNat * 2 ^ 6)
   let bs := [(n.toNat, c.reg (2 * pd)), (n.toNat + 1, c.reg (2 * pd + 1))]
   s.fetches k w = true →
   (c.srRefuses bs = true → Completes (.mtsp k) s (Trapped k 1 w s)) ∧
   (c.srRefuses bs = false → c.pairTag pd = true → Completes (.mtsp k) s (Trapped k 2 w s)) ∧
   (c.srRefuses bs = false → c.pairTag pd = false → Completes (.mtsp k) s (CoreBecomes k ((c.writeSrs cyc bs).goesOn) s))) ∧
  (let w := fun (op r : Nat) =>
     (BitVec.ofNat 24 (op * 2 ^ 18 + r + pa * 2 ^ 11 + m * 2 ^ 9 + sc * 2 ^ 7 + (if m.val = 0 then x.val % 16 else if m.val = 1 then x.val else 0)) :
       BitVec 24)
   let p := (c.pair pa).toNat
   let step := 2 ^ sc.val
   let ea := [(p + (c.reg (x % 16)).toNat * step) % 65536, (p + x * step) % 65536, p, (p + 65536 - step) % 65536].getD m 0
   let stepped := fun (y : CoreSt) =>
     if m.val = 2 then y.setPair pa (BitVec.ofNat 16 (p + step)) false false
     else if m.val = 3 then y.setPair pa (BitVec.ofNat 16 (p + 65536 - step)) false false else y
   let tagged := c.pairTag pa || (m.val == 0 && c.tag (x % 16))
   let src := if m.val = 3 then stepped c else c
   let seen := fun (kind e : Nat) (y : CoreSt) => if c.watched kind e then { y with wpHit := true } else y
   let byte := fun (t : State) (st b : Nat) => byteOf (t.peekWord st (b / 8)).toNat (b % 8)
   let held := fun (st b : Nat) => c.buffered? st (b / 8) (b % 8)
   let loads := fun (st b : Nat) => (held st b).getD (byte s st b, false)
   let two := if ea / 8 = (ea + 1) % 65536 / 8 then 1 else 2
   (∀ y : Instr × BitVec 24 × Nat, y ∈ [(.ld k, w 0x12 (d * 2 ^ 14), 0), (.ldp k, w 0x14 (pd * 2 ^ 15), 0), (.st k, w 0x13 (d * 2 ^ 14), 1),
       (.stp k, w 0x15 (pd * 2 ^ 15), two)] → s.fetches k y.2.1 = true →
     (c.wbuf.length + y.2.2 ≤ 4 → tagged = true → Completes y.1 s (Trapped k 2 y.2.1 s)) ∧
     (y.2.2 ≠ 0 → 4 < c.wbuf.length + y.2.2 → Completes y.1 s (fun u => u = s))) ∧
   (s.fetches k (w 0x12 (d * 2 ^ 14)) = true → tagged = false → ∀ st b, c.place k ea = .mem st b →
     (held st b ≠ none ∨ s.clean st (b / 8) 1 = true →
       Completes (.ld k) s (CoreBecomes k (((stepped (seen 1 ea c)).setReg d (loads st b).1 (loads st b).2).goesOn) s)) ∧
     (held st b = none → checkAt st (s.rawWord st (b / 8)) = .poison →
       Completes (.ld k) s (fun u => u.core k = ((stepped (seen 1 ea c)).setReg d 0 true).goesOn ∧
         u.rd Reg.eccPreadcnt = s.rd Reg.eccPreadcnt + 1 ∧ OffUnit State.core k s u ∧ OffRegs [Reg.eccPreadcnt] s u ∧
         u = { s with cores := u.cores, regs := u.regs }))) ∧
   (s.fetches k (w 0x14 (pd * 2 ^ 15)) = true → tagged = false → ∀ st b st' b', c.place k ea = .mem st b → c.place k (ea + 1) = .mem st' b' →
     (held st b ≠ none ∨ s.clean st (b / 8) 1 = true) → (held st' b' ≠ none ∨ s.clean st' (b' / 8) 1 = true) →
     let lo := loads st b
     let hi := loads st' b'
     Completes (.ldp k) s (CoreBecomes k
       (((stepped (seen 1 (ea + 1) (seen 1 ea c))).setPair pd (hi.1 ++ lo.1) lo.2 hi.2).goesOn) s)) ∧
   (s.fetches k (w 0x13 (d * 2 ^ 14)) = true → tagged = false → c.wbuf.length < 4 → ∀ st b, c.place k ea = .mem st b →
     let e : WriteEntry := { st := st, word := b / 8, bytes := [(b % 8, src.reg d, src.tag d)] }
     Completes (.st k) s (CoreBecomes k ((stepped { seen 2 ea c with wbuf := c.wbuf ++ [e] }).goesOn) s)) ∧
   (s.fetches k (w 0x15 (pd * 2 ^ 15)) = true → tagged = false → c.wbuf.length + two ≤ 4 →
     ∀ st b st' b', c.place k ea = .mem st b → c.place k (ea + 1) = .mem st' b' →
     let lo : Nat × Byte × Bool := (b % 8, src.reg (2 * pd), src.tag (2 * pd))
     let hi : Nat × Byte × Bool := (b' % 8, src.reg (2 * pd + 1), src.tag (2 * pd + 1))
     let es : List WriteEntry :=
       if st' = st ∧ b' / 8 = b / 8 then [{ st := st, word := b / 8, bytes := [lo, hi] }]
       else [{ st := st, word := b / 8, bytes := [lo] }, { st := st', word := b' / 8, bytes := [hi] }]
     Completes (.stp k) s (CoreBecomes k
       ((stepped { seen 2 (ea + 1) (seen 2 ea c) with wbuf := c.wbuf ++ es }).goesOn) s)) ∧
   (s.fetches k (w 0x13 (d * 2 ^ 14)) = true → tagged = false → c.wbuf = [] →
     (∀ o, c.place k ea = .dev o → devMask o ≠ 0 → (c.tag d = false ∨ devTakesTag o = true) →
       let y := (seen 2 ea c).setDev o (src.reg d &&& BitVec.ofNat 8 (devMask o)) (src.tag d)
       Completes (.st k) s (CoreBecomes k ((stepped { y with
         ppstmpSet := c.ppstmpSet || (decide (0x0A ≤ o) && decide (o < 0x0E)),
         alstmpSet := c.alstmpSet || (decide (0x25 ≤ o) && decide (o < 0x29)) }).goesOn) s)) ∧
     (∀ reg b, c.place k ea = .page reg b → c.tag d = false →
       let old : Word := (c.staged.filter (fun y => y.1 == reg)).elim 0 (·.2)
       let word := putField old (8 * b) 8 (src.reg d).toNat
       Completes (.st k) s (CoreBecomes k ((stepped (if b = 3 then { seen 2 ea c with staged := none, posted := c.posted ++ [(reg, word)] }
         else { seen 2 ea c with staged := some (reg, word) })).goesOn) s)))) ∧
  ((s.tickCore k).core k).wbuf = (if s.coreEdge k then (s.core k).wbuf.tail else (s.core k).wbuf) ∧
  (∀ (e : WriteEntry) (rest : List WriteEntry), (s.core k).wbuf = e :: rest → e.st < 1024 → e.st % 8 < 3 → e.word < 2 ^ 40 →
    s.unarmed = true →
    let u := s.drainStore k
    let old := (s.peekWord e.st e.word).toNat
    u.core k = { s.core k with wbuf := rest } ∧ OffUnit State.core k s u ∧
    (∀ st i, i < 2 ^ 40 → st ≠ e.st ∨ i ≠ e.word → u.rawWord st i = s.rawWord st i) ∧
    (s.clean e.st e.word 1 = true → (∀ b ∈ e.bytes, b.2.2 = false) →
      u.clean e.st e.word 1 = true ∧ u = { s with cores := u.cores, words := u.words } ∧
      ∀ j < 8, byteOf (u.peekWord e.st e.word).toNat j =
        ((e.bytes.filter (fun b => b.1 == j)).getLast?.map (·.2.1)).getD (byteOf old j)) ∧
    ((∃ b ∈ e.bytes, b.2.2 = true) ∨ checkWord (s.rawWord e.st e.word) = .poison → u.rawWord e.st e.word = poisonWord)) ∧
  (∀ a < 65536,
    (a < 0x8000 → c.place k a = .mem (Store.tile (k / 2) 0) (c.abnk * 0x8000 + a)) ∧
    (0x8000 ≤ a → a < 0xC000 → c.place k a = .mem (Store.tile (k / 2) 0) (c.bbnk * 0x4000 + (a - 0x8000))) ∧
    (0xC000 ≤ a → a < 0xE000 → c.place k a = .mem (Store.tile (k / 2) (1 + k % 2)) (a - 0xC000)) ∧
    (0xE000 ≤ a → a < 0xF000 → c.place k a = .dev (a - 0xE000)) ∧
    (0xF000 ≤ a → c.place k a = .page ((c.pwin + (a - 0xF000) / 1024) * 1024 + (a - 0xF000) % 1024 / 4 * 4) (a % 4)))

/-- Control (R361, R365, R369, R372-R374, R378, R379, R385, R544): a branch taken goes to its own address plus the offset and one not
taken goes on; jumps and links; loops; the system instructions; a word that is no instruction traps RESOP; the BUDGET trap is taken once;
at a loop's end address with a count above 1 the core goes back to its start. The choices of the model in it: assumptions 20, 21. -/
def Obligations.NimlorControl : Prop := ∀ (s : State) (k : Fin 256) (a b : Fin 16) (pa pb : Fin 8) (imm : Byte) (off : BitVec 12) (t : BitVec 13),
  let c := s.readyCore k
  let A := c.reg a
  let B := c.reg b
  let branches := fun (i : Instr) (w : BitVec 24) (tag taken : Bool) (offset : Int) =>
    s.fetches k w = true →
    (tag = true → Completes i s (Trapped k 2 w s)) ∧
    (tag = false → taken = true → Completes i s (CoreBecomes k (CoreSt.issued { c with pc := c.pc + BitVec.ofInt 13 offset }) s)) ∧
    (tag = false → taken = false → Completes i s (CoreBecomes k c.goesOn s))
  let w := fun (op rest : Nat) => (BitVec.ofNat 24 (op * 2 ^ 18 + rest) : BitVec 24)
  (∀ x : Instr × Nat × Bool,
    x ∈ [(.beq k, 0x18, A == B), (.bne k, 0x19, A != B), (.blt k, 0x1A, decide (A.toInt < B.toInt)), (.bge k, 0x1B, decide (B.toInt ≤ A.toInt)),
         (.bltu k, 0x1C, decide (A.toNat < B.toNat)), (.bgeu k, 0x1D, decide (B.toNat ≤ A.toNat))] →
    branches x.1 (w x.2.1 (a * 2 ^ 14 + b * 2 ^ 10 + off.toNat % 2 ^ 10)) (c.tag a || c.tag b) x.2.2 (off.truncate 10 : BitVec 10).toInt) ∧
  (∀ x : Instr × Nat × Bool,
    x ∈ [(.beqi k, 0x1E, A == imm), (.bnei k, 0x1F, A != imm), (.bltui k, 0x20, decide (A.toNat < imm.toNat)),
         (.bgeui k, 0x21, decide (imm.toNat ≤ A.toNat))] →
    branches x.1 (w x.2.1 (a * 2 ^ 14 + imm.toNat * 2 ^ 6 + off.toNat % 2 ^ 6)) (c.tag a) x.2.2 (off.truncate 6 : BitVec 6).toInt) ∧
  (let P := c.pair pa
   let Q := c.pair pb
   ∀ x : Instr × Nat × Bool,
    x ∈ [(.pbeq k, 0x22, P == Q), (.pbne k, 0x23, P != Q), (.pbltu k, 0x24, decide (P.toNat < Q.toNat)), (.pbgeu k, 0x25, decide (Q.toNat ≤ P.toNat))] →
    branches x.1 (w x.2.1 (pa * 2 ^ 15 + pb * 2 ^ 12 + off.toNat)) (c.pairTag pa || c.pairTag pb) x.2.2 off.toInt) ∧
  (∀ x : Instr × Nat × Bool, x ∈ [(.bbc k, 0x26, !A.getLsbD pb), (.bbs k, 0x27, A.getLsbD pb)] →
    branches x.1 (w x.2.1 (a * 2 ^ 14 + pb * 2 ^ 11 + off.toNat % 2 ^ 11)) (c.tag a) x.2.2 (off.truncate 11 : BitVec 11).toInt) ∧
  (s.fetches k (w 0x28 t.toNat) = true → Completes (.j k) s (CoreBecomes k (CoreSt.issued { c with pc := t }) s)) ∧
  (s.fetches k (w 0x29 t.toNat) = true →
    Completes (.jal k) s (CoreBecomes k (CoreSt.issued { c with pc := t, lk := (c.pc + 1).zeroExtend 16 }) s)) ∧
  (∀ link : Bool, s.fetches k (w 0x2A (pa * 2 ^ 15 + (if link then 2 ^ 14 else 0))) = true →
    (c.pairTag pa = true → Completes (.jr k) s (Trapped k 2 (w 0x2A (pa * 2 ^ 15 + (if link then 2 ^ 14 else 0))) s)) ∧
    (c.pairTag pa = false →
      let lk := if link then (c.pc + 1).zeroExtend 16 else c.lk
      Completes (.jr k) s (CoreBecomes k (CoreSt.issued { c with pc := (c.pair pa).truncate 13, lk := lk }) s))) ∧
  (s.fetches k (w 0x2B 0) = true → Completes (.nop k) s (CoreBecomes k c.goesOn s)) ∧
  (s.fetches k (w 0x2B 1) = true → Completes (.sysEnd k) s (fun u =>
    (u.core k).running = false ∧ (u.core k).disp = none ∧ (u.core k).pc = c.pc ∧
    (c.disp.isSome = true → u.coreRun k = s.coreRun k) ∧ (c.disp = none → u.coreRun k = false) ∧ OffUnit State.core k s u)) ∧
  (s.fetches k (w 0x2B 2) = true → Completes (.ret k) s (CoreBecomes k (CoreSt.issued { c with pc := c.lk.truncate 13 }) s)) ∧
  (s.fetches k (w 0x2B 3) = true → Completes (.rtt k) s (CoreBecomes k (CoreSt.issued { c with intrap := false, pc := c.tpc + 1 }) s)) ∧
  (s.fetches k (w 0x2B 4) = true → Completes (.rtr k) s (CoreBecomes k (CoreSt.issued { c with intrap := false, pc := c.tpc }) s)) ∧
  (∀ lv : Fin 3, s.fetches k (w 0x2B (lv * 2 ^ 16 + 5)) = true →
    Completes (.lclr k) s (CoreBecomes k (CoreSt.goesOn { c with lact := putTag c.lact lv false }) s)) ∧
  (s.fetches k (w 0x2B 6) = true →
    (s.bkptOn = false ∨ c.atBkpt = true → Completes (.bkpt k) s (CoreBecomes k c.goesOn s)) ∧
    (s.bkptOn = true → c.atBkpt = false →
      Completes (.bkpt k) s (fun u => (u.core k).halted = true ∧ (u.core k).atBkpt = true ∧ (u.core k).pc = c.pc ∧
        u.rf Reg.dbgcLasthalt 8 3 = 5 ∧ u.rb (Reg.hdrIraw Page.dbgc) 2 = true))) ∧
  (∀ code : Fin 1024, s.fetches k (w 0x2B (code * 2 ^ 6 + 7)) = true →
    Completes (.sysTrap k) s (Trapped k 4 (w 0x2B (code * 2 ^ 6 + 7)) s)) ∧
  (∀ (lv : Fin 3) (y : Instr × BitVec 24 × Nat × Nat × Bool),
    y ∈ [(.loop k, w 0x2C (lv * 2 ^ 16 + pa * 2 ^ 13 + t.toNat), t.toNat, (c.pair pa).toNat, c.pairTag pa),
         (.loopi k, w 0x2D (lv * 2 ^ 16 + imm.toNat * 2 ^ 8 + off.toNat % 2 ^ 8), off.toNat % 2 ^ 8, imm.toNat, false)] →
    s.fetches k y.2.1 = true →
    let stop := c.pc + BitVec.ofNat 13 y.2.2.1
    (y.2.2.1 = 0 → Completes y.1 s (Trapped k 1 y.2.1 s)) ∧
    (y.2.2.1 ≠ 0 → y.2.2.2.2 = true → Completes y.1 s (Trapped k 2 y.2.1 s)) ∧
    (y.2.2.1 ≠ 0 → y.2.2.2.2 = false →
      let n := y.2.2.2.1
      let on : CoreSt := { c with lps := c.lps.set lv (c.pc + 1).toNat, lpe := c.lpe.set lv stop.toNat, lpc := c.lpc.set lv n,
                                  lact := putTag c.lact lv (n != 0) }
      Completes y.1 s (CoreBecomes k (on.complete (if n = 0 then stop + 1 else c.pc + 1)).issued s))) ∧
  (∀ v : BitVec 24, s.fetches k v = true → opOf v = none → Completes (.resop k) s (Trapped k 1 v s)) ∧
  (∀ (r : RunDisp) (v : BitVec 24), (s.core k).disp = some r → r.budgetTaken = false → s.dmax k ≠ 0 → s.dmax k * 16 < (s.core k).busy →
    s.coreActive k = true → (s.core k).wait = .none → (s.core k).stopDue = false →
    (let st := Store.tile (k / 2) (3 + k % 2)
     let raw := s.rawWord st (s.core k).pc.toNat
     checkAt st raw = .good (wordData raw) ∧ (wordData raw).truncate 24 = v) →
    (s.core k).intrap = false → (s.core k).tvec.getLsbD 15 = true →
    Completes (.budget k) s (fun u =>
      u.core k = { s.core k with tpc := (s.core k).pc, tword := v, tcause := 3, intrap := true, pc := (s.core k).tvec.truncate 13,
                                 disp := some { r with budgetTaken := true } } ∧
      u.rb (Reg.hdrIraw (Page.tile (k / 2))) (k % 2) = true ∧ OffUnit State.core k s u)) ∧
  (∀ (y : CoreSt) (thru : BitVec 13),
    (∀ lv < 3, y.lact.testBit lv = true → y.lpe.getD lv 0 ≠ y.pc.toNat) → y.complete thru = { y with pc := thru }) ∧
  (∀ (y : CoreSt) (thru : BitVec 13) (lv : Nat), lv < 3 → y.lact.testBit lv = true → y.lpe.getD lv 0 = y.pc.toNat → 1 < y.lpc.getD lv 0 →
    (∀ j < 3, lv < j → y.lact.testBit j = true → y.lpe.getD j 0 ≠ y.pc.toNat) →
    y.complete thru = { y with lpc := y.lpc.set lv (y.lpc.getD lv 0 - 1), pc := BitVec.ofNat 13 (y.lps.getD lv 0) })

/-- Waits and events (R375-R377, R541): EWAIT returns and clears the masked events that are pending, or waits for one; WTU returns 1 when
HIGH of its wheel has reached WTG, 0 when its timeout passes first; EPOST posts to the other core or fires a channel; events for a core
become pending together at the end of their FAB cycle. The choices of the model in it: assumptions 15, 21. -/
def Obligations.NimlorWaits : Prop := ∀ (s : State) (k : Fin 256) (d g : Fin 16) (pb : Fin 8) (wh : Fin 4) (ch : Byte),
  let c := s.readyCore k
  let w := fun (op rest : Nat) => (BitVec.ofNat 24 (op * 2 ^ 18 + rest) : BitVec 24)
  let taken := fun (y : CoreSt) (r : Nat) =>
    let e := y.evpend &&& y.evmsk
    (CoreSt.setReg { y with evpend := y.evpend &&& (255 - e), wait := .none } r (BitVec.ofNat 8 e) false)
  (s.fetches k (w 0x2E (d * 2 ^ 14)) = true →
    (c.evpend &&& c.evmsk ≠ 0 → Completes (.ewait k) s (CoreBecomes k (taken c d).goesOn s)) ∧
    (c.evpend &&& c.evmsk = 0 → c.haltReq.testBit 2 = false →
      Completes (.ewait k) s (CoreBecomes k (CoreSt.issued { c with wait := .ewait d }) s)) ∧
    (c.evpend &&& c.evmsk = 0 → c.haltReq.testBit 2 = true →
      Completes (.ewait k) s (fun u => u.core k = c.issued ∧ u.rb Reg.dbgcDlsta 4 = true ∧ OffUnit State.core k s u ∧
        OffRegs [Reg.dbgcDlsta] s u ∧ u = { s with cores := u.cores, regs := u.regs }))) ∧
  (∀ r : Nat, (s.core k).wait = .ewait r → s.coreActive k = true → (s.core k).stopDue = false →
    (s.core k).evpend &&& (s.core k).evmsk ≠ 0 →
    let y := taken (s.core k) r
    Completes (.ewaitReturn k) s (CoreBecomes k (y.complete (y.pc + 1)) s)) ∧
  (let v := w 0x2F (d * 2 ^ 14 + wh * 2 ^ 12 + pb * 2 ^ 9)
   s.fetches k v = true →
   (c.pairTag pb = true → Completes (.wtu k) s (Trapped k 2 v s)) ∧
   (c.pairTag pb = false → c.wtg.toNat ≤ s.high wh →
     Completes (.wtu k) s (CoreBecomes k ((CoreSt.setReg { c with wait := .none } d 1 false).goesOn) s)) ∧
   (c.pairTag pb = false → s.high wh < c.wtg.toNat → c.haltReq.testBit 2 = false →
     Completes (.wtu k) s (CoreBecomes k (CoreSt.issued { c with wait := .wtu d wh (c.pair pb).toNat s.time.w0 }) s))) ∧
  (∀ r wheel us start : Nat, (s.core k).wait = .wtu r wheel us start → s.coreActive k = true → (s.core k).stopDue = false →
    let y := fun (v : Byte) => CoreSt.setReg { s.core k with wait := .none } r v false
    ((s.core k).wtg.toNat ≤ s.high wheel → Completes (.wtuReturn k) s (CoreBecomes k ((y 1).complete ((y 1).pc + 1)) s)) ∧
    (s.high wheel < (s.core k).wtg.toNat → us ≠ 0 → start + us * 1000 ≤ s.time.w0 →
      Completes (.wtuTimeout k) s (CoreBecomes k ((y 0).complete ((y 0).pc + 1)) s))) ∧
  (s.fetches k (w 0x30 0) = true →
    let o := if k.val % 2 = 0 then k.val + 1 else k.val - 1
    Completes (.epostPost k) s (fun u =>
      u.core k = c.goesOn ∧ u.core o = { s.core o with evin := (s.core o).evin ||| 1 } ∧
      (∀ j, j ≠ k.val → j ≠ o → u.core j = s.core j) ∧ u = { s with cores := u.cores })) ∧
  (s.fetches k (w 0x30 (2 ^ 16 + ch.toNat * 2 ^ 8)) = true →
    Completes (.epostFire k) s (fun u => u.core k = c.goesOn ∧ u.evq = s.evq ++ [.chan ch.toNat] ∧ OffUnit State.core k s u ∧
      u = { s with cores := u.cores, evq := u.evq })) ∧
  (s.fetches k (w 0x30 (2 * 2 ^ 16 + g * 2 ^ 4)) = true →
    (c.tag g = true → Completes (.epostFireRegister k) s (Trapped k 2 (w 0x30 (2 * 2 ^ 16 + g * 2 ^ 4)) s)) ∧
    (c.tag g = false →
      Completes (.epostFireRegister k) s (fun u => u.core k = c.goesOn ∧ u.evq = s.evq ++ [.chan (c.reg g).toNat] ∧ OffUnit State.core k s u ∧
        u = { s with cores := u.cores, evq := u.evq }))) ∧
  (s.landEvents.core k = { s.core k with evpend := (s.core k).evpend ||| (s.core k).evin, evin := 0 })

/-- The tile devices (R367, R385-R390, R394): a store to one acts behind the core's stores that still wait. COMMIT and CMTPT commit what
the port's registers hold and show the status; OPEN accepts a point that is mapped and not held, waking its tile; CLOSE abandons it; an
open lapses after 4,096 core cycles; a store to WZ zeroes the word at the address it forms; a load of TW0 or THIGHn latches its eight
bytes. The choices of the model in it: assumption 20. -/
def Obligations.NimlorDevices : Prop := ∀ (s : State) (k : Fin 256), s.canAsk (.core k) = true → s.tileAwake (k / 2) = true →
  let t := s.drainStores k
  let c := t.core k
  let shows := fun (y : CoreSt) (st : Nat) => y.setDev Dev.ppsta (BitVec.ofNat 8 st) false
  let p := c.devNat Dev.pppt 3 % 2 ^ 20
  let e := t.mapEntry (p / 64)
  let committed := fun (lane ss : Nat) (due : Option Nat) (u : State) =>
    let q := c.commitReq
    let r := t.commitRecord lane ss due q
    let after := if r.1 = 0 then CoreSt.setDev { r.2.core k with ppstmpSet := false } Dev.ppflag 0 false else r.2.core k
    (u.core k).devByte Dev.ppsta = BitVec.ofNat 8 (r.1 + (if q.tagged ∧ r.1 = 0 then 128 else 0)) ∧
    (u.core k).ppstmpSet = after.ppstmpSet ∧ (r.1 = 0 → (u.core k).devByte Dev.ppflag = 0) ∧ OffUnit State.core k r.2 u ∧
    u = { r.2 with cores := u.cores }
  (c.wbuf = [] ∧ (c = { s.core k with wbuf := [] }) ∧ ((s.core k).wbuf = [] → t = s)) ∧
  (∀ r : RunDisp, c.disp = some r →
    Completes (.commit k) s (committed r.d.lane ((c.devByte Dev.ppslot).toNat % 64) (some r.d.due))) ∧
  (c.disp = none → Completes (.commit k) s (CoreBecomes k (shows c 5) t)) ∧
  (mapValid e = false → Completes (.ppOpen k) s (CoreBecomes k (shows { c with ppoint := none } 4) t)) ∧
  (mapValid e = true → t.laneHeld (p / 64) = true → Completes (.ppOpen k) s (CoreBecomes k (shows { c with ppoint := none } 2) t)) ∧
  (mapValid e = true → t.laneHeld (p / 64) = false →
    Completes (.ppOpen k) s (fun u =>
      u.core k = shows { c with ppoint := some { point := p, accepted := s.coreCyc k, lapsed := false, fab := s.time.fab } } 0 ∧
      u.tileAwake (mapTile e) = true ∧ (t.tileAwake (mapTile e) = true → CoreBecomes k (u.core k) t u) ∧
      OffUnit State.core k t u ∧ OffPages [Page.clu (mapTile e / 16)] t u ∧ OffUnit State.tile (mapTile e) t u ∧
      OffUnit State.cluster (mapTile e / 16) t u ∧
      u = { t with cores := u.cores, regs := u.regs, w1set := u.w1set, tiles := u.tiles, clusters := u.clusters, evq := u.evq,
                   hop := { t.hop with migs := u.hop.migs }, pwr := { t.pwr with rampAt := u.pwr.rampAt } })) ∧
  (c.ppoint = none → Completes (.cmtpt k) s (CoreBecomes k (shows c 6) t)) ∧
  (∀ o : OpenPt, c.ppoint = some o →
    (o.lapsed = true ∨ o.accepted + 4096 ≤ s.coreCyc k →
      Completes (.cmtpt k) s (CoreBecomes k (shows { c with ppoint := some { o with lapsed := true } } 7) t)) ∧
    (o.lapsed = false → s.coreCyc k < o.accepted + 4096 →
      (mapValid (t.mapEntry (o.point / 64)) = false → Completes (.cmtpt k) s (CoreBecomes k (shows c 4) t)) ∧
      (mapValid (t.mapEntry (o.point / 64)) = true →
        Completes (.cmtpt k) s (committed (o.point / 64) (o.point % 64)
          ((c.disp.filter (fun r => r.d.lane == o.point / 64)).map (·.d.due))))) ∧
    (o.accepted + 4096 ≤ s.coreCyc k →
      Completes (.lapsed k) s (CoreBecomes k { s.core k with ppoint := some { o with lapsed := true } } s))) ∧
  Completes (.ppcmdClose k) s (CoreBecomes k (shows { c with ppoint := none } 0) t) ∧
  (∀ (hi : Byte),
    (∀ st b : Nat, c.place k (c.wzlo + hi.toNat * 256) = .mem st b → b < 2 ^ 40 →
      Completes (.wzWrite k hi) s (fun u =>
        (t.unarmed = true → u.rawWord st (b / 8) = 0 ∧ u.regs = t.regs ∧
          ∀ st' i, i < 2 ^ 40 → st' ≠ st ∨ i ≠ b / 8 → u.rawWord st' i = t.rawWord st' i) ∧
        u = { t with words := u.words, regs := u.regs, w1set := u.w1set, evq := u.evq })) ∧
    ((∀ st b : Nat, c.place k (c.wzlo + hi.toNat * 256) ≠ .mem st b) → Completes (.wzWrite k hi) s (fun u => u = t))) ∧
  (∀ n : Fin 4, 4 ≤ c.twLatch.length →
    Completes (.tw0Read k n) s (fun u =>
      u.rdata = [w32 (s.high n % 256)] ∧ (u.core k) = { s.core k with twLatch := c.twLatch.set n (s.high n) } ∧ OffUnit State.core k s u ∧
      u = { s with cores := u.cores, rdata := u.rdata }))

/-! ### The machine as a whole -/

/-- A step runs the command at the front of the queue with the rest still waiting, and with none waiting one FAB cycle passes
(assumption 3). A command settles at once outside SLEEP and its quiescing: only what the Millrace remembers of the occurrences due, and
of the slots its dispatchers ask for, is brought up to date (assumption 15). -/
def Obligations.StepRunsFront : Prop :=
  (∀ (s : State) (c : Instr) (rest : List Instr), s.pending = c :: rest → step s = exec c { s with pending := rest }) ∧
  (∀ s : State, s.pending = [] → step s = .next s.tick) ∧
  (∀ s : State, s.pwr.state ≠ .sleep → s.pwr.target ≠ some .sleep →
    ∃ f t l, s.settle = { s with mill := { s.mill with falls := f, ticketWait := t, laneWait := l } })

/-- The machine right after a power-on reset (R471-R473, R269, R498): every register reads its reset value, RSTCAUSE and RSTHIST name
POR, start-up stands in phase 1, nothing waits, W0 and the RTC are 0, VALID of the RTC is clear, and the invariant of FallsExact holds.
That every word of a store is the word zero and the flash erased, and the reset values the spec does not give, are the model's
(assumptions 1, 2). -/
def Obligations.ResetState : Prop :=
  let s := State.reset
  (∀ a, s.rd a = regReset a) ∧ s.rd Reg.ptpCtl = 3 ∧
  s.rd Reg.devRstcause = 1 ∧ s.rd Reg.devRsthist = 1 ∧ s.rf Reg.bootBsta 0 4 = 1 ∧
  (∀ st i, s.rawWord st i =
    if st = Store.flashMain ∨ st = Store.flashParam then encodeWord (BitVec.allOnes 64) else encodeAt st 0) ∧
  s.pending = [] ∧ s.evq = [] ∧ s.time.w0 = 0 ∧ s.rtc.sec = 0 ∧ s.rtc.valid = false ∧ s.pwr.state = .run ∧ s.pwr.booting = true ∧
  s.unarmed = true ∧ s.FallsExact

/-- From every state every step answers a next state in which the Millrace remembers exactly the live entries whose due position HIGH
has reached and that a dispatcher serves, and each one's present occurrence (R92, R119): so the invariant FallsExact holds after every
step, whatever the command. -/
def Obligations.FallsExact : Prop := ∀ s : State, ∃ t, step s = .next t ∧ t.FallsExact

/-- Time with no command, frame or event waiting (R90, R268, R269, R488, R498): over n idle FAB cycles W0 advances by
8 × (1 + ADJ × 2^-32) ns at each NET cycle, to the last bit, below its largest position, and stands still in HIBERNATE; the real-time
clock, no SET waiting, advances by n × 2.5 ns at 32,768 Hz in either. The choices of the model in it: assumption 3. -/
def Obligations.IdleTimeExact : Prop := ∀ (n : Nat) (s : State), s.pending = [] → s.evq = [] → (∀ p < 18, (s.port p).arrived = []) →
  s.rtc.set = none →
  let total := s.time.w0 * 2 ^ 32 + s.time.w0Frac + (2 ^ 32 + s.adj).toNat * 8 * ((s.time.fab + n) * 5 / 16 - s.time.fab * 5 / 16)
  ∃ t, State.idles n s = some t ∧ t.pending = [] ∧ t.time.fab = s.time.fab + n ∧ t.rd Reg.ptpAdj = s.rd Reg.ptpAdj ∧
    (t.pwr.state = .hibernate ↔ s.pwr.state = .hibernate) ∧
    (s.pwr.state ≠ .hibernate → total < 2 ^ 96 → t.time.w0 * 2 ^ 32 + t.time.w0Frac = total) ∧
    (s.pwr.state = .hibernate → t.time.w0 = s.time.w0 ∧ t.time.w0Frac = s.time.w0Frac) ∧
    (s.rtc.acc < 390625 → s.rtc.sub < 32768 → s.rtc.sec < 2 ^ 48 →
      ((t.rtc.sec * 32768 + t.rtc.sub) * 390625 + t.rtc.acc) % (2 ^ 63 * 390625) =
        ((s.rtc.sec * 32768 + s.rtc.sub) * 390625 + s.rtc.acc + 32 * n) % (2 ^ 63 * 390625) ∧
      t.rtc.acc < 390625 ∧ t.rtc.sub < 32768 ∧ t.rtc.sec < 2 ^ 48)

/-- The code of every word (R396, R397, R399): a word as written is good; with any one of its 72 bits inverted it is corrected to the
data written; with any two inverted it is uncorrectable, but for the two that make it the poison pattern; and only the pattern, all 72
bits of it, is poison, a word of syndrome 0xFF and any other content uncorrectable. -/
def Obligations.WordCode : Prop :=
  (∀ d : BitVec 64,
    checkWord (encodeWord d) = .good d ∧
    (∀ i < 72, checkWord (encodeWord d ^^^ (1#72 <<< i)) = .corrected d) ∧
    (∀ i j, i < j → j < 72 →
      checkWord (encodeWord d ^^^ (1#72 <<< i) ^^^ (1#72 <<< j)) =
        if encodeWord d ^^^ (1#72 <<< i) ^^^ (1#72 <<< j) = 0xFF0000000000000000#72 then .poison else .uncorrectable)) ∧
  (∀ w : BitVec 72,
    (checkWord w = .poison ↔ w = 0xFF0000000000000000#72) ∧
    (eccCheck (w.truncate 64) ^^^ (w >>> 64).truncate 8 = 0xFF → w ≠ 0xFF0000000000000000#72 → checkWord w = .uncorrectable))
end

