-- ==== Sys2Proof/Decode.lean ====
section
/-! DEFINITION. The words that spell a command: none, for the table gives its rows no bits. The instruction words of the
Nimlor cores, which the block fetches from its tiles, are decoded in Machine/Nimlor.lean (R360, R361). -/

namespace Sys2Proof

/-- No row of the table has bits, so no word is a command's. -/
def decodeTableWord (_nbits _w : Nat) : Option Instr := none

end Sys2Proof
end

