-- ==== Sys2Proof/Laws/Sparse.lean ====
section
/-! SUPPORT. The laws of sparse tables: a read after a write, other keys unchanged, the canonical form kept. -/

namespace Sys2Proof.Machine

variable {α : Type}

theorem Sparse.get_drop_same (d : Nat → α) (m : List (Nat × α)) (k : Nat) : Sparse.get d (Sparse.drop m k) k = d k := by
  induction m with
  | nil => rfl
  | cons e rest ih =>
    obtain ⟨j, w⟩ := e
    by_cases h : j = k
    · simpa [Sparse.drop, List.filter_cons, h] using ih
    · simpa [Sparse.drop, List.filter_cons, h, Sparse.get, Ne.symm h] using ih

theorem Sparse.get_drop_other (d : Nat → α) (m : List (Nat × α)) (k k' : Nat) (hk : k' ≠ k) :
    Sparse.get d (Sparse.drop m k) k' = Sparse.get d m k' := by
  induction m with
  | nil => rfl
  | cons e rest ih =>
    obtain ⟨j, w⟩ := e
    by_cases h : j = k
    · subst h
      simpa [Sparse.drop, List.filter_cons, Sparse.get, hk] using ih
    · by_cases h' : k' = j
      · simp [Sparse.drop, h, Sparse.get, h']
      · simpa [Sparse.drop, List.filter_cons, h, Sparse.get, h'] using ih

theorem Sparse.get_put_other (d : Nat → α) (m : List (Nat × α)) (k k' : Nat) (v : α) (hk : k' ≠ k) :
    Sparse.get d (Sparse.put k v m) k' = Sparse.get d m k' := by
  induction m with
  | nil => simp [Sparse.put, Sparse.get, hk]
  | cons e rest ih =>
    obtain ⟨j, w⟩ := e
    unfold Sparse.put
    split
    · simp [Sparse.get, hk]
    · simp [Sparse.get, ih]

/-- An entry put where the key has none is read. -/
theorem Sparse.get_put_same (d : Nat → α) (m : List (Nat × α)) (k : Nat) (v : α) :
    Sparse.get d (Sparse.put k v (Sparse.drop m k)) k = v := by
  induction m with
  | nil => simp [Sparse.drop, Sparse.put, Sparse.get]
  | cons e rest ih =>
    obtain ⟨j, w⟩ := e
    by_cases h : j = k
    · simpa [Sparse.drop, List.filter_cons, h] using ih
    · have e1 : Sparse.drop ((j, w) :: rest) k = (j, w) :: Sparse.drop rest k := by simp [Sparse.drop, h]
      rw [e1]
      unfold Sparse.put
      split
      · simp [Sparse.get]
      · simp [Sparse.get, Ne.symm h, ih]

/-- A read after a write: the value at that key, what was there at any other. -/
theorem Sparse.get_set [DecidableEq α] (d : Nat → α) (m : List (Nat × α)) (k k' : Nat) (v : α) :
    Sparse.get d (Sparse.set d m k v) k' = if k' = k then v else Sparse.get d m k' := by
  unfold Sparse.set
  split
  · next hv =>
    split
    · next h => rw [h, hv]; exact Sparse.get_drop_same d m k
    · next h => exact Sparse.get_drop_other d m k k' h
  · split
    · next h => rw [h]; exact Sparse.get_put_same d m k v
    · next h => rw [Sparse.get_put_other d _ k k' v h]; exact Sparse.get_drop_other d m k k' h

theorem Sparse.get_set_same [DecidableEq α] (d : Nat → α) (m : List (Nat × α)) (k : Nat) (v : α) :
    Sparse.get d (Sparse.set d m k v) k = v := by simp [Sparse.get_set]

theorem Sparse.get_set_other [DecidableEq α] (d : Nat → α) (m : List (Nat × α)) (k k' : Nat) (v : α) (h : k' ≠ k) :
    Sparse.get d (Sparse.set d m k v) k' = Sparse.get d m k' := by simp [Sparse.get_set, h]

theorem Sparse.above_mono : ∀ (m : List (Nat × α)) (b c : Nat), c ≤ b → Sparse.above b m = true → Sparse.above c m = true
  | [], _, _, _, _ => rfl
  | (j, v) :: rest, b, c, hc, h => by
    simp only [Sparse.above, Bool.and_eq_true, decide_eq_true_eq] at h ⊢
    exact ⟨by omega, Sparse.above_mono rest b c hc h.2⟩

theorem Sparse.above_filter (p : Nat × α → Bool) :
    ∀ (m : List (Nat × α)) (b : Nat), Sparse.above b m = true → Sparse.above b (m.filter p) = true
  | [], _, _ => rfl
  | (j, v) :: rest, b, h => by
    simp only [Sparse.above, Bool.and_eq_true, decide_eq_true_eq] at h
    cases hp : p (j, v) <;> simp [hp, Sparse.above, h.1, Sparse.above_filter p rest b h.2]

/-- Part of a table in canonical form is in canonical form. -/
theorem Sparse.wf_filter [DecidableEq α] (d : Nat → α) (p : Nat × α → Bool) :
    ∀ m : List (Nat × α), Sparse.wf d m = true → Sparse.wf d (m.filter p) = true
  | [], _ => rfl
  | (j, v) :: rest, h => by
    simp only [Sparse.wf, Bool.and_eq_true, decide_eq_true_eq] at h
    cases hp : p (j, v)
    · simpa [List.filter_cons, hp] using Sparse.wf_filter d p rest h.2
    · simp [hp, Sparse.wf, h.1.1, Sparse.above_filter p rest j h.1.2, Sparse.wf_filter d p rest h.2]

theorem Sparse.above_put (k : Nat) (v : α) :
    ∀ (m : List (Nat × α)) (b : Nat), b < k → Sparse.above b m = true → Sparse.above b (Sparse.put k v m) = true
  | [], b, hb, _ => by simp [Sparse.put, Sparse.above, hb]
  | (j, w) :: rest, b, hb, h => by
    have h' := h
    simp only [Sparse.above, Bool.and_eq_true, decide_eq_true_eq] at h'
    unfold Sparse.put
    split
    · simp [Sparse.above, hb, h'.1, h'.2]
    · simp [Sparse.above, h'.1, Sparse.above_put k v rest b hb h'.2]

theorem Sparse.wf_put [DecidableEq α] (d : Nat → α) (k : Nat) (v : α) (hv : v ≠ d k) :
    ∀ m : List (Nat × α), (∀ e ∈ m, e.1 ≠ k) → Sparse.wf d m = true → Sparse.wf d (Sparse.put k v m) = true
  | [], _, _ => by simp [Sparse.put, Sparse.wf, Sparse.above, hv]
  | (j, w) :: rest, hk, h => by
    have h' := h
    simp only [Sparse.wf, Bool.and_eq_true, decide_eq_true_eq] at h'
    have hj : j ≠ k := hk (j, w) (by simp)
    unfold Sparse.put
    split
    · next hlt =>
      simp only [Sparse.wf, Sparse.above, Bool.and_eq_true, decide_eq_true_eq]
      exact ⟨⟨hv, hlt, Sparse.above_mono rest j k (by omega) h'.1.2⟩, h'.1, h'.2⟩
    · simp only [Sparse.wf, Bool.and_eq_true, decide_eq_true_eq]
      exact ⟨⟨h'.1.1, Sparse.above_put k v rest j (by omega) h'.1.2⟩,
        Sparse.wf_put d k v hv rest (fun e he => hk e (by simp [he])) h'.2⟩

/-- Writing a table keeps its canonical form. -/
theorem Sparse.wf_set [DecidableEq α] (d : Nat → α) (m : List (Nat × α)) (k : Nat) (v : α) (h : Sparse.wf d m = true) :
    Sparse.wf d (Sparse.set d m k v) = true := by
  unfold Sparse.set
  split
  · exact Sparse.wf_filter d _ m h
  · next hv =>
    refine Sparse.wf_put d k v hv _ ?_ (Sparse.wf_filter d _ m h)
    intro e he
    simp only [Sparse.drop, List.mem_filter, bne_iff_ne] at he
    exact he.2

end Sys2Proof.Machine
end

