-- ==== Sys2Proof/Laws/State.lean ====
section
/-! SUPPORT. What each update of the state leaves in each field, and what the reads see of it: one lemma per field and
update, so that no proof unfolds a record update. -/

namespace Sys2Proof.Machine

/-! ### wr -/

@[simp] theorem State.wr_pending (s : State) (a : Nat) (v : Word) : (s.wr a v).pending = s.pending := by unfold State.wr; rfl
@[simp] theorem State.wr_time (s : State) (a : Nat) (v : Word) : (s.wr a v).time = s.time := by unfold State.wr; rfl
@[simp] theorem State.wr_orders (s : State) (a : Nat) (v : Word) : (s.wr a v).orders = s.orders := by unfold State.wr; rfl
@[simp] theorem State.wr_mill (s : State) (a : Nat) (v : Word) : (s.wr a v).mill = s.mill := by unfold State.wr; rfl
@[simp] theorem State.wr_wheels (s : State) (a : Nat) (v : Word) : (s.wr a v).wheels = s.wheels := by unfold State.wr; rfl
@[simp] theorem State.wr_armed (s : State) (a : Nat) (v : Word) : (s.wr a v).armed = s.armed := by unfold State.wr; rfl
@[simp] theorem State.wr_sent (s : State) (a : Nat) (v : Word) : (s.wr a v).sent = s.sent := by unfold State.wr; rfl
@[simp] theorem State.wr_hop (s : State) (a : Nat) (v : Word) : (s.wr a v).hop = s.hop := by unfold State.wr; rfl
@[simp] theorem State.wr_conv (s : State) (a : Nat) (v : Word) : (s.wr a v).conv = s.conv := by unfold State.wr; rfl
@[simp] theorem State.wr_slots (s : State) (a : Nat) (v : Word) : (s.wr a v).slots = s.slots := by unfold State.wr; rfl
@[simp] theorem State.wr_exc (s : State) (a : Nat) (v : Word) : (s.wr a v).exc = s.exc := by unfold State.wr; rfl
@[simp] theorem State.wr_chselWr (s : State) (a : Nat) (v : Word) : (s.wr a v).chselWr = s.chselWr := by unfold State.wr; rfl
@[simp] theorem State.wr_entered (s : State) (a : Nat) (v : Word) : (s.wr a v).entered = s.entered := by unfold State.wr; rfl
@[simp] theorem State.wr_weirs (s : State) (a : Nat) (v : Word) : (s.wr a v).weirs = s.weirs := by unfold State.wr; rfl
@[simp] theorem State.wr_pulses (s : State) (a : Nat) (v : Word) : (s.wr a v).pulses = s.pulses := by unfold State.wr; rfl
@[simp] theorem State.wr_tripBall (s : State) (a : Nat) (v : Word) : (s.wr a v).tripBall = s.tripBall := by unfold State.wr; rfl
@[simp] theorem State.wr_tripSince (s : State) (a : Nat) (v : Word) : (s.wr a v).tripSince = s.tripSince := by unfold State.wr; rfl
@[simp] theorem State.wr_ports (s : State) (a : Nat) (v : Word) : (s.wr a v).ports = s.ports := by unfold State.wr; rfl
@[simp] theorem State.wr_ptp (s : State) (a : Nat) (v : Word) : (s.wr a v).ptp = s.ptp := by unfold State.wr; rfl
@[simp] theorem State.wr_tally (s : State) (a : Nat) (v : Word) : (s.wr a v).tally = s.tally := by unfold State.wr; rfl
@[simp] theorem State.wr_streams (s : State) (a : Nat) (v : Word) : (s.wr a v).streams = s.streams := by unfold State.wr; rfl
@[simp] theorem State.wr_alarms (s : State) (a : Nat) (v : Word) : (s.wr a v).alarms = s.alarms := by unfold State.wr; rfl
@[simp] theorem State.wr_alarmCyc (s : State) (a : Nat) (v : Word) : (s.wr a v).alarmCyc = s.alarmCyc := by unfold State.wr; rfl
@[simp] theorem State.wr_alarmPosts (s : State) (a : Nat) (v : Word) : (s.wr a v).alarmPosts = s.alarmPosts := by unfold State.wr; rfl
@[simp] theorem State.wr_lastPop (s : State) (a : Nat) (v : Word) : (s.wr a v).lastPop = s.lastPop := by unfold State.wr; rfl
@[simp] theorem State.wr_chans (s : State) (a : Nat) (v : Word) : (s.wr a v).chans = s.chans := by unfold State.wr; rfl
@[simp] theorem State.wr_evq (s : State) (a : Nat) (v : Word) : (s.wr a v).evq = s.evq := by unfold State.wr; rfl
@[simp] theorem State.wr_boundary (s : State) (a : Nat) (v : Word) : (s.wr a v).boundary = s.boundary := by unfold State.wr; rfl
@[simp] theorem State.wr_held (s : State) (a : Nat) (v : Word) : (s.wr a v).held = s.held := by unfold State.wr; rfl
@[simp] theorem State.wr_cores (s : State) (a : Nat) (v : Word) : (s.wr a v).cores = s.cores := by unfold State.wr; rfl
@[simp] theorem State.wr_tiles (s : State) (a : Nat) (v : Word) : (s.wr a v).tiles = s.tiles := by unfold State.wr; rfl
@[simp] theorem State.wr_clusters (s : State) (a : Nat) (v : Word) : (s.wr a v).clusters = s.clusters := by unfold State.wr; rfl
@[simp] theorem State.wr_ptab (s : State) (a : Nat) (v : Word) : (s.wr a v).ptab = s.ptab := by unfold State.wr; rfl
@[simp] theorem State.wr_words (s : State) (a : Nat) (v : Word) : (s.wr a v).words = s.words := by unfold State.wr; rfl
@[simp] theorem State.wr_flashWords (s : State) (a : Nat) (v : Word) : (s.wr a v).flashWords = s.flashWords := by unfold State.wr; rfl
@[simp] theorem State.wr_flash (s : State) (a : Nat) (v : Word) : (s.wr a v).flash = s.flash := by unfold State.wr; rfl
@[simp] theorem State.wr_jshadow (s : State) (a : Nat) (v : Word) : (s.wr a v).jshadow = s.jshadow := by unfold State.wr; rfl
@[simp] theorem State.wr_jstaged (s : State) (a : Nat) (v : Word) : (s.wr a v).jstaged = s.jstaged := by unfold State.wr; rfl
@[simp] theorem State.wr_scrubAt (s : State) (a : Nat) (v : Word) : (s.wr a v).scrubAt = s.scrubAt := by unfold State.wr; rfl
@[simp] theorem State.wr_jwait (s : State) (a : Nat) (v : Word) : (s.wr a v).jwait = s.jwait := by unfold State.wr; rfl
@[simp] theorem State.wr_errs (s : State) (a : Nat) (v : Word) : (s.wr a v).errs = s.errs := by unfold State.wr; rfl
@[simp] theorem State.wr_shadows (s : State) (a : Nat) (v : Word) : (s.wr a v).shadows = s.shadows := by unfold State.wr; rfl
@[simp] theorem State.wr_host (s : State) (a : Nat) (v : Word) : (s.wr a v).host = s.host := by unfold State.wr; rfl
@[simp] theorem State.wr_pwr (s : State) (a : Nat) (v : Word) : (s.wr a v).pwr = s.pwr := by unfold State.wr; rfl
@[simp] theorem State.wr_rtc (s : State) (a : Nat) (v : Word) : (s.wr a v).rtc = s.rtc := by unfold State.wr; rfl
@[simp] theorem State.wr_mon (s : State) (a : Nat) (v : Word) : (s.wr a v).mon = s.mon := by unfold State.wr; rfl
@[simp] theorem State.wr_dbg (s : State) (a : Nat) (v : Word) : (s.wr a v).dbg = s.dbg := by unfold State.wr; rfl
@[simp] theorem State.wr_fuses (s : State) (a : Nat) (v : Word) : (s.wr a v).fuses = s.fuses := by unfold State.wr; rfl
@[simp] theorem State.wr_rdata (s : State) (a : Nat) (v : Word) : (s.wr a v).rdata = s.rdata := by unfold State.wr; rfl
@[simp] theorem State.wr_freeCtr (s : State) (a : Nat) (v : Word) : (s.wr a v).freeCtr = s.freeCtr := by unfold State.wr; rfl
@[simp] theorem State.wr_w1set (s : State) (a : Nat) (v : Word) : (s.wr a v).w1set = s.w1set := by unfold State.wr; rfl
@[simp] theorem State.wr_srbusy (s : State) (a : Nat) (v : Word) : (s.wr a v).srbusy = s.srbusy := by unfold State.wr; rfl
@[simp] theorem State.wheel_wr (s : State) (a : Nat) (v : Word) (m : Nat) : (s.wr a v).wheel m = s.wheel m := by unfold State.wr; rfl
@[simp] theorem State.cnv_wr (s : State) (a : Nat) (v : Word) (m : Nat) : (s.wr a v).cnv m = s.cnv m := by unfold State.wr; rfl
@[simp] theorem State.slot_wr (s : State) (a : Nat) (v : Word) (m : Nat) : (s.wr a v).slot m = s.slot m := by unfold State.wr; rfl
@[simp] theorem State.weir_wr (s : State) (a : Nat) (v : Word) (m : Nat) : (s.wr a v).weir m = s.weir m := by unfold State.wr; rfl
@[simp] theorem State.pulse_wr (s : State) (a : Nat) (v : Word) (m : Nat) : (s.wr a v).pulse m = s.pulse m := by unfold State.wr; rfl
@[simp] theorem State.port_wr (s : State) (a : Nat) (v : Word) (m : Nat) : (s.wr a v).port m = s.port m := by unfold State.wr; rfl
@[simp] theorem State.stream_wr (s : State) (a : Nat) (v : Word) (m : Nat) : (s.wr a v).stream m = s.stream m := by unfold State.wr; rfl
@[simp] theorem State.chan_wr (s : State) (a : Nat) (v : Word) (m : Nat) : (s.wr a v).chan m = s.chan m := by unfold State.wr; rfl
@[simp] theorem State.core_wr (s : State) (a : Nat) (v : Word) (m : Nat) : (s.wr a v).core m = s.core m := by unfold State.wr; rfl
@[simp] theorem State.tile_wr (s : State) (a : Nat) (v : Word) (m : Nat) : (s.wr a v).tile m = s.tile m := by unfold State.wr; rfl
@[simp] theorem State.cluster_wr (s : State) (a : Nat) (v : Word) (m : Nat) : (s.wr a v).cluster m = s.cluster m := by unfold State.wr; rfl
@[simp] theorem State.rawWord_wr (s : State) (a : Nat) (v : Word) (m : Store) (j : Nat) : (s.wr a v).rawWord m j = s.rawWord m j := by unfold State.wr; rfl

/-! ### setWheel -/

@[simp] theorem State.setWheel_pending (s : State) (n : Nat) (x : WheelSt) : (s.setWheel n x).pending = s.pending := by unfold State.setWheel; rfl
@[simp] theorem State.setWheel_time (s : State) (n : Nat) (x : WheelSt) : (s.setWheel n x).time = s.time := by unfold State.setWheel; rfl
@[simp] theorem State.setWheel_orders (s : State) (n : Nat) (x : WheelSt) : (s.setWheel n x).orders = s.orders := by unfold State.setWheel; rfl
@[simp] theorem State.setWheel_mill (s : State) (n : Nat) (x : WheelSt) : (s.setWheel n x).mill = s.mill := by unfold State.setWheel; rfl
@[simp] theorem State.setWheel_armed (s : State) (n : Nat) (x : WheelSt) : (s.setWheel n x).armed = s.armed := by unfold State.setWheel; rfl
@[simp] theorem State.setWheel_sent (s : State) (n : Nat) (x : WheelSt) : (s.setWheel n x).sent = s.sent := by unfold State.setWheel; rfl
@[simp] theorem State.setWheel_hop (s : State) (n : Nat) (x : WheelSt) : (s.setWheel n x).hop = s.hop := by unfold State.setWheel; rfl
@[simp] theorem State.setWheel_conv (s : State) (n : Nat) (x : WheelSt) : (s.setWheel n x).conv = s.conv := by unfold State.setWheel; rfl
@[simp] theorem State.setWheel_slots (s : State) (n : Nat) (x : WheelSt) : (s.setWheel n x).slots = s.slots := by unfold State.setWheel; rfl
@[simp] theorem State.setWheel_exc (s : State) (n : Nat) (x : WheelSt) : (s.setWheel n x).exc = s.exc := by unfold State.setWheel; rfl
@[simp] theorem State.setWheel_chselWr (s : State) (n : Nat) (x : WheelSt) : (s.setWheel n x).chselWr = s.chselWr := by unfold State.setWheel; rfl
@[simp] theorem State.setWheel_entered (s : State) (n : Nat) (x : WheelSt) : (s.setWheel n x).entered = s.entered := by unfold State.setWheel; rfl
@[simp] theorem State.setWheel_weirs (s : State) (n : Nat) (x : WheelSt) : (s.setWheel n x).weirs = s.weirs := by unfold State.setWheel; rfl
@[simp] theorem State.setWheel_pulses (s : State) (n : Nat) (x : WheelSt) : (s.setWheel n x).pulses = s.pulses := by unfold State.setWheel; rfl
@[simp] theorem State.setWheel_tripBall (s : State) (n : Nat) (x : WheelSt) : (s.setWheel n x).tripBall = s.tripBall := by unfold State.setWheel; rfl
@[simp] theorem State.setWheel_tripSince (s : State) (n : Nat) (x : WheelSt) : (s.setWheel n x).tripSince = s.tripSince := by unfold State.setWheel; rfl
@[simp] theorem State.setWheel_ports (s : State) (n : Nat) (x : WheelSt) : (s.setWheel n x).ports = s.ports := by unfold State.setWheel; rfl
@[simp] theorem State.setWheel_ptp (s : State) (n : Nat) (x : WheelSt) : (s.setWheel n x).ptp = s.ptp := by unfold State.setWheel; rfl
@[simp] theorem State.setWheel_tally (s : State) (n : Nat) (x : WheelSt) : (s.setWheel n x).tally = s.tally := by unfold State.setWheel; rfl
@[simp] theorem State.setWheel_streams (s : State) (n : Nat) (x : WheelSt) : (s.setWheel n x).streams = s.streams := by unfold State.setWheel; rfl
@[simp] theorem State.setWheel_alarms (s : State) (n : Nat) (x : WheelSt) : (s.setWheel n x).alarms = s.alarms := by unfold State.setWheel; rfl
@[simp] theorem State.setWheel_alarmCyc (s : State) (n : Nat) (x : WheelSt) : (s.setWheel n x).alarmCyc = s.alarmCyc := by unfold State.setWheel; rfl
@[simp] theorem State.setWheel_alarmPosts (s : State) (n : Nat) (x : WheelSt) : (s.setWheel n x).alarmPosts = s.alarmPosts := by unfold State.setWheel; rfl
@[simp] theorem State.setWheel_lastPop (s : State) (n : Nat) (x : WheelSt) : (s.setWheel n x).lastPop = s.lastPop := by unfold State.setWheel; rfl
@[simp] theorem State.setWheel_chans (s : State) (n : Nat) (x : WheelSt) : (s.setWheel n x).chans = s.chans := by unfold State.setWheel; rfl
@[simp] theorem State.setWheel_evq (s : State) (n : Nat) (x : WheelSt) : (s.setWheel n x).evq = s.evq := by unfold State.setWheel; rfl
@[simp] theorem State.setWheel_boundary (s : State) (n : Nat) (x : WheelSt) : (s.setWheel n x).boundary = s.boundary := by unfold State.setWheel; rfl
@[simp] theorem State.setWheel_held (s : State) (n : Nat) (x : WheelSt) : (s.setWheel n x).held = s.held := by unfold State.setWheel; rfl
@[simp] theorem State.setWheel_cores (s : State) (n : Nat) (x : WheelSt) : (s.setWheel n x).cores = s.cores := by unfold State.setWheel; rfl
@[simp] theorem State.setWheel_tiles (s : State) (n : Nat) (x : WheelSt) : (s.setWheel n x).tiles = s.tiles := by unfold State.setWheel; rfl
@[simp] theorem State.setWheel_clusters (s : State) (n : Nat) (x : WheelSt) : (s.setWheel n x).clusters = s.clusters := by unfold State.setWheel; rfl
@[simp] theorem State.setWheel_ptab (s : State) (n : Nat) (x : WheelSt) : (s.setWheel n x).ptab = s.ptab := by unfold State.setWheel; rfl
@[simp] theorem State.setWheel_words (s : State) (n : Nat) (x : WheelSt) : (s.setWheel n x).words = s.words := by unfold State.setWheel; rfl
@[simp] theorem State.setWheel_flashWords (s : State) (n : Nat) (x : WheelSt) : (s.setWheel n x).flashWords = s.flashWords := by unfold State.setWheel; rfl
@[simp] theorem State.setWheel_flash (s : State) (n : Nat) (x : WheelSt) : (s.setWheel n x).flash = s.flash := by unfold State.setWheel; rfl
@[simp] theorem State.setWheel_jshadow (s : State) (n : Nat) (x : WheelSt) : (s.setWheel n x).jshadow = s.jshadow := by unfold State.setWheel; rfl
@[simp] theorem State.setWheel_jstaged (s : State) (n : Nat) (x : WheelSt) : (s.setWheel n x).jstaged = s.jstaged := by unfold State.setWheel; rfl
@[simp] theorem State.setWheel_scrubAt (s : State) (n : Nat) (x : WheelSt) : (s.setWheel n x).scrubAt = s.scrubAt := by unfold State.setWheel; rfl
@[simp] theorem State.setWheel_jwait (s : State) (n : Nat) (x : WheelSt) : (s.setWheel n x).jwait = s.jwait := by unfold State.setWheel; rfl
@[simp] theorem State.setWheel_errs (s : State) (n : Nat) (x : WheelSt) : (s.setWheel n x).errs = s.errs := by unfold State.setWheel; rfl
@[simp] theorem State.setWheel_regs (s : State) (n : Nat) (x : WheelSt) : (s.setWheel n x).regs = s.regs := by unfold State.setWheel; rfl
@[simp] theorem State.setWheel_shadows (s : State) (n : Nat) (x : WheelSt) : (s.setWheel n x).shadows = s.shadows := by unfold State.setWheel; rfl
@[simp] theorem State.setWheel_host (s : State) (n : Nat) (x : WheelSt) : (s.setWheel n x).host = s.host := by unfold State.setWheel; rfl
@[simp] theorem State.setWheel_pwr (s : State) (n : Nat) (x : WheelSt) : (s.setWheel n x).pwr = s.pwr := by unfold State.setWheel; rfl
@[simp] theorem State.setWheel_rtc (s : State) (n : Nat) (x : WheelSt) : (s.setWheel n x).rtc = s.rtc := by unfold State.setWheel; rfl
@[simp] theorem State.setWheel_mon (s : State) (n : Nat) (x : WheelSt) : (s.setWheel n x).mon = s.mon := by unfold State.setWheel; rfl
@[simp] theorem State.setWheel_dbg (s : State) (n : Nat) (x : WheelSt) : (s.setWheel n x).dbg = s.dbg := by unfold State.setWheel; rfl
@[simp] theorem State.setWheel_fuses (s : State) (n : Nat) (x : WheelSt) : (s.setWheel n x).fuses = s.fuses := by unfold State.setWheel; rfl
@[simp] theorem State.setWheel_rdata (s : State) (n : Nat) (x : WheelSt) : (s.setWheel n x).rdata = s.rdata := by unfold State.setWheel; rfl
@[simp] theorem State.setWheel_freeCtr (s : State) (n : Nat) (x : WheelSt) : (s.setWheel n x).freeCtr = s.freeCtr := by unfold State.setWheel; rfl
@[simp] theorem State.setWheel_w1set (s : State) (n : Nat) (x : WheelSt) : (s.setWheel n x).w1set = s.w1set := by unfold State.setWheel; rfl
@[simp] theorem State.setWheel_srbusy (s : State) (n : Nat) (x : WheelSt) : (s.setWheel n x).srbusy = s.srbusy := by unfold State.setWheel; rfl
@[simp] theorem State.rd_setWheel (s : State) (n : Nat) (x : WheelSt) (m : Nat) : (s.setWheel n x).rd m = s.rd m := by unfold State.setWheel; rfl
@[simp] theorem State.cnv_setWheel (s : State) (n : Nat) (x : WheelSt) (m : Nat) : (s.setWheel n x).cnv m = s.cnv m := by unfold State.setWheel; rfl
@[simp] theorem State.slot_setWheel (s : State) (n : Nat) (x : WheelSt) (m : Nat) : (s.setWheel n x).slot m = s.slot m := by unfold State.setWheel; rfl
@[simp] theorem State.weir_setWheel (s : State) (n : Nat) (x : WheelSt) (m : Nat) : (s.setWheel n x).weir m = s.weir m := by unfold State.setWheel; rfl
@[simp] theorem State.pulse_setWheel (s : State) (n : Nat) (x : WheelSt) (m : Nat) : (s.setWheel n x).pulse m = s.pulse m := by unfold State.setWheel; rfl
@[simp] theorem State.port_setWheel (s : State) (n : Nat) (x : WheelSt) (m : Nat) : (s.setWheel n x).port m = s.port m := by unfold State.setWheel; rfl
@[simp] theorem State.stream_setWheel (s : State) (n : Nat) (x : WheelSt) (m : Nat) : (s.setWheel n x).stream m = s.stream m := by unfold State.setWheel; rfl
@[simp] theorem State.chan_setWheel (s : State) (n : Nat) (x : WheelSt) (m : Nat) : (s.setWheel n x).chan m = s.chan m := by unfold State.setWheel; rfl
@[simp] theorem State.core_setWheel (s : State) (n : Nat) (x : WheelSt) (m : Nat) : (s.setWheel n x).core m = s.core m := by unfold State.setWheel; rfl
@[simp] theorem State.tile_setWheel (s : State) (n : Nat) (x : WheelSt) (m : Nat) : (s.setWheel n x).tile m = s.tile m := by unfold State.setWheel; rfl
@[simp] theorem State.cluster_setWheel (s : State) (n : Nat) (x : WheelSt) (m : Nat) : (s.setWheel n x).cluster m = s.cluster m := by unfold State.setWheel; rfl
@[simp] theorem State.rawWord_setWheel (s : State) (n : Nat) (x : WheelSt) (m : Store) (j : Nat) : (s.setWheel n x).rawWord m j = s.rawWord m j := by unfold State.setWheel; rfl

/-! ### setCnv -/

@[simp] theorem State.setCnv_pending (s : State) (n : Nat) (x : ConvSt) : (s.setCnv n x).pending = s.pending := by unfold State.setCnv; rfl
@[simp] theorem State.setCnv_time (s : State) (n : Nat) (x : ConvSt) : (s.setCnv n x).time = s.time := by unfold State.setCnv; rfl
@[simp] theorem State.setCnv_orders (s : State) (n : Nat) (x : ConvSt) : (s.setCnv n x).orders = s.orders := by unfold State.setCnv; rfl
@[simp] theorem State.setCnv_mill (s : State) (n : Nat) (x : ConvSt) : (s.setCnv n x).mill = s.mill := by unfold State.setCnv; rfl
@[simp] theorem State.setCnv_wheels (s : State) (n : Nat) (x : ConvSt) : (s.setCnv n x).wheels = s.wheels := by unfold State.setCnv; rfl
@[simp] theorem State.setCnv_armed (s : State) (n : Nat) (x : ConvSt) : (s.setCnv n x).armed = s.armed := by unfold State.setCnv; rfl
@[simp] theorem State.setCnv_sent (s : State) (n : Nat) (x : ConvSt) : (s.setCnv n x).sent = s.sent := by unfold State.setCnv; rfl
@[simp] theorem State.setCnv_hop (s : State) (n : Nat) (x : ConvSt) : (s.setCnv n x).hop = s.hop := by unfold State.setCnv; rfl
@[simp] theorem State.setCnv_slots (s : State) (n : Nat) (x : ConvSt) : (s.setCnv n x).slots = s.slots := by unfold State.setCnv; rfl
@[simp] theorem State.setCnv_exc (s : State) (n : Nat) (x : ConvSt) : (s.setCnv n x).exc = s.exc := by unfold State.setCnv; rfl
@[simp] theorem State.setCnv_chselWr (s : State) (n : Nat) (x : ConvSt) : (s.setCnv n x).chselWr = s.chselWr := by unfold State.setCnv; rfl
@[simp] theorem State.setCnv_entered (s : State) (n : Nat) (x : ConvSt) : (s.setCnv n x).entered = s.entered := by unfold State.setCnv; rfl
@[simp] theorem State.setCnv_weirs (s : State) (n : Nat) (x : ConvSt) : (s.setCnv n x).weirs = s.weirs := by unfold State.setCnv; rfl
@[simp] theorem State.setCnv_pulses (s : State) (n : Nat) (x : ConvSt) : (s.setCnv n x).pulses = s.pulses := by unfold State.setCnv; rfl
@[simp] theorem State.setCnv_tripBall (s : State) (n : Nat) (x : ConvSt) : (s.setCnv n x).tripBall = s.tripBall := by unfold State.setCnv; rfl
@[simp] theorem State.setCnv_tripSince (s : State) (n : Nat) (x : ConvSt) : (s.setCnv n x).tripSince = s.tripSince := by unfold State.setCnv; rfl
@[simp] theorem State.setCnv_ports (s : State) (n : Nat) (x : ConvSt) : (s.setCnv n x).ports = s.ports := by unfold State.setCnv; rfl
@[simp] theorem State.setCnv_ptp (s : State) (n : Nat) (x : ConvSt) : (s.setCnv n x).ptp = s.ptp := by unfold State.setCnv; rfl
@[simp] theorem State.setCnv_tally (s : State) (n : Nat) (x : ConvSt) : (s.setCnv n x).tally = s.tally := by unfold State.setCnv; rfl
@[simp] theorem State.setCnv_streams (s : State) (n : Nat) (x : ConvSt) : (s.setCnv n x).streams = s.streams := by unfold State.setCnv; rfl
@[simp] theorem State.setCnv_alarms (s : State) (n : Nat) (x : ConvSt) : (s.setCnv n x).alarms = s.alarms := by unfold State.setCnv; rfl
@[simp] theorem State.setCnv_alarmCyc (s : State) (n : Nat) (x : ConvSt) : (s.setCnv n x).alarmCyc = s.alarmCyc := by unfold State.setCnv; rfl
@[simp] theorem State.setCnv_alarmPosts (s : State) (n : Nat) (x : ConvSt) : (s.setCnv n x).alarmPosts = s.alarmPosts := by unfold State.setCnv; rfl
@[simp] theorem State.setCnv_lastPop (s : State) (n : Nat) (x : ConvSt) : (s.setCnv n x).lastPop = s.lastPop := by unfold State.setCnv; rfl
@[simp] theorem State.setCnv_chans (s : State) (n : Nat) (x : ConvSt) : (s.setCnv n x).chans = s.chans := by unfold State.setCnv; rfl
@[simp] theorem State.setCnv_evq (s : State) (n : Nat) (x : ConvSt) : (s.setCnv n x).evq = s.evq := by unfold State.setCnv; rfl
@[simp] theorem State.setCnv_boundary (s : State) (n : Nat) (x : ConvSt) : (s.setCnv n x).boundary = s.boundary := by unfold State.setCnv; rfl
@[simp] theorem State.setCnv_held (s : State) (n : Nat) (x : ConvSt) : (s.setCnv n x).held = s.held := by unfold State.setCnv; rfl
@[simp] theorem State.setCnv_cores (s : State) (n : Nat) (x : ConvSt) : (s.setCnv n x).cores = s.cores := by unfold State.setCnv; rfl
@[simp] theorem State.setCnv_tiles (s : State) (n : Nat) (x : ConvSt) : (s.setCnv n x).tiles = s.tiles := by unfold State.setCnv; rfl
@[simp] theorem State.setCnv_clusters (s : State) (n : Nat) (x : ConvSt) : (s.setCnv n x).clusters = s.clusters := by unfold State.setCnv; rfl
@[simp] theorem State.setCnv_ptab (s : State) (n : Nat) (x : ConvSt) : (s.setCnv n x).ptab = s.ptab := by unfold State.setCnv; rfl
@[simp] theorem State.setCnv_words (s : State) (n : Nat) (x : ConvSt) : (s.setCnv n x).words = s.words := by unfold State.setCnv; rfl
@[simp] theorem State.setCnv_flashWords (s : State) (n : Nat) (x : ConvSt) : (s.setCnv n x).flashWords = s.flashWords := by unfold State.setCnv; rfl
@[simp] theorem State.setCnv_flash (s : State) (n : Nat) (x : ConvSt) : (s.setCnv n x).flash = s.flash := by unfold State.setCnv; rfl
@[simp] theorem State.setCnv_jshadow (s : State) (n : Nat) (x : ConvSt) : (s.setCnv n x).jshadow = s.jshadow := by unfold State.setCnv; rfl
@[simp] theorem State.setCnv_jstaged (s : State) (n : Nat) (x : ConvSt) : (s.setCnv n x).jstaged = s.jstaged := by unfold State.setCnv; rfl
@[simp] theorem State.setCnv_scrubAt (s : State) (n : Nat) (x : ConvSt) : (s.setCnv n x).scrubAt = s.scrubAt := by unfold State.setCnv; rfl
@[simp] theorem State.setCnv_jwait (s : State) (n : Nat) (x : ConvSt) : (s.setCnv n x).jwait = s.jwait := by unfold State.setCnv; rfl
@[simp] theorem State.setCnv_errs (s : State) (n : Nat) (x : ConvSt) : (s.setCnv n x).errs = s.errs := by unfold State.setCnv; rfl
@[simp] theorem State.setCnv_regs (s : State) (n : Nat) (x : ConvSt) : (s.setCnv n x).regs = s.regs := by unfold State.setCnv; rfl
@[simp] theorem State.setCnv_shadows (s : State) (n : Nat) (x : ConvSt) : (s.setCnv n x).shadows = s.shadows := by unfold State.setCnv; rfl
@[simp] theorem State.setCnv_host (s : State) (n : Nat) (x : ConvSt) : (s.setCnv n x).host = s.host := by unfold State.setCnv; rfl
@[simp] theorem State.setCnv_pwr (s : State) (n : Nat) (x : ConvSt) : (s.setCnv n x).pwr = s.pwr := by unfold State.setCnv; rfl
@[simp] theorem State.setCnv_rtc (s : State) (n : Nat) (x : ConvSt) : (s.setCnv n x).rtc = s.rtc := by unfold State.setCnv; rfl
@[simp] theorem State.setCnv_mon (s : State) (n : Nat) (x : ConvSt) : (s.setCnv n x).mon = s.mon := by unfold State.setCnv; rfl
@[simp] theorem State.setCnv_dbg (s : State) (n : Nat) (x : ConvSt) : (s.setCnv n x).dbg = s.dbg := by unfold State.setCnv; rfl
@[simp] theorem State.setCnv_fuses (s : State) (n : Nat) (x : ConvSt) : (s.setCnv n x).fuses = s.fuses := by unfold State.setCnv; rfl
@[simp] theorem State.setCnv_rdata (s : State) (n : Nat) (x : ConvSt) : (s.setCnv n x).rdata = s.rdata := by unfold State.setCnv; rfl
@[simp] theorem State.setCnv_freeCtr (s : State) (n : Nat) (x : ConvSt) : (s.setCnv n x).freeCtr = s.freeCtr := by unfold State.setCnv; rfl
@[simp] theorem State.setCnv_w1set (s : State) (n : Nat) (x : ConvSt) : (s.setCnv n x).w1set = s.w1set := by unfold State.setCnv; rfl
@[simp] theorem State.setCnv_srbusy (s : State) (n : Nat) (x : ConvSt) : (s.setCnv n x).srbusy = s.srbusy := by unfold State.setCnv; rfl
@[simp] theorem State.rd_setCnv (s : State) (n : Nat) (x : ConvSt) (m : Nat) : (s.setCnv n x).rd m = s.rd m := by unfold State.setCnv; rfl
@[simp] theorem State.wheel_setCnv (s : State) (n : Nat) (x : ConvSt) (m : Nat) : (s.setCnv n x).wheel m = s.wheel m := by unfold State.setCnv; rfl
@[simp] theorem State.slot_setCnv (s : State) (n : Nat) (x : ConvSt) (m : Nat) : (s.setCnv n x).slot m = s.slot m := by unfold State.setCnv; rfl
@[simp] theorem State.weir_setCnv (s : State) (n : Nat) (x : ConvSt) (m : Nat) : (s.setCnv n x).weir m = s.weir m := by unfold State.setCnv; rfl
@[simp] theorem State.pulse_setCnv (s : State) (n : Nat) (x : ConvSt) (m : Nat) : (s.setCnv n x).pulse m = s.pulse m := by unfold State.setCnv; rfl
@[simp] theorem State.port_setCnv (s : State) (n : Nat) (x : ConvSt) (m : Nat) : (s.setCnv n x).port m = s.port m := by unfold State.setCnv; rfl
@[simp] theorem State.stream_setCnv (s : State) (n : Nat) (x : ConvSt) (m : Nat) : (s.setCnv n x).stream m = s.stream m := by unfold State.setCnv; rfl
@[simp] theorem State.chan_setCnv (s : State) (n : Nat) (x : ConvSt) (m : Nat) : (s.setCnv n x).chan m = s.chan m := by unfold State.setCnv; rfl
@[simp] theorem State.core_setCnv (s : State) (n : Nat) (x : ConvSt) (m : Nat) : (s.setCnv n x).core m = s.core m := by unfold State.setCnv; rfl
@[simp] theorem State.tile_setCnv (s : State) (n : Nat) (x : ConvSt) (m : Nat) : (s.setCnv n x).tile m = s.tile m := by unfold State.setCnv; rfl
@[simp] theorem State.cluster_setCnv (s : State) (n : Nat) (x : ConvSt) (m : Nat) : (s.setCnv n x).cluster m = s.cluster m := by unfold State.setCnv; rfl
@[simp] theorem State.rawWord_setCnv (s : State) (n : Nat) (x : ConvSt) (m : Store) (j : Nat) : (s.setCnv n x).rawWord m j = s.rawWord m j := by unfold State.setCnv; rfl

/-! ### setSlot -/

@[simp] theorem State.setSlot_pending (s : State) (n : Nat) (x : SlotSt) : (s.setSlot n x).pending = s.pending := by unfold State.setSlot; rfl
@[simp] theorem State.setSlot_time (s : State) (n : Nat) (x : SlotSt) : (s.setSlot n x).time = s.time := by unfold State.setSlot; rfl
@[simp] theorem State.setSlot_orders (s : State) (n : Nat) (x : SlotSt) : (s.setSlot n x).orders = s.orders := by unfold State.setSlot; rfl
@[simp] theorem State.setSlot_mill (s : State) (n : Nat) (x : SlotSt) : (s.setSlot n x).mill = s.mill := by unfold State.setSlot; rfl
@[simp] theorem State.setSlot_wheels (s : State) (n : Nat) (x : SlotSt) : (s.setSlot n x).wheels = s.wheels := by unfold State.setSlot; rfl
@[simp] theorem State.setSlot_armed (s : State) (n : Nat) (x : SlotSt) : (s.setSlot n x).armed = s.armed := by unfold State.setSlot; rfl
@[simp] theorem State.setSlot_sent (s : State) (n : Nat) (x : SlotSt) : (s.setSlot n x).sent = s.sent := by unfold State.setSlot; rfl
@[simp] theorem State.setSlot_hop (s : State) (n : Nat) (x : SlotSt) : (s.setSlot n x).hop = s.hop := by unfold State.setSlot; rfl
@[simp] theorem State.setSlot_conv (s : State) (n : Nat) (x : SlotSt) : (s.setSlot n x).conv = s.conv := by unfold State.setSlot; rfl
@[simp] theorem State.setSlot_exc (s : State) (n : Nat) (x : SlotSt) : (s.setSlot n x).exc = s.exc := by unfold State.setSlot; rfl
@[simp] theorem State.setSlot_chselWr (s : State) (n : Nat) (x : SlotSt) : (s.setSlot n x).chselWr = s.chselWr := by unfold State.setSlot; rfl
@[simp] theorem State.setSlot_entered (s : State) (n : Nat) (x : SlotSt) : (s.setSlot n x).entered = s.entered := by unfold State.setSlot; rfl
@[simp] theorem State.setSlot_weirs (s : State) (n : Nat) (x : SlotSt) : (s.setSlot n x).weirs = s.weirs := by unfold State.setSlot; rfl
@[simp] theorem State.setSlot_pulses (s : State) (n : Nat) (x : SlotSt) : (s.setSlot n x).pulses = s.pulses := by unfold State.setSlot; rfl
@[simp] theorem State.setSlot_tripBall (s : State) (n : Nat) (x : SlotSt) : (s.setSlot n x).tripBall = s.tripBall := by unfold State.setSlot; rfl
@[simp] theorem State.setSlot_tripSince (s : State) (n : Nat) (x : SlotSt) : (s.setSlot n x).tripSince = s.tripSince := by unfold State.setSlot; rfl
@[simp] theorem State.setSlot_ports (s : State) (n : Nat) (x : SlotSt) : (s.setSlot n x).ports = s.ports := by unfold State.setSlot; rfl
@[simp] theorem State.setSlot_ptp (s : State) (n : Nat) (x : SlotSt) : (s.setSlot n x).ptp = s.ptp := by unfold State.setSlot; rfl
@[simp] theorem State.setSlot_tally (s : State) (n : Nat) (x : SlotSt) : (s.setSlot n x).tally = s.tally := by unfold State.setSlot; rfl
@[simp] theorem State.setSlot_streams (s : State) (n : Nat) (x : SlotSt) : (s.setSlot n x).streams = s.streams := by unfold State.setSlot; rfl
@[simp] theorem State.setSlot_alarms (s : State) (n : Nat) (x : SlotSt) : (s.setSlot n x).alarms = s.alarms := by unfold State.setSlot; rfl
@[simp] theorem State.setSlot_alarmCyc (s : State) (n : Nat) (x : SlotSt) : (s.setSlot n x).alarmCyc = s.alarmCyc := by unfold State.setSlot; rfl
@[simp] theorem State.setSlot_alarmPosts (s : State) (n : Nat) (x : SlotSt) : (s.setSlot n x).alarmPosts = s.alarmPosts := by unfold State.setSlot; rfl
@[simp] theorem State.setSlot_lastPop (s : State) (n : Nat) (x : SlotSt) : (s.setSlot n x).lastPop = s.lastPop := by unfold State.setSlot; rfl
@[simp] theorem State.setSlot_chans (s : State) (n : Nat) (x : SlotSt) : (s.setSlot n x).chans = s.chans := by unfold State.setSlot; rfl
@[simp] theorem State.setSlot_evq (s : State) (n : Nat) (x : SlotSt) : (s.setSlot n x).evq = s.evq := by unfold State.setSlot; rfl
@[simp] theorem State.setSlot_boundary (s : State) (n : Nat) (x : SlotSt) : (s.setSlot n x).boundary = s.boundary := by unfold State.setSlot; rfl
@[simp] theorem State.setSlot_held (s : State) (n : Nat) (x : SlotSt) : (s.setSlot n x).held = s.held := by unfold State.setSlot; rfl
@[simp] theorem State.setSlot_cores (s : State) (n : Nat) (x : SlotSt) : (s.setSlot n x).cores = s.cores := by unfold State.setSlot; rfl
@[simp] theorem State.setSlot_tiles (s : State) (n : Nat) (x : SlotSt) : (s.setSlot n x).tiles = s.tiles := by unfold State.setSlot; rfl
@[simp] theorem State.setSlot_clusters (s : State) (n : Nat) (x : SlotSt) : (s.setSlot n x).clusters = s.clusters := by unfold State.setSlot; rfl
@[simp] theorem State.setSlot_ptab (s : State) (n : Nat) (x : SlotSt) : (s.setSlot n x).ptab = s.ptab := by unfold State.setSlot; rfl
@[simp] theorem State.setSlot_words (s : State) (n : Nat) (x : SlotSt) : (s.setSlot n x).words = s.words := by unfold State.setSlot; rfl
@[simp] theorem State.setSlot_flashWords (s : State) (n : Nat) (x : SlotSt) : (s.setSlot n x).flashWords = s.flashWords := by unfold State.setSlot; rfl
@[simp] theorem State.setSlot_flash (s : State) (n : Nat) (x : SlotSt) : (s.setSlot n x).flash = s.flash := by unfold State.setSlot; rfl
@[simp] theorem State.setSlot_jshadow (s : State) (n : Nat) (x : SlotSt) : (s.setSlot n x).jshadow = s.jshadow := by unfold State.setSlot; rfl
@[simp] theorem State.setSlot_jstaged (s : State) (n : Nat) (x : SlotSt) : (s.setSlot n x).jstaged = s.jstaged := by unfold State.setSlot; rfl
@[simp] theorem State.setSlot_scrubAt (s : State) (n : Nat) (x : SlotSt) : (s.setSlot n x).scrubAt = s.scrubAt := by unfold State.setSlot; rfl
@[simp] theorem State.setSlot_jwait (s : State) (n : Nat) (x : SlotSt) : (s.setSlot n x).jwait = s.jwait := by unfold State.setSlot; rfl
@[simp] theorem State.setSlot_errs (s : State) (n : Nat) (x : SlotSt) : (s.setSlot n x).errs = s.errs := by unfold State.setSlot; rfl
@[simp] theorem State.setSlot_regs (s : State) (n : Nat) (x : SlotSt) : (s.setSlot n x).regs = s.regs := by unfold State.setSlot; rfl
@[simp] theorem State.setSlot_shadows (s : State) (n : Nat) (x : SlotSt) : (s.setSlot n x).shadows = s.shadows := by unfold State.setSlot; rfl
@[simp] theorem State.setSlot_host (s : State) (n : Nat) (x : SlotSt) : (s.setSlot n x).host = s.host := by unfold State.setSlot; rfl
@[simp] theorem State.setSlot_pwr (s : State) (n : Nat) (x : SlotSt) : (s.setSlot n x).pwr = s.pwr := by unfold State.setSlot; rfl
@[simp] theorem State.setSlot_rtc (s : State) (n : Nat) (x : SlotSt) : (s.setSlot n x).rtc = s.rtc := by unfold State.setSlot; rfl
@[simp] theorem State.setSlot_mon (s : State) (n : Nat) (x : SlotSt) : (s.setSlot n x).mon = s.mon := by unfold State.setSlot; rfl
@[simp] theorem State.setSlot_dbg (s : State) (n : Nat) (x : SlotSt) : (s.setSlot n x).dbg = s.dbg := by unfold State.setSlot; rfl
@[simp] theorem State.setSlot_fuses (s : State) (n : Nat) (x : SlotSt) : (s.setSlot n x).fuses = s.fuses := by unfold State.setSlot; rfl
@[simp] theorem State.setSlot_rdata (s : State) (n : Nat) (x : SlotSt) : (s.setSlot n x).rdata = s.rdata := by unfold State.setSlot; rfl
@[simp] theorem State.setSlot_freeCtr (s : State) (n : Nat) (x : SlotSt) : (s.setSlot n x).freeCtr = s.freeCtr := by unfold State.setSlot; rfl
@[simp] theorem State.setSlot_w1set (s : State) (n : Nat) (x : SlotSt) : (s.setSlot n x).w1set = s.w1set := by unfold State.setSlot; rfl
@[simp] theorem State.setSlot_srbusy (s : State) (n : Nat) (x : SlotSt) : (s.setSlot n x).srbusy = s.srbusy := by unfold State.setSlot; rfl
@[simp] theorem State.rd_setSlot (s : State) (n : Nat) (x : SlotSt) (m : Nat) : (s.setSlot n x).rd m = s.rd m := by unfold State.setSlot; rfl
@[simp] theorem State.wheel_setSlot (s : State) (n : Nat) (x : SlotSt) (m : Nat) : (s.setSlot n x).wheel m = s.wheel m := by unfold State.setSlot; rfl
@[simp] theorem State.cnv_setSlot (s : State) (n : Nat) (x : SlotSt) (m : Nat) : (s.setSlot n x).cnv m = s.cnv m := by unfold State.setSlot; rfl
@[simp] theorem State.weir_setSlot (s : State) (n : Nat) (x : SlotSt) (m : Nat) : (s.setSlot n x).weir m = s.weir m := by unfold State.setSlot; rfl
@[simp] theorem State.pulse_setSlot (s : State) (n : Nat) (x : SlotSt) (m : Nat) : (s.setSlot n x).pulse m = s.pulse m := by unfold State.setSlot; rfl
@[simp] theorem State.port_setSlot (s : State) (n : Nat) (x : SlotSt) (m : Nat) : (s.setSlot n x).port m = s.port m := by unfold State.setSlot; rfl
@[simp] theorem State.stream_setSlot (s : State) (n : Nat) (x : SlotSt) (m : Nat) : (s.setSlot n x).stream m = s.stream m := by unfold State.setSlot; rfl
@[simp] theorem State.chan_setSlot (s : State) (n : Nat) (x : SlotSt) (m : Nat) : (s.setSlot n x).chan m = s.chan m := by unfold State.setSlot; rfl
@[simp] theorem State.core_setSlot (s : State) (n : Nat) (x : SlotSt) (m : Nat) : (s.setSlot n x).core m = s.core m := by unfold State.setSlot; rfl
@[simp] theorem State.tile_setSlot (s : State) (n : Nat) (x : SlotSt) (m : Nat) : (s.setSlot n x).tile m = s.tile m := by unfold State.setSlot; rfl
@[simp] theorem State.cluster_setSlot (s : State) (n : Nat) (x : SlotSt) (m : Nat) : (s.setSlot n x).cluster m = s.cluster m := by unfold State.setSlot; rfl
@[simp] theorem State.rawWord_setSlot (s : State) (n : Nat) (x : SlotSt) (m : Store) (j : Nat) : (s.setSlot n x).rawWord m j = s.rawWord m j := by unfold State.setSlot; rfl

/-! ### setWeir -/

@[simp] theorem State.setWeir_pending (s : State) (n : Nat) (x : WeirSt) : (s.setWeir n x).pending = s.pending := by unfold State.setWeir; rfl
@[simp] theorem State.setWeir_time (s : State) (n : Nat) (x : WeirSt) : (s.setWeir n x).time = s.time := by unfold State.setWeir; rfl
@[simp] theorem State.setWeir_orders (s : State) (n : Nat) (x : WeirSt) : (s.setWeir n x).orders = s.orders := by unfold State.setWeir; rfl
@[simp] theorem State.setWeir_mill (s : State) (n : Nat) (x : WeirSt) : (s.setWeir n x).mill = s.mill := by unfold State.setWeir; rfl
@[simp] theorem State.setWeir_wheels (s : State) (n : Nat) (x : WeirSt) : (s.setWeir n x).wheels = s.wheels := by unfold State.setWeir; rfl
@[simp] theorem State.setWeir_armed (s : State) (n : Nat) (x : WeirSt) : (s.setWeir n x).armed = s.armed := by unfold State.setWeir; rfl
@[simp] theorem State.setWeir_sent (s : State) (n : Nat) (x : WeirSt) : (s.setWeir n x).sent = s.sent := by unfold State.setWeir; rfl
@[simp] theorem State.setWeir_hop (s : State) (n : Nat) (x : WeirSt) : (s.setWeir n x).hop = s.hop := by unfold State.setWeir; rfl
@[simp] theorem State.setWeir_conv (s : State) (n : Nat) (x : WeirSt) : (s.setWeir n x).conv = s.conv := by unfold State.setWeir; rfl
@[simp] theorem State.setWeir_slots (s : State) (n : Nat) (x : WeirSt) : (s.setWeir n x).slots = s.slots := by unfold State.setWeir; rfl
@[simp] theorem State.setWeir_exc (s : State) (n : Nat) (x : WeirSt) : (s.setWeir n x).exc = s.exc := by unfold State.setWeir; rfl
@[simp] theorem State.setWeir_chselWr (s : State) (n : Nat) (x : WeirSt) : (s.setWeir n x).chselWr = s.chselWr := by unfold State.setWeir; rfl
@[simp] theorem State.setWeir_entered (s : State) (n : Nat) (x : WeirSt) : (s.setWeir n x).entered = s.entered := by unfold State.setWeir; rfl
@[simp] theorem State.setWeir_pulses (s : State) (n : Nat) (x : WeirSt) : (s.setWeir n x).pulses = s.pulses := by unfold State.setWeir; rfl
@[simp] theorem State.setWeir_tripBall (s : State) (n : Nat) (x : WeirSt) : (s.setWeir n x).tripBall = s.tripBall := by unfold State.setWeir; rfl
@[simp] theorem State.setWeir_tripSince (s : State) (n : Nat) (x : WeirSt) : (s.setWeir n x).tripSince = s.tripSince := by unfold State.setWeir; rfl
@[simp] theorem State.setWeir_ports (s : State) (n : Nat) (x : WeirSt) : (s.setWeir n x).ports = s.ports := by unfold State.setWeir; rfl
@[simp] theorem State.setWeir_ptp (s : State) (n : Nat) (x : WeirSt) : (s.setWeir n x).ptp = s.ptp := by unfold State.setWeir; rfl
@[simp] theorem State.setWeir_tally (s : State) (n : Nat) (x : WeirSt) : (s.setWeir n x).tally = s.tally := by unfold State.setWeir; rfl
@[simp] theorem State.setWeir_streams (s : State) (n : Nat) (x : WeirSt) : (s.setWeir n x).streams = s.streams := by unfold State.setWeir; rfl
@[simp] theorem State.setWeir_alarms (s : State) (n : Nat) (x : WeirSt) : (s.setWeir n x).alarms = s.alarms := by unfold State.setWeir; rfl
@[simp] theorem State.setWeir_alarmCyc (s : State) (n : Nat) (x : WeirSt) : (s.setWeir n x).alarmCyc = s.alarmCyc := by unfold State.setWeir; rfl
@[simp] theorem State.setWeir_alarmPosts (s : State) (n : Nat) (x : WeirSt) : (s.setWeir n x).alarmPosts = s.alarmPosts := by unfold State.setWeir; rfl
@[simp] theorem State.setWeir_lastPop (s : State) (n : Nat) (x : WeirSt) : (s.setWeir n x).lastPop = s.lastPop := by unfold State.setWeir; rfl
@[simp] theorem State.setWeir_chans (s : State) (n : Nat) (x : WeirSt) : (s.setWeir n x).chans = s.chans := by unfold State.setWeir; rfl
@[simp] theorem State.setWeir_evq (s : State) (n : Nat) (x : WeirSt) : (s.setWeir n x).evq = s.evq := by unfold State.setWeir; rfl
@[simp] theorem State.setWeir_boundary (s : State) (n : Nat) (x : WeirSt) : (s.setWeir n x).boundary = s.boundary := by unfold State.setWeir; rfl
@[simp] theorem State.setWeir_held (s : State) (n : Nat) (x : WeirSt) : (s.setWeir n x).held = s.held := by unfold State.setWeir; rfl
@[simp] theorem State.setWeir_cores (s : State) (n : Nat) (x : WeirSt) : (s.setWeir n x).cores = s.cores := by unfold State.setWeir; rfl
@[simp] theorem State.setWeir_tiles (s : State) (n : Nat) (x : WeirSt) : (s.setWeir n x).tiles = s.tiles := by unfold State.setWeir; rfl
@[simp] theorem State.setWeir_clusters (s : State) (n : Nat) (x : WeirSt) : (s.setWeir n x).clusters = s.clusters := by unfold State.setWeir; rfl
@[simp] theorem State.setWeir_ptab (s : State) (n : Nat) (x : WeirSt) : (s.setWeir n x).ptab = s.ptab := by unfold State.setWeir; rfl
@[simp] theorem State.setWeir_words (s : State) (n : Nat) (x : WeirSt) : (s.setWeir n x).words = s.words := by unfold State.setWeir; rfl
@[simp] theorem State.setWeir_flashWords (s : State) (n : Nat) (x : WeirSt) : (s.setWeir n x).flashWords = s.flashWords := by unfold State.setWeir; rfl
@[simp] theorem State.setWeir_flash (s : State) (n : Nat) (x : WeirSt) : (s.setWeir n x).flash = s.flash := by unfold State.setWeir; rfl
@[simp] theorem State.setWeir_jshadow (s : State) (n : Nat) (x : WeirSt) : (s.setWeir n x).jshadow = s.jshadow := by unfold State.setWeir; rfl
@[simp] theorem State.setWeir_jstaged (s : State) (n : Nat) (x : WeirSt) : (s.setWeir n x).jstaged = s.jstaged := by unfold State.setWeir; rfl
@[simp] theorem State.setWeir_scrubAt (s : State) (n : Nat) (x : WeirSt) : (s.setWeir n x).scrubAt = s.scrubAt := by unfold State.setWeir; rfl
@[simp] theorem State.setWeir_jwait (s : State) (n : Nat) (x : WeirSt) : (s.setWeir n x).jwait = s.jwait := by unfold State.setWeir; rfl
@[simp] theorem State.setWeir_errs (s : State) (n : Nat) (x : WeirSt) : (s.setWeir n x).errs = s.errs := by unfold State.setWeir; rfl
@[simp] theorem State.setWeir_regs (s : State) (n : Nat) (x : WeirSt) : (s.setWeir n x).regs = s.regs := by unfold State.setWeir; rfl
@[simp] theorem State.setWeir_shadows (s : State) (n : Nat) (x : WeirSt) : (s.setWeir n x).shadows = s.shadows := by unfold State.setWeir; rfl
@[simp] theorem State.setWeir_host (s : State) (n : Nat) (x : WeirSt) : (s.setWeir n x).host = s.host := by unfold State.setWeir; rfl
@[simp] theorem State.setWeir_pwr (s : State) (n : Nat) (x : WeirSt) : (s.setWeir n x).pwr = s.pwr := by unfold State.setWeir; rfl
@[simp] theorem State.setWeir_rtc (s : State) (n : Nat) (x : WeirSt) : (s.setWeir n x).rtc = s.rtc := by unfold State.setWeir; rfl
@[simp] theorem State.setWeir_mon (s : State) (n : Nat) (x : WeirSt) : (s.setWeir n x).mon = s.mon := by unfold State.setWeir; rfl
@[simp] theorem State.setWeir_dbg (s : State) (n : Nat) (x : WeirSt) : (s.setWeir n x).dbg = s.dbg := by unfold State.setWeir; rfl
@[simp] theorem State.setWeir_fuses (s : State) (n : Nat) (x : WeirSt) : (s.setWeir n x).fuses = s.fuses := by unfold State.setWeir; rfl
@[simp] theorem State.setWeir_rdata (s : State) (n : Nat) (x : WeirSt) : (s.setWeir n x).rdata = s.rdata := by unfold State.setWeir; rfl
@[simp] theorem State.setWeir_freeCtr (s : State) (n : Nat) (x : WeirSt) : (s.setWeir n x).freeCtr = s.freeCtr := by unfold State.setWeir; rfl
@[simp] theorem State.setWeir_w1set (s : State) (n : Nat) (x : WeirSt) : (s.setWeir n x).w1set = s.w1set := by unfold State.setWeir; rfl
@[simp] theorem State.setWeir_srbusy (s : State) (n : Nat) (x : WeirSt) : (s.setWeir n x).srbusy = s.srbusy := by unfold State.setWeir; rfl
@[simp] theorem State.rd_setWeir (s : State) (n : Nat) (x : WeirSt) (m : Nat) : (s.setWeir n x).rd m = s.rd m := by unfold State.setWeir; rfl
@[simp] theorem State.wheel_setWeir (s : State) (n : Nat) (x : WeirSt) (m : Nat) : (s.setWeir n x).wheel m = s.wheel m := by unfold State.setWeir; rfl
@[simp] theorem State.cnv_setWeir (s : State) (n : Nat) (x : WeirSt) (m : Nat) : (s.setWeir n x).cnv m = s.cnv m := by unfold State.setWeir; rfl
@[simp] theorem State.slot_setWeir (s : State) (n : Nat) (x : WeirSt) (m : Nat) : (s.setWeir n x).slot m = s.slot m := by unfold State.setWeir; rfl
@[simp] theorem State.pulse_setWeir (s : State) (n : Nat) (x : WeirSt) (m : Nat) : (s.setWeir n x).pulse m = s.pulse m := by unfold State.setWeir; rfl
@[simp] theorem State.port_setWeir (s : State) (n : Nat) (x : WeirSt) (m : Nat) : (s.setWeir n x).port m = s.port m := by unfold State.setWeir; rfl
@[simp] theorem State.stream_setWeir (s : State) (n : Nat) (x : WeirSt) (m : Nat) : (s.setWeir n x).stream m = s.stream m := by unfold State.setWeir; rfl
@[simp] theorem State.chan_setWeir (s : State) (n : Nat) (x : WeirSt) (m : Nat) : (s.setWeir n x).chan m = s.chan m := by unfold State.setWeir; rfl
@[simp] theorem State.core_setWeir (s : State) (n : Nat) (x : WeirSt) (m : Nat) : (s.setWeir n x).core m = s.core m := by unfold State.setWeir; rfl
@[simp] theorem State.tile_setWeir (s : State) (n : Nat) (x : WeirSt) (m : Nat) : (s.setWeir n x).tile m = s.tile m := by unfold State.setWeir; rfl
@[simp] theorem State.cluster_setWeir (s : State) (n : Nat) (x : WeirSt) (m : Nat) : (s.setWeir n x).cluster m = s.cluster m := by unfold State.setWeir; rfl
@[simp] theorem State.rawWord_setWeir (s : State) (n : Nat) (x : WeirSt) (m : Store) (j : Nat) : (s.setWeir n x).rawWord m j = s.rawWord m j := by unfold State.setWeir; rfl

/-! ### setPulse -/

@[simp] theorem State.setPulse_pending (s : State) (n : Nat) (x : PulseSt) : (s.setPulse n x).pending = s.pending := by unfold State.setPulse; rfl
@[simp] theorem State.setPulse_time (s : State) (n : Nat) (x : PulseSt) : (s.setPulse n x).time = s.time := by unfold State.setPulse; rfl
@[simp] theorem State.setPulse_orders (s : State) (n : Nat) (x : PulseSt) : (s.setPulse n x).orders = s.orders := by unfold State.setPulse; rfl
@[simp] theorem State.setPulse_mill (s : State) (n : Nat) (x : PulseSt) : (s.setPulse n x).mill = s.mill := by unfold State.setPulse; rfl
@[simp] theorem State.setPulse_wheels (s : State) (n : Nat) (x : PulseSt) : (s.setPulse n x).wheels = s.wheels := by unfold State.setPulse; rfl
@[simp] theorem State.setPulse_armed (s : State) (n : Nat) (x : PulseSt) : (s.setPulse n x).armed = s.armed := by unfold State.setPulse; rfl
@[simp] theorem State.setPulse_sent (s : State) (n : Nat) (x : PulseSt) : (s.setPulse n x).sent = s.sent := by unfold State.setPulse; rfl
@[simp] theorem State.setPulse_hop (s : State) (n : Nat) (x : PulseSt) : (s.setPulse n x).hop = s.hop := by unfold State.setPulse; rfl
@[simp] theorem State.setPulse_conv (s : State) (n : Nat) (x : PulseSt) : (s.setPulse n x).conv = s.conv := by unfold State.setPulse; rfl
@[simp] theorem State.setPulse_slots (s : State) (n : Nat) (x : PulseSt) : (s.setPulse n x).slots = s.slots := by unfold State.setPulse; rfl
@[simp] theorem State.setPulse_exc (s : State) (n : Nat) (x : PulseSt) : (s.setPulse n x).exc = s.exc := by unfold State.setPulse; rfl
@[simp] theorem State.setPulse_chselWr (s : State) (n : Nat) (x : PulseSt) : (s.setPulse n x).chselWr = s.chselWr := by unfold State.setPulse; rfl
@[simp] theorem State.setPulse_entered (s : State) (n : Nat) (x : PulseSt) : (s.setPulse n x).entered = s.entered := by unfold State.setPulse; rfl
@[simp] theorem State.setPulse_weirs (s : State) (n : Nat) (x : PulseSt) : (s.setPulse n x).weirs = s.weirs := by unfold State.setPulse; rfl
@[simp] theorem State.setPulse_tripBall (s : State) (n : Nat) (x : PulseSt) : (s.setPulse n x).tripBall = s.tripBall := by unfold State.setPulse; rfl
@[simp] theorem State.setPulse_tripSince (s : State) (n : Nat) (x : PulseSt) : (s.setPulse n x).tripSince = s.tripSince := by unfold State.setPulse; rfl
@[simp] theorem State.setPulse_ports (s : State) (n : Nat) (x : PulseSt) : (s.setPulse n x).ports = s.ports := by unfold State.setPulse; rfl
@[simp] theorem State.setPulse_ptp (s : State) (n : Nat) (x : PulseSt) : (s.setPulse n x).ptp = s.ptp := by unfold State.setPulse; rfl
@[simp] theorem State.setPulse_tally (s : State) (n : Nat) (x : PulseSt) : (s.setPulse n x).tally = s.tally := by unfold State.setPulse; rfl
@[simp] theorem State.setPulse_streams (s : State) (n : Nat) (x : PulseSt) : (s.setPulse n x).streams = s.streams := by unfold State.setPulse; rfl
@[simp] theorem State.setPulse_alarms (s : State) (n : Nat) (x : PulseSt) : (s.setPulse n x).alarms = s.alarms := by unfold State.setPulse; rfl
@[simp] theorem State.setPulse_alarmCyc (s : State) (n : Nat) (x : PulseSt) : (s.setPulse n x).alarmCyc = s.alarmCyc := by unfold State.setPulse; rfl
@[simp] theorem State.setPulse_alarmPosts (s : State) (n : Nat) (x : PulseSt) : (s.setPulse n x).alarmPosts = s.alarmPosts := by unfold State.setPulse; rfl
@[simp] theorem State.setPulse_lastPop (s : State) (n : Nat) (x : PulseSt) : (s.setPulse n x).lastPop = s.lastPop := by unfold State.setPulse; rfl
@[simp] theorem State.setPulse_chans (s : State) (n : Nat) (x : PulseSt) : (s.setPulse n x).chans = s.chans := by unfold State.setPulse; rfl
@[simp] theorem State.setPulse_evq (s : State) (n : Nat) (x : PulseSt) : (s.setPulse n x).evq = s.evq := by unfold State.setPulse; rfl
@[simp] theorem State.setPulse_boundary (s : State) (n : Nat) (x : PulseSt) : (s.setPulse n x).boundary = s.boundary := by unfold State.setPulse; rfl
@[simp] theorem State.setPulse_held (s : State) (n : Nat) (x : PulseSt) : (s.setPulse n x).held = s.held := by unfold State.setPulse; rfl
@[simp] theorem State.setPulse_cores (s : State) (n : Nat) (x : PulseSt) : (s.setPulse n x).cores = s.cores := by unfold State.setPulse; rfl
@[simp] theorem State.setPulse_tiles (s : State) (n : Nat) (x : PulseSt) : (s.setPulse n x).tiles = s.tiles := by unfold State.setPulse; rfl
@[simp] theorem State.setPulse_clusters (s : State) (n : Nat) (x : PulseSt) : (s.setPulse n x).clusters = s.clusters := by unfold State.setPulse; rfl
@[simp] theorem State.setPulse_ptab (s : State) (n : Nat) (x : PulseSt) : (s.setPulse n x).ptab = s.ptab := by unfold State.setPulse; rfl
@[simp] theorem State.setPulse_words (s : State) (n : Nat) (x : PulseSt) : (s.setPulse n x).words = s.words := by unfold State.setPulse; rfl
@[simp] theorem State.setPulse_flashWords (s : State) (n : Nat) (x : PulseSt) : (s.setPulse n x).flashWords = s.flashWords := by unfold State.setPulse; rfl
@[simp] theorem State.setPulse_flash (s : State) (n : Nat) (x : PulseSt) : (s.setPulse n x).flash = s.flash := by unfold State.setPulse; rfl
@[simp] theorem State.setPulse_jshadow (s : State) (n : Nat) (x : PulseSt) : (s.setPulse n x).jshadow = s.jshadow := by unfold State.setPulse; rfl
@[simp] theorem State.setPulse_jstaged (s : State) (n : Nat) (x : PulseSt) : (s.setPulse n x).jstaged = s.jstaged := by unfold State.setPulse; rfl
@[simp] theorem State.setPulse_scrubAt (s : State) (n : Nat) (x : PulseSt) : (s.setPulse n x).scrubAt = s.scrubAt := by unfold State.setPulse; rfl
@[simp] theorem State.setPulse_jwait (s : State) (n : Nat) (x : PulseSt) : (s.setPulse n x).jwait = s.jwait := by unfold State.setPulse; rfl
@[simp] theorem State.setPulse_errs (s : State) (n : Nat) (x : PulseSt) : (s.setPulse n x).errs = s.errs := by unfold State.setPulse; rfl
@[simp] theorem State.setPulse_regs (s : State) (n : Nat) (x : PulseSt) : (s.setPulse n x).regs = s.regs := by unfold State.setPulse; rfl
@[simp] theorem State.setPulse_shadows (s : State) (n : Nat) (x : PulseSt) : (s.setPulse n x).shadows = s.shadows := by unfold State.setPulse; rfl
@[simp] theorem State.setPulse_host (s : State) (n : Nat) (x : PulseSt) : (s.setPulse n x).host = s.host := by unfold State.setPulse; rfl
@[simp] theorem State.setPulse_pwr (s : State) (n : Nat) (x : PulseSt) : (s.setPulse n x).pwr = s.pwr := by unfold State.setPulse; rfl
@[simp] theorem State.setPulse_rtc (s : State) (n : Nat) (x : PulseSt) : (s.setPulse n x).rtc = s.rtc := by unfold State.setPulse; rfl
@[simp] theorem State.setPulse_mon (s : State) (n : Nat) (x : PulseSt) : (s.setPulse n x).mon = s.mon := by unfold State.setPulse; rfl
@[simp] theorem State.setPulse_dbg (s : State) (n : Nat) (x : PulseSt) : (s.setPulse n x).dbg = s.dbg := by unfold State.setPulse; rfl
@[simp] theorem State.setPulse_fuses (s : State) (n : Nat) (x : PulseSt) : (s.setPulse n x).fuses = s.fuses := by unfold State.setPulse; rfl
@[simp] theorem State.setPulse_rdata (s : State) (n : Nat) (x : PulseSt) : (s.setPulse n x).rdata = s.rdata := by unfold State.setPulse; rfl
@[simp] theorem State.setPulse_freeCtr (s : State) (n : Nat) (x : PulseSt) : (s.setPulse n x).freeCtr = s.freeCtr := by unfold State.setPulse; rfl
@[simp] theorem State.setPulse_w1set (s : State) (n : Nat) (x : PulseSt) : (s.setPulse n x).w1set = s.w1set := by unfold State.setPulse; rfl
@[simp] theorem State.setPulse_srbusy (s : State) (n : Nat) (x : PulseSt) : (s.setPulse n x).srbusy = s.srbusy := by unfold State.setPulse; rfl
@[simp] theorem State.rd_setPulse (s : State) (n : Nat) (x : PulseSt) (m : Nat) : (s.setPulse n x).rd m = s.rd m := by unfold State.setPulse; rfl
@[simp] theorem State.wheel_setPulse (s : State) (n : Nat) (x : PulseSt) (m : Nat) : (s.setPulse n x).wheel m = s.wheel m := by unfold State.setPulse; rfl
@[simp] theorem State.cnv_setPulse (s : State) (n : Nat) (x : PulseSt) (m : Nat) : (s.setPulse n x).cnv m = s.cnv m := by unfold State.setPulse; rfl
@[simp] theorem State.slot_setPulse (s : State) (n : Nat) (x : PulseSt) (m : Nat) : (s.setPulse n x).slot m = s.slot m := by unfold State.setPulse; rfl
@[simp] theorem State.weir_setPulse (s : State) (n : Nat) (x : PulseSt) (m : Nat) : (s.setPulse n x).weir m = s.weir m := by unfold State.setPulse; rfl
@[simp] theorem State.port_setPulse (s : State) (n : Nat) (x : PulseSt) (m : Nat) : (s.setPulse n x).port m = s.port m := by unfold State.setPulse; rfl
@[simp] theorem State.stream_setPulse (s : State) (n : Nat) (x : PulseSt) (m : Nat) : (s.setPulse n x).stream m = s.stream m := by unfold State.setPulse; rfl
@[simp] theorem State.chan_setPulse (s : State) (n : Nat) (x : PulseSt) (m : Nat) : (s.setPulse n x).chan m = s.chan m := by unfold State.setPulse; rfl
@[simp] theorem State.core_setPulse (s : State) (n : Nat) (x : PulseSt) (m : Nat) : (s.setPulse n x).core m = s.core m := by unfold State.setPulse; rfl
@[simp] theorem State.tile_setPulse (s : State) (n : Nat) (x : PulseSt) (m : Nat) : (s.setPulse n x).tile m = s.tile m := by unfold State.setPulse; rfl
@[simp] theorem State.cluster_setPulse (s : State) (n : Nat) (x : PulseSt) (m : Nat) : (s.setPulse n x).cluster m = s.cluster m := by unfold State.setPulse; rfl
@[simp] theorem State.rawWord_setPulse (s : State) (n : Nat) (x : PulseSt) (m : Store) (j : Nat) : (s.setPulse n x).rawWord m j = s.rawWord m j := by unfold State.setPulse; rfl

/-! ### setPort -/

@[simp] theorem State.setPort_pending (s : State) (n : Nat) (x : PortSt) : (s.setPort n x).pending = s.pending := by unfold State.setPort; rfl
@[simp] theorem State.setPort_time (s : State) (n : Nat) (x : PortSt) : (s.setPort n x).time = s.time := by unfold State.setPort; rfl
@[simp] theorem State.setPort_orders (s : State) (n : Nat) (x : PortSt) : (s.setPort n x).orders = s.orders := by unfold State.setPort; rfl
@[simp] theorem State.setPort_mill (s : State) (n : Nat) (x : PortSt) : (s.setPort n x).mill = s.mill := by unfold State.setPort; rfl
@[simp] theorem State.setPort_wheels (s : State) (n : Nat) (x : PortSt) : (s.setPort n x).wheels = s.wheels := by unfold State.setPort; rfl
@[simp] theorem State.setPort_armed (s : State) (n : Nat) (x : PortSt) : (s.setPort n x).armed = s.armed := by unfold State.setPort; rfl
@[simp] theorem State.setPort_sent (s : State) (n : Nat) (x : PortSt) : (s.setPort n x).sent = s.sent := by unfold State.setPort; rfl
@[simp] theorem State.setPort_hop (s : State) (n : Nat) (x : PortSt) : (s.setPort n x).hop = s.hop := by unfold State.setPort; rfl
@[simp] theorem State.setPort_conv (s : State) (n : Nat) (x : PortSt) : (s.setPort n x).conv = s.conv := by unfold State.setPort; rfl
@[simp] theorem State.setPort_slots (s : State) (n : Nat) (x : PortSt) : (s.setPort n x).slots = s.slots := by unfold State.setPort; rfl
@[simp] theorem State.setPort_exc (s : State) (n : Nat) (x : PortSt) : (s.setPort n x).exc = s.exc := by unfold State.setPort; rfl
@[simp] theorem State.setPort_chselWr (s : State) (n : Nat) (x : PortSt) : (s.setPort n x).chselWr = s.chselWr := by unfold State.setPort; rfl
@[simp] theorem State.setPort_entered (s : State) (n : Nat) (x : PortSt) : (s.setPort n x).entered = s.entered := by unfold State.setPort; rfl
@[simp] theorem State.setPort_weirs (s : State) (n : Nat) (x : PortSt) : (s.setPort n x).weirs = s.weirs := by unfold State.setPort; rfl
@[simp] theorem State.setPort_pulses (s : State) (n : Nat) (x : PortSt) : (s.setPort n x).pulses = s.pulses := by unfold State.setPort; rfl
@[simp] theorem State.setPort_tripBall (s : State) (n : Nat) (x : PortSt) : (s.setPort n x).tripBall = s.tripBall := by unfold State.setPort; rfl
@[simp] theorem State.setPort_tripSince (s : State) (n : Nat) (x : PortSt) : (s.setPort n x).tripSince = s.tripSince := by unfold State.setPort; rfl
@[simp] theorem State.setPort_ptp (s : State) (n : Nat) (x : PortSt) : (s.setPort n x).ptp = s.ptp := by unfold State.setPort; rfl
@[simp] theorem State.setPort_tally (s : State) (n : Nat) (x : PortSt) : (s.setPort n x).tally = s.tally := by unfold State.setPort; rfl
@[simp] theorem State.setPort_streams (s : State) (n : Nat) (x : PortSt) : (s.setPort n x).streams = s.streams := by unfold State.setPort; rfl
@[simp] theorem State.setPort_alarms (s : State) (n : Nat) (x : PortSt) : (s.setPort n x).alarms = s.alarms := by unfold State.setPort; rfl
@[simp] theorem State.setPort_alarmCyc (s : State) (n : Nat) (x : PortSt) : (s.setPort n x).alarmCyc = s.alarmCyc := by unfold State.setPort; rfl
@[simp] theorem State.setPort_alarmPosts (s : State) (n : Nat) (x : PortSt) : (s.setPort n x).alarmPosts = s.alarmPosts := by unfold State.setPort; rfl
@[simp] theorem State.setPort_lastPop (s : State) (n : Nat) (x : PortSt) : (s.setPort n x).lastPop = s.lastPop := by unfold State.setPort; rfl
@[simp] theorem State.setPort_chans (s : State) (n : Nat) (x : PortSt) : (s.setPort n x).chans = s.chans := by unfold State.setPort; rfl
@[simp] theorem State.setPort_evq (s : State) (n : Nat) (x : PortSt) : (s.setPort n x).evq = s.evq := by unfold State.setPort; rfl
@[simp] theorem State.setPort_boundary (s : State) (n : Nat) (x : PortSt) : (s.setPort n x).boundary = s.boundary := by unfold State.setPort; rfl
@[simp] theorem State.setPort_held (s : State) (n : Nat) (x : PortSt) : (s.setPort n x).held = s.held := by unfold State.setPort; rfl
@[simp] theorem State.setPort_cores (s : State) (n : Nat) (x : PortSt) : (s.setPort n x).cores = s.cores := by unfold State.setPort; rfl
@[simp] theorem State.setPort_tiles (s : State) (n : Nat) (x : PortSt) : (s.setPort n x).tiles = s.tiles := by unfold State.setPort; rfl
@[simp] theorem State.setPort_clusters (s : State) (n : Nat) (x : PortSt) : (s.setPort n x).clusters = s.clusters := by unfold State.setPort; rfl
@[simp] theorem State.setPort_ptab (s : State) (n : Nat) (x : PortSt) : (s.setPort n x).ptab = s.ptab := by unfold State.setPort; rfl
@[simp] theorem State.setPort_words (s : State) (n : Nat) (x : PortSt) : (s.setPort n x).words = s.words := by unfold State.setPort; rfl
@[simp] theorem State.setPort_flashWords (s : State) (n : Nat) (x : PortSt) : (s.setPort n x).flashWords = s.flashWords := by unfold State.setPort; rfl
@[simp] theorem State.setPort_flash (s : State) (n : Nat) (x : PortSt) : (s.setPort n x).flash = s.flash := by unfold State.setPort; rfl
@[simp] theorem State.setPort_jshadow (s : State) (n : Nat) (x : PortSt) : (s.setPort n x).jshadow = s.jshadow := by unfold State.setPort; rfl
@[simp] theorem State.setPort_jstaged (s : State) (n : Nat) (x : PortSt) : (s.setPort n x).jstaged = s.jstaged := by unfold State.setPort; rfl
@[simp] theorem State.setPort_scrubAt (s : State) (n : Nat) (x : PortSt) : (s.setPort n x).scrubAt = s.scrubAt := by unfold State.setPort; rfl
@[simp] theorem State.setPort_jwait (s : State) (n : Nat) (x : PortSt) : (s.setPort n x).jwait = s.jwait := by unfold State.setPort; rfl
@[simp] theorem State.setPort_errs (s : State) (n : Nat) (x : PortSt) : (s.setPort n x).errs = s.errs := by unfold State.setPort; rfl
@[simp] theorem State.setPort_regs (s : State) (n : Nat) (x : PortSt) : (s.setPort n x).regs = s.regs := by unfold State.setPort; rfl
@[simp] theorem State.setPort_shadows (s : State) (n : Nat) (x : PortSt) : (s.setPort n x).shadows = s.shadows := by unfold State.setPort; rfl
@[simp] theorem State.setPort_host (s : State) (n : Nat) (x : PortSt) : (s.setPort n x).host = s.host := by unfold State.setPort; rfl
@[simp] theorem State.setPort_pwr (s : State) (n : Nat) (x : PortSt) : (s.setPort n x).pwr = s.pwr := by unfold State.setPort; rfl
@[simp] theorem State.setPort_rtc (s : State) (n : Nat) (x : PortSt) : (s.setPort n x).rtc = s.rtc := by unfold State.setPort; rfl
@[simp] theorem State.setPort_mon (s : State) (n : Nat) (x : PortSt) : (s.setPort n x).mon = s.mon := by unfold State.setPort; rfl
@[simp] theorem State.setPort_dbg (s : State) (n : Nat) (x : PortSt) : (s.setPort n x).dbg = s.dbg := by unfold State.setPort; rfl
@[simp] theorem State.setPort_fuses (s : State) (n : Nat) (x : PortSt) : (s.setPort n x).fuses = s.fuses := by unfold State.setPort; rfl
@[simp] theorem State.setPort_rdata (s : State) (n : Nat) (x : PortSt) : (s.setPort n x).rdata = s.rdata := by unfold State.setPort; rfl
@[simp] theorem State.setPort_freeCtr (s : State) (n : Nat) (x : PortSt) : (s.setPort n x).freeCtr = s.freeCtr := by unfold State.setPort; rfl
@[simp] theorem State.setPort_w1set (s : State) (n : Nat) (x : PortSt) : (s.setPort n x).w1set = s.w1set := by unfold State.setPort; rfl
@[simp] theorem State.setPort_srbusy (s : State) (n : Nat) (x : PortSt) : (s.setPort n x).srbusy = s.srbusy := by unfold State.setPort; rfl
@[simp] theorem State.rd_setPort (s : State) (n : Nat) (x : PortSt) (m : Nat) : (s.setPort n x).rd m = s.rd m := by unfold State.setPort; rfl
@[simp] theorem State.wheel_setPort (s : State) (n : Nat) (x : PortSt) (m : Nat) : (s.setPort n x).wheel m = s.wheel m := by unfold State.setPort; rfl
@[simp] theorem State.cnv_setPort (s : State) (n : Nat) (x : PortSt) (m : Nat) : (s.setPort n x).cnv m = s.cnv m := by unfold State.setPort; rfl
@[simp] theorem State.slot_setPort (s : State) (n : Nat) (x : PortSt) (m : Nat) : (s.setPort n x).slot m = s.slot m := by unfold State.setPort; rfl
@[simp] theorem State.weir_setPort (s : State) (n : Nat) (x : PortSt) (m : Nat) : (s.setPort n x).weir m = s.weir m := by unfold State.setPort; rfl
@[simp] theorem State.pulse_setPort (s : State) (n : Nat) (x : PortSt) (m : Nat) : (s.setPort n x).pulse m = s.pulse m := by unfold State.setPort; rfl
@[simp] theorem State.stream_setPort (s : State) (n : Nat) (x : PortSt) (m : Nat) : (s.setPort n x).stream m = s.stream m := by unfold State.setPort; rfl
@[simp] theorem State.chan_setPort (s : State) (n : Nat) (x : PortSt) (m : Nat) : (s.setPort n x).chan m = s.chan m := by unfold State.setPort; rfl
@[simp] theorem State.core_setPort (s : State) (n : Nat) (x : PortSt) (m : Nat) : (s.setPort n x).core m = s.core m := by unfold State.setPort; rfl
@[simp] theorem State.tile_setPort (s : State) (n : Nat) (x : PortSt) (m : Nat) : (s.setPort n x).tile m = s.tile m := by unfold State.setPort; rfl
@[simp] theorem State.cluster_setPort (s : State) (n : Nat) (x : PortSt) (m : Nat) : (s.setPort n x).cluster m = s.cluster m := by unfold State.setPort; rfl
@[simp] theorem State.rawWord_setPort (s : State) (n : Nat) (x : PortSt) (m : Store) (j : Nat) : (s.setPort n x).rawWord m j = s.rawWord m j := by unfold State.setPort; rfl

/-! ### setStream -/

@[simp] theorem State.setStream_pending (s : State) (n : Nat) (x : StreamSt) : (s.setStream n x).pending = s.pending := by unfold State.setStream; rfl
@[simp] theorem State.setStream_time (s : State) (n : Nat) (x : StreamSt) : (s.setStream n x).time = s.time := by unfold State.setStream; rfl
@[simp] theorem State.setStream_orders (s : State) (n : Nat) (x : StreamSt) : (s.setStream n x).orders = s.orders := by unfold State.setStream; rfl
@[simp] theorem State.setStream_mill (s : State) (n : Nat) (x : StreamSt) : (s.setStream n x).mill = s.mill := by unfold State.setStream; rfl
@[simp] theorem State.setStream_wheels (s : State) (n : Nat) (x : StreamSt) : (s.setStream n x).wheels = s.wheels := by unfold State.setStream; rfl
@[simp] theorem State.setStream_armed (s : State) (n : Nat) (x : StreamSt) : (s.setStream n x).armed = s.armed := by unfold State.setStream; rfl
@[simp] theorem State.setStream_sent (s : State) (n : Nat) (x : StreamSt) : (s.setStream n x).sent = s.sent := by unfold State.setStream; rfl
@[simp] theorem State.setStream_hop (s : State) (n : Nat) (x : StreamSt) : (s.setStream n x).hop = s.hop := by unfold State.setStream; rfl
@[simp] theorem State.setStream_conv (s : State) (n : Nat) (x : StreamSt) : (s.setStream n x).conv = s.conv := by unfold State.setStream; rfl
@[simp] theorem State.setStream_slots (s : State) (n : Nat) (x : StreamSt) : (s.setStream n x).slots = s.slots := by unfold State.setStream; rfl
@[simp] theorem State.setStream_exc (s : State) (n : Nat) (x : StreamSt) : (s.setStream n x).exc = s.exc := by unfold State.setStream; rfl
@[simp] theorem State.setStream_chselWr (s : State) (n : Nat) (x : StreamSt) : (s.setStream n x).chselWr = s.chselWr := by unfold State.setStream; rfl
@[simp] theorem State.setStream_entered (s : State) (n : Nat) (x : StreamSt) : (s.setStream n x).entered = s.entered := by unfold State.setStream; rfl
@[simp] theorem State.setStream_weirs (s : State) (n : Nat) (x : StreamSt) : (s.setStream n x).weirs = s.weirs := by unfold State.setStream; rfl
@[simp] theorem State.setStream_pulses (s : State) (n : Nat) (x : StreamSt) : (s.setStream n x).pulses = s.pulses := by unfold State.setStream; rfl
@[simp] theorem State.setStream_tripBall (s : State) (n : Nat) (x : StreamSt) : (s.setStream n x).tripBall = s.tripBall := by unfold State.setStream; rfl
@[simp] theorem State.setStream_tripSince (s : State) (n : Nat) (x : StreamSt) : (s.setStream n x).tripSince = s.tripSince := by unfold State.setStream; rfl
@[simp] theorem State.setStream_ports (s : State) (n : Nat) (x : StreamSt) : (s.setStream n x).ports = s.ports := by unfold State.setStream; rfl
@[simp] theorem State.setStream_ptp (s : State) (n : Nat) (x : StreamSt) : (s.setStream n x).ptp = s.ptp := by unfold State.setStream; rfl
@[simp] theorem State.setStream_tally (s : State) (n : Nat) (x : StreamSt) : (s.setStream n x).tally = s.tally := by unfold State.setStream; rfl
@[simp] theorem State.setStream_alarms (s : State) (n : Nat) (x : StreamSt) : (s.setStream n x).alarms = s.alarms := by unfold State.setStream; rfl
@[simp] theorem State.setStream_alarmCyc (s : State) (n : Nat) (x : StreamSt) : (s.setStream n x).alarmCyc = s.alarmCyc := by unfold State.setStream; rfl
@[simp] theorem State.setStream_alarmPosts (s : State) (n : Nat) (x : StreamSt) : (s.setStream n x).alarmPosts = s.alarmPosts := by unfold State.setStream; rfl
@[simp] theorem State.setStream_lastPop (s : State) (n : Nat) (x : StreamSt) : (s.setStream n x).lastPop = s.lastPop := by unfold State.setStream; rfl
@[simp] theorem State.setStream_chans (s : State) (n : Nat) (x : StreamSt) : (s.setStream n x).chans = s.chans := by unfold State.setStream; rfl
@[simp] theorem State.setStream_evq (s : State) (n : Nat) (x : StreamSt) : (s.setStream n x).evq = s.evq := by unfold State.setStream; rfl
@[simp] theorem State.setStream_boundary (s : State) (n : Nat) (x : StreamSt) : (s.setStream n x).boundary = s.boundary := by unfold State.setStream; rfl
@[simp] theorem State.setStream_held (s : State) (n : Nat) (x : StreamSt) : (s.setStream n x).held = s.held := by unfold State.setStream; rfl
@[simp] theorem State.setStream_cores (s : State) (n : Nat) (x : StreamSt) : (s.setStream n x).cores = s.cores := by unfold State.setStream; rfl
@[simp] theorem State.setStream_tiles (s : State) (n : Nat) (x : StreamSt) : (s.setStream n x).tiles = s.tiles := by unfold State.setStream; rfl
@[simp] theorem State.setStream_clusters (s : State) (n : Nat) (x : StreamSt) : (s.setStream n x).clusters = s.clusters := by unfold State.setStream; rfl
@[simp] theorem State.setStream_ptab (s : State) (n : Nat) (x : StreamSt) : (s.setStream n x).ptab = s.ptab := by unfold State.setStream; rfl
@[simp] theorem State.setStream_words (s : State) (n : Nat) (x : StreamSt) : (s.setStream n x).words = s.words := by unfold State.setStream; rfl
@[simp] theorem State.setStream_flashWords (s : State) (n : Nat) (x : StreamSt) : (s.setStream n x).flashWords = s.flashWords := by unfold State.setStream; rfl
@[simp] theorem State.setStream_flash (s : State) (n : Nat) (x : StreamSt) : (s.setStream n x).flash = s.flash := by unfold State.setStream; rfl
@[simp] theorem State.setStream_jshadow (s : State) (n : Nat) (x : StreamSt) : (s.setStream n x).jshadow = s.jshadow := by unfold State.setStream; rfl
@[simp] theorem State.setStream_jstaged (s : State) (n : Nat) (x : StreamSt) : (s.setStream n x).jstaged = s.jstaged := by unfold State.setStream; rfl
@[simp] theorem State.setStream_scrubAt (s : State) (n : Nat) (x : StreamSt) : (s.setStream n x).scrubAt = s.scrubAt := by unfold State.setStream; rfl
@[simp] theorem State.setStream_jwait (s : State) (n : Nat) (x : StreamSt) : (s.setStream n x).jwait = s.jwait := by unfold State.setStream; rfl
@[simp] theorem State.setStream_errs (s : State) (n : Nat) (x : StreamSt) : (s.setStream n x).errs = s.errs := by unfold State.setStream; rfl
@[simp] theorem State.setStream_regs (s : State) (n : Nat) (x : StreamSt) : (s.setStream n x).regs = s.regs := by unfold State.setStream; rfl
@[simp] theorem State.setStream_shadows (s : State) (n : Nat) (x : StreamSt) : (s.setStream n x).shadows = s.shadows := by unfold State.setStream; rfl
@[simp] theorem State.setStream_host (s : State) (n : Nat) (x : StreamSt) : (s.setStream n x).host = s.host := by unfold State.setStream; rfl
@[simp] theorem State.setStream_pwr (s : State) (n : Nat) (x : StreamSt) : (s.setStream n x).pwr = s.pwr := by unfold State.setStream; rfl
@[simp] theorem State.setStream_rtc (s : State) (n : Nat) (x : StreamSt) : (s.setStream n x).rtc = s.rtc := by unfold State.setStream; rfl
@[simp] theorem State.setStream_mon (s : State) (n : Nat) (x : StreamSt) : (s.setStream n x).mon = s.mon := by unfold State.setStream; rfl
@[simp] theorem State.setStream_dbg (s : State) (n : Nat) (x : StreamSt) : (s.setStream n x).dbg = s.dbg := by unfold State.setStream; rfl
@[simp] theorem State.setStream_fuses (s : State) (n : Nat) (x : StreamSt) : (s.setStream n x).fuses = s.fuses := by unfold State.setStream; rfl
@[simp] theorem State.setStream_rdata (s : State) (n : Nat) (x : StreamSt) : (s.setStream n x).rdata = s.rdata := by unfold State.setStream; rfl
@[simp] theorem State.setStream_freeCtr (s : State) (n : Nat) (x : StreamSt) : (s.setStream n x).freeCtr = s.freeCtr := by unfold State.setStream; rfl
@[simp] theorem State.setStream_w1set (s : State) (n : Nat) (x : StreamSt) : (s.setStream n x).w1set = s.w1set := by unfold State.setStream; rfl
@[simp] theorem State.setStream_srbusy (s : State) (n : Nat) (x : StreamSt) : (s.setStream n x).srbusy = s.srbusy := by unfold State.setStream; rfl
@[simp] theorem State.rd_setStream (s : State) (n : Nat) (x : StreamSt) (m : Nat) : (s.setStream n x).rd m = s.rd m := by unfold State.setStream; rfl
@[simp] theorem State.wheel_setStream (s : State) (n : Nat) (x : StreamSt) (m : Nat) : (s.setStream n x).wheel m = s.wheel m := by unfold State.setStream; rfl
@[simp] theorem State.cnv_setStream (s : State) (n : Nat) (x : StreamSt) (m : Nat) : (s.setStream n x).cnv m = s.cnv m := by unfold State.setStream; rfl
@[simp] theorem State.slot_setStream (s : State) (n : Nat) (x : StreamSt) (m : Nat) : (s.setStream n x).slot m = s.slot m := by unfold State.setStream; rfl
@[simp] theorem State.weir_setStream (s : State) (n : Nat) (x : StreamSt) (m : Nat) : (s.setStream n x).weir m = s.weir m := by unfold State.setStream; rfl
@[simp] theorem State.pulse_setStream (s : State) (n : Nat) (x : StreamSt) (m : Nat) : (s.setStream n x).pulse m = s.pulse m := by unfold State.setStream; rfl
@[simp] theorem State.port_setStream (s : State) (n : Nat) (x : StreamSt) (m : Nat) : (s.setStream n x).port m = s.port m := by unfold State.setStream; rfl
@[simp] theorem State.chan_setStream (s : State) (n : Nat) (x : StreamSt) (m : Nat) : (s.setStream n x).chan m = s.chan m := by unfold State.setStream; rfl
@[simp] theorem State.core_setStream (s : State) (n : Nat) (x : StreamSt) (m : Nat) : (s.setStream n x).core m = s.core m := by unfold State.setStream; rfl
@[simp] theorem State.tile_setStream (s : State) (n : Nat) (x : StreamSt) (m : Nat) : (s.setStream n x).tile m = s.tile m := by unfold State.setStream; rfl
@[simp] theorem State.cluster_setStream (s : State) (n : Nat) (x : StreamSt) (m : Nat) : (s.setStream n x).cluster m = s.cluster m := by unfold State.setStream; rfl
@[simp] theorem State.rawWord_setStream (s : State) (n : Nat) (x : StreamSt) (m : Store) (j : Nat) : (s.setStream n x).rawWord m j = s.rawWord m j := by unfold State.setStream; rfl

/-! ### setChan -/

@[simp] theorem State.setChan_pending (s : State) (n : Nat) (x : ChanSt) : (s.setChan n x).pending = s.pending := by unfold State.setChan; rfl
@[simp] theorem State.setChan_time (s : State) (n : Nat) (x : ChanSt) : (s.setChan n x).time = s.time := by unfold State.setChan; rfl
@[simp] theorem State.setChan_orders (s : State) (n : Nat) (x : ChanSt) : (s.setChan n x).orders = s.orders := by unfold State.setChan; rfl
@[simp] theorem State.setChan_mill (s : State) (n : Nat) (x : ChanSt) : (s.setChan n x).mill = s.mill := by unfold State.setChan; rfl
@[simp] theorem State.setChan_wheels (s : State) (n : Nat) (x : ChanSt) : (s.setChan n x).wheels = s.wheels := by unfold State.setChan; rfl
@[simp] theorem State.setChan_armed (s : State) (n : Nat) (x : ChanSt) : (s.setChan n x).armed = s.armed := by unfold State.setChan; rfl
@[simp] theorem State.setChan_sent (s : State) (n : Nat) (x : ChanSt) : (s.setChan n x).sent = s.sent := by unfold State.setChan; rfl
@[simp] theorem State.setChan_hop (s : State) (n : Nat) (x : ChanSt) : (s.setChan n x).hop = s.hop := by unfold State.setChan; rfl
@[simp] theorem State.setChan_conv (s : State) (n : Nat) (x : ChanSt) : (s.setChan n x).conv = s.conv := by unfold State.setChan; rfl
@[simp] theorem State.setChan_slots (s : State) (n : Nat) (x : ChanSt) : (s.setChan n x).slots = s.slots := by unfold State.setChan; rfl
@[simp] theorem State.setChan_exc (s : State) (n : Nat) (x : ChanSt) : (s.setChan n x).exc = s.exc := by unfold State.setChan; rfl
@[simp] theorem State.setChan_chselWr (s : State) (n : Nat) (x : ChanSt) : (s.setChan n x).chselWr = s.chselWr := by unfold State.setChan; rfl
@[simp] theorem State.setChan_entered (s : State) (n : Nat) (x : ChanSt) : (s.setChan n x).entered = s.entered := by unfold State.setChan; rfl
@[simp] theorem State.setChan_weirs (s : State) (n : Nat) (x : ChanSt) : (s.setChan n x).weirs = s.weirs := by unfold State.setChan; rfl
@[simp] theorem State.setChan_pulses (s : State) (n : Nat) (x : ChanSt) : (s.setChan n x).pulses = s.pulses := by unfold State.setChan; rfl
@[simp] theorem State.setChan_tripBall (s : State) (n : Nat) (x : ChanSt) : (s.setChan n x).tripBall = s.tripBall := by unfold State.setChan; rfl
@[simp] theorem State.setChan_tripSince (s : State) (n : Nat) (x : ChanSt) : (s.setChan n x).tripSince = s.tripSince := by unfold State.setChan; rfl
@[simp] theorem State.setChan_ports (s : State) (n : Nat) (x : ChanSt) : (s.setChan n x).ports = s.ports := by unfold State.setChan; rfl
@[simp] theorem State.setChan_ptp (s : State) (n : Nat) (x : ChanSt) : (s.setChan n x).ptp = s.ptp := by unfold State.setChan; rfl
@[simp] theorem State.setChan_tally (s : State) (n : Nat) (x : ChanSt) : (s.setChan n x).tally = s.tally := by unfold State.setChan; rfl
@[simp] theorem State.setChan_streams (s : State) (n : Nat) (x : ChanSt) : (s.setChan n x).streams = s.streams := by unfold State.setChan; rfl
@[simp] theorem State.setChan_alarms (s : State) (n : Nat) (x : ChanSt) : (s.setChan n x).alarms = s.alarms := by unfold State.setChan; rfl
@[simp] theorem State.setChan_alarmCyc (s : State) (n : Nat) (x : ChanSt) : (s.setChan n x).alarmCyc = s.alarmCyc := by unfold State.setChan; rfl
@[simp] theorem State.setChan_alarmPosts (s : State) (n : Nat) (x : ChanSt) : (s.setChan n x).alarmPosts = s.alarmPosts := by unfold State.setChan; rfl
@[simp] theorem State.setChan_lastPop (s : State) (n : Nat) (x : ChanSt) : (s.setChan n x).lastPop = s.lastPop := by unfold State.setChan; rfl
@[simp] theorem State.setChan_evq (s : State) (n : Nat) (x : ChanSt) : (s.setChan n x).evq = s.evq := by unfold State.setChan; rfl
@[simp] theorem State.setChan_boundary (s : State) (n : Nat) (x : ChanSt) : (s.setChan n x).boundary = s.boundary := by unfold State.setChan; rfl
@[simp] theorem State.setChan_held (s : State) (n : Nat) (x : ChanSt) : (s.setChan n x).held = s.held := by unfold State.setChan; rfl
@[simp] theorem State.setChan_cores (s : State) (n : Nat) (x : ChanSt) : (s.setChan n x).cores = s.cores := by unfold State.setChan; rfl
@[simp] theorem State.setChan_tiles (s : State) (n : Nat) (x : ChanSt) : (s.setChan n x).tiles = s.tiles := by unfold State.setChan; rfl
@[simp] theorem State.setChan_clusters (s : State) (n : Nat) (x : ChanSt) : (s.setChan n x).clusters = s.clusters := by unfold State.setChan; rfl
@[simp] theorem State.setChan_ptab (s : State) (n : Nat) (x : ChanSt) : (s.setChan n x).ptab = s.ptab := by unfold State.setChan; rfl
@[simp] theorem State.setChan_words (s : State) (n : Nat) (x : ChanSt) : (s.setChan n x).words = s.words := by unfold State.setChan; rfl
@[simp] theorem State.setChan_flashWords (s : State) (n : Nat) (x : ChanSt) : (s.setChan n x).flashWords = s.flashWords := by unfold State.setChan; rfl
@[simp] theorem State.setChan_flash (s : State) (n : Nat) (x : ChanSt) : (s.setChan n x).flash = s.flash := by unfold State.setChan; rfl
@[simp] theorem State.setChan_jshadow (s : State) (n : Nat) (x : ChanSt) : (s.setChan n x).jshadow = s.jshadow := by unfold State.setChan; rfl
@[simp] theorem State.setChan_jstaged (s : State) (n : Nat) (x : ChanSt) : (s.setChan n x).jstaged = s.jstaged := by unfold State.setChan; rfl
@[simp] theorem State.setChan_scrubAt (s : State) (n : Nat) (x : ChanSt) : (s.setChan n x).scrubAt = s.scrubAt := by unfold State.setChan; rfl
@[simp] theorem State.setChan_jwait (s : State) (n : Nat) (x : ChanSt) : (s.setChan n x).jwait = s.jwait := by unfold State.setChan; rfl
@[simp] theorem State.setChan_errs (s : State) (n : Nat) (x : ChanSt) : (s.setChan n x).errs = s.errs := by unfold State.setChan; rfl
@[simp] theorem State.setChan_regs (s : State) (n : Nat) (x : ChanSt) : (s.setChan n x).regs = s.regs := by unfold State.setChan; rfl
@[simp] theorem State.setChan_shadows (s : State) (n : Nat) (x : ChanSt) : (s.setChan n x).shadows = s.shadows := by unfold State.setChan; rfl
@[simp] theorem State.setChan_host (s : State) (n : Nat) (x : ChanSt) : (s.setChan n x).host = s.host := by unfold State.setChan; rfl
@[simp] theorem State.setChan_pwr (s : State) (n : Nat) (x : ChanSt) : (s.setChan n x).pwr = s.pwr := by unfold State.setChan; rfl
@[simp] theorem State.setChan_rtc (s : State) (n : Nat) (x : ChanSt) : (s.setChan n x).rtc = s.rtc := by unfold State.setChan; rfl
@[simp] theorem State.setChan_mon (s : State) (n : Nat) (x : ChanSt) : (s.setChan n x).mon = s.mon := by unfold State.setChan; rfl
@[simp] theorem State.setChan_dbg (s : State) (n : Nat) (x : ChanSt) : (s.setChan n x).dbg = s.dbg := by unfold State.setChan; rfl
@[simp] theorem State.setChan_fuses (s : State) (n : Nat) (x : ChanSt) : (s.setChan n x).fuses = s.fuses := by unfold State.setChan; rfl
@[simp] theorem State.setChan_rdata (s : State) (n : Nat) (x : ChanSt) : (s.setChan n x).rdata = s.rdata := by unfold State.setChan; rfl
@[simp] theorem State.setChan_freeCtr (s : State) (n : Nat) (x : ChanSt) : (s.setChan n x).freeCtr = s.freeCtr := by unfold State.setChan; rfl
@[simp] theorem State.setChan_w1set (s : State) (n : Nat) (x : ChanSt) : (s.setChan n x).w1set = s.w1set := by unfold State.setChan; rfl
@[simp] theorem State.setChan_srbusy (s : State) (n : Nat) (x : ChanSt) : (s.setChan n x).srbusy = s.srbusy := by unfold State.setChan; rfl
@[simp] theorem State.rd_setChan (s : State) (n : Nat) (x : ChanSt) (m : Nat) : (s.setChan n x).rd m = s.rd m := by unfold State.setChan; rfl
@[simp] theorem State.wheel_setChan (s : State) (n : Nat) (x : ChanSt) (m : Nat) : (s.setChan n x).wheel m = s.wheel m := by unfold State.setChan; rfl
@[simp] theorem State.cnv_setChan (s : State) (n : Nat) (x : ChanSt) (m : Nat) : (s.setChan n x).cnv m = s.cnv m := by unfold State.setChan; rfl
@[simp] theorem State.slot_setChan (s : State) (n : Nat) (x : ChanSt) (m : Nat) : (s.setChan n x).slot m = s.slot m := by unfold State.setChan; rfl
@[simp] theorem State.weir_setChan (s : State) (n : Nat) (x : ChanSt) (m : Nat) : (s.setChan n x).weir m = s.weir m := by unfold State.setChan; rfl
@[simp] theorem State.pulse_setChan (s : State) (n : Nat) (x : ChanSt) (m : Nat) : (s.setChan n x).pulse m = s.pulse m := by unfold State.setChan; rfl
@[simp] theorem State.port_setChan (s : State) (n : Nat) (x : ChanSt) (m : Nat) : (s.setChan n x).port m = s.port m := by unfold State.setChan; rfl
@[simp] theorem State.stream_setChan (s : State) (n : Nat) (x : ChanSt) (m : Nat) : (s.setChan n x).stream m = s.stream m := by unfold State.setChan; rfl
@[simp] theorem State.core_setChan (s : State) (n : Nat) (x : ChanSt) (m : Nat) : (s.setChan n x).core m = s.core m := by unfold State.setChan; rfl
@[simp] theorem State.tile_setChan (s : State) (n : Nat) (x : ChanSt) (m : Nat) : (s.setChan n x).tile m = s.tile m := by unfold State.setChan; rfl
@[simp] theorem State.cluster_setChan (s : State) (n : Nat) (x : ChanSt) (m : Nat) : (s.setChan n x).cluster m = s.cluster m := by unfold State.setChan; rfl
@[simp] theorem State.rawWord_setChan (s : State) (n : Nat) (x : ChanSt) (m : Store) (j : Nat) : (s.setChan n x).rawWord m j = s.rawWord m j := by unfold State.setChan; rfl

/-! ### setCore -/

@[simp] theorem State.setCore_pending (s : State) (n : Nat) (x : CoreSt) : (s.setCore n x).pending = s.pending := by unfold State.setCore; rfl
@[simp] theorem State.setCore_time (s : State) (n : Nat) (x : CoreSt) : (s.setCore n x).time = s.time := by unfold State.setCore; rfl
@[simp] theorem State.setCore_orders (s : State) (n : Nat) (x : CoreSt) : (s.setCore n x).orders = s.orders := by unfold State.setCore; rfl
@[simp] theorem State.setCore_mill (s : State) (n : Nat) (x : CoreSt) : (s.setCore n x).mill = s.mill := by unfold State.setCore; rfl
@[simp] theorem State.setCore_wheels (s : State) (n : Nat) (x : CoreSt) : (s.setCore n x).wheels = s.wheels := by unfold State.setCore; rfl
@[simp] theorem State.setCore_armed (s : State) (n : Nat) (x : CoreSt) : (s.setCore n x).armed = s.armed := by unfold State.setCore; rfl
@[simp] theorem State.setCore_sent (s : State) (n : Nat) (x : CoreSt) : (s.setCore n x).sent = s.sent := by unfold State.setCore; rfl
@[simp] theorem State.setCore_hop (s : State) (n : Nat) (x : CoreSt) : (s.setCore n x).hop = s.hop := by unfold State.setCore; rfl
@[simp] theorem State.setCore_conv (s : State) (n : Nat) (x : CoreSt) : (s.setCore n x).conv = s.conv := by unfold State.setCore; rfl
@[simp] theorem State.setCore_slots (s : State) (n : Nat) (x : CoreSt) : (s.setCore n x).slots = s.slots := by unfold State.setCore; rfl
@[simp] theorem State.setCore_exc (s : State) (n : Nat) (x : CoreSt) : (s.setCore n x).exc = s.exc := by unfold State.setCore; rfl
@[simp] theorem State.setCore_chselWr (s : State) (n : Nat) (x : CoreSt) : (s.setCore n x).chselWr = s.chselWr := by unfold State.setCore; rfl
@[simp] theorem State.setCore_entered (s : State) (n : Nat) (x : CoreSt) : (s.setCore n x).entered = s.entered := by unfold State.setCore; rfl
@[simp] theorem State.setCore_weirs (s : State) (n : Nat) (x : CoreSt) : (s.setCore n x).weirs = s.weirs := by unfold State.setCore; rfl
@[simp] theorem State.setCore_pulses (s : State) (n : Nat) (x : CoreSt) : (s.setCore n x).pulses = s.pulses := by unfold State.setCore; rfl
@[simp] theorem State.setCore_tripBall (s : State) (n : Nat) (x : CoreSt) : (s.setCore n x).tripBall = s.tripBall := by unfold State.setCore; rfl
@[simp] theorem State.setCore_tripSince (s : State) (n : Nat) (x : CoreSt) : (s.setCore n x).tripSince = s.tripSince := by unfold State.setCore; rfl
@[simp] theorem State.setCore_ports (s : State) (n : Nat) (x : CoreSt) : (s.setCore n x).ports = s.ports := by unfold State.setCore; rfl
@[simp] theorem State.setCore_ptp (s : State) (n : Nat) (x : CoreSt) : (s.setCore n x).ptp = s.ptp := by unfold State.setCore; rfl
@[simp] theorem State.setCore_tally (s : State) (n : Nat) (x : CoreSt) : (s.setCore n x).tally = s.tally := by unfold State.setCore; rfl
@[simp] theorem State.setCore_streams (s : State) (n : Nat) (x : CoreSt) : (s.setCore n x).streams = s.streams := by unfold State.setCore; rfl
@[simp] theorem State.setCore_alarms (s : State) (n : Nat) (x : CoreSt) : (s.setCore n x).alarms = s.alarms := by unfold State.setCore; rfl
@[simp] theorem State.setCore_alarmCyc (s : State) (n : Nat) (x : CoreSt) : (s.setCore n x).alarmCyc = s.alarmCyc := by unfold State.setCore; rfl
@[simp] theorem State.setCore_alarmPosts (s : State) (n : Nat) (x : CoreSt) : (s.setCore n x).alarmPosts = s.alarmPosts := by unfold State.setCore; rfl
@[simp] theorem State.setCore_lastPop (s : State) (n : Nat) (x : CoreSt) : (s.setCore n x).lastPop = s.lastPop := by unfold State.setCore; rfl
@[simp] theorem State.setCore_chans (s : State) (n : Nat) (x : CoreSt) : (s.setCore n x).chans = s.chans := by unfold State.setCore; rfl
@[simp] theorem State.setCore_evq (s : State) (n : Nat) (x : CoreSt) : (s.setCore n x).evq = s.evq := by unfold State.setCore; rfl
@[simp] theorem State.setCore_boundary (s : State) (n : Nat) (x : CoreSt) : (s.setCore n x).boundary = s.boundary := by unfold State.setCore; rfl
@[simp] theorem State.setCore_held (s : State) (n : Nat) (x : CoreSt) : (s.setCore n x).held = s.held := by unfold State.setCore; rfl
@[simp] theorem State.setCore_tiles (s : State) (n : Nat) (x : CoreSt) : (s.setCore n x).tiles = s.tiles := by unfold State.setCore; rfl
@[simp] theorem State.setCore_clusters (s : State) (n : Nat) (x : CoreSt) : (s.setCore n x).clusters = s.clusters := by unfold State.setCore; rfl
@[simp] theorem State.setCore_ptab (s : State) (n : Nat) (x : CoreSt) : (s.setCore n x).ptab = s.ptab := by unfold State.setCore; rfl
@[simp] theorem State.setCore_words (s : State) (n : Nat) (x : CoreSt) : (s.setCore n x).words = s.words := by unfold State.setCore; rfl
@[simp] theorem State.setCore_flashWords (s : State) (n : Nat) (x : CoreSt) : (s.setCore n x).flashWords = s.flashWords := by unfold State.setCore; rfl
@[simp] theorem State.setCore_flash (s : State) (n : Nat) (x : CoreSt) : (s.setCore n x).flash = s.flash := by unfold State.setCore; rfl
@[simp] theorem State.setCore_jshadow (s : State) (n : Nat) (x : CoreSt) : (s.setCore n x).jshadow = s.jshadow := by unfold State.setCore; rfl
@[simp] theorem State.setCore_jstaged (s : State) (n : Nat) (x : CoreSt) : (s.setCore n x).jstaged = s.jstaged := by unfold State.setCore; rfl
@[simp] theorem State.setCore_scrubAt (s : State) (n : Nat) (x : CoreSt) : (s.setCore n x).scrubAt = s.scrubAt := by unfold State.setCore; rfl
@[simp] theorem State.setCore_jwait (s : State) (n : Nat) (x : CoreSt) : (s.setCore n x).jwait = s.jwait := by unfold State.setCore; rfl
@[simp] theorem State.setCore_errs (s : State) (n : Nat) (x : CoreSt) : (s.setCore n x).errs = s.errs := by unfold State.setCore; rfl
@[simp] theorem State.setCore_regs (s : State) (n : Nat) (x : CoreSt) : (s.setCore n x).regs = s.regs := by unfold State.setCore; rfl
@[simp] theorem State.setCore_shadows (s : State) (n : Nat) (x : CoreSt) : (s.setCore n x).shadows = s.shadows := by unfold State.setCore; rfl
@[simp] theorem State.setCore_host (s : State) (n : Nat) (x : CoreSt) : (s.setCore n x).host = s.host := by unfold State.setCore; rfl
@[simp] theorem State.setCore_pwr (s : State) (n : Nat) (x : CoreSt) : (s.setCore n x).pwr = s.pwr := by unfold State.setCore; rfl
@[simp] theorem State.setCore_rtc (s : State) (n : Nat) (x : CoreSt) : (s.setCore n x).rtc = s.rtc := by unfold State.setCore; rfl
@[simp] theorem State.setCore_mon (s : State) (n : Nat) (x : CoreSt) : (s.setCore n x).mon = s.mon := by unfold State.setCore; rfl
@[simp] theorem State.setCore_dbg (s : State) (n : Nat) (x : CoreSt) : (s.setCore n x).dbg = s.dbg := by unfold State.setCore; rfl
@[simp] theorem State.setCore_fuses (s : State) (n : Nat) (x : CoreSt) : (s.setCore n x).fuses = s.fuses := by unfold State.setCore; rfl
@[simp] theorem State.setCore_rdata (s : State) (n : Nat) (x : CoreSt) : (s.setCore n x).rdata = s.rdata := by unfold State.setCore; rfl
@[simp] theorem State.setCore_freeCtr (s : State) (n : Nat) (x : CoreSt) : (s.setCore n x).freeCtr = s.freeCtr := by unfold State.setCore; rfl
@[simp] theorem State.setCore_w1set (s : State) (n : Nat) (x : CoreSt) : (s.setCore n x).w1set = s.w1set := by unfold State.setCore; rfl
@[simp] theorem State.setCore_srbusy (s : State) (n : Nat) (x : CoreSt) : (s.setCore n x).srbusy = s.srbusy := by unfold State.setCore; rfl
@[simp] theorem State.rd_setCore (s : State) (n : Nat) (x : CoreSt) (m : Nat) : (s.setCore n x).rd m = s.rd m := by unfold State.setCore; rfl
@[simp] theorem State.wheel_setCore (s : State) (n : Nat) (x : CoreSt) (m : Nat) : (s.setCore n x).wheel m = s.wheel m := by unfold State.setCore; rfl
@[simp] theorem State.cnv_setCore (s : State) (n : Nat) (x : CoreSt) (m : Nat) : (s.setCore n x).cnv m = s.cnv m := by unfold State.setCore; rfl
@[simp] theorem State.slot_setCore (s : State) (n : Nat) (x : CoreSt) (m : Nat) : (s.setCore n x).slot m = s.slot m := by unfold State.setCore; rfl
@[simp] theorem State.weir_setCore (s : State) (n : Nat) (x : CoreSt) (m : Nat) : (s.setCore n x).weir m = s.weir m := by unfold State.setCore; rfl
@[simp] theorem State.pulse_setCore (s : State) (n : Nat) (x : CoreSt) (m : Nat) : (s.setCore n x).pulse m = s.pulse m := by unfold State.setCore; rfl
@[simp] theorem State.port_setCore (s : State) (n : Nat) (x : CoreSt) (m : Nat) : (s.setCore n x).port m = s.port m := by unfold State.setCore; rfl
@[simp] theorem State.stream_setCore (s : State) (n : Nat) (x : CoreSt) (m : Nat) : (s.setCore n x).stream m = s.stream m := by unfold State.setCore; rfl
@[simp] theorem State.chan_setCore (s : State) (n : Nat) (x : CoreSt) (m : Nat) : (s.setCore n x).chan m = s.chan m := by unfold State.setCore; rfl
@[simp] theorem State.tile_setCore (s : State) (n : Nat) (x : CoreSt) (m : Nat) : (s.setCore n x).tile m = s.tile m := by unfold State.setCore; rfl
@[simp] theorem State.cluster_setCore (s : State) (n : Nat) (x : CoreSt) (m : Nat) : (s.setCore n x).cluster m = s.cluster m := by unfold State.setCore; rfl
@[simp] theorem State.rawWord_setCore (s : State) (n : Nat) (x : CoreSt) (m : Store) (j : Nat) : (s.setCore n x).rawWord m j = s.rawWord m j := by unfold State.setCore; rfl

/-! ### setTile -/

@[simp] theorem State.setTile_pending (s : State) (n : Nat) (x : TileSt) : (s.setTile n x).pending = s.pending := by unfold State.setTile; rfl
@[simp] theorem State.setTile_time (s : State) (n : Nat) (x : TileSt) : (s.setTile n x).time = s.time := by unfold State.setTile; rfl
@[simp] theorem State.setTile_orders (s : State) (n : Nat) (x : TileSt) : (s.setTile n x).orders = s.orders := by unfold State.setTile; rfl
@[simp] theorem State.setTile_mill (s : State) (n : Nat) (x : TileSt) : (s.setTile n x).mill = s.mill := by unfold State.setTile; rfl
@[simp] theorem State.setTile_wheels (s : State) (n : Nat) (x : TileSt) : (s.setTile n x).wheels = s.wheels := by unfold State.setTile; rfl
@[simp] theorem State.setTile_armed (s : State) (n : Nat) (x : TileSt) : (s.setTile n x).armed = s.armed := by unfold State.setTile; rfl
@[simp] theorem State.setTile_sent (s : State) (n : Nat) (x : TileSt) : (s.setTile n x).sent = s.sent := by unfold State.setTile; rfl
@[simp] theorem State.setTile_hop (s : State) (n : Nat) (x : TileSt) : (s.setTile n x).hop = s.hop := by unfold State.setTile; rfl
@[simp] theorem State.setTile_conv (s : State) (n : Nat) (x : TileSt) : (s.setTile n x).conv = s.conv := by unfold State.setTile; rfl
@[simp] theorem State.setTile_slots (s : State) (n : Nat) (x : TileSt) : (s.setTile n x).slots = s.slots := by unfold State.setTile; rfl
@[simp] theorem State.setTile_exc (s : State) (n : Nat) (x : TileSt) : (s.setTile n x).exc = s.exc := by unfold State.setTile; rfl
@[simp] theorem State.setTile_chselWr (s : State) (n : Nat) (x : TileSt) : (s.setTile n x).chselWr = s.chselWr := by unfold State.setTile; rfl
@[simp] theorem State.setTile_entered (s : State) (n : Nat) (x : TileSt) : (s.setTile n x).entered = s.entered := by unfold State.setTile; rfl
@[simp] theorem State.setTile_weirs (s : State) (n : Nat) (x : TileSt) : (s.setTile n x).weirs = s.weirs := by unfold State.setTile; rfl
@[simp] theorem State.setTile_pulses (s : State) (n : Nat) (x : TileSt) : (s.setTile n x).pulses = s.pulses := by unfold State.setTile; rfl
@[simp] theorem State.setTile_tripBall (s : State) (n : Nat) (x : TileSt) : (s.setTile n x).tripBall = s.tripBall := by unfold State.setTile; rfl
@[simp] theorem State.setTile_tripSince (s : State) (n : Nat) (x : TileSt) : (s.setTile n x).tripSince = s.tripSince := by unfold State.setTile; rfl
@[simp] theorem State.setTile_ports (s : State) (n : Nat) (x : TileSt) : (s.setTile n x).ports = s.ports := by unfold State.setTile; rfl
@[simp] theorem State.setTile_ptp (s : State) (n : Nat) (x : TileSt) : (s.setTile n x).ptp = s.ptp := by unfold State.setTile; rfl
@[simp] theorem State.setTile_tally (s : State) (n : Nat) (x : TileSt) : (s.setTile n x).tally = s.tally := by unfold State.setTile; rfl
@[simp] theorem State.setTile_streams (s : State) (n : Nat) (x : TileSt) : (s.setTile n x).streams = s.streams := by unfold State.setTile; rfl
@[simp] theorem State.setTile_alarms (s : State) (n : Nat) (x : TileSt) : (s.setTile n x).alarms = s.alarms := by unfold State.setTile; rfl
@[simp] theorem State.setTile_alarmCyc (s : State) (n : Nat) (x : TileSt) : (s.setTile n x).alarmCyc = s.alarmCyc := by unfold State.setTile; rfl
@[simp] theorem State.setTile_alarmPosts (s : State) (n : Nat) (x : TileSt) : (s.setTile n x).alarmPosts = s.alarmPosts := by unfold State.setTile; rfl
@[simp] theorem State.setTile_lastPop (s : State) (n : Nat) (x : TileSt) : (s.setTile n x).lastPop = s.lastPop := by unfold State.setTile; rfl
@[simp] theorem State.setTile_chans (s : State) (n : Nat) (x : TileSt) : (s.setTile n x).chans = s.chans := by unfold State.setTile; rfl
@[simp] theorem State.setTile_evq (s : State) (n : Nat) (x : TileSt) : (s.setTile n x).evq = s.evq := by unfold State.setTile; rfl
@[simp] theorem State.setTile_boundary (s : State) (n : Nat) (x : TileSt) : (s.setTile n x).boundary = s.boundary := by unfold State.setTile; rfl
@[simp] theorem State.setTile_held (s : State) (n : Nat) (x : TileSt) : (s.setTile n x).held = s.held := by unfold State.setTile; rfl
@[simp] theorem State.setTile_cores (s : State) (n : Nat) (x : TileSt) : (s.setTile n x).cores = s.cores := by unfold State.setTile; rfl
@[simp] theorem State.setTile_clusters (s : State) (n : Nat) (x : TileSt) : (s.setTile n x).clusters = s.clusters := by unfold State.setTile; rfl
@[simp] theorem State.setTile_ptab (s : State) (n : Nat) (x : TileSt) : (s.setTile n x).ptab = s.ptab := by unfold State.setTile; rfl
@[simp] theorem State.setTile_words (s : State) (n : Nat) (x : TileSt) : (s.setTile n x).words = s.words := by unfold State.setTile; rfl
@[simp] theorem State.setTile_flashWords (s : State) (n : Nat) (x : TileSt) : (s.setTile n x).flashWords = s.flashWords := by unfold State.setTile; rfl
@[simp] theorem State.setTile_flash (s : State) (n : Nat) (x : TileSt) : (s.setTile n x).flash = s.flash := by unfold State.setTile; rfl
@[simp] theorem State.setTile_jshadow (s : State) (n : Nat) (x : TileSt) : (s.setTile n x).jshadow = s.jshadow := by unfold State.setTile; rfl
@[simp] theorem State.setTile_jstaged (s : State) (n : Nat) (x : TileSt) : (s.setTile n x).jstaged = s.jstaged := by unfold State.setTile; rfl
@[simp] theorem State.setTile_scrubAt (s : State) (n : Nat) (x : TileSt) : (s.setTile n x).scrubAt = s.scrubAt := by unfold State.setTile; rfl
@[simp] theorem State.setTile_jwait (s : State) (n : Nat) (x : TileSt) : (s.setTile n x).jwait = s.jwait := by unfold State.setTile; rfl
@[simp] theorem State.setTile_errs (s : State) (n : Nat) (x : TileSt) : (s.setTile n x).errs = s.errs := by unfold State.setTile; rfl
@[simp] theorem State.setTile_regs (s : State) (n : Nat) (x : TileSt) : (s.setTile n x).regs = s.regs := by unfold State.setTile; rfl
@[simp] theorem State.setTile_shadows (s : State) (n : Nat) (x : TileSt) : (s.setTile n x).shadows = s.shadows := by unfold State.setTile; rfl
@[simp] theorem State.setTile_host (s : State) (n : Nat) (x : TileSt) : (s.setTile n x).host = s.host := by unfold State.setTile; rfl
@[simp] theorem State.setTile_pwr (s : State) (n : Nat) (x : TileSt) : (s.setTile n x).pwr = s.pwr := by unfold State.setTile; rfl
@[simp] theorem State.setTile_rtc (s : State) (n : Nat) (x : TileSt) : (s.setTile n x).rtc = s.rtc := by unfold State.setTile; rfl
@[simp] theorem State.setTile_mon (s : State) (n : Nat) (x : TileSt) : (s.setTile n x).mon = s.mon := by unfold State.setTile; rfl
@[simp] theorem State.setTile_dbg (s : State) (n : Nat) (x : TileSt) : (s.setTile n x).dbg = s.dbg := by unfold State.setTile; rfl
@[simp] theorem State.setTile_fuses (s : State) (n : Nat) (x : TileSt) : (s.setTile n x).fuses = s.fuses := by unfold State.setTile; rfl
@[simp] theorem State.setTile_rdata (s : State) (n : Nat) (x : TileSt) : (s.setTile n x).rdata = s.rdata := by unfold State.setTile; rfl
@[simp] theorem State.setTile_freeCtr (s : State) (n : Nat) (x : TileSt) : (s.setTile n x).freeCtr = s.freeCtr := by unfold State.setTile; rfl
@[simp] theorem State.setTile_w1set (s : State) (n : Nat) (x : TileSt) : (s.setTile n x).w1set = s.w1set := by unfold State.setTile; rfl
@[simp] theorem State.setTile_srbusy (s : State) (n : Nat) (x : TileSt) : (s.setTile n x).srbusy = s.srbusy := by unfold State.setTile; rfl
@[simp] theorem State.rd_setTile (s : State) (n : Nat) (x : TileSt) (m : Nat) : (s.setTile n x).rd m = s.rd m := by unfold State.setTile; rfl
@[simp] theorem State.wheel_setTile (s : State) (n : Nat) (x : TileSt) (m : Nat) : (s.setTile n x).wheel m = s.wheel m := by unfold State.setTile; rfl
@[simp] theorem State.cnv_setTile (s : State) (n : Nat) (x : TileSt) (m : Nat) : (s.setTile n x).cnv m = s.cnv m := by unfold State.setTile; rfl
@[simp] theorem State.slot_setTile (s : State) (n : Nat) (x : TileSt) (m : Nat) : (s.setTile n x).slot m = s.slot m := by unfold State.setTile; rfl
@[simp] theorem State.weir_setTile (s : State) (n : Nat) (x : TileSt) (m : Nat) : (s.setTile n x).weir m = s.weir m := by unfold State.setTile; rfl
@[simp] theorem State.pulse_setTile (s : State) (n : Nat) (x : TileSt) (m : Nat) : (s.setTile n x).pulse m = s.pulse m := by unfold State.setTile; rfl
@[simp] theorem State.port_setTile (s : State) (n : Nat) (x : TileSt) (m : Nat) : (s.setTile n x).port m = s.port m := by unfold State.setTile; rfl
@[simp] theorem State.stream_setTile (s : State) (n : Nat) (x : TileSt) (m : Nat) : (s.setTile n x).stream m = s.stream m := by unfold State.setTile; rfl
@[simp] theorem State.chan_setTile (s : State) (n : Nat) (x : TileSt) (m : Nat) : (s.setTile n x).chan m = s.chan m := by unfold State.setTile; rfl
@[simp] theorem State.core_setTile (s : State) (n : Nat) (x : TileSt) (m : Nat) : (s.setTile n x).core m = s.core m := by unfold State.setTile; rfl
@[simp] theorem State.cluster_setTile (s : State) (n : Nat) (x : TileSt) (m : Nat) : (s.setTile n x).cluster m = s.cluster m := by unfold State.setTile; rfl
@[simp] theorem State.rawWord_setTile (s : State) (n : Nat) (x : TileSt) (m : Store) (j : Nat) : (s.setTile n x).rawWord m j = s.rawWord m j := by unfold State.setTile; rfl

/-! ### setCluster -/

@[simp] theorem State.setCluster_pending (s : State) (n : Nat) (x : ClusterSt) : (s.setCluster n x).pending = s.pending := by unfold State.setCluster; rfl
@[simp] theorem State.setCluster_time (s : State) (n : Nat) (x : ClusterSt) : (s.setCluster n x).time = s.time := by unfold State.setCluster; rfl
@[simp] theorem State.setCluster_orders (s : State) (n : Nat) (x : ClusterSt) : (s.setCluster n x).orders = s.orders := by unfold State.setCluster; rfl
@[simp] theorem State.setCluster_mill (s : State) (n : Nat) (x : ClusterSt) : (s.setCluster n x).mill = s.mill := by unfold State.setCluster; rfl
@[simp] theorem State.setCluster_wheels (s : State) (n : Nat) (x : ClusterSt) : (s.setCluster n x).wheels = s.wheels := by unfold State.setCluster; rfl
@[simp] theorem State.setCluster_armed (s : State) (n : Nat) (x : ClusterSt) : (s.setCluster n x).armed = s.armed := by unfold State.setCluster; rfl
@[simp] theorem State.setCluster_sent (s : State) (n : Nat) (x : ClusterSt) : (s.setCluster n x).sent = s.sent := by unfold State.setCluster; rfl
@[simp] theorem State.setCluster_hop (s : State) (n : Nat) (x : ClusterSt) : (s.setCluster n x).hop = s.hop := by unfold State.setCluster; rfl
@[simp] theorem State.setCluster_conv (s : State) (n : Nat) (x : ClusterSt) : (s.setCluster n x).conv = s.conv := by unfold State.setCluster; rfl
@[simp] theorem State.setCluster_slots (s : State) (n : Nat) (x : ClusterSt) : (s.setCluster n x).slots = s.slots := by unfold State.setCluster; rfl
@[simp] theorem State.setCluster_exc (s : State) (n : Nat) (x : ClusterSt) : (s.setCluster n x).exc = s.exc := by unfold State.setCluster; rfl
@[simp] theorem State.setCluster_chselWr (s : State) (n : Nat) (x : ClusterSt) : (s.setCluster n x).chselWr = s.chselWr := by unfold State.setCluster; rfl
@[simp] theorem State.setCluster_entered (s : State) (n : Nat) (x : ClusterSt) : (s.setCluster n x).entered = s.entered := by unfold State.setCluster; rfl
@[simp] theorem State.setCluster_weirs (s : State) (n : Nat) (x : ClusterSt) : (s.setCluster n x).weirs = s.weirs := by unfold State.setCluster; rfl
@[simp] theorem State.setCluster_pulses (s : State) (n : Nat) (x : ClusterSt) : (s.setCluster n x).pulses = s.pulses := by unfold State.setCluster; rfl
@[simp] theorem State.setCluster_tripBall (s : State) (n : Nat) (x : ClusterSt) : (s.setCluster n x).tripBall = s.tripBall := by unfold State.setCluster; rfl
@[simp] theorem State.setCluster_tripSince (s : State) (n : Nat) (x : ClusterSt) : (s.setCluster n x).tripSince = s.tripSince := by unfold State.setCluster; rfl
@[simp] theorem State.setCluster_ports (s : State) (n : Nat) (x : ClusterSt) : (s.setCluster n x).ports = s.ports := by unfold State.setCluster; rfl
@[simp] theorem State.setCluster_ptp (s : State) (n : Nat) (x : ClusterSt) : (s.setCluster n x).ptp = s.ptp := by unfold State.setCluster; rfl
@[simp] theorem State.setCluster_tally (s : State) (n : Nat) (x : ClusterSt) : (s.setCluster n x).tally = s.tally := by unfold State.setCluster; rfl
@[simp] theorem State.setCluster_streams (s : State) (n : Nat) (x : ClusterSt) : (s.setCluster n x).streams = s.streams := by unfold State.setCluster; rfl
@[simp] theorem State.setCluster_alarms (s : State) (n : Nat) (x : ClusterSt) : (s.setCluster n x).alarms = s.alarms := by unfold State.setCluster; rfl
@[simp] theorem State.setCluster_alarmCyc (s : State) (n : Nat) (x : ClusterSt) : (s.setCluster n x).alarmCyc = s.alarmCyc := by unfold State.setCluster; rfl
@[simp] theorem State.setCluster_alarmPosts (s : State) (n : Nat) (x : ClusterSt) : (s.setCluster n x).alarmPosts = s.alarmPosts := by unfold State.setCluster; rfl
@[simp] theorem State.setCluster_lastPop (s : State) (n : Nat) (x : ClusterSt) : (s.setCluster n x).lastPop = s.lastPop := by unfold State.setCluster; rfl
@[simp] theorem State.setCluster_chans (s : State) (n : Nat) (x : ClusterSt) : (s.setCluster n x).chans = s.chans := by unfold State.setCluster; rfl
@[simp] theorem State.setCluster_evq (s : State) (n : Nat) (x : ClusterSt) : (s.setCluster n x).evq = s.evq := by unfold State.setCluster; rfl
@[simp] theorem State.setCluster_boundary (s : State) (n : Nat) (x : ClusterSt) : (s.setCluster n x).boundary = s.boundary := by unfold State.setCluster; rfl
@[simp] theorem State.setCluster_held (s : State) (n : Nat) (x : ClusterSt) : (s.setCluster n x).held = s.held := by unfold State.setCluster; rfl
@[simp] theorem State.setCluster_cores (s : State) (n : Nat) (x : ClusterSt) : (s.setCluster n x).cores = s.cores := by unfold State.setCluster; rfl
@[simp] theorem State.setCluster_tiles (s : State) (n : Nat) (x : ClusterSt) : (s.setCluster n x).tiles = s.tiles := by unfold State.setCluster; rfl
@[simp] theorem State.setCluster_ptab (s : State) (n : Nat) (x : ClusterSt) : (s.setCluster n x).ptab = s.ptab := by unfold State.setCluster; rfl
@[simp] theorem State.setCluster_words (s : State) (n : Nat) (x : ClusterSt) : (s.setCluster n x).words = s.words := by unfold State.setCluster; rfl
@[simp] theorem State.setCluster_flashWords (s : State) (n : Nat) (x : ClusterSt) : (s.setCluster n x).flashWords = s.flashWords := by unfold State.setCluster; rfl
@[simp] theorem State.setCluster_flash (s : State) (n : Nat) (x : ClusterSt) : (s.setCluster n x).flash = s.flash := by unfold State.setCluster; rfl
@[simp] theorem State.setCluster_jshadow (s : State) (n : Nat) (x : ClusterSt) : (s.setCluster n x).jshadow = s.jshadow := by unfold State.setCluster; rfl
@[simp] theorem State.setCluster_jstaged (s : State) (n : Nat) (x : ClusterSt) : (s.setCluster n x).jstaged = s.jstaged := by unfold State.setCluster; rfl
@[simp] theorem State.setCluster_scrubAt (s : State) (n : Nat) (x : ClusterSt) : (s.setCluster n x).scrubAt = s.scrubAt := by unfold State.setCluster; rfl
@[simp] theorem State.setCluster_jwait (s : State) (n : Nat) (x : ClusterSt) : (s.setCluster n x).jwait = s.jwait := by unfold State.setCluster; rfl
@[simp] theorem State.setCluster_errs (s : State) (n : Nat) (x : ClusterSt) : (s.setCluster n x).errs = s.errs := by unfold State.setCluster; rfl
@[simp] theorem State.setCluster_regs (s : State) (n : Nat) (x : ClusterSt) : (s.setCluster n x).regs = s.regs := by unfold State.setCluster; rfl
@[simp] theorem State.setCluster_shadows (s : State) (n : Nat) (x : ClusterSt) : (s.setCluster n x).shadows = s.shadows := by unfold State.setCluster; rfl
@[simp] theorem State.setCluster_host (s : State) (n : Nat) (x : ClusterSt) : (s.setCluster n x).host = s.host := by unfold State.setCluster; rfl
@[simp] theorem State.setCluster_pwr (s : State) (n : Nat) (x : ClusterSt) : (s.setCluster n x).pwr = s.pwr := by unfold State.setCluster; rfl
@[simp] theorem State.setCluster_rtc (s : State) (n : Nat) (x : ClusterSt) : (s.setCluster n x).rtc = s.rtc := by unfold State.setCluster; rfl
@[simp] theorem State.setCluster_mon (s : State) (n : Nat) (x : ClusterSt) : (s.setCluster n x).mon = s.mon := by unfold State.setCluster; rfl
@[simp] theorem State.setCluster_dbg (s : State) (n : Nat) (x : ClusterSt) : (s.setCluster n x).dbg = s.dbg := by unfold State.setCluster; rfl
@[simp] theorem State.setCluster_fuses (s : State) (n : Nat) (x : ClusterSt) : (s.setCluster n x).fuses = s.fuses := by unfold State.setCluster; rfl
@[simp] theorem State.setCluster_rdata (s : State) (n : Nat) (x : ClusterSt) : (s.setCluster n x).rdata = s.rdata := by unfold State.setCluster; rfl
@[simp] theorem State.setCluster_freeCtr (s : State) (n : Nat) (x : ClusterSt) : (s.setCluster n x).freeCtr = s.freeCtr := by unfold State.setCluster; rfl
@[simp] theorem State.setCluster_w1set (s : State) (n : Nat) (x : ClusterSt) : (s.setCluster n x).w1set = s.w1set := by unfold State.setCluster; rfl
@[simp] theorem State.setCluster_srbusy (s : State) (n : Nat) (x : ClusterSt) : (s.setCluster n x).srbusy = s.srbusy := by unfold State.setCluster; rfl
@[simp] theorem State.rd_setCluster (s : State) (n : Nat) (x : ClusterSt) (m : Nat) : (s.setCluster n x).rd m = s.rd m := by unfold State.setCluster; rfl
@[simp] theorem State.wheel_setCluster (s : State) (n : Nat) (x : ClusterSt) (m : Nat) : (s.setCluster n x).wheel m = s.wheel m := by unfold State.setCluster; rfl
@[simp] theorem State.cnv_setCluster (s : State) (n : Nat) (x : ClusterSt) (m : Nat) : (s.setCluster n x).cnv m = s.cnv m := by unfold State.setCluster; rfl
@[simp] theorem State.slot_setCluster (s : State) (n : Nat) (x : ClusterSt) (m : Nat) : (s.setCluster n x).slot m = s.slot m := by unfold State.setCluster; rfl
@[simp] theorem State.weir_setCluster (s : State) (n : Nat) (x : ClusterSt) (m : Nat) : (s.setCluster n x).weir m = s.weir m := by unfold State.setCluster; rfl
@[simp] theorem State.pulse_setCluster (s : State) (n : Nat) (x : ClusterSt) (m : Nat) : (s.setCluster n x).pulse m = s.pulse m := by unfold State.setCluster; rfl
@[simp] theorem State.port_setCluster (s : State) (n : Nat) (x : ClusterSt) (m : Nat) : (s.setCluster n x).port m = s.port m := by unfold State.setCluster; rfl
@[simp] theorem State.stream_setCluster (s : State) (n : Nat) (x : ClusterSt) (m : Nat) : (s.setCluster n x).stream m = s.stream m := by unfold State.setCluster; rfl
@[simp] theorem State.chan_setCluster (s : State) (n : Nat) (x : ClusterSt) (m : Nat) : (s.setCluster n x).chan m = s.chan m := by unfold State.setCluster; rfl
@[simp] theorem State.core_setCluster (s : State) (n : Nat) (x : ClusterSt) (m : Nat) : (s.setCluster n x).core m = s.core m := by unfold State.setCluster; rfl
@[simp] theorem State.tile_setCluster (s : State) (n : Nat) (x : ClusterSt) (m : Nat) : (s.setCluster n x).tile m = s.tile m := by unfold State.setCluster; rfl
@[simp] theorem State.rawWord_setCluster (s : State) (n : Nat) (x : ClusterSt) (m : Store) (j : Nat) : (s.setCluster n x).rawWord m j = s.rawWord m j := by unfold State.setCluster; rfl

/-! ### pushCh -/

@[simp] theorem State.pushCh_pending (s : State) (ch : Nat) : (s.pushCh ch).pending = s.pending := by unfold State.pushCh; rfl
@[simp] theorem State.pushCh_time (s : State) (ch : Nat) : (s.pushCh ch).time = s.time := by unfold State.pushCh; rfl
@[simp] theorem State.pushCh_orders (s : State) (ch : Nat) : (s.pushCh ch).orders = s.orders := by unfold State.pushCh; rfl
@[simp] theorem State.pushCh_mill (s : State) (ch : Nat) : (s.pushCh ch).mill = s.mill := by unfold State.pushCh; rfl
@[simp] theorem State.pushCh_wheels (s : State) (ch : Nat) : (s.pushCh ch).wheels = s.wheels := by unfold State.pushCh; rfl
@[simp] theorem State.pushCh_armed (s : State) (ch : Nat) : (s.pushCh ch).armed = s.armed := by unfold State.pushCh; rfl
@[simp] theorem State.pushCh_sent (s : State) (ch : Nat) : (s.pushCh ch).sent = s.sent := by unfold State.pushCh; rfl
@[simp] theorem State.pushCh_hop (s : State) (ch : Nat) : (s.pushCh ch).hop = s.hop := by unfold State.pushCh; rfl
@[simp] theorem State.pushCh_conv (s : State) (ch : Nat) : (s.pushCh ch).conv = s.conv := by unfold State.pushCh; rfl
@[simp] theorem State.pushCh_slots (s : State) (ch : Nat) : (s.pushCh ch).slots = s.slots := by unfold State.pushCh; rfl
@[simp] theorem State.pushCh_exc (s : State) (ch : Nat) : (s.pushCh ch).exc = s.exc := by unfold State.pushCh; rfl
@[simp] theorem State.pushCh_chselWr (s : State) (ch : Nat) : (s.pushCh ch).chselWr = s.chselWr := by unfold State.pushCh; rfl
@[simp] theorem State.pushCh_entered (s : State) (ch : Nat) : (s.pushCh ch).entered = s.entered := by unfold State.pushCh; rfl
@[simp] theorem State.pushCh_weirs (s : State) (ch : Nat) : (s.pushCh ch).weirs = s.weirs := by unfold State.pushCh; rfl
@[simp] theorem State.pushCh_pulses (s : State) (ch : Nat) : (s.pushCh ch).pulses = s.pulses := by unfold State.pushCh; rfl
@[simp] theorem State.pushCh_tripBall (s : State) (ch : Nat) : (s.pushCh ch).tripBall = s.tripBall := by unfold State.pushCh; rfl
@[simp] theorem State.pushCh_tripSince (s : State) (ch : Nat) : (s.pushCh ch).tripSince = s.tripSince := by unfold State.pushCh; rfl
@[simp] theorem State.pushCh_ports (s : State) (ch : Nat) : (s.pushCh ch).ports = s.ports := by unfold State.pushCh; rfl
@[simp] theorem State.pushCh_ptp (s : State) (ch : Nat) : (s.pushCh ch).ptp = s.ptp := by unfold State.pushCh; rfl
@[simp] theorem State.pushCh_tally (s : State) (ch : Nat) : (s.pushCh ch).tally = s.tally := by unfold State.pushCh; rfl
@[simp] theorem State.pushCh_streams (s : State) (ch : Nat) : (s.pushCh ch).streams = s.streams := by unfold State.pushCh; rfl
@[simp] theorem State.pushCh_alarms (s : State) (ch : Nat) : (s.pushCh ch).alarms = s.alarms := by unfold State.pushCh; rfl
@[simp] theorem State.pushCh_alarmCyc (s : State) (ch : Nat) : (s.pushCh ch).alarmCyc = s.alarmCyc := by unfold State.pushCh; rfl
@[simp] theorem State.pushCh_alarmPosts (s : State) (ch : Nat) : (s.pushCh ch).alarmPosts = s.alarmPosts := by unfold State.pushCh; rfl
@[simp] theorem State.pushCh_lastPop (s : State) (ch : Nat) : (s.pushCh ch).lastPop = s.lastPop := by unfold State.pushCh; rfl
@[simp] theorem State.pushCh_chans (s : State) (ch : Nat) : (s.pushCh ch).chans = s.chans := by unfold State.pushCh; rfl
@[simp] theorem State.pushCh_boundary (s : State) (ch : Nat) : (s.pushCh ch).boundary = s.boundary := by unfold State.pushCh; rfl
@[simp] theorem State.pushCh_held (s : State) (ch : Nat) : (s.pushCh ch).held = s.held := by unfold State.pushCh; rfl
@[simp] theorem State.pushCh_cores (s : State) (ch : Nat) : (s.pushCh ch).cores = s.cores := by unfold State.pushCh; rfl
@[simp] theorem State.pushCh_tiles (s : State) (ch : Nat) : (s.pushCh ch).tiles = s.tiles := by unfold State.pushCh; rfl
@[simp] theorem State.pushCh_clusters (s : State) (ch : Nat) : (s.pushCh ch).clusters = s.clusters := by unfold State.pushCh; rfl
@[simp] theorem State.pushCh_ptab (s : State) (ch : Nat) : (s.pushCh ch).ptab = s.ptab := by unfold State.pushCh; rfl
@[simp] theorem State.pushCh_words (s : State) (ch : Nat) : (s.pushCh ch).words = s.words := by unfold State.pushCh; rfl
@[simp] theorem State.pushCh_flashWords (s : State) (ch : Nat) : (s.pushCh ch).flashWords = s.flashWords := by unfold State.pushCh; rfl
@[simp] theorem State.pushCh_flash (s : State) (ch : Nat) : (s.pushCh ch).flash = s.flash := by unfold State.pushCh; rfl
@[simp] theorem State.pushCh_jshadow (s : State) (ch : Nat) : (s.pushCh ch).jshadow = s.jshadow := by unfold State.pushCh; rfl
@[simp] theorem State.pushCh_jstaged (s : State) (ch : Nat) : (s.pushCh ch).jstaged = s.jstaged := by unfold State.pushCh; rfl
@[simp] theorem State.pushCh_scrubAt (s : State) (ch : Nat) : (s.pushCh ch).scrubAt = s.scrubAt := by unfold State.pushCh; rfl
@[simp] theorem State.pushCh_jwait (s : State) (ch : Nat) : (s.pushCh ch).jwait = s.jwait := by unfold State.pushCh; rfl
@[simp] theorem State.pushCh_errs (s : State) (ch : Nat) : (s.pushCh ch).errs = s.errs := by unfold State.pushCh; rfl
@[simp] theorem State.pushCh_regs (s : State) (ch : Nat) : (s.pushCh ch).regs = s.regs := by unfold State.pushCh; rfl
@[simp] theorem State.pushCh_shadows (s : State) (ch : Nat) : (s.pushCh ch).shadows = s.shadows := by unfold State.pushCh; rfl
@[simp] theorem State.pushCh_host (s : State) (ch : Nat) : (s.pushCh ch).host = s.host := by unfold State.pushCh; rfl
@[simp] theorem State.pushCh_pwr (s : State) (ch : Nat) : (s.pushCh ch).pwr = s.pwr := by unfold State.pushCh; rfl
@[simp] theorem State.pushCh_rtc (s : State) (ch : Nat) : (s.pushCh ch).rtc = s.rtc := by unfold State.pushCh; rfl
@[simp] theorem State.pushCh_mon (s : State) (ch : Nat) : (s.pushCh ch).mon = s.mon := by unfold State.pushCh; rfl
@[simp] theorem State.pushCh_dbg (s : State) (ch : Nat) : (s.pushCh ch).dbg = s.dbg := by unfold State.pushCh; rfl
@[simp] theorem State.pushCh_fuses (s : State) (ch : Nat) : (s.pushCh ch).fuses = s.fuses := by unfold State.pushCh; rfl
@[simp] theorem State.pushCh_rdata (s : State) (ch : Nat) : (s.pushCh ch).rdata = s.rdata := by unfold State.pushCh; rfl
@[simp] theorem State.pushCh_freeCtr (s : State) (ch : Nat) : (s.pushCh ch).freeCtr = s.freeCtr := by unfold State.pushCh; rfl
@[simp] theorem State.pushCh_w1set (s : State) (ch : Nat) : (s.pushCh ch).w1set = s.w1set := by unfold State.pushCh; rfl
@[simp] theorem State.pushCh_srbusy (s : State) (ch : Nat) : (s.pushCh ch).srbusy = s.srbusy := by unfold State.pushCh; rfl
@[simp] theorem State.rd_pushCh (s : State) (ch : Nat) (m : Nat) : (s.pushCh ch).rd m = s.rd m := by unfold State.pushCh; rfl
@[simp] theorem State.wheel_pushCh (s : State) (ch : Nat) (m : Nat) : (s.pushCh ch).wheel m = s.wheel m := by unfold State.pushCh; rfl
@[simp] theorem State.cnv_pushCh (s : State) (ch : Nat) (m : Nat) : (s.pushCh ch).cnv m = s.cnv m := by unfold State.pushCh; rfl
@[simp] theorem State.slot_pushCh (s : State) (ch : Nat) (m : Nat) : (s.pushCh ch).slot m = s.slot m := by unfold State.pushCh; rfl
@[simp] theorem State.weir_pushCh (s : State) (ch : Nat) (m : Nat) : (s.pushCh ch).weir m = s.weir m := by unfold State.pushCh; rfl
@[simp] theorem State.pulse_pushCh (s : State) (ch : Nat) (m : Nat) : (s.pushCh ch).pulse m = s.pulse m := by unfold State.pushCh; rfl
@[simp] theorem State.port_pushCh (s : State) (ch : Nat) (m : Nat) : (s.pushCh ch).port m = s.port m := by unfold State.pushCh; rfl
@[simp] theorem State.stream_pushCh (s : State) (ch : Nat) (m : Nat) : (s.pushCh ch).stream m = s.stream m := by unfold State.pushCh; rfl
@[simp] theorem State.chan_pushCh (s : State) (ch : Nat) (m : Nat) : (s.pushCh ch).chan m = s.chan m := by unfold State.pushCh; rfl
@[simp] theorem State.core_pushCh (s : State) (ch : Nat) (m : Nat) : (s.pushCh ch).core m = s.core m := by unfold State.pushCh; rfl
@[simp] theorem State.tile_pushCh (s : State) (ch : Nat) (m : Nat) : (s.pushCh ch).tile m = s.tile m := by unfold State.pushCh; rfl
@[simp] theorem State.cluster_pushCh (s : State) (ch : Nat) (m : Nat) : (s.pushCh ch).cluster m = s.cluster m := by unfold State.pushCh; rfl
@[simp] theorem State.rawWord_pushCh (s : State) (ch : Nat) (m : Store) (j : Nat) : (s.pushCh ch).rawWord m j = s.rawWord m j := by unfold State.pushCh; rfl

/-! ### pushEv -/

@[simp] theorem State.pushEv_pending (s : State) (ev : LeatEv) : (s.pushEv ev).pending = s.pending := by unfold State.pushEv; rfl
@[simp] theorem State.pushEv_time (s : State) (ev : LeatEv) : (s.pushEv ev).time = s.time := by unfold State.pushEv; rfl
@[simp] theorem State.pushEv_orders (s : State) (ev : LeatEv) : (s.pushEv ev).orders = s.orders := by unfold State.pushEv; rfl
@[simp] theorem State.pushEv_mill (s : State) (ev : LeatEv) : (s.pushEv ev).mill = s.mill := by unfold State.pushEv; rfl
@[simp] theorem State.pushEv_wheels (s : State) (ev : LeatEv) : (s.pushEv ev).wheels = s.wheels := by unfold State.pushEv; rfl
@[simp] theorem State.pushEv_armed (s : State) (ev : LeatEv) : (s.pushEv ev).armed = s.armed := by unfold State.pushEv; rfl
@[simp] theorem State.pushEv_sent (s : State) (ev : LeatEv) : (s.pushEv ev).sent = s.sent := by unfold State.pushEv; rfl
@[simp] theorem State.pushEv_hop (s : State) (ev : LeatEv) : (s.pushEv ev).hop = s.hop := by unfold State.pushEv; rfl
@[simp] theorem State.pushEv_conv (s : State) (ev : LeatEv) : (s.pushEv ev).conv = s.conv := by unfold State.pushEv; rfl
@[simp] theorem State.pushEv_slots (s : State) (ev : LeatEv) : (s.pushEv ev).slots = s.slots := by unfold State.pushEv; rfl
@[simp] theorem State.pushEv_exc (s : State) (ev : LeatEv) : (s.pushEv ev).exc = s.exc := by unfold State.pushEv; rfl
@[simp] theorem State.pushEv_chselWr (s : State) (ev : LeatEv) : (s.pushEv ev).chselWr = s.chselWr := by unfold State.pushEv; rfl
@[simp] theorem State.pushEv_entered (s : State) (ev : LeatEv) : (s.pushEv ev).entered = s.entered := by unfold State.pushEv; rfl
@[simp] theorem State.pushEv_weirs (s : State) (ev : LeatEv) : (s.pushEv ev).weirs = s.weirs := by unfold State.pushEv; rfl
@[simp] theorem State.pushEv_pulses (s : State) (ev : LeatEv) : (s.pushEv ev).pulses = s.pulses := by unfold State.pushEv; rfl
@[simp] theorem State.pushEv_tripBall (s : State) (ev : LeatEv) : (s.pushEv ev).tripBall = s.tripBall := by unfold State.pushEv; rfl
@[simp] theorem State.pushEv_tripSince (s : State) (ev : LeatEv) : (s.pushEv ev).tripSince = s.tripSince := by unfold State.pushEv; rfl
@[simp] theorem State.pushEv_ports (s : State) (ev : LeatEv) : (s.pushEv ev).ports = s.ports := by unfold State.pushEv; rfl
@[simp] theorem State.pushEv_ptp (s : State) (ev : LeatEv) : (s.pushEv ev).ptp = s.ptp := by unfold State.pushEv; rfl
@[simp] theorem State.pushEv_tally (s : State) (ev : LeatEv) : (s.pushEv ev).tally = s.tally := by unfold State.pushEv; rfl
@[simp] theorem State.pushEv_streams (s : State) (ev : LeatEv) : (s.pushEv ev).streams = s.streams := by unfold State.pushEv; rfl
@[simp] theorem State.pushEv_alarms (s : State) (ev : LeatEv) : (s.pushEv ev).alarms = s.alarms := by unfold State.pushEv; rfl
@[simp] theorem State.pushEv_alarmCyc (s : State) (ev : LeatEv) : (s.pushEv ev).alarmCyc = s.alarmCyc := by unfold State.pushEv; rfl
@[simp] theorem State.pushEv_alarmPosts (s : State) (ev : LeatEv) : (s.pushEv ev).alarmPosts = s.alarmPosts := by unfold State.pushEv; rfl
@[simp] theorem State.pushEv_lastPop (s : State) (ev : LeatEv) : (s.pushEv ev).lastPop = s.lastPop := by unfold State.pushEv; rfl
@[simp] theorem State.pushEv_chans (s : State) (ev : LeatEv) : (s.pushEv ev).chans = s.chans := by unfold State.pushEv; rfl
@[simp] theorem State.pushEv_boundary (s : State) (ev : LeatEv) : (s.pushEv ev).boundary = s.boundary := by unfold State.pushEv; rfl
@[simp] theorem State.pushEv_held (s : State) (ev : LeatEv) : (s.pushEv ev).held = s.held := by unfold State.pushEv; rfl
@[simp] theorem State.pushEv_cores (s : State) (ev : LeatEv) : (s.pushEv ev).cores = s.cores := by unfold State.pushEv; rfl
@[simp] theorem State.pushEv_tiles (s : State) (ev : LeatEv) : (s.pushEv ev).tiles = s.tiles := by unfold State.pushEv; rfl
@[simp] theorem State.pushEv_clusters (s : State) (ev : LeatEv) : (s.pushEv ev).clusters = s.clusters := by unfold State.pushEv; rfl
@[simp] theorem State.pushEv_ptab (s : State) (ev : LeatEv) : (s.pushEv ev).ptab = s.ptab := by unfold State.pushEv; rfl
@[simp] theorem State.pushEv_words (s : State) (ev : LeatEv) : (s.pushEv ev).words = s.words := by unfold State.pushEv; rfl
@[simp] theorem State.pushEv_flashWords (s : State) (ev : LeatEv) : (s.pushEv ev).flashWords = s.flashWords := by unfold State.pushEv; rfl
@[simp] theorem State.pushEv_flash (s : State) (ev : LeatEv) : (s.pushEv ev).flash = s.flash := by unfold State.pushEv; rfl
@[simp] theorem State.pushEv_jshadow (s : State) (ev : LeatEv) : (s.pushEv ev).jshadow = s.jshadow := by unfold State.pushEv; rfl
@[simp] theorem State.pushEv_jstaged (s : State) (ev : LeatEv) : (s.pushEv ev).jstaged = s.jstaged := by unfold State.pushEv; rfl
@[simp] theorem State.pushEv_scrubAt (s : State) (ev : LeatEv) : (s.pushEv ev).scrubAt = s.scrubAt := by unfold State.pushEv; rfl
@[simp] theorem State.pushEv_jwait (s : State) (ev : LeatEv) : (s.pushEv ev).jwait = s.jwait := by unfold State.pushEv; rfl
@[simp] theorem State.pushEv_errs (s : State) (ev : LeatEv) : (s.pushEv ev).errs = s.errs := by unfold State.pushEv; rfl
@[simp] theorem State.pushEv_regs (s : State) (ev : LeatEv) : (s.pushEv ev).regs = s.regs := by unfold State.pushEv; rfl
@[simp] theorem State.pushEv_shadows (s : State) (ev : LeatEv) : (s.pushEv ev).shadows = s.shadows := by unfold State.pushEv; rfl
@[simp] theorem State.pushEv_host (s : State) (ev : LeatEv) : (s.pushEv ev).host = s.host := by unfold State.pushEv; rfl
@[simp] theorem State.pushEv_pwr (s : State) (ev : LeatEv) : (s.pushEv ev).pwr = s.pwr := by unfold State.pushEv; rfl
@[simp] theorem State.pushEv_rtc (s : State) (ev : LeatEv) : (s.pushEv ev).rtc = s.rtc := by unfold State.pushEv; rfl
@[simp] theorem State.pushEv_mon (s : State) (ev : LeatEv) : (s.pushEv ev).mon = s.mon := by unfold State.pushEv; rfl
@[simp] theorem State.pushEv_dbg (s : State) (ev : LeatEv) : (s.pushEv ev).dbg = s.dbg := by unfold State.pushEv; rfl
@[simp] theorem State.pushEv_fuses (s : State) (ev : LeatEv) : (s.pushEv ev).fuses = s.fuses := by unfold State.pushEv; rfl
@[simp] theorem State.pushEv_rdata (s : State) (ev : LeatEv) : (s.pushEv ev).rdata = s.rdata := by unfold State.pushEv; rfl
@[simp] theorem State.pushEv_freeCtr (s : State) (ev : LeatEv) : (s.pushEv ev).freeCtr = s.freeCtr := by unfold State.pushEv; rfl
@[simp] theorem State.pushEv_w1set (s : State) (ev : LeatEv) : (s.pushEv ev).w1set = s.w1set := by unfold State.pushEv; rfl
@[simp] theorem State.pushEv_srbusy (s : State) (ev : LeatEv) : (s.pushEv ev).srbusy = s.srbusy := by unfold State.pushEv; rfl
@[simp] theorem State.rd_pushEv (s : State) (ev : LeatEv) (m : Nat) : (s.pushEv ev).rd m = s.rd m := by unfold State.pushEv; rfl
@[simp] theorem State.wheel_pushEv (s : State) (ev : LeatEv) (m : Nat) : (s.pushEv ev).wheel m = s.wheel m := by unfold State.pushEv; rfl
@[simp] theorem State.cnv_pushEv (s : State) (ev : LeatEv) (m : Nat) : (s.pushEv ev).cnv m = s.cnv m := by unfold State.pushEv; rfl
@[simp] theorem State.slot_pushEv (s : State) (ev : LeatEv) (m : Nat) : (s.pushEv ev).slot m = s.slot m := by unfold State.pushEv; rfl
@[simp] theorem State.weir_pushEv (s : State) (ev : LeatEv) (m : Nat) : (s.pushEv ev).weir m = s.weir m := by unfold State.pushEv; rfl
@[simp] theorem State.pulse_pushEv (s : State) (ev : LeatEv) (m : Nat) : (s.pushEv ev).pulse m = s.pulse m := by unfold State.pushEv; rfl
@[simp] theorem State.port_pushEv (s : State) (ev : LeatEv) (m : Nat) : (s.pushEv ev).port m = s.port m := by unfold State.pushEv; rfl
@[simp] theorem State.stream_pushEv (s : State) (ev : LeatEv) (m : Nat) : (s.pushEv ev).stream m = s.stream m := by unfold State.pushEv; rfl
@[simp] theorem State.chan_pushEv (s : State) (ev : LeatEv) (m : Nat) : (s.pushEv ev).chan m = s.chan m := by unfold State.pushEv; rfl
@[simp] theorem State.core_pushEv (s : State) (ev : LeatEv) (m : Nat) : (s.pushEv ev).core m = s.core m := by unfold State.pushEv; rfl
@[simp] theorem State.tile_pushEv (s : State) (ev : LeatEv) (m : Nat) : (s.pushEv ev).tile m = s.tile m := by unfold State.pushEv; rfl
@[simp] theorem State.cluster_pushEv (s : State) (ev : LeatEv) (m : Nat) : (s.pushEv ev).cluster m = s.cluster m := by unfold State.pushEv; rfl
@[simp] theorem State.rawWord_pushEv (s : State) (ev : LeatEv) (m : Store) (j : Nat) : (s.pushEv ev).rawWord m j = s.rawWord m j := by unfold State.pushEv; rfl

/-! ### noteSet -/

@[simp] theorem State.noteSet_pending (s : State) (a : Nat) (v : Word) : (s.noteSet a v).pending = s.pending := by unfold State.noteSet; rfl
@[simp] theorem State.noteSet_time (s : State) (a : Nat) (v : Word) : (s.noteSet a v).time = s.time := by unfold State.noteSet; rfl
@[simp] theorem State.noteSet_orders (s : State) (a : Nat) (v : Word) : (s.noteSet a v).orders = s.orders := by unfold State.noteSet; rfl
@[simp] theorem State.noteSet_mill (s : State) (a : Nat) (v : Word) : (s.noteSet a v).mill = s.mill := by unfold State.noteSet; rfl
@[simp] theorem State.noteSet_wheels (s : State) (a : Nat) (v : Word) : (s.noteSet a v).wheels = s.wheels := by unfold State.noteSet; rfl
@[simp] theorem State.noteSet_armed (s : State) (a : Nat) (v : Word) : (s.noteSet a v).armed = s.armed := by unfold State.noteSet; rfl
@[simp] theorem State.noteSet_sent (s : State) (a : Nat) (v : Word) : (s.noteSet a v).sent = s.sent := by unfold State.noteSet; rfl
@[simp] theorem State.noteSet_hop (s : State) (a : Nat) (v : Word) : (s.noteSet a v).hop = s.hop := by unfold State.noteSet; rfl
@[simp] theorem State.noteSet_conv (s : State) (a : Nat) (v : Word) : (s.noteSet a v).conv = s.conv := by unfold State.noteSet; rfl
@[simp] theorem State.noteSet_slots (s : State) (a : Nat) (v : Word) : (s.noteSet a v).slots = s.slots := by unfold State.noteSet; rfl
@[simp] theorem State.noteSet_exc (s : State) (a : Nat) (v : Word) : (s.noteSet a v).exc = s.exc := by unfold State.noteSet; rfl
@[simp] theorem State.noteSet_chselWr (s : State) (a : Nat) (v : Word) : (s.noteSet a v).chselWr = s.chselWr := by unfold State.noteSet; rfl
@[simp] theorem State.noteSet_entered (s : State) (a : Nat) (v : Word) : (s.noteSet a v).entered = s.entered := by unfold State.noteSet; rfl
@[simp] theorem State.noteSet_weirs (s : State) (a : Nat) (v : Word) : (s.noteSet a v).weirs = s.weirs := by unfold State.noteSet; rfl
@[simp] theorem State.noteSet_pulses (s : State) (a : Nat) (v : Word) : (s.noteSet a v).pulses = s.pulses := by unfold State.noteSet; rfl
@[simp] theorem State.noteSet_tripBall (s : State) (a : Nat) (v : Word) : (s.noteSet a v).tripBall = s.tripBall := by unfold State.noteSet; rfl
@[simp] theorem State.noteSet_tripSince (s : State) (a : Nat) (v : Word) : (s.noteSet a v).tripSince = s.tripSince := by unfold State.noteSet; rfl
@[simp] theorem State.noteSet_ports (s : State) (a : Nat) (v : Word) : (s.noteSet a v).ports = s.ports := by unfold State.noteSet; rfl
@[simp] theorem State.noteSet_ptp (s : State) (a : Nat) (v : Word) : (s.noteSet a v).ptp = s.ptp := by unfold State.noteSet; rfl
@[simp] theorem State.noteSet_tally (s : State) (a : Nat) (v : Word) : (s.noteSet a v).tally = s.tally := by unfold State.noteSet; rfl
@[simp] theorem State.noteSet_streams (s : State) (a : Nat) (v : Word) : (s.noteSet a v).streams = s.streams := by unfold State.noteSet; rfl
@[simp] theorem State.noteSet_alarms (s : State) (a : Nat) (v : Word) : (s.noteSet a v).alarms = s.alarms := by unfold State.noteSet; rfl
@[simp] theorem State.noteSet_alarmCyc (s : State) (a : Nat) (v : Word) : (s.noteSet a v).alarmCyc = s.alarmCyc := by unfold State.noteSet; rfl
@[simp] theorem State.noteSet_alarmPosts (s : State) (a : Nat) (v : Word) : (s.noteSet a v).alarmPosts = s.alarmPosts := by unfold State.noteSet; rfl
@[simp] theorem State.noteSet_lastPop (s : State) (a : Nat) (v : Word) : (s.noteSet a v).lastPop = s.lastPop := by unfold State.noteSet; rfl
@[simp] theorem State.noteSet_chans (s : State) (a : Nat) (v : Word) : (s.noteSet a v).chans = s.chans := by unfold State.noteSet; rfl
@[simp] theorem State.noteSet_evq (s : State) (a : Nat) (v : Word) : (s.noteSet a v).evq = s.evq := by unfold State.noteSet; rfl
@[simp] theorem State.noteSet_boundary (s : State) (a : Nat) (v : Word) : (s.noteSet a v).boundary = s.boundary := by unfold State.noteSet; rfl
@[simp] theorem State.noteSet_held (s : State) (a : Nat) (v : Word) : (s.noteSet a v).held = s.held := by unfold State.noteSet; rfl
@[simp] theorem State.noteSet_cores (s : State) (a : Nat) (v : Word) : (s.noteSet a v).cores = s.cores := by unfold State.noteSet; rfl
@[simp] theorem State.noteSet_tiles (s : State) (a : Nat) (v : Word) : (s.noteSet a v).tiles = s.tiles := by unfold State.noteSet; rfl
@[simp] theorem State.noteSet_clusters (s : State) (a : Nat) (v : Word) : (s.noteSet a v).clusters = s.clusters := by unfold State.noteSet; rfl
@[simp] theorem State.noteSet_ptab (s : State) (a : Nat) (v : Word) : (s.noteSet a v).ptab = s.ptab := by unfold State.noteSet; rfl
@[simp] theorem State.noteSet_words (s : State) (a : Nat) (v : Word) : (s.noteSet a v).words = s.words := by unfold State.noteSet; rfl
@[simp] theorem State.noteSet_flashWords (s : State) (a : Nat) (v : Word) : (s.noteSet a v).flashWords = s.flashWords := by unfold State.noteSet; rfl
@[simp] theorem State.noteSet_flash (s : State) (a : Nat) (v : Word) : (s.noteSet a v).flash = s.flash := by unfold State.noteSet; rfl
@[simp] theorem State.noteSet_jshadow (s : State) (a : Nat) (v : Word) : (s.noteSet a v).jshadow = s.jshadow := by unfold State.noteSet; rfl
@[simp] theorem State.noteSet_jstaged (s : State) (a : Nat) (v : Word) : (s.noteSet a v).jstaged = s.jstaged := by unfold State.noteSet; rfl
@[simp] theorem State.noteSet_scrubAt (s : State) (a : Nat) (v : Word) : (s.noteSet a v).scrubAt = s.scrubAt := by unfold State.noteSet; rfl
@[simp] theorem State.noteSet_jwait (s : State) (a : Nat) (v : Word) : (s.noteSet a v).jwait = s.jwait := by unfold State.noteSet; rfl
@[simp] theorem State.noteSet_errs (s : State) (a : Nat) (v : Word) : (s.noteSet a v).errs = s.errs := by unfold State.noteSet; rfl
@[simp] theorem State.noteSet_regs (s : State) (a : Nat) (v : Word) : (s.noteSet a v).regs = s.regs := by unfold State.noteSet; rfl
@[simp] theorem State.noteSet_shadows (s : State) (a : Nat) (v : Word) : (s.noteSet a v).shadows = s.shadows := by unfold State.noteSet; rfl
@[simp] theorem State.noteSet_host (s : State) (a : Nat) (v : Word) : (s.noteSet a v).host = s.host := by unfold State.noteSet; rfl
@[simp] theorem State.noteSet_pwr (s : State) (a : Nat) (v : Word) : (s.noteSet a v).pwr = s.pwr := by unfold State.noteSet; rfl
@[simp] theorem State.noteSet_rtc (s : State) (a : Nat) (v : Word) : (s.noteSet a v).rtc = s.rtc := by unfold State.noteSet; rfl
@[simp] theorem State.noteSet_mon (s : State) (a : Nat) (v : Word) : (s.noteSet a v).mon = s.mon := by unfold State.noteSet; rfl
@[simp] theorem State.noteSet_dbg (s : State) (a : Nat) (v : Word) : (s.noteSet a v).dbg = s.dbg := by unfold State.noteSet; rfl
@[simp] theorem State.noteSet_fuses (s : State) (a : Nat) (v : Word) : (s.noteSet a v).fuses = s.fuses := by unfold State.noteSet; rfl
@[simp] theorem State.noteSet_rdata (s : State) (a : Nat) (v : Word) : (s.noteSet a v).rdata = s.rdata := by unfold State.noteSet; rfl
@[simp] theorem State.noteSet_freeCtr (s : State) (a : Nat) (v : Word) : (s.noteSet a v).freeCtr = s.freeCtr := by unfold State.noteSet; rfl
@[simp] theorem State.noteSet_srbusy (s : State) (a : Nat) (v : Word) : (s.noteSet a v).srbusy = s.srbusy := by unfold State.noteSet; rfl
@[simp] theorem State.rd_noteSet (s : State) (a : Nat) (v : Word) (m : Nat) : (s.noteSet a v).rd m = s.rd m := by unfold State.noteSet; rfl
@[simp] theorem State.wheel_noteSet (s : State) (a : Nat) (v : Word) (m : Nat) : (s.noteSet a v).wheel m = s.wheel m := by unfold State.noteSet; rfl
@[simp] theorem State.cnv_noteSet (s : State) (a : Nat) (v : Word) (m : Nat) : (s.noteSet a v).cnv m = s.cnv m := by unfold State.noteSet; rfl
@[simp] theorem State.slot_noteSet (s : State) (a : Nat) (v : Word) (m : Nat) : (s.noteSet a v).slot m = s.slot m := by unfold State.noteSet; rfl
@[simp] theorem State.weir_noteSet (s : State) (a : Nat) (v : Word) (m : Nat) : (s.noteSet a v).weir m = s.weir m := by unfold State.noteSet; rfl
@[simp] theorem State.pulse_noteSet (s : State) (a : Nat) (v : Word) (m : Nat) : (s.noteSet a v).pulse m = s.pulse m := by unfold State.noteSet; rfl
@[simp] theorem State.port_noteSet (s : State) (a : Nat) (v : Word) (m : Nat) : (s.noteSet a v).port m = s.port m := by unfold State.noteSet; rfl
@[simp] theorem State.stream_noteSet (s : State) (a : Nat) (v : Word) (m : Nat) : (s.noteSet a v).stream m = s.stream m := by unfold State.noteSet; rfl
@[simp] theorem State.chan_noteSet (s : State) (a : Nat) (v : Word) (m : Nat) : (s.noteSet a v).chan m = s.chan m := by unfold State.noteSet; rfl
@[simp] theorem State.core_noteSet (s : State) (a : Nat) (v : Word) (m : Nat) : (s.noteSet a v).core m = s.core m := by unfold State.noteSet; rfl
@[simp] theorem State.tile_noteSet (s : State) (a : Nat) (v : Word) (m : Nat) : (s.noteSet a v).tile m = s.tile m := by unfold State.noteSet; rfl
@[simp] theorem State.cluster_noteSet (s : State) (a : Nat) (v : Word) (m : Nat) : (s.noteSet a v).cluster m = s.cluster m := by unfold State.noteSet; rfl
@[simp] theorem State.rawWord_noteSet (s : State) (a : Nat) (v : Word) (m : Store) (j : Nat) : (s.noteSet a v).rawWord m j = s.rawWord m j := by unfold State.noteSet; rfl

/-! ### setRaw -/

@[simp] theorem State.setRaw_pending (s : State) (st : Store) (i : Nat) (w : CWord) : (s.setRaw st i w).pending = s.pending := by unfold State.setRaw; split <;> rfl
@[simp] theorem State.setRaw_time (s : State) (st : Store) (i : Nat) (w : CWord) : (s.setRaw st i w).time = s.time := by unfold State.setRaw; split <;> rfl
@[simp] theorem State.setRaw_orders (s : State) (st : Store) (i : Nat) (w : CWord) : (s.setRaw st i w).orders = s.orders := by unfold State.setRaw; split <;> rfl
@[simp] theorem State.setRaw_mill (s : State) (st : Store) (i : Nat) (w : CWord) : (s.setRaw st i w).mill = s.mill := by unfold State.setRaw; split <;> rfl
@[simp] theorem State.setRaw_wheels (s : State) (st : Store) (i : Nat) (w : CWord) : (s.setRaw st i w).wheels = s.wheels := by unfold State.setRaw; split <;> rfl
@[simp] theorem State.setRaw_armed (s : State) (st : Store) (i : Nat) (w : CWord) : (s.setRaw st i w).armed = s.armed := by unfold State.setRaw; split <;> rfl
@[simp] theorem State.setRaw_sent (s : State) (st : Store) (i : Nat) (w : CWord) : (s.setRaw st i w).sent = s.sent := by unfold State.setRaw; split <;> rfl
@[simp] theorem State.setRaw_hop (s : State) (st : Store) (i : Nat) (w : CWord) : (s.setRaw st i w).hop = s.hop := by unfold State.setRaw; split <;> rfl
@[simp] theorem State.setRaw_conv (s : State) (st : Store) (i : Nat) (w : CWord) : (s.setRaw st i w).conv = s.conv := by unfold State.setRaw; split <;> rfl
@[simp] theorem State.setRaw_slots (s : State) (st : Store) (i : Nat) (w : CWord) : (s.setRaw st i w).slots = s.slots := by unfold State.setRaw; split <;> rfl
@[simp] theorem State.setRaw_exc (s : State) (st : Store) (i : Nat) (w : CWord) : (s.setRaw st i w).exc = s.exc := by unfold State.setRaw; split <;> rfl
@[simp] theorem State.setRaw_chselWr (s : State) (st : Store) (i : Nat) (w : CWord) : (s.setRaw st i w).chselWr = s.chselWr := by unfold State.setRaw; split <;> rfl
@[simp] theorem State.setRaw_entered (s : State) (st : Store) (i : Nat) (w : CWord) : (s.setRaw st i w).entered = s.entered := by unfold State.setRaw; split <;> rfl
@[simp] theorem State.setRaw_weirs (s : State) (st : Store) (i : Nat) (w : CWord) : (s.setRaw st i w).weirs = s.weirs := by unfold State.setRaw; split <;> rfl
@[simp] theorem State.setRaw_pulses (s : State) (st : Store) (i : Nat) (w : CWord) : (s.setRaw st i w).pulses = s.pulses := by unfold State.setRaw; split <;> rfl
@[simp] theorem State.setRaw_tripBall (s : State) (st : Store) (i : Nat) (w : CWord) : (s.setRaw st i w).tripBall = s.tripBall := by unfold State.setRaw; split <;> rfl
@[simp] theorem State.setRaw_tripSince (s : State) (st : Store) (i : Nat) (w : CWord) : (s.setRaw st i w).tripSince = s.tripSince := by unfold State.setRaw; split <;> rfl
@[simp] theorem State.setRaw_ports (s : State) (st : Store) (i : Nat) (w : CWord) : (s.setRaw st i w).ports = s.ports := by unfold State.setRaw; split <;> rfl
@[simp] theorem State.setRaw_ptp (s : State) (st : Store) (i : Nat) (w : CWord) : (s.setRaw st i w).ptp = s.ptp := by unfold State.setRaw; split <;> rfl
@[simp] theorem State.setRaw_tally (s : State) (st : Store) (i : Nat) (w : CWord) : (s.setRaw st i w).tally = s.tally := by unfold State.setRaw; split <;> rfl
@[simp] theorem State.setRaw_streams (s : State) (st : Store) (i : Nat) (w : CWord) : (s.setRaw st i w).streams = s.streams := by unfold State.setRaw; split <;> rfl
@[simp] theorem State.setRaw_alarms (s : State) (st : Store) (i : Nat) (w : CWord) : (s.setRaw st i w).alarms = s.alarms := by unfold State.setRaw; split <;> rfl
@[simp] theorem State.setRaw_alarmCyc (s : State) (st : Store) (i : Nat) (w : CWord) : (s.setRaw st i w).alarmCyc = s.alarmCyc := by unfold State.setRaw; split <;> rfl
@[simp] theorem State.setRaw_alarmPosts (s : State) (st : Store) (i : Nat) (w : CWord) : (s.setRaw st i w).alarmPosts = s.alarmPosts := by unfold State.setRaw; split <;> rfl
@[simp] theorem State.setRaw_lastPop (s : State) (st : Store) (i : Nat) (w : CWord) : (s.setRaw st i w).lastPop = s.lastPop := by unfold State.setRaw; split <;> rfl
@[simp] theorem State.setRaw_chans (s : State) (st : Store) (i : Nat) (w : CWord) : (s.setRaw st i w).chans = s.chans := by unfold State.setRaw; split <;> rfl
@[simp] theorem State.setRaw_evq (s : State) (st : Store) (i : Nat) (w : CWord) : (s.setRaw st i w).evq = s.evq := by unfold State.setRaw; split <;> rfl
@[simp] theorem State.setRaw_boundary (s : State) (st : Store) (i : Nat) (w : CWord) : (s.setRaw st i w).boundary = s.boundary := by unfold State.setRaw; split <;> rfl
@[simp] theorem State.setRaw_held (s : State) (st : Store) (i : Nat) (w : CWord) : (s.setRaw st i w).held = s.held := by unfold State.setRaw; split <;> rfl
@[simp] theorem State.setRaw_cores (s : State) (st : Store) (i : Nat) (w : CWord) : (s.setRaw st i w).cores = s.cores := by unfold State.setRaw; split <;> rfl
@[simp] theorem State.setRaw_tiles (s : State) (st : Store) (i : Nat) (w : CWord) : (s.setRaw st i w).tiles = s.tiles := by unfold State.setRaw; split <;> rfl
@[simp] theorem State.setRaw_clusters (s : State) (st : Store) (i : Nat) (w : CWord) : (s.setRaw st i w).clusters = s.clusters := by unfold State.setRaw; split <;> rfl
@[simp] theorem State.setRaw_ptab (s : State) (st : Store) (i : Nat) (w : CWord) : (s.setRaw st i w).ptab = s.ptab := by unfold State.setRaw; split <;> rfl
@[simp] theorem State.setRaw_flash (s : State) (st : Store) (i : Nat) (w : CWord) : (s.setRaw st i w).flash = s.flash := by unfold State.setRaw; split <;> rfl
@[simp] theorem State.setRaw_jshadow (s : State) (st : Store) (i : Nat) (w : CWord) : (s.setRaw st i w).jshadow = s.jshadow := by unfold State.setRaw; split <;> rfl
@[simp] theorem State.setRaw_jstaged (s : State) (st : Store) (i : Nat) (w : CWord) : (s.setRaw st i w).jstaged = s.jstaged := by unfold State.setRaw; split <;> rfl
@[simp] theorem State.setRaw_scrubAt (s : State) (st : Store) (i : Nat) (w : CWord) : (s.setRaw st i w).scrubAt = s.scrubAt := by unfold State.setRaw; split <;> rfl
@[simp] theorem State.setRaw_jwait (s : State) (st : Store) (i : Nat) (w : CWord) : (s.setRaw st i w).jwait = s.jwait := by unfold State.setRaw; split <;> rfl
@[simp] theorem State.setRaw_errs (s : State) (st : Store) (i : Nat) (w : CWord) : (s.setRaw st i w).errs = s.errs := by unfold State.setRaw; split <;> rfl
@[simp] theorem State.setRaw_regs (s : State) (st : Store) (i : Nat) (w : CWord) : (s.setRaw st i w).regs = s.regs := by unfold State.setRaw; split <;> rfl
@[simp] theorem State.setRaw_shadows (s : State) (st : Store) (i : Nat) (w : CWord) : (s.setRaw st i w).shadows = s.shadows := by unfold State.setRaw; split <;> rfl
@[simp] theorem State.setRaw_host (s : State) (st : Store) (i : Nat) (w : CWord) : (s.setRaw st i w).host = s.host := by unfold State.setRaw; split <;> rfl
@[simp] theorem State.setRaw_pwr (s : State) (st : Store) (i : Nat) (w : CWord) : (s.setRaw st i w).pwr = s.pwr := by unfold State.setRaw; split <;> rfl
@[simp] theorem State.setRaw_rtc (s : State) (st : Store) (i : Nat) (w : CWord) : (s.setRaw st i w).rtc = s.rtc := by unfold State.setRaw; split <;> rfl
@[simp] theorem State.setRaw_mon (s : State) (st : Store) (i : Nat) (w : CWord) : (s.setRaw st i w).mon = s.mon := by unfold State.setRaw; split <;> rfl
@[simp] theorem State.setRaw_dbg (s : State) (st : Store) (i : Nat) (w : CWord) : (s.setRaw st i w).dbg = s.dbg := by unfold State.setRaw; split <;> rfl
@[simp] theorem State.setRaw_fuses (s : State) (st : Store) (i : Nat) (w : CWord) : (s.setRaw st i w).fuses = s.fuses := by unfold State.setRaw; split <;> rfl
@[simp] theorem State.setRaw_rdata (s : State) (st : Store) (i : Nat) (w : CWord) : (s.setRaw st i w).rdata = s.rdata := by unfold State.setRaw; split <;> rfl
@[simp] theorem State.setRaw_freeCtr (s : State) (st : Store) (i : Nat) (w : CWord) : (s.setRaw st i w).freeCtr = s.freeCtr := by unfold State.setRaw; split <;> rfl
@[simp] theorem State.setRaw_w1set (s : State) (st : Store) (i : Nat) (w : CWord) : (s.setRaw st i w).w1set = s.w1set := by unfold State.setRaw; split <;> rfl
@[simp] theorem State.setRaw_srbusy (s : State) (st : Store) (i : Nat) (w : CWord) : (s.setRaw st i w).srbusy = s.srbusy := by unfold State.setRaw; split <;> rfl
@[simp] theorem State.rd_setRaw (s : State) (st : Store) (i : Nat) (w : CWord) (m : Nat) : (s.setRaw st i w).rd m = s.rd m := by simp [State.rd]
@[simp] theorem State.wheel_setRaw (s : State) (st : Store) (i : Nat) (w : CWord) (m : Nat) : (s.setRaw st i w).wheel m = s.wheel m := by simp [State.wheel]
@[simp] theorem State.cnv_setRaw (s : State) (st : Store) (i : Nat) (w : CWord) (m : Nat) : (s.setRaw st i w).cnv m = s.cnv m := by simp [State.cnv]
@[simp] theorem State.slot_setRaw (s : State) (st : Store) (i : Nat) (w : CWord) (m : Nat) : (s.setRaw st i w).slot m = s.slot m := by simp [State.slot]
@[simp] theorem State.weir_setRaw (s : State) (st : Store) (i : Nat) (w : CWord) (m : Nat) : (s.setRaw st i w).weir m = s.weir m := by simp [State.weir]
@[simp] theorem State.pulse_setRaw (s : State) (st : Store) (i : Nat) (w : CWord) (m : Nat) : (s.setRaw st i w).pulse m = s.pulse m := by simp [State.pulse]
@[simp] theorem State.port_setRaw (s : State) (st : Store) (i : Nat) (w : CWord) (m : Nat) : (s.setRaw st i w).port m = s.port m := by simp [State.port]
@[simp] theorem State.stream_setRaw (s : State) (st : Store) (i : Nat) (w : CWord) (m : Nat) : (s.setRaw st i w).stream m = s.stream m := by simp [State.stream]
@[simp] theorem State.chan_setRaw (s : State) (st : Store) (i : Nat) (w : CWord) (m : Nat) : (s.setRaw st i w).chan m = s.chan m := by simp [State.chan]
@[simp] theorem State.core_setRaw (s : State) (st : Store) (i : Nat) (w : CWord) (m : Nat) : (s.setRaw st i w).core m = s.core m := by simp [State.core]
@[simp] theorem State.tile_setRaw (s : State) (st : Store) (i : Nat) (w : CWord) (m : Nat) : (s.setRaw st i w).tile m = s.tile m := by simp [State.tile]
@[simp] theorem State.cluster_setRaw (s : State) (st : Store) (i : Nat) (w : CWord) (m : Nat) : (s.setRaw st i w).cluster m = s.cluster m := by simp [State.cluster]

/-! ### A read after a write -/

@[simp] theorem State.rd_wr (s : State) (a : Nat) (v : Word) (b : Nat) :
    (s.wr a v).rd b = if b = a then v else s.rd b := Sparse.get_set ..
@[simp] theorem State.wheel_setWheel (s : State) (n : Nat) (x : WheelSt) (m : Nat) :
    (s.setWheel n x).wheel m = if m = n then x else s.wheel m := Sparse.get_set ..
@[simp] theorem State.cnv_setCnv (s : State) (n : Nat) (x : ConvSt) (m : Nat) :
    (s.setCnv n x).cnv m = if m = n then x else s.cnv m := Sparse.get_set ..
@[simp] theorem State.slot_setSlot (s : State) (n : Nat) (x : SlotSt) (m : Nat) :
    (s.setSlot n x).slot m = if m = n then x else s.slot m := Sparse.get_set ..
@[simp] theorem State.weir_setWeir (s : State) (n : Nat) (x : WeirSt) (m : Nat) :
    (s.setWeir n x).weir m = if m = n then x else s.weir m := Sparse.get_set ..
@[simp] theorem State.pulse_setPulse (s : State) (n : Nat) (x : PulseSt) (m : Nat) :
    (s.setPulse n x).pulse m = if m = n then x else s.pulse m := Sparse.get_set ..
@[simp] theorem State.port_setPort (s : State) (n : Nat) (x : PortSt) (m : Nat) :
    (s.setPort n x).port m = if m = n then x else s.port m := Sparse.get_set ..
@[simp] theorem State.stream_setStream (s : State) (n : Nat) (x : StreamSt) (m : Nat) :
    (s.setStream n x).stream m = if m = n then x else s.stream m := Sparse.get_set ..
@[simp] theorem State.chan_setChan (s : State) (n : Nat) (x : ChanSt) (m : Nat) :
    (s.setChan n x).chan m = if m = n then x else s.chan m := Sparse.get_set ..
@[simp] theorem State.core_setCore (s : State) (n : Nat) (x : CoreSt) (m : Nat) :
    (s.setCore n x).core m = if m = n then x else s.core m := Sparse.get_set ..
@[simp] theorem State.tile_setTile (s : State) (n : Nat) (x : TileSt) (m : Nat) :
    (s.setTile n x).tile m = if m = n then x else s.tile m := Sparse.get_set ..
@[simp] theorem State.cluster_setCluster (s : State) (n : Nat) (x : ClusterSt) (m : Nat) :
    (s.setCluster n x).cluster m = if m = n then x else s.cluster m := Sparse.get_set ..
@[simp] theorem State.pushCh_evq (s : State) (ch : Nat) : (s.pushCh ch).evq = s.evq ++ [.chan ch] := rfl
theorem State.rn_eq (s : State) (a : Nat) : s.rn a = (s.rd a).toNat := rfl
theorem State.rf_eq (s : State) (a lo n : Nat) : s.rf a lo n = field (s.rd a) lo n := rfl
theorem State.rb_eq (s : State) (a i : Nat) : s.rb a i = bitOf (s.rd a) i := rfl
@[simp] theorem State.onlyIf_true (s : State) (f : State → State) : s.onlyIf true f = f s := rfl
@[simp] theorem State.onlyIf_false (s : State) (f : State → State) : s.onlyIf false f = s := rfl

/-- Two words of one store or of two have different keys. -/
theorem wordKey_eq {st i st' i' : Nat} (hi : i < 2 ^ 40) (hi' : i' < 2 ^ 40) :
    wordKey st i = wordKey st' i' ↔ st = st' ∧ i = i' := by
  unfold wordKey; omega

/-- A word of a store after a word was replaced. -/
theorem State.rawWord_setRaw (s : State) (st : Store) (i : Nat) (w : CWord) (st' : Store) (i' : Nat)
    (hi : i < 2 ^ 40) (hi' : i' < 2 ^ 40) :
    (s.setRaw st i w).rawWord st' i' = if st' = st ∧ i' = i then w else s.rawWord st' i' := by
  have hk : (wordKey st' i' = wordKey st i) = (st' = st ∧ i' = i) := propext (wordKey_eq hi' hi)
  by_cases hst : st' = st
  · subst hst
    unfold State.setRaw State.rawWord
    split <;> simp [Sparse.get_set, hk]
  · unfold State.setRaw State.rawWord
    split <;> split <;> simp [Sparse.get_set, hk, hst]

end Sys2Proof.Machine
end

