-- ==== Sys2Proof/Laws/Access.lean ====
section
/-! SUPPORT. A register access that reaches its block, once for every requester and register. -/

namespace Sys2Proof.Machine

theorem busTarget_spec {addr : Nat} {cls : PageClass} {i n : Nat} {r : RegRow}
    (h : busTarget addr = some (cls, i, r, n)) :
    pageKind? (addr / 1024) = some (cls, i) ∧ ¬ addr % 1024 < 0x40 ∧ rowAt (blockRows cls) (addr % 1024) = some (r, n) ∧
      absentReg cls i (addr % 1024) = false := by
  unfold busTarget at h
  split at h
  · cases h
  · next c j hk =>
    split at h
    · cases h
    · next ho =>
      split at h
      · cases h
      · next q m hr =>
        split at h
        · cases h
        · next ha =>
          simp only [Option.some.injEq, Prod.mk.injEq] at h
          obtain ⟨rfl, rfl, rfl, rfl⟩ := h
          exact ⟨hk, ho, hr, by simpa using ha⟩

theorem State.takeGo_none {s : State} (h : s.pwr.goWanted = false) : s.takeGo = s := by simp [State.takeGo, h]

theorem State.applyCtl_none {s : State} (h : s.host.ctlWrite = none) : s.applyCtl = s := by simp [State.applyCtl, h]

theorem State.wakeForAccess_on {s : State} {cls : PageClass} {i page : Nat} (h : s.pageOff page = false) :
    s.wakeForAccess cls i page = s := by simp [State.wakeForAccess, State.onlyIf, h]

theorem State.reaches_iff {s : State} {req : Req} {page : Nat} (h : s.reaches req page = true) :
    s.canAsk req = true ∧ s.pageOff page = false ∧ page ∉ s.srbusy ∧ s.pwr.goWanted = false ∧ s.host.ctlWrite = none := by
  simpa [State.reaches, and_assoc] using h

/-- A write that reaches its block and that the access code lets through is the block's write of the bits the register
has, where it leaves no start wanted and no soft reset of HPT waiting. -/
theorem State.reqWrite_block {s : State} {req : Req} {addr : Nat} {v : Word} {cls : PageClass} {i n : Nat} {r : RegRow}
    (ht : busTarget addr = some (cls, i, r, n)) (h : s.reaches req (addr / 1024) = true)
    (hw : r.access = .rw ∨ r.access = .wo ∨ (r.access = .rwl ∧ s.lockedFor (addr / 1024) = false))
    {u : State} (hu : s.writeBlock req.index cls i (addr % 1024) n addr (v &&& r.mask) = u)
    (hg : u.pwr.goWanted = false) (hc : u.host.ctlWrite = none) : s.reqWrite req addr v = u := by
  obtain ⟨hk, ho, hr, ha⟩ := busTarget_spec ht
  obtain ⟨hq, hp, hb, -, -⟩ := State.reaches_iff h
  have hd : s.pageDark cls (addr / 1024) = false := by simp [State.pageDark, hp]
  have e : s.writeReg req.index addr v = u := by
    rcases hw with hw | hw | ⟨hw, hl⟩
    · simp [State.writeReg, hk, hd, hb, State.wakeForAccess_on hp, ho, hr, ha, hw, hu]
    · simp [State.writeReg, hk, hd, hb, State.wakeForAccess_on hp, ho, hr, ha, hw, hu]
    · simp [State.writeReg, hk, hd, hb, State.wakeForAccess_on hp, ho, hr, ha, hw, hl, hu]
  simp [State.reqWrite, hq, State.busWrite, e, State.takeGo_none hg, State.applyCtl_none hc, State.onlyIf]

/-- A write to an RWL register of a page that is locked, or to an RO register, does nothing. -/
theorem State.reqWrite_refused {s : State} {req : Req} {addr : Nat} {v : Word} {cls : PageClass} {i n : Nat} {r : RegRow}
    (ht : busTarget addr = some (cls, i, r, n)) (h : s.reaches req (addr / 1024) = true)
    (hw : r.access = .ro ∨ (r.access = .rwl ∧ s.lockedFor (addr / 1024) = true)) : s.reqWrite req addr v = s := by
  obtain ⟨hk, ho, hr, ha⟩ := busTarget_spec ht
  obtain ⟨hq, hp, hb, hg, hc⟩ := State.reaches_iff h
  have hd : s.pageDark cls (addr / 1024) = false := by simp [State.pageDark, hp]
  have e : s.writeReg req.index addr v = s := by
    rcases hw with hw | ⟨hw, hl⟩
    · simp [State.writeReg, hk, hd, hb, State.wakeForAccess_on hp, ho, hr, ha, hw]
    · simp [State.writeReg, hk, hd, hb, State.wakeForAccess_on hp, ho, hr, ha, hw, hl]
  simp [State.reqWrite, hq, State.busWrite, e, State.takeGo_none hg, State.applyCtl_none hc, State.onlyIf]

/-- A read that reaches its block by a register that can be read, is no counter (R315), no router count and lies on no TILE page. -/
theorem State.reqRead_block {s : State} {req : Req} {addr : Nat} {cls : PageClass} {i n : Nat} {r : RegRow}
    (ht : busTarget addr = some (cls, i, r, n)) (h : s.reaches req (addr / 1024) = true)
    (hw : r.access ≠ .wo) (hn : r.counter = false) (hc : cls ≠ .tile)
    (hx : routerCount cls (addr % 1024) = false) :
    s.reqRead req addr =
      { (s.readBlock req.index cls i (addr % 1024) n addr).2 with
        rdata := [(s.readBlock req.index cls i (addr % 1024) n addr).1] } := by
  obtain ⟨hk, ho, hr, ha⟩ := busTarget_spec ht
  obtain ⟨hq, hp, hb, -, -⟩ := State.reaches_iff h
  have hd : s.pageDark cls (addr / 1024) = false := by simp [State.pageDark, hp]
  simp [State.reqRead, hq, State.readReg, hk, hd, hb, State.wakeForAccess_on hp, ho, hr, ha, hw, hn, hc, hx, State.onlyIf]

end Sys2Proof.Machine
end

