-- ==== Sys2Proof/Machine/Response.lean ====
section
/-! DEFINITION. What a conforming table of half-band coefficients satisfies: the DC gains of R170 and the response of R171 and
R197. The coefficients themselves are constants with no body (assumption 8). -/

namespace Sys2Proof.Machine

/-- Each half-band's coefficients sum to 1 within ±2^−24 (R170). -/
def HalfBandSums : Prop := ∀ k : Nat, 1 ≤ k → k ≤ 10 →
  abs ((((List.range (stageTaps k)).map (tapCoef k)).sum - 2 ^ Config.halfBandBits) * 2 ^ 24) ≤ (2 ^ Config.halfBandBits : Int)

/-- The gain of the CIC at `f` cycles in a modulator sample: four moving sums of 8 over 4,096 (R169, R170). -/
def IsCicGain (G : ℝ → ℝ) : Prop := ∀ f : ℝ,
  G f = (((List.range 8).map (fun i => Real.cos (2 * Real.pi * f * ((i : ℝ) - 7 / 2)))).sum / 8) ^ 4

/-- The gain of half-band `k` at `f`: a symmetric response with taps one input period apart (R169). -/
def IsHalfBandGain (k : Nat) (G : ℝ → ℝ) : Prop := ∀ f : ℝ,
  G f * 2 ^ Config.halfBandBits = ((List.range (stageTaps k)).map (fun j =>
    (tapCoef k j : ℝ) * Real.cos (2 * Real.pi * f * (((j : ℝ) - (stageTaps k / 2 : Nat)) * (stagePeriod (k - 1) : ℝ))))).sum

/-- The gain of the chain up to stage `k` (R169). -/
def IsChainGain : Nat → (ℝ → ℝ) → Prop
  | 0, G => IsCicGain G
  | k + 1, G => ∃ A B : ℝ → ℝ, IsChainGain k A ∧ IsHalfBandGain (k + 1) B ∧ ∀ f, G f = A f * B f

/-- Passband ripple RPB: at most ±0.005 dB from 0 to 0.2 × fout, fout = 1 / P(k) in cycles a modulator sample (R171, R197). -/
def RippleHolds (k : Nat) : Prop := ∀ G : ℝ → ℝ, IsChainGain k G → ∀ f : ℝ, 0 ≤ f → f * stagePeriod k ≤ 2 / 10 →
  abs (20 * Real.logb 10 (abs (G f))) ≤ 5 / 1000

/-- Alias attenuation AAL: at least 100 dB at every input frequency that aliases into 0 to 0.2 × fout (R171, R197). -/
def AliasHolds (k : Nat) : Prop := ∀ G : ℝ → ℝ, IsChainGain k G → ∀ (f : ℝ) (n : Nat), 1 ≤ n →
  abs (f * stagePeriod k - n) ≤ 2 / 10 → abs (G f) ≤ 1 / 10 ^ 5

/-- The main path's coefficients conform at every RATE (R170, R171, R197). -/
def MainPathConforms : Prop := HalfBandSums ∧ ∀ k : Nat, 2 ≤ k → k ≤ 10 → RippleHolds k ∧ AliasHolds k

end Sys2Proof.Machine
end

