-- ==== Sys2Proof/Tests/Slice0.lean ====
section
/-! SUPPORT. Tests. `test_…`: an ill-formed command for each check of `Instr.wellFormed`, the spec's worked examples, codes of
the Nimlor. `witness_X`: for the statement `Obligations.X`, concrete states and operands that meet the hypotheses of its
clauses, one conjunct a clause (a hypothesis that two clauses share is shown once). Where the statement speaks of a command of
a list, the conjunct takes one command of it. The states stand in one namespace for each group of statements; each is a few
fields over `up`, the part after its start. -/

-- One proof after another: every witness waits for the kernel, and a thread each would not fit in memory.
set_option Elab.async false

open Sys2Proof Sys2Proof.Machine

/-- The reset state with its start behind it, so that every requester is served. -/
def Sys2Proof.Tests.up : State := { State.reset with pwr := { State.reset.pwr with booting := false } }

/-- Registers written one after another. -/
def Sys2Proof.Machine.State.wrs (s : State) (l : List (Nat × Word)) : State := l.foldl (fun s x => s.wr x.1 x.2) s

namespace Sys2Proof.Tests

/-! ### What `decide` does not see by itself -/

theorem forall_some {α : Type} {o : Option α} {P : α → Prop} [DecidablePred P] (h : (o.all (fun k => decide (P k))) = true) :
    ∀ k, o = some k → P k := by
  rintro k rfl
  simpa using h

theorem forall_some_pair {o : Option (PageClass × Nat)} {c : PageClass} {P : Nat → Prop} [DecidablePred P]
    (h : (o.all (fun k => decide (k.1 = c → P k.2))) = true) : ∀ t, o = some (c, t) → P t := by
  rintro t rfl
  simpa using h

theorem not_mem_place {p : Place} (h : (match p with | .mem _ _ => false | _ => true) = true) : ∀ st b : Nat, p ≠ .mem st b := by
  rintro st b rfl
  cases h

theorem not_hpp {x : RxClass} (h : (match x with | .hpp _ => false | _ => true) = true) : ∀ f : Hpp, x ≠ .hpp f := by
  rintro f rfl
  cases h

/-! ### Ill-formed commands -/

theorem test_ill_formed_rangeDetect : (Instr.rangeDetect 0 [⟨2147483648, false⟩]).wellFormed = false := by decide
theorem test_ill_formed_probeEnd : (Instr.probeEnd 0 []).wellFormed = false := by decide
theorem test_ill_formed_filterOutput : (Instr.filterOutput 0 [⟨-2147483649, false⟩]).wellFormed = false := by decide
theorem test_ill_formed_firOutput : (Instr.firOutput 0 [⟨2147483648, true⟩]).wellFormed = false := by decide
theorem test_ill_formed_firdrop : (Instr.firdrop 0 [⟨2147483648, true⟩]).wellFormed = false := by decide
theorem test_ill_formed_bankWrite : (Instr.bankWrite .host 0x102 0).wellFormed = false := by decide
theorem test_ill_formed_append : (Instr.append 0 [3, 3]).wellFormed = false := by decide
theorem test_ill_formed_poplRead : (Instr.poplRead [.host, .host]).wellFormed = false := by decide
theorem test_ill_formed_routingWrite : (Instr.routingWrite .host 0x101 0).wellFormed = false := by decide
theorem test_ill_formed_scrubRead : (Instr.scrubRead 1052 0).wellFormed = false := by decide
theorem test_ill_formed_flashReadDone : (Instr.flashReadDone [(0, 1), (0, 2)] false).wellFormed = false := by decide
theorem test_ill_formed_hostRd : (Instr.hostRd 0 1 9 false false).wellFormed = false := by decide
theorem test_ill_formed_hostRdf : (Instr.hostRdf 0 1 9 false false).wellFormed = false := by decide
theorem test_ill_formed_registerWrite : (Instr.registerWrite 0x100 [(.host, 1), (.host, 2)]).wellFormed = false := by decide
theorem test_ill_formed_tempSample : (Instr.tempSample [1, 2, 3]).wellFormed = false := by decide
theorem test_well_formed : (Instr.registerWrite 0x100 [(.host, 1), (.core 5, 2)]).wellFormed = true := by decide

/-! ### Worked examples of the spec -/

/-- The check value of CRC-8, polynomial 07, over "123456789" (R462). -/
theorem test_crc8 : crc8 [0x31, 0x32, 0x33, 0x34, 0x35, 0x36, 0x37, 0x38, 0x39] = 0xF4 := by decide +kernel

/-- The check value of CRC-32C over "123456789" (R410). -/
theorem test_crc32c : crc32c [0x31, 0x32, 0x33, 0x34, 0x35, 0x36, 0x37, 0x38, 0x39] = 0xE3069283 := by decide +kernel

/-- The worked example after R398. -/
theorem test_word_example : eccCheck 0x0000000080000001 = 0x65 := by decide +kernel
theorem test_word_good : checkWord (0x65#8 ++ 0x0000000080000001#64) = .good 0x0000000080000001 := by decide +kernel
theorem test_word_one : checkWord (0x65#8 ++ 0x0000000000000001#64) = .corrected 0x0000000080000001 := by decide +kernel
theorem test_word_two : checkWord (0x65#8 ++ 0x8000000080000000#64) = .uncorrectable := by decide +kernel

/-! ### Words of the Nimlor, bit by bit from 11 (R361-R366) -/

theorem test_op_add : opOf (0b000001_0100_0001_0010_000000#24) = some (.alu .add) := by decide +kernel
theorem test_op_li : opOf (0b001000_0100_11111111_000000#24) = some .li := by decide +kernel
theorem test_op_ld : opOf (0b010010_0100_001_01_00_0000011#24) = some .ld := by decide +kernel
theorem test_op_jal : opOf (0b101001_00000_1000000000001#24) = some .jal := by decide +kernel
theorem test_op_reserved : opOf (0#24) = none := by decide +kernel

end Sys2Proof.Tests

/-! ### Witnesses, group by group -/

namespace Sys2Proof.Tests.A1

def State.wrw (s : State) (st : Store) (l : List (Nat × DWord)) : State := l.foldl (fun s x => s.setRaw st x.1 (encodeWord x.2)) s

def ticketWord (kind arg : Nat) : Nat := kind + 64 + 2 * 256 + 0xFFFF * 2^16 + arg * 2^32

def wMill : State :=
  let s := up.wrs [(Reg.mrcMctl 0, 1), (Reg.mrcArmahd 0, 1000), (Reg.mrcLatetol 0, 10)]
  let s := State.wrw s Store.millrace [(20, 100), (21, 1000), (22, 1), (65536+6, 300), (65536+7, BitVec.ofNat 64 (ticketWord 7 9)), (196608+2, 1000)]
  let s := s.setMapEntry 5 (mkMap 3 2 false)
  (State.noteFalls { s with time := { s.time with w0 := 200, fab := 1000 } }).noteWaits

def eT : Ent := (wMill.pickTicket 0).getD { key := 0, due := 0, en := false, wheel := 0, late := false, prio := 0, cidx := 0, period := 0, core := 0, kind := 0, arg := 0, count := 0, cluster := 0}

def pL : Fall × Ent := (wMill.pickLane 0).getD ({ key := 0, upTo := 0, atFab := 0, overran := 0 }, eT)

def fO : Fall := { key := 5, upTo := 150, atFab := 990, overran := 1 }

def wOvr : State := { wMill with mill := { wMill.mill with falls := [fO] } }

def aa (k tg arg : Nat) : Armed := { kind := k, target := tg, wheel := 0, due := 0, arg := arg, prio := 0, ticket := 3, cidx := 0, count := 0xFFFF}

def wLand (k tg arg : Nat) : State := { up with armed := [aa k tg arg]}

def st_1 : State := wLand 4 15 0x15

def st_2 : State := wLand 5 15 0x35

def wCal : State := wMill.wrs [(Reg.mrgCalidx, 5), (Reg.mrgCald 0, 7), (Reg.mrgCald 4, 0x11)]

def st_3 : State := wMill.wrs [(Reg.mrgCalidx, 5), (Reg.mrgCald 3, 0x80000000), (Reg.mrgCald 2, 1)]

def st_4 : State := wMill.wrs [(Reg.mrgCalidx, 0x30000)]

theorem witness_MillraceSlots_1 :
    (wMill.millOn = true ∧ slotOpen wMill.time.fab wMill.mill.laneSlot 100 = true ∧ wMill.stopPoisoned = wMill ∧
      List.filter (fun (d : Nat) ↦ (wMill.pickLane d).isSome) (List.range 8) = [0] ∧ wMill.pickLane 0 = some (pL.fst,
      pL.snd) ∧ pL.snd.lane? = some 5 ∧ pL.snd.key < 2 ^ 17) ∧
    (List.find? (fun (g : Fall) ↦ g.overran != 0 && wOvr.fallLane g 5) wOvr.mill.falls = some fO) := by
  decide +kernel

theorem witness_MillraceSlots_2 :
    (wMill.millOn = true ∧ slotOpen wMill.time.fab wMill.mill.ticketSlot 25 = true ∧ wMill.stopPoisoned = wMill ∧
      List.filter (fun (d : Nat) ↦ (wMill.pickTicket d).isSome) (List.range 8) = [0] ∧ wMill.pickTicket 0 = some eT ∧
      wMill.high eT.wheel < eT.due ∧ ((armTargets eT).all fun (t : Nat) ↦ wMill.armFree eT.kind t) = true ∧ (∀ (k : Nat),
      cogs? eT.period = some k → eT.cidx < k) ∧ eT.key < 2 ^ 17) := by
  and_intros <;> first
    | exact Or.inr rfl
    | exact not_mem_place (by decide +kernel)
    | exact not_hpp (by decide +kernel)
    | decide +kernel
    | exact forall_some (by decide +kernel)
    | exact forall_some_pair (by decide +kernel)
    | exact Or.inl (by decide +kernel)
    | exact Or.inr ⟨_, rfl, by decide +kernel⟩

theorem witness_MillraceCalendar_1 :
    ((wLand 2 7 5).landing? 2 7 = some (aa 2 7 5)) ∧
    ((wLand 3 7 37).landing? 3 7 = some (aa 3 7 37)) ∧
    (st_1.landing? 4 15 = some (aa 4 15 21)) ∧
    (st_2.landing? 5 15 = some (aa 5 15 53)) ∧
    ((wLand 6 15 5).landing? 6 15 = some (aa 6 15 5)) ∧
    ((wLand 7 0 5).landing? 7 0 = some (aa 7 0 5)) := by
  decide +kernel

theorem witness_MillraceCalendar_2 :
    ((wLand 8 3 5).landing? 8 3 = some (aa 8 3 5)) ∧
    (wCal.reaches Req.host Page.mrg = true ∧ wCal.calTarget = some (0, 20, 4) ∧ wCal.rb Reg.mrgCalsta 0 = false ∧
      wCal.calBad 0 (wCal.rf Reg.mrgCalidx 0 16) = false) ∧
    (st_3.reaches Req.host Page.mrg = true ∧ st_3.calTarget = some (0, 20, 4) ∧ st_3.rb Reg.mrgCalsta 0 = false ∧
      st_3.calBad 0 (st_3.rf Reg.mrgCalidx 0 16) = true) ∧
    ((st_4.reaches Req.host Page.mrg = true ∧ (st_4.calTarget = none ∨ st_4.rb Reg.mrgCalsta 0 = true))) ∧
    (wCal.reaches Req.host (Page.mrc 0) = true) := by
  decide +kernel

end Sys2Proof.Tests.A1

namespace Sys2Proof.Tests.A2

def wShaft : State := { (up.wrs [(Reg.whlCfg 1, 0x11)]).setWheel 1 { ({} : WheelSt) with edgeSeen := true, lastFwd := true, pos := 0x180000000, high := 0x180000000 } with time := { up.time with fab := 5000 } }

def wStop : State := { wShaft with time := { wShaft.time with fab := 1000000000 } }

def wMains : State := (up.wrs [(Reg.whlCfg 1, 2)]).setWheel 1 { ({} : WheelSt) with accEdges := 3, lastAcc := some 0 }

def wMains2 : State := { wMains with time := { wMains.time with fab := 8000000 } }

def wTurn : State := up.setWheel 2 { ({} : WheelSt) with high := 0x300000000, rebasing := true }

def st_1 : State := wShaft.wrs [(Reg.whlSta 1, 1), (Reg.whlCfg 1, 0x19)]

def st_2 : State := wMains2.wrs [(Reg.whlSta 1, 0x18)]

def wStep := up.wrs [(Reg.whlCfg 2, 4)]

def st_3 : State := { (up.wrs [(Reg.whlCfg 3, 3), (Reg.whlSdiv 3, 9)]) with time := { up.time with w0 := 5000 } }

def st_4 : State := { (up.wrs [(Reg.whlCfg 1, 2), (Reg.whlSta 1, 8)]) with time := { up.time with fab := 100000000 } }

theorem witness_WheelEvents_1 :
    ((1 ≠ 0 ∧ st_1.wheelSrc 1 = 1 ∧ ((if true = true then (st_1.wheel 1).levB else (st_1.wheel 1).levA) ≠ true) ∧ (∀ (t :
      Nat), (t ∈ if true = true then (st_1.wheel 1).rawB else (st_1.wheel 1).rawA) → st_1.rf (Reg.whlEdgef 1) 0 8 ≤
      st_1.time.fab - t))) ∧
    (1 ≠ 0 ∧ st_1.wheelSrc 1 = 1 ∧ st_1.rb (Reg.whlCfg 1) 4 = true ∧ (st_1.wheel 1).edgeSeen = true ∧ (st_1.wheel
      1).lastFwd = true) ∧
    (1 ≠ 0 ∧ wStop.wheelSrc 1 = 1 ∧ wStop.rb (Reg.whlSta 1) 1 = false ∧ (wStop.wheel 1).lastEdge + 400 * wStop.rf
      (Reg.whlTstop 1) 0 20 ≤ wStop.time.fab) ∧
    ((1 ≠ 0 ∧ st_2.wheelSrc 1 = 2 ∧ (∀ (t : Nat), t ∈ (st_2.wheel 1).lastAcc → t + 4000 * st_2.rf (Reg.whlMloop 1) 16 16 ≤
      st_2.time.fab))) ∧
    (1 ≠ 0 ∧ st_4.wheelSrc 1 = 2 ∧ st_4.rb (Reg.whlSta 1) 4 = false ∧ 3 * st_4.rn (Reg.whlMper 1) ≤ 5 * (st_4.time.fab -
      (st_4.wheel 1).lastAcc.getD (st_4.wheel 1).lastEdge)) ∧
    (2 ≠ 0 ∧ (wTurn.wheel 2).rebasing = true) := by
  decide +kernel

theorem witness_WheelEvents_2 :
    2 ≠ 0 ∧ (wTurn.wheel 2).turnSeen < turnOf (wTurn.wheel 2).high := by
  decide +kernel

theorem witness_WheelRegisters :
    (2 ≠ 0 ∧ wStep.reaches Req.dbg (Page.whl 2) = true ∧ wStep.wheelSrc 2 = 4) ∧
    (2 ≠ 0 ∧ wStep.reaches Req.dbg (Page.whl 2) = true ∧ 1 ≤ field 3 0 3 ∧ field 3 0 3 ≤ 4 ∧ field 3 0 3 ≠ wStep.wheelSrc
      2) ∧
    (3 ≠ 0 ∧ st_3.reaches Req.host (Page.whl 3) = true ∧ st_3.wheelSrc 3 = 3) ∧
    (1 ≠ 0 ∧ wShaft.reaches (Req.core 3) (Page.whl 1) = true ∧ wShaft.wheelSrc 1 = 1 ∧ wShaft.rf (Reg.whlLines 1) 0 16 ≠
      field 4294902051 0 16) ∧
    (2 ≠ 0 ∧ wStep.reaches Req.dbg (Page.whl 2) = true ∧ 3 ≠ 0) := by
  decide +kernel

end Sys2Proof.Tests.A2

namespace Sys2Proof.Tests.B1

def at' (s : State) (fab : Nat) : State := { s with time := { s.time with fab := fab } }

def wCnv : State := ((at' up 100000).wrs [(Reg.cnvCctl 3, 1), (Reg.cnvRng 3, 0x00100421)]).setCnv 3 { ({} : ConvSt) with live := some 0, tag := 1, fed := 2040 }

def smp (r : Int) (o : Bool) : Sample := { raw := r, ovl := o }

def st_1 : State := wCnv.setCnv 3 { wCnv.cnv 3 with tag := 2 }

def wSw : State := wCnv.setCnv 3 { wCnv.cnv 3 with pend := some (2, 900) }

def wBl (p : Bool) : State := wCnv.setCnv 3 { wCnv.cnv 3 with blank := some ⟨900, 909⟩, afterProbe := p }

def wSet (scan : Word) : State := (wCnv.wrs [(Reg.cnvCctl 3, 1 + 2*scan), (Reg.cnvScanctl 3, 0x10103)]).setCnv 3 { wCnv.cnv 3 with settleEnd := some 500, scanning := scan == 1, outs := 5, lastTag := [3, 1, 0, 2], input := 0 }

def st_2 : State := (wSet 1).wrs [(Reg.cnvScanctl 3, 0x00103)]

def wPr : State := wCnv.setCnv 3 { wCnv.cnv 3 with probeEnd := some 500 }

def st_6 : State := (wSet 1).setCnv 3 { (wSet 1).cnv 3 with scanning := false }

def st_7 : State := (wSet 1).setCnv 3 { (wSet 1).cnv 3 with trigAt := some 100000 }

def wIns : State := wCnv.wrs [(Reg.cnvCctl 3, 0x11), (Reg.cnvBurn 3, 5)]

def st_8 : State := wIns.wrs [(Reg.cnvSta 3, 0x4800)]

def wE : State := up.wrs [(Reg.excXctl, 1), (Reg.excXconv 2, 9), (Reg.excExcp 0, 0x14005), (Reg.excExcp 3, 0x36), (Reg.excChsel 4, 3), (Reg.excXlim 4, 0x100)]

def st_9 : State := wE.setb Reg.excXsta 24 true

def st_10 : State := { wE with mon := { wE.mon with aot := true } }

theorem witness_ConverterEvents :
    ((List.replicate 8 (smp (2 ^ 30) true)).length = 8 ∧ st_1.cnvOn 3 = true ∧ st_1.blocksDone 3 = 255 + 1 ∧ (st_1.cnv
      3).fed = 8 * 255 ∧ (st_1.cnv 3).live = some 0 ∧ 0 ≤ 8 * 255 ∧ (st_1.cnv 3).held = none ∧ (st_1.cnv 3).pend = none ∧
      (st_1.cnv 3).rngPend = false ∧ st_1.rngAuto 3 = true) ∧
    ((wSw.cnv 3).pend = some (2, 900) ∧ 900 ≤ wSw.taken 3 ∧ 2 ≠ (wSw.cnv 3).tag) ∧
    (((wBl true).cnv 3).blank = some { lo := 900, hi := 909 : Span } ∧ { lo := 900, hi := 909 : Span }.hi ≤ (wBl
      true).taken 3) ∧
    ((st_2.cnv 3).settleEnd = some 500 ∧ 500 ≤ st_2.ana) ∧
    ((List.replicate 32 (smp 5 false)).length = 32 ∧ (wPr.cnv 3).probeEnd = some 500 ∧ 500 ≤ wPr.ana) ∧
    (st_2.cnvOn 3 = true ∧ (st_2.cnv 3).scanning = true ∧ st_2.nconv 3 ≤ (st_2.cnv 3).outs) := by
  decide +kernel

theorem witness_ConverterControl_1 :
    (st_6.reaches Req.host (Page.cnv 3) = true ∧ st_6.cnvOn 3 = true ∧ st_6.cnvScan 3 = true ∧ (st_6.cnv 3).scanning =
      false ∧ (st_6.cnv 3).trigAt ≠ some st_6.time.fab) ∧
    ((wSet 1).reaches Req.host (Page.cnv 3) = true ∧ (wSet 1).cnvOn 3 = true ∧ (wSet 1).cnvScan 3 = true ∧ ((wSet 1).cnv
      3).scanning = true ∧ ((wSet 1).cnv 3).trigAt ≠ some (wSet 1).time.fab) ∧
    (st_7.reaches Req.host (Page.cnv 3) = true ∧ st_7.cnvOn 3 = true ∧ st_7.cnvScan 3 = true ∧ (st_7.cnv 3).trigAt = some
      st_7.time.fab) ∧
    (wCnv.reaches (Req.core 7) (Page.cnv 3) = true ∧ wCnv.cnvOn 3 = true ∧ wCnv.cnvScan 3 = false ∧ (wCnv.cnv 3).input ≠
      field 3 0 2) ∧
    (wCnv.reaches (Req.core 7) (Page.cnv 3) = true ∧ wCnv.cnvOn 3 = true ∧ wCnv.cnvScan 3 = false ∧ field (mixModes
      (wCnv.rd (Reg.cnvImode 3)) (3 &&& 30583) 4) (4 * (wCnv.cnv 3).input) 3 ≠ field (wCnv.rd (Reg.cnvImode 3)) (4 *
      (wCnv.cnv 3).input) 3) ∧
    (st_7.reaches Req.host (Page.cnv 3) = true ∧ field (0 &&& 4294903679) 4 3 ≤ field (0 &&& 4294903679) 1 3 ∧ field (0
      &&& 4294903679) 1 3 ≤ field (0 &&& 4294903679) 8 3 ∧ field (0 &&& 4294903679) 8 3 ≤ 4) := by
  decide +kernel

theorem witness_ConverterControl_2 :
    (wCnv.reaches (Req.core 7) (Page.cnv 3) = true ∧ ¬(field (3 &&& 4294903679) 4 3 ≤ field (3 &&& 4294903679) 1 3 ∧ field
      (3 &&& 4294903679) 1 3 ≤ field (3 &&& 4294903679) 8 3 ∧ field (3 &&& 4294903679) 8 3 ≤ 4)) ∧
    (wCnv.reaches (Req.core 7) (Page.cnv 3) = true ∧ wCnv.rf (Reg.cnvBurn 3) 0 8 ≠ field 3 0 8) ∧
    (wIns.rf (Reg.cnvCctl 3) 4 2 ≠ 0 ∧ wIns.rb (Reg.cnvSta 3) 14 = false) ∧
    (st_8.rb (Reg.cnvSta 3) 14 = true) ∧
    (wIns.rf (Reg.cnvBurn 3) (2 * 1) 2 ≠ 0 ∧ wIns.rb (Reg.cnvSta 3) (10 + 1) = false) ∧
    (st_8.rf (Reg.cnvBurn 3) (2 * 1) 2 ≠ 0 ∧ st_8.rb (Reg.cnvSta 3) (10 + 1) = true) := by
  decide +kernel

theorem witness_Excitation_1 :
    (wE.reaches (Req.core 3) Page.exc = true ∧ wE.pwr.cfgdef = false ∧ wE.rb Reg.excXctl 0 ≠ bitOf 6 0) ∧
    (wE.reaches (Req.core 3) Page.exc = true ∧ wE.pwr.cfgdef = false ∧ wE.rb Reg.excXctl 0 = bitOf 5 0) ∧
    (st_9.reaches Req.host Page.exc = true ∧ st_9.rb Reg.excXsta 24 = true ∧ st_9.mon.aot = false ∧ st_9.mon.vddaFault =
      false) ∧
    ((st_10.reaches Req.host Page.exc = true ∧ (st_10.mon.aot = true ∨ st_10.mon.vddaFault = true))) ∧
    ((up.chanOn = false ∨ field (up.rd (Reg.excExcp (up.rf (Reg.excChsel 3) 0 4))) 0 2 = 0)) ∧
    (wE.chanOn = true ∧ field (wE.rd (Reg.excExcp (wE.rf (Reg.excChsel 3) 0 4))) 0 2 = 1) := by
  decide +kernel

theorem witness_Excitation_2 :
    (wE.chanOn = true ∧ field (wE.rd (Reg.excExcp (wE.rf (Reg.excChsel 4) 0 4))) 0 2 = 2) ∧
    (wE.excMode 3 = 1 ∧ wE.rb Reg.excXsta (8 + 3) = false) ∧
    (wE.excMode 4 = 2 ∧ wE.rb Reg.excXsta (16 + 4) = false) := by
  decide +kernel

end Sys2Proof.Tests.B1

namespace Sys2Proof.Tests.C1

def at' (s : State) (fab : Nat) : State := { s with time := { s.time with fab := fab } }

def smp (r : Int) (o : Bool) : Sample := { raw := r, ovl := o }

def wF : State := (((at' up 900000).wrs [(Reg.cnvCctl 5, 1), (Reg.filPath 1 1, 0x2), (Reg.filSatcnt 1, 7)]).setCnv 5 { ({} : ConvSt) with live := some 0, tag := 1, input := 2, fed := 17252 }).setSlot 5 { ({} : SlotSt) with next := 17200, seq := 77, ring := 255, caps := [{sample := 17200, stamp := 9, wpos := 10}], hist := List.replicate 100 1000, phases := [0] }

def noSamples : List Sample := []

def wFir (fade : Option FadeSt) (next : Nat) : State := (((wF.wrs [(Reg.filPath 1 1, 0x01000041), (Reg.filBanka 1, 1), (Reg.filBankb 1, 0x40001)])).setSlot 5 { wF.slot 5 with fade := fade, next := next }).setCnv 5 { wF.cnv 5 with fed := 18400 }

def wFirC (fade : Option FadeSt) : State := (wFir fade 18270).setRaw (Store.filter 1) (coefWord 0 0) (encodeWord 0x0000400000400000)

def st_1 : State := wFirC (some ⟨1, 0, 1⟩)

def st_2 : State := wFirC (some ⟨1, 1, 1⟩)

def st_3 : State := (wFir none 18100).setCnv 5 { wF.cnv 5 with fed := 18235 }

def st_4 : State := (wFirC none).wrs [(Reg.filBankb 1, 0xFFFE00)]

def wR : State := ((wF.setRaw (Store.filter 1) (newWord 3 3) (encodeWord 0x123456789ABCDEF0)).setRaw (Store.filter 1) (newWord 3 3+1) (encodeWord 0xFEDCBA9876543210)).wrs [(Reg.filRrsel 1, 0)]

theorem witness_FilterOutputs :
    (wF.unarmed = true ∧ wF.mayEnter 5 = true ∧ wF.mainDue 5 = true ∧ [smp 5 false, smp 6 true, smp (-7) false].length =
      (wF.nextMain 5).span.hi - (wF.cnv 5).fed) ∧
    ((wFirC none).unarmed = true ∧ (wFirC none).firDue 5 = true ∧ (List.replicate 5 (smp 900 false)).length = ((wFirC
      none).nextFir 5).span.hi - ((wFirC none).cnv 5).fed ∧ (wFirC none).mayEnter 5 = true ∧ (wFirC none).firLate 5 =
      false ∧ ((wFirC none).slot 5).fade = none ∧ (List.foldl (fun (s : State) (x : Sample) ↦ s.feed 5 x) (wFirC none)
      (List.replicate 5 (smp 900 false))).bankReady 5 ((wFirC none).fbank 5) ((wFirC none).slot 5).next = true) ∧
    (st_1.unarmed = true ∧ st_1.firDue 5 = true ∧ (List.replicate 5 (smp 900 false)).length = (st_1.nextFir 5).span.hi -
      (st_1.cnv 5).fed ∧ st_1.mayEnter 5 = true ∧ st_1.firLate 5 = false ∧ (st_1.slot 5).fade = some { oldBank := 1, i := 0, n := 1 : FadeSt }
      ∧ (List.foldl (fun (s : State) (x : Sample) ↦ s.feed 5 x) st_1 (List.replicate 5 (smp 900 false))).bankReady 5
      (st_1.fbank 5) (st_1.slot 5).next = true ∧ (List.foldl (fun (s : State) (x : Sample) ↦ s.feed 5 x) st_1
      (List.replicate 5 (smp 900 false))).bankReady 5 { oldBank := 1, i := 0, n := 1 : FadeSt }.oldBank (st_1.slot 5).next
      = true) ∧
    (st_3.unarmed = true ∧ st_3.firDue 5 = true ∧ noSamples.length = (st_3.nextFir 5).span.hi - (st_3.cnv 5).fed ∧
      st_3.firLate 5 = true ∧ (st_3.slot 5).fade = none) := by
  decide +kernel

theorem witness_FilterRegisters_1 :
    (st_4.reaches Req.dbg (Page.fil (5 / 4)) = true ∧ bitOf (mixPath (st_4.path 5) (16777281 + 512 &&& 16777215)) 0 = true
      ∧ st_4.ntap (5 / 4) (field (mixPath (st_4.path 5) (16777281 + 512 &&& 16777215)) 9 1) - 1 < st_4.fcent (5 / 4)
      (field (mixPath (st_4.path 5) (16777281 + 512 &&& 16777215)) 9 1)) ∧
    ((st_2.reaches (Req.core 1) (Page.fil (5 / 4)) = true ∧ (bitOf (mixPath (st_2.path 5) (16777281 + 512 &&& 16777215)) 0
      = false ∨ st_2.fcent (5 / 4) (field (mixPath (st_2.path 5) (16777281 + 512 &&& 16777215)) 9 1) ≤ st_2.ntap (5 / 4)
      (field (mixPath (st_2.path 5) (16777281 + 512 &&& 16777215)) 9 1) - 1) ∧ (st_2.slot 5).fade ≠ none ∧ (field (mixPath
      (st_2.path 5) (16777281 + 512 &&& 16777215)) 9 1 != field (st_2.path 5) 9 1) = true)) ∧
    ((wF.reaches Req.host (Page.fil (5 / 4)) = true ∧ (bitOf (mixPath (wF.path 5) (6 &&& 16777215)) 0 = false ∨ wF.fcent
      (5 / 4) (field (mixPath (wF.path 5) (6 &&& 16777215)) 9 1) ≤ wF.ntap (5 / 4) (field (mixPath (wF.path 5) (6 &&&
      16777215)) 9 1) - 1) ∧ ((wF.slot 5).fade = none ∨ (field (mixPath (wF.path 5) (6 &&& 16777215)) 9 1 != field
      (wF.path 5) 9 1) = false))) := by
  decide +kernel

theorem witness_FilterRegisters_2 :
    ((95 < if 2 < 2 then 240 else 96) ∧ (BitVec.ofNat 24 (Reg.fcoeCoef 5 95)).toNat = Reg.fcoeCoef (3 * 1 + 2) 95 ∧ (wFirC
      none).reaches Req.host (Page.fcoe (3 * 1 + 2)) = true ∧ ((wFirC none).bankUsed 1 (if 2 < 2 then 2 else 95 / 48) =
      false) ∧ (wFirC none).unarmed = true ∧ ((wFirC none).rawWord (Store.filter 1) (coefWord (if 2 < 2 then 2 else 95 /
      48) ((if 2 < 2 then 4 * 95 else 960 + 4 * (95 % 48)) / 8)) = encodeWord 0)) ∧
    ((0 < if 0 < 2 then 240 else 96) ∧ (BitVec.ofNat 24 (Reg.fcoeCoef 3 0)).toNat = Reg.fcoeCoef (3 * 1 + 0) 0 ∧ (wFirC
      none).reaches Req.host (Page.fcoe (3 * 1 + 0)) = true ∧ ((wFirC none).bankUsed 1 (if 0 < 2 then 0 else 0 / 48) =
      true)) ∧
    (((BitVec.ofNat 24 (Reg.filBanka 0)).toNat = if false = true then Reg.filBankb 0 else Reg.filBanka 0) ∧ wF.reaches
      Req.host (Page.fil 0) = true ∧ (wF.bankUsed 0 (if false = true then 1 else 0) = false)) ∧
    (((BitVec.ofNat 24 (Reg.filBanka 1)).toNat = if false = true then Reg.filBankb 1 else Reg.filBanka 1) ∧ (wFirC
      none).reaches Req.host (Page.fil 1) = true ∧ ((wFirC none).bankUsed 1 (if false = true then 1 else 0) = true)) ∧
    (wR.reaches Req.host (Page.fil 1) = true ∧ wR.rawWord (Store.filter 1) (newWord 0 0) = encodeWord 0 ∧ wR.rawWord
      (Store.filter 1) (newWord 0 0 + 1) = encodeWord 0) := by
  decide +kernel

theorem witness_FilterRegisters_3 :
    wR.reaches Req.host (Page.fil 1) = true ∧ wR.rawWord (Store.filter 1) (wR.ringSelected 1) = encodeWord 0 ∧ wR.rawWord
      (Store.filter 1) (wR.ringSelected 1 + 1) = encodeWord 0 := by
  decide +kernel

end Sys2Proof.Tests.C1

namespace Sys2Proof.Tests.D1

def at' (s : State) (fab : Nat) : State := { s with time := { s.time with fab := fab } }

def wW : State := (((at' up 20000).wrs [(Reg.weirWcfg 0 3, 0x2001), (Reg.tripTsrc 2, 0x8), (Reg.tripTsrc 3, 0x90008),(Reg.weirWev 0 3, 0x02000500),(Reg.tripTripped,0xFF00)]).setWeir 3 {({}:WeirSt) with st := 2}).setPulse 2 {({}:PulseSt) with active := true, deferred := true}

def wW0 : State := wW.setWeir 3 {}

def wWS : State := wW.wrs [(Reg.weirWcfg 0 3, 0x2C01)]

def wWH : State := wW.setWeir 3 {({}:WeirSt) with st := 2, hold := true}

def pt (n : Nat) (f : Bool) : ProofSt := {step := n, tie := true, start := 1, lo := -100, hi := 100, hys := 8, failed := f}

def wWT (n : Nat) (f : Bool) : State := wW.setWeir 3 {({}:WeirSt) with st := 2, test := some (pt n f)}

def wP (p : PulseSt) : State := {(up.wrs [(Reg.plsPcfg 2,1), (Reg.tripTripped, 0)]).setPulse 2 p with time := {fab := 10000000}}

def st_1 : State := wP {({}:PulseSt) with active := true, deferred := true}

def st_3 : State := wP {({}:PulseSt) with active := true, reqs := [.wclip]}

def st_4 : State := wP {({}:PulseSt) with active := true, reqs := [.wclip, .clr]}

def st_5 : State := (wP {({}:PulseSt) with active := true, credit := -3, reqs := [.dclip]})

def st_6 : State := wP {({}:PulseSt) with deferred := true, reqs := [.release]}

def st_7 : State := wP {({}:PulseSt) with reqs := [.set]}

def st_8 : State := wP {({}:PulseSt) with reqs := [.ticket true], inactSince := 9999999, credit := -5000}

def st_10 : State := wP {({}:PulseSt) with active := true, ball := true, reqs := [.ticket false]}

def st_11 : State := wP {({}:PulseSt) with reqs := [.clr, .set]}

def st_12 : State := (wP {}).wrs [(Reg.tripTripped, 4)]

def st_13 : State := (wP {}).wrs [(Reg.tripTripped, 4), (Reg.plsPcfg 2, 5)]

def st_14 : State := (wP {}).wrs [(Reg.tripTripped, 4), (Reg.plsPcfg 2, 9)]

def wT : State := ((at' up 20000).wrs [(Reg.tripTsrc 2, 0x90000), (Reg.tripTsrc 3, 0x90008),(Reg.tripTripped,0xFF00), (Reg.tripTincfg, 0x300)]).setPulse 2 {({}:PulseSt) with active := true, deferred := true}

def st_16 : State := { wT with tripSince := setNum [] 0 19999 }

def st_18 : State := wT.setPulse 9 {({}:PulseSt) with rearm := true}

def st_19 : State := (wT.setPulse 15 {({}:PulseSt) with rearm := true, seen := 0x10000}).wrs [(Reg.tripTsrc 15, 0x10000)]

def st_21 : State := (wT.setPulse 9 {({}:PulseSt) with rearm := true}).wrs [(Reg.plsPcfg 9, 5)]

theorem witness_Weirs_1 :
    (wW.weirFree 3 = true ∧ field (wW.wcfg 3) 10 2 ≠ 3) ∧
    (wW0.weirPowered 3 = true ∧ bitOf (wW0.wcfg 3) 0 = true ∧ (wW0.weir 3).st = 0 ∧ (wW0.weir 3).test = none) ∧
    ((wWS.weirFree 3 = true ∧ field (wWS.wcfg 3) 10 2 = 3 ∧ 1600 ≤ wWS.time.fab ∧ (∀ (t : Nat), t ∈ (wWS.weir 3).sampled →
      t < wWS.sampleTick))) ∧
    ((wWH.weir 3).hold = true ∧ wWH.weirPowered 3 = true ∧ (wWH.weir 3).st ≠ 0 ∧ (wWH.weir 3).test = none ∧ field
      (wWH.wcfg 3) 10 2 ≠ 3) ∧
    (wW.reaches Req.host (Page.weir (3 / 8)) = true ∧ wW.lockedFor (Page.weir (3 / 8)) = false ∧ field 1114128 7 3 ≤ 4) ∧
    (wWH.reaches Req.host (Page.weir (3 / 8)) = true ∧ wWH.lockedFor (Page.weir (3 / 8)) = false ∧ 4 < field 267387536 7
      3) := by
  decide +kernel

theorem witness_Weirs_2 :
    (wW.reaches Req.host (Page.weir (3 / 8)) = true ∧ wW.lockedFor (Page.weir (3 / 8)) = false ∧ wW.whys 3 < sfield
      9437200 16 12 - sfield 9437200 0 12 ∧ (wW.weir 3).test = none ∧ (wW.weir 3).st ≠ 0) ∧
    ((wWT 2 false).reaches Req.host (Page.weir (3 / 8)) = true ∧ (wWT 2 false).lockedFor (Page.weir (3 / 8)) = false ∧
      (wWT 2 false).whys 3 < sfield 134154241 16 12 - sfield 134154241 0 12 ∧ ((wWT 2 false).weir 3).test = some (pt 2
      false)) ∧
    (wW.reaches Req.host (Page.weir (3 / 8)) = true ∧ wW.lockedFor (Page.weir (3 / 8)) = false ∧ sfield 1114128 16 12 -
      sfield 1114128 0 12 ≤ wW.whys 3) ∧
    (wW.reaches Req.host (Page.weir (3 / 8)) = true ∧ wW.lockedFor (Page.weir (3 / 8)) = false ∧ ↑(field 1114128 0 8) <
      wW.whi 3 - wW.wlo 3 ∧ (wW.weir 3).test = none ∧ (wW.weir 3).st ≠ 0) := by
  decide +kernel

theorem witness_ProofTests :
    (wW.reaches Req.host (Page.weir (3 / 8)) = true ∧ (wW.weir 3).test = none ∧ (wW.weir 3).st ≠ 0) ∧
    (wW0.reaches Req.host (Page.weir (3 / 8)) = true ∧ (wW0.weir 3).test = none ∧ (wW0.weir 3).st = 0) ∧
    (((wWT 2 false).weir 3).test = some (pt 2 false) ∧ (pt 2 false).step < 4 ∧ (pt 2 false).since + (wWT 2 false).dwell 3
      ≤ (wWT 2 false).time.fab) ∧
    (((wWT 4 true).weir 3).test = some (pt 4 true) ∧ (pt 4 true).step = 4 ∧ (pt 4 true).since + (wWT 4 true).dwell 3 ≤
      (wWT 4 true).time.fab) := by
  decide +kernel

theorem witness_PulseChannels_1 :
    ((st_3.pulse 2).rearm = false ∧ (st_3.pulse 2).reqs = [PulseReq.wclip] ∧ (st_3.pulse 2).active = true ∧ 400 * st_3.rf
      (Reg.plsMaxw 2) 0 24 ≤ st_3.time.fab - (st_3.pulse 2).actSince) ∧
    ((st_4.pulse 2).rearm = false ∧ (st_4.pulse 2).reqs = [PulseReq.wclip, PulseReq.clr] ∧ (st_4.pulse 2).active = true ∧
      st_4.rb (Reg.plsPcfg 2) 0 = true ∧ st_4.tripped 2 = false ∧ (st_4.pulse 2).deferred = false ∧ 400 * st_4.rf
      (Reg.plsMaxw 2) 0 24 ≤ st_4.time.fab - (st_4.pulse 2).actSince) ∧
    ((st_5.pulse 2).rearm = false ∧ (st_5.pulse 2).reqs = [PulseReq.dclip] ∧ (st_5.pulse 2).active = true ∧ ((min
      (st_5.creditCap 2) ((st_5.pulse 2).credit + ↑(st_5.maxDuty 2)) - if (st_5.pulse 2).active = true then 256 else 0) ≤
      0) ∧ st_5.maxDuty 2 ≠ 256) ∧
    ((st_6.pulse 2).rearm = false ∧ (st_6.pulse 2).reqs = [PulseReq.release] ∧ (st_6.pulse 2).deferred = true ∧ (400 *
      st_6.rf (Reg.plsMinoff 2) 0 24 ≤ st_6.time.fab - (st_6.pulse 2).inactSince ∧ ((0 < min (st_6.creditCap 2)
      ((st_6.pulse 2).credit + ↑(st_6.maxDuty 2)) - if (st_6.pulse 2).active = true then 256 else 0) ∨ st_6.maxDuty 2 =
      256)) ∧ (st_6.pulse 2).ball = false) := by
  decide +kernel

theorem witness_PulseChannels_2 :
    ((st_7.pulse 2).rearm = false ∧ ((st_7.pulse 2).reqs = [PulseReq.set] ∨ (st_7.pulse 2).reqs = [PulseReq.ticket true])
      ∧ st_7.rb (Reg.plsPcfg 2) 0 = true ∧ st_7.tripped 2 = false ∧ (st_7.pulse 2).active = false ∧ (st_7.pulse
      2).deferred = false ∧ (400 * st_7.rf (Reg.plsMinoff 2) 0 24 ≤ st_7.time.fab - (st_7.pulse 2).inactSince ∧ ((0 < min
      (st_7.creditCap 2) ((st_7.pulse 2).credit + ↑(st_7.maxDuty 2)) - if (st_7.pulse 2).active = true then 256 else 0) ∨
      st_7.maxDuty 2 = 256)) ∧ (st_7.pulse 2).ball = false) ∧
    ((st_8.pulse 2).rearm = false ∧ ((st_8.pulse 2).reqs = [PulseReq.set] ∨ (st_8.pulse 2).reqs = [PulseReq.ticket true])
      ∧ st_8.rb (Reg.plsPcfg 2) 0 = true ∧ st_8.tripped 2 = false ∧ (st_8.pulse 2).active = false ∧ (st_8.pulse
      2).deferred = false ∧ (¬(400 * st_8.rf (Reg.plsMinoff 2) 0 24 ≤ st_8.time.fab - (st_8.pulse 2).inactSince ∧ ((0 <
      min (st_8.creditCap 2) ((st_8.pulse 2).credit + ↑(st_8.maxDuty 2)) - if (st_8.pulse 2).active = true then 256 else
      0) ∨ st_8.maxDuty 2 = 256))) ∧ st_8.rb (Reg.plsPcfg 2) 4 = false) ∧
    ((st_10.pulse 2).rearm = false ∧ ((st_10.pulse 2).reqs = [PulseReq.clr] ∨ (st_10.pulse 2).reqs = [PulseReq.ticket
      false]) ∧ st_10.rb (Reg.plsPcfg 2) 0 = true ∧ st_10.tripped 2 = false ∧ (st_10.pulse 2).active = true ∧ (st_10.pulse
      2).deferred = false) := by
  decide +kernel

theorem witness_PulseChannels_3 :
    ((st_11.pulse 2).rearm = false ∧ (st_11.pulse 2).reqs = [PulseReq.clr, PulseReq.set] ∧ st_11.rb (Reg.plsPcfg 2) 0 =
      true ∧ st_11.tripped 2 = false ∧ (st_11.pulse 2).active = false ∧ (st_11.pulse 2).deferred = false ∧ (400 * st_11.rf
      (Reg.plsMinoff 2) 0 24 ≤ st_11.time.fab - (st_11.pulse 2).inactSince ∧ ((0 < min (st_11.creditCap 2) ((st_11.pulse
      2).credit + ↑(st_11.maxDuty 2)) - if (st_11.pulse 2).active = true then 256 else 0) ∨ st_11.maxDuty 2 = 256))) ∧
    (st_1.reaches Req.host Page.pls = true ∧ st_1.lockedFor Page.pls = false) ∧
    (st_12.pwr.state ≠ PwrState.hibernate ∧ st_12.tripped 2 = true ∧ st_12.rf (Reg.plsPcfg 2) 2 2 = 0) ∧
    (st_13.pwr.state ≠ PwrState.hibernate ∧ st_13.tripped 2 = true ∧ st_13.rf (Reg.plsPcfg 2) 2 2 = 1) ∧
    (st_14.pwr.state ≠ PwrState.hibernate ∧ st_14.tripped 2 = true ∧ st_14.rf (Reg.plsPcfg 2) 2 2 = 2) ∧
    (st_1.pwr.state ≠ PwrState.hibernate ∧ st_1.tripped 2 = false) := by
  decide +kernel

theorem witness_Trips_1 :
    (wT.tripBall.testBit 0 ≠ true ∧ 8 * wT.rf Reg.tripTincfg (8 + 8 * 0) 6 ≤ 5 * (wT.time.fab - numAt wT.tripSince 0)) ∧
    ((st_16.tripBall.testBit 0 = true ∨ 5 * (st_16.time.fab - numAt st_16.tripSince 0) < 8 * st_16.rf Reg.tripTincfg (8 +
      8 * 0) 6)) ∧
    (st_18.reaches Req.host Page.trip = true) ∧
    ((st_19.pulse 15).rearm = true ∧ (st_19.pwr.cfgdef = true ∨ (st_19.sources ||| (st_19.pulse 15).seen) &&& st_19.rf
      (Reg.tripTsrc 15) 0 21 ≠ 0 ∨ ∃ (w : Fin 16), (st_19.rf (Reg.tripTsrc 15) 0 21).testBit ↑w = true ∧ (st_19.weir
      ↑w).st = 0)) ∧
    ((st_18.pulse 9).rearm = true ∧ ¬(st_18.pwr.cfgdef = true ∨ (st_18.sources ||| (st_18.pulse 9).seen) &&& st_18.rf
      (Reg.tripTsrc 9) 0 21 ≠ 0 ∨ ∃ (w : Fin 16), (st_18.rf (Reg.tripTsrc 9) 0 21).testBit ↑w = true ∧ (st_18.weir ↑w).st
      = 0)) ∧
    ((st_21.pulse 9).rearm = true ∧ ¬(st_21.pwr.cfgdef = true ∨ (st_21.sources ||| (st_21.pulse 9).seen) &&& st_21.rf
      (Reg.tripTsrc 9) 0 21 ≠ 0 ∨ ∃ (w : Fin 16), (st_21.rf (Reg.tripTsrc 9) 0 21).testBit ↑w = true ∧ (st_21.weir ↑w).st
      = 0) ∧ st_21.safeActive 9 = true) := by
  decide +kernel

theorem witness_Trips_2 :
    (st_18.pulse 9).rearm = true ∧ 5 ≠ 9 := by
  decide +kernel

end Sys2Proof.Tests.D1

namespace Sys2Proof.Tests.E1

def b2 (n x : Nat) : List Byte := bytesOf n x

def upS : State := (up.wrs [(Reg.segSctl 3, 3), (Reg.segPlcacfg 3, 0x00400103), (Reg.uplUctl 1, 7), (Reg.segTxsta 3, 0),(Reg.nodeNidx 3, 6),(Reg.uplSidx 1, 2),(Reg.nodeKidx 3,5)]).setPort 17 {link := true}

def sNC : State := {up.wrs [(Reg.segSctl 3, 1), (Reg.segPlcacfg 3, 0x00400201)] with time := {fab := 100000000, w0 := 5000000}}

def tFu : TxEntry := {slot := 2, item := .followUp 3 4}

def tMl (n : Nat) : TxEntry := {slot := 15, item := .mail 29, tries := n}

def tPl (n : Nat) : TxEntry := {slot := 14, item := .poll 32, tries := n}

def sQ (e : TxEntry) : State := upS.setPort 3 {(upS.port 3) with txq := [tFu, e]}

def bst : BurstSt := {number := 3, desc := 2, mask := 0xFFFF, landed := 0, align := false, opened := none, close := 0, credited := [2]}

def sPoll (n : Nat) : State := upS.setPort 3 {(upS.port 3) with txq := [tFu, tPl n], burst := some bst}

def bop : BurstSt := {bst with opened := some 3, close := 5}

def bopC : BurstSt := {bop with close := 50000}

def sBW : State := (((upS.setPort 3 {(upS.port 3) with burst := some bop}).putNode 3 4 {w0 := 77, w1 := 0x0004E00000000005 + 1*2^38 + 2*2^56, w2 := 0, w3 := 0}).putNode 3 2 {w0 := 78, w1 := 0x0004800000000005 + 1*2^38 + 2*2^56, w2 := 0, w3 := 0})

def sBW2 : State := {(sBW.putNode 3 5 {w0 := 79, w1 := 0x0004400000F00005 + 1*2^38 + 2*2^56+2^41, w2 := 0, w3 := 0}) with time := {fab := 100000000, w0 := 5000000}}

def nd4 : NodeRec := {w0 := 77, w1 := 5 + 8*2^20 + 7*2^28 + 1*2^46 + 3*2^50, w2 := 9, w3 := 2^40}

def nd2 (m : Nat) : NodeRec := {w0 := 78, w1 := 5 + 8*2^20 + 7*2^28 + 1*2^46 + m*2^50, w2 := 0, w3 := 0}

def sN : State := ((upS.putNode 3 4 nd4).putNode 3 2 (nd2 2)).putNode 17 2 (nd2 1)

def hd (ty plca src seq : Nat) (body : List Byte) : List Byte := [BitVec.ofNat 8 (16+ty), 0] ++ b2 2 body.length ++ b2 8 src ++ b2 1 plca ++ [0] ++ b2 2 seq ++ b2 4 0 ++ body

def mk (s : State) (p ty plca src seq : Nat) (body : List Byte) : Frame := { dst := BitVec.ofNat 48 (s.stationAddr p), ethertype := 0x88B5, vlan := false, payload := hd ty plca src seq body ++ (if p < 16 then [] else List.replicate (46 - 20 - body.length) 0), stamp := 1000, ringFull := false }

def mh (ty plca src seq : Nat) (body : List Byte) : Hpp := {ty := ty, auth := false, perstamp := false, nfault := false, src := src, plca := plca, seq := seq, ctr := 0, body := body, signed := hd ty plca src seq body, mac := []}

def bd : List Byte := [0,0,0,0,3,0, 1,0x80,1,2,3,4, 2,0x80,1,2,3,4, 1,0x40,7,7,7,7]

def bd4 : List Byte := [1,2,3,4]

def bd8 : List Byte := [1,2,3,4,5,6,7,8]

def rd (f : Frame) : Frame := { f with ringFull := true }

def sSl : State := { sN with pwr := { sN.pwr with state := .sleep } }

def fr_1 : Frame := mk sN 3 5 4 77 10 bd

def fr_2 : Frame := {mk sN 3 5 4 77 10 bd with vlan := true}

def fr_3 : Frame := {mk sN 3 5 4 77 10 bd with ethertype := 0x88F7}

def fr_4 : Frame := {mk sN 3 5 4 77 10 bd with ethertype := 0x88F9}

def fr_5 : Frame := {mk sN 3 5 4 77 10 bd with payload := []}

def fr_7 : Frame := rd (mk sN 3 6 4 77 10 bd)

def arr (q : Nat) (h : Hpp) : State := sN.setPort q {(sN.port q) with arrived := [(h, 1000)]}

def arrB (h : Hpp) : State := sN.setPort 3 {(sN.port 3) with arrived := [(h, 1000)], burst := some {bop with close := 50000}}

def st_13 : State := arrB (mh 5 4 77 10 bd)

def st_14 : State := arr 3 (mh 5 4 77 10 bd)

def st_15 : State := arr 3 (mh 6 4 77 10 bd)

def st_16 : State := arr 3 (mh 8 4 77 10 bd4)

def st_18 : State := arr 3 (mh 2 9 99 10 bd8)

def sNw : State := sN.wrs [(Reg.nodeNd 3 0, 99), (Reg.nodeNd 3 2, 0x00400005), (Reg.nodeNd 3 3, 0x00040000), (Reg.uplSd 1 0, 99), (Reg.uplSd 1 2, 0x00400005), (Reg.uplSd 1 3, 0x00040000),(Reg.nodeKey 3 1, 0x12345678)]

def sNx : State := sNw.wrs [(Reg.nodeNd 3 3, 0x00140000),(Reg.uplSd 1 3, 0x00140000)]

def sNk : State := ((sNw.setKey 3 5 (some 77)).setKey 3 6 (some 99)).setKey 17 2 (some 5)

def sNg : State := (sNk.wrs [(Reg.segAuthcfg 3, 0x10)]).setKey 3 64 (some 55)

def sMq : State := upS.setPort 3 {(upS.port 3) with mail := [{plca := 2, ty := 5, len := 2, slot := 1, auth := true, stranger := false},{plca := 4, ty := 5, len := 2, slot := 0, auth := true, stranger := false}]}

def sU0 : State := sNk.setPort 17 {sNk.port 17 with link := false}

def fr_19 : Frame := rd {mk sN 3 5 4 77 10 bd with ethertype := 0x88F9}

theorem witness_SegmentLine :
    (upS.plcaOn 3 = true ∧ upS.coordinates 3 = true) ∧
    (sNC.plcaOn 3 = true ∧ sNC.coordinates 3 = false ∧ (sNC.port 3).fallback = false ∧ 400 * sNC.rf (Reg.segPlcafb 3) 0 16
      ≤ sNC.time.fab - (sNC.port 3).lastBeacon) ∧
    ((sQ (tMl 14)).maySend 3 = true ∧ (sQ (tMl 14)).lineHead 3 = some (tMl 14) ∧ (tMl 14).tries < 15) ∧
    ((sPoll 15).maySend 3 = true ∧ (sPoll 15).lineHead 3 = some (tPl 15) ∧ 15 ≤ (tPl 15).tries) ∧
    ((upS.reaches Req.host (Page.seg 3) = true ∧ 1 ≤ field 4278517506 16 7 ∧ field 4278517506 16 7 ≤ 64 ∧ (bitOf
      4278517506 1 = true ∨ field 4278517506 8 6 ≠ 0))) ∧
    ((sNC.reaches Req.host (Page.seg 3) = true ∧ (field 4278255362 16 7 = 0 ∨ 64 < field 4278255362 16 7 ∨ bitOf
      4278255362 1 = false ∧ field 4278255362 8 6 = 0))) := by
  decide +kernel

theorem witness_Bursts :
    ((sPoll 0).lineFrame 3 isPoll = some (tPl 0) ∧ ((sPoll 0).port 3).burst = some bst) ∧
    (((sBW2.takeFrames 3).port 3).burst = some bop ∧ bop.opened.isSome = true ∧ bop.close ≤ (sBW2.takeFrames 3).time.w0) ∧
    ((sBW2.takeFrames 3).portOn 3 = true ∧ (sBW2.takeFrames 3).pwr.state = PwrState.run ∧ ((sBW2.takeFrames 3).node 3
      5).counts = true ∧ (((sBW2.takeFrames 3).node 3 5).mode = 1 ∨ ((sBW2.takeFrames 3).node 3 5).mode = 2) ∧
      ((sBW2.takeFrames 3).node 3 5).pubtmo ≠ 0 ∧ 400000 * ((sBW2.takeFrames 3).node 3 5).pubtmo ≤ (sBW2.takeFrames
      3).time.fab - numAt ((sBW2.takeFrames 3).port 3).pubFrom 5) := by
  decide +kernel

theorem witness_Reception_1 :
    (sN.receives 3 = true ∧ sN.macTakes 3 fr_3.dst.toNat = true ∧ fr_3.ringFull = false ∧ sN.classify 3 fr_3 =
      RxClass.ptp) ∧
    (sN.receives 3 = true ∧ sN.macTakes 3 fr_4.dst.toNat = true ∧ fr_4.ringFull = false ∧ sN.classify 3 fr_4 =
      RxClass.other) ∧
    (sN.receives 3 = true ∧ sN.macTakes 3 fr_2.dst.toNat = true ∧ fr_2.ringFull = false ∧ sN.classify 3 fr_2 =
      RxClass.tagged) ∧
    (sSl.receives 3 = true ∧ sSl.macTakes 3 fr_5.dst.toNat = true ∧ fr_5.ringFull = false ∧ sSl.classify 3 fr_5 =
      RxClass.bad) ∧
    (sN.receives 3 = true ∧ sN.macTakes 3 fr_7.dst.toNat = true ∧ sN.classify 3 fr_7 = RxClass.hpp (mh 6 4 77 10 bd) ∧ (mh
      6 4 77 10 bd).ty = 6 ∧ fr_7.ringFull = true) ∧
    (sSl.receives 3 = true ∧ sSl.macTakes 3 fr_1.dst.toNat = true ∧ sSl.classify 3 fr_1 = RxClass.hpp (mh 5 4 77 10 bd) ∧
      (mh 5 4 77 10 bd).ty = 5 ∧ fr_1.ringFull = false ∧ isSeg 3 = true ∧ sSl.pwr.state ≠ PwrState.run) := by
  decide +kernel

theorem witness_Reception_2 :
    ((sN.receives 3 = true ∧ sN.macTakes 3 fr_1.dst.toNat = true ∧ sN.classify 3 fr_1 = RxClass.hpp (mh 5 4 77 10 bd) ∧
      (mh 5 4 77 10 bd).ty = 5 ∧ fr_1.ringFull = false ∧ (isSeg 3 = false ∨ sN.pwr.state = PwrState.run))) ∧
    ((st_13.port 3).arrived = [(mh 5 4 77 10 bd, 1000)] ∧ rxAllowed 3 (mh 5 4 77 10 bd).ty = true ∧ (mh 5 4 77 10 bd).seq
      < 65536 ∧ st_13.accepts 3 4 (mh 5 4 77 10 bd) = true ∧ st_13.unarmed = true ∧ 5 < 64 ∧ 5 ≠ 4) ∧
    ((st_13.port 3).arrived = [(mh 5 4 77 10 bd, 1000)] ∧ rxAllowed 3 (mh 5 4 77 10 bd).ty = true ∧ (mh 5 4 77 10 bd).seq
      < 65536 ∧ st_13.accepts 3 4 (mh 5 4 77 10 bd) = true ∧ st_13.unarmed = true ∧ ((mh 5 4 77 10 bd).ty = 5 ∨ (mh 5 4 77
      10 bd).ty = 6) ∧ (1 < ((mh 5 4 77 10 bd).body.length - 6) / if (mh 5 4 77 10 bd).perstamp = true then 10 else 6) ∧
      (bytesAt (mh 5 4 77 10 bd).body (6 + (if (mh 5 4 77 10 bd).perstamp = true then 10 else 6) * 1) 1 < (st_13.node 3
      4).nch) ∧ (∀ (j : Nat), (j < ((mh 5 4 77 10 bd).body.length - 6) / if (mh 5 4 77 10 bd).perstamp = true then 10 else
      6) → 1 < j → bytesAt (mh 5 4 77 10 bd).body (6 + (if (mh 5 4 77 10 bd).perstamp = true then 10 else 6) * j) 1 ≠
      bytesAt (mh 5 4 77 10 bd).body (6 + (if (mh 5 4 77 10 bd).perstamp = true then 10 else 6) * 1) 1)) := by
  decide +kernel

theorem witness_Reception_3 :
    ((st_13.port 3).arrived = [(mh 5 4 77 10 bd, 1000)] ∧ rxAllowed 3 (mh 5 4 77 10 bd).ty = true ∧ (mh 5 4 77 10 bd).seq
      < 65536 ∧ st_13.accepts 3 4 (mh 5 4 77 10 bd) = true ∧ st_13.unarmed = true ∧ (mh 5 4 77 10 bd).ty = 5 ∧ bytesAt (mh
      5 4 77 10 bd).body 4 2 = bopC.number ∧ (3 : Int) ≤ 1000 ∧ (1000 : Int) < ↑bopC.close) ∧
    ((st_14.port 3).arrived = [(mh 5 4 77 10 bd, 1000)] ∧ rxAllowed 3 (mh 5 4 77 10 bd).ty = true ∧ (mh 5 4 77 10 bd).seq
      < 65536 ∧ st_14.accepts 3 4 (mh 5 4 77 10 bd) = true ∧ st_14.unarmed = true ∧ (mh 5 4 77 10 bd).ty = 5 ∧ (st_14.port
      3).burst = none) ∧
    ((st_15.port 3).arrived = [(mh 6 4 77 10 bd, 1000)] ∧ rxAllowed 3 (mh 6 4 77 10 bd).ty = true ∧ (mh 6 4 77 10 bd).seq
      < 65536 ∧ st_15.accepts 3 4 (mh 6 4 77 10 bd) = true ∧ st_15.unarmed = true ∧ (mh 6 4 77 10 bd).ty = 6) ∧
    ((st_16.port 3).arrived = [(mh 8 4 77 10 bd4, 1000)] ∧ rxAllowed 3 (mh 8 4 77 10 bd4).ty = true ∧ (mh 8 4 77 10
      bd4).seq < 65536 ∧ st_16.accepts 3 4 (mh 8 4 77 10 bd4) = true ∧ st_16.unarmed = true ∧ (mh 8 4 77 10 bd4).ty ≠ 5 ∧
      (mh 8 4 77 10 bd4).ty ≠ 6 ∧ (∃ (i : Nat), i < 16 ∧ ∀ (m : MailRx), m ∈ (st_16.port 3).mail → m.slot ≠ i) ∧ (mh 8 4
      77 10 bd4).body.length ≤ 128) := by
  decide +kernel

theorem witness_Reception_4 :
    (st_18.port 3).arrived = [(mh 2 9 99 10 bd8, 1000)] ∧ (mh 2 9 99 10 bd8).ty = 2 ∧ (mh 2 9 99 10 bd8).plca < 64 ∧
      st_18.findNode 3 (mh 2 9 99 10 bd8).src = none ∧ (st_18.node 3 (mh 2 9 99 10 bd8).plca).state = 0 ∧ st_18.rb
      (Reg.segSctl 3) 1 = true ∧ st_18.unarmed = true ∧ (∃ (i : Nat), i < 16 ∧ ∀ (m : MailRx), m ∈ (st_18.port 3).mail →
      m.slot ≠ i) ∧ (mh 2 9 99 10 bd8).body.length ≤ 128 := by
  decide +kernel

theorem witness_Reception_5 :
    (sN.receives 3 = true ∧ sN.macTakes 3 fr_19.dst.toNat = true ∧ fr_19.ringFull = true ∧ (∀ (h : Hpp), sN.classify 3
      fr_19 ≠ RxClass.hpp h)) := by
  and_intros <;> first
    | exact Or.inr rfl
    | exact not_mem_place (by decide +kernel)
    | exact not_hpp (by decide +kernel)
    | decide +kernel
    | exact forall_some (by decide +kernel)
    | exact forall_some_pair (by decide +kernel)
    | exact Or.inl (by decide +kernel)
    | exact Or.inr ⟨_, rfl, by decide +kernel⟩

theorem witness_NodeTable :
    (sNw.reaches Req.host (Page.node 3) = true ∧ sNw.clean (portStore 3) (recIndex 3 (sNw.nodeIndex 3)) 4 = true) ∧
    (sNw.reaches Req.host (Page.node 3) = true ∧ sNw.badNode 3 (sNw.nodeIndex 3) (sNw.ndWords 3).fst (sNw.ndWords 3).snd =
      false) ∧
    (sNx.reaches (Req.core 3) (Page.node 3) = true ∧ sNx.badNode 3 (sNx.nodeIndex 3) (sNx.ndWords 3).fst (sNx.ndWords
      3).snd = true) ∧
    ((sNw.reaches Req.host (if 3 < 16 then Page.node 3 else Page.upl (3 - 16)) = true) ∧ sNw.keyIndex 3 ≤ 64) ∧
    ((sNw.reaches Req.host (if 3 < 16 then Page.node 3 else Page.upl (3 - 16)) = true) ∧ (sNw.takeFrames 3).clean
      (portStore 3) (2 * field (sNw.shadow Req.host.index (portReg 3 (fun (n : Nat) ↦ Reg.nodeCidx n) fun (u : Nat) ↦
      Reg.uplCidx u)) 0 10) 2 = true) := by
  decide +kernel

theorem witness_Mailboxes_1 :
    ((sNk.reaches Req.host (portPage 3) = true ∧ field 4293943361 0 4 = 1 ∧ (¬(sNk.rb (portReg 3 (fun (n : Nat) ↦
      Reg.segTxsta n) fun (u : Nat) ↦ Reg.uplTxsta u) 0 = true ∨ (if 3 < 16 then 128 else 512) < (txCmdOf 3
      4293943361).len ∨ sNk.listens 3 = true ∨ (if (txCmdOf 3 4293943361).mcast = true then sNk.rb (Reg.segAuthcfg 3) 4
      else (txCmdOf 3 4293943361).auth) = true ∧ sNk.key? 3 (if (txCmdOf 3 4293943361).mcast = true then 64 else (txCmdOf
      3 4293943361).dst) = none)) ∧ (3 < 16 ∨ (sNk.port 3).link = true) ∧ ((if (txCmdOf 3 4293943361).mcast = true then
      sNk.rb (Reg.segAuthcfg 3) 4 else (txCmdOf 3 4293943361).auth) = false))) ∧
    ((sNk.reaches Req.host (portPage 3) = true ∧ field 4294467655 0 4 = 7 ∧ (¬(sNk.rb (portReg 3 (fun (n : Nat) ↦
      Reg.segTxsta n) fun (u : Nat) ↦ Reg.uplTxsta u) 0 = true ∨ (if 3 < 16 then 128 else 512) < (txCmdOf 3
      4294467655).len ∨ sNk.listens 3 = true ∨ (if (txCmdOf 3 4294467655).mcast = true then sNk.rb (Reg.segAuthcfg 3) 4
      else (txCmdOf 3 4294467655).auth) = true ∧ sNk.key? 3 (if (txCmdOf 3 4294467655).mcast = true then 64 else (txCmdOf
      3 4294467655).dst) = none)) ∧ (3 < 16 ∨ (sNk.port 3).link = true) ∧ ((if (txCmdOf 3 4294467655).mcast = true then
      sNk.rb (Reg.segAuthcfg 3) 4 else (txCmdOf 3 4294467655).auth) = true) ∧ (txCmdOf 3 4294467655).mcast = false ∧
      sNk.clean (portStore 3) (recIndex 3 (txCmdOf 3 4294467655).dst) 4 = true)) := by
  decide +kernel

theorem witness_Mailboxes_2 :
    ((sNg.reaches Req.host (portPage 3) = true ∧ field 4278476865 0 4 = 1 ∧ (¬(sNg.rb (portReg 3 (fun (n : Nat) ↦
      Reg.segTxsta n) fun (u : Nat) ↦ Reg.uplTxsta u) 0 = true ∨ (if 3 < 16 then 128 else 512) < (txCmdOf 3
      4278476865).len ∨ sNg.listens 3 = true ∨ (if (txCmdOf 3 4278476865).mcast = true then sNg.rb (Reg.segAuthcfg 3) 4
      else (txCmdOf 3 4278476865).auth) = true ∧ sNg.key? 3 (if (txCmdOf 3 4278476865).mcast = true then 64 else (txCmdOf
      3 4278476865).dst) = none)) ∧ (3 < 16 ∨ (sNg.port 3).link = true) ∧ ((if (txCmdOf 3 4278476865).mcast = true then
      sNg.rb (Reg.segAuthcfg 3) 4 else (txCmdOf 3 4278476865).auth) = true) ∧ (txCmdOf 3 4278476865).mcast = true)) ∧
    ((sU0.reaches Req.host (portPage 17) = true ∧ field 4278321225 0 4 = 9 ∧ (¬(sU0.rb (portReg 17 (fun (n : Nat) ↦
      Reg.segTxsta n) fun (u : Nat) ↦ Reg.uplTxsta u) 0 = true ∨ (if 17 < 16 then 128 else 512) < (txCmdOf 17
      4278321225).len ∨ sU0.listens 17 = true ∨ (if (txCmdOf 17 4278321225).mcast = true then sU0.rb (Reg.segAuthcfg 17) 4
      else (txCmdOf 17 4278321225).auth) = true ∧ sU0.key? 17 (if (txCmdOf 17 4278321225).mcast = true then 64 else
      (txCmdOf 17 4278321225).dst) = none)) ∧ 16 ≤ 17 ∧ (sU0.port 17).link = false ∧ ((if (txCmdOf 17 4278321225).mcast =
      true then sU0.rb (Reg.segAuthcfg 17) 4 else (txCmdOf 17 4278321225).auth) = false))) := by
  decide +kernel

theorem witness_Mailboxes_3 :
    ((sNk.reaches Req.host (portPage 3) = true ∧ field 4278742849 0 4 = 1 ∧ (sNk.rb (portReg 3 (fun (n : Nat) ↦
      Reg.segTxsta n) fun (u : Nat) ↦ Reg.uplTxsta u) 0 = true ∨ (if 3 < 16 then 128 else 512) < (txCmdOf 3
      4278742849).len ∨ sNk.listens 3 = true ∨ (if (txCmdOf 3 4278742849).mcast = true then sNk.rb (Reg.segAuthcfg 3) 4
      else (txCmdOf 3 4278742849).auth) = true ∧ sNk.key? 3 (if (txCmdOf 3 4278742849).mcast = true then 64 else (txCmdOf
      3 4278742849).dst) = none))) ∧
    ((sQ (tMl 0)).lineFrame 3 isMail = some (tMl 0)) ∧
    ((sQ (tMl 15)).lineFrame 3 isMail = some (tMl 15) ∧ isSeg 3 = true ∧ (tMl 15).tries = 15) ∧
    ((sMq.reaches Req.host (portPage 3) = true ∧ (sMq.port 3).mail = [{ plca := 2, ty := 5, len := 2, slot := 1, auth := true, stranger := false : MailRx },
      { plca := 4, ty := 5, len := 2, slot := 0, auth := true, stranger := false : MailRx }] ∧ (∀ (m' : MailRx), m' ∈ [{ plca := 4, ty := 5, len := 2, slot := 0, auth := true, stranger := false : MailRx }].head?
      → sMq.clean (portStore 3) (mailWord 3 m'.slot) (wordsFor m'.len) = true))) ∧
    (upS.reaches Req.host (portPage 17) = true ∧ (upS.port 17).mail = []) := by
  decide +kernel

end Sys2Proof.Tests.E1

namespace Sys2Proof.Tests.F1

def upS : State := (up.wrs [(Reg.segSctl 3, 3), (Reg.segPlcacfg 3, 0x00400103), (Reg.uplUctl 1, 7), (Reg.segTxsta 3, 0),(Reg.nodeNidx 3, 6),(Reg.uplSidx 1, 2),(Reg.nodeKidx 3,5)]).setPort 17 {link := true}

def tFu : TxEntry := {slot := 2, item := .followUp 3 4}

def tMl (n : Nat) : TxEntry := {slot := 15, item := .mail 29, tries := n}

def u0 : State := (upS.setPort 17 {})

def u1 : State := {(upS.setPort 17 {link := true, txq := [tFu, tMl 0], pausedTo := some 4}) with time := {fab := 1000}}

def bk (st : BankState) : Bank := {state := st, len := 2000, header := 0}

def uS (st : BankState) : State := ((upS.wrs [(Reg.strmScfg 2, 5)]).setStream 2 {bank0 := bk st, fill := some 1})

def u2 : State := uS .closed

def p0 : State := {(up.wrs [(Reg.segSctl 3, 1), (Reg.ptpCtl, 3), (Reg.ptppPcfg 3, 3), (Reg.ptppPcfg 4, 2), (Reg.segSctl 4, 1),(Reg.ptppRxlat 3, 7),(Reg.uplUctl 1, 7),(Reg.ptppPcfg 17, 9),(Reg.ptpClkidl,5)]).setPort 17 {link := true} with time := {fab := 100000000, w0 := 2^40}, ptp := {lastSync := some 50000000}}

def m0 : PtpMsg := {dst := BitVec.ofNat 48 ptpPrimary, ringFull := false, domain := 0, seqId := 9, twoStep := false, correction := 0x28000, time := 1000000, stamp := 1000500, requester := 0x50004, bytes := [1,2,3]}

def m1 : PtpMsg := {m0 with twoStep := true}

def mU : PtpMsg := {m0 with requester := 0x50012, dst := BitVec.ofNat 48 ptpPeer}

def p1 : State := p0.setPort 3 {(p0.port 3) with wantFu := some (9, 77, 99), dreqSent := some (9, 50000), lastT := some (7,80)}

def p2 : State := p0.setPort 17 {(p0.port 17) with pdreqSent := some (9, 77), pdresp := some (4,5,6)}

def q4 (two : Bool) (i : TxItem) : State := (p0.setPort 4 {(p0.port 4) with txq := [{slot := 1, item := .followUp 3 4}, {slot := 0, item := i}]}).wrs [(Reg.ptppPcfg 4, if two then 0x100002 else 2)]

def st_2 : State := q4 true (.sync 7)

def qB : State := {q4 true (.ptpMail 30) with ptp := {p0.ptp with txBusy := true}}

def p4 : State := {p0 with ptp := {p0.ptp with mail := [(2,3,[1,2]), (7,3,[1,2])]}}

def pH : State := {p0 with ptp := {}, time := {p0.time with fab := 10^10}}

def st_9 : State := pH.setb Reg.ptpSta 1 true

theorem witness_UplinkLine :
    ((u0.port (16 + 1)).link = false ∧ u0.pageOff (Page.upl 1) = false ∧ u0.rb Reg.monVsta 12 = false) ∧
    (u1.portOn (16 + 1) = true ∧ (u1.port (16 + 1)).link = true ∧ u1.rb (Reg.uplUctl 1) 1 = true) ∧
    ((u1.port (16 + 1)).pausedTo = some 4 ∧ 4 ≤ u1.time.fab) ∧
    ((2 < 4 ∧ u2.maySend (16 + 1) = true ∧ u2.rb (Reg.uplUctl 1) 2 = true ∧ u2.lineHead (16 + 1) = none ∧ ((u2.port (16 +
      1)).train = none ∧ u2.batchStream 1 = some (2, 0) ∧ 0 = 0 ∨ (u2.port (16 + 1)).train = some (2, 0) ∧ u2.bankIn 2
      BankState.draining = some 0))) := by
  decide +kernel

theorem witness_PtpReceive_1 :
    (p1.ptpComes 3 { dst := m0.dst, ringFull := m0.ringFull, domain := 3, seqId := m0.seqId, twoStep := m0.twoStep, correction := m0.correction, time := m0.time, stamp := m0.stamp, requester := m0.requester, bytes := m0.bytes : PtpMsg }
      = true ∧ { dst := m0.dst, ringFull := m0.ringFull, domain := 3, seqId := m0.seqId, twoStep := m0.twoStep, correction := m0.correction, time := m0.time, stamp := m0.stamp, requester := m0.requester, bytes := m0.bytes : PtpMsg }.domain.toNat
      ≠ p1.rf Reg.ptpCtl 8 7) ∧
    (p1.hears 3 m0 = true ∧ p1.ptpState 3 = 3 ∧ m0.twoStep = false) ∧
    (p1.hears 3 m1 = true ∧ p1.ptpState 3 = 3 ∧ m1.twoStep = true) ∧
    (p1.hears 3 m0 = true ∧ p1.ptpState 3 = 3 ∧ (p1.port 3).wantFu = some (m0.seqId.toNat, 77, 99)) ∧
    (p1.hears 3 m0 = true ∧ p1.ptpState 3 = 3 ∧ (p1.port 3).dreqSent = some (m0.seqId.toNat, 50000) ∧ (p1.port 3).lastT =
      some (7, 80) ∧ p1.ptpP2p 3 = false ∧ m0.requester.toNat = p1.portIdentity 3) ∧
    (p1.hears 4 m0 = true ∧ p1.ptpState 4 = 2 ∧ p1.ptpRoom 4 = true) := by
  decide +kernel

theorem witness_PtpReceive_2 :
    (p1.hears 3 m0 = true ∧ p1.ptpMute 3 = false ∧ p1.ptpRoom 3 = true) ∧
    (p2.hears 17 mU = true ∧ isSeg 17 = false ∧ p2.ptpP2p 17 = true ∧ (p2.port 17).pdreqSent = some (mU.seqId.toNat, 77) ∧
      mU.requester.toNat = p2.portIdentity 17 ∧ mU.twoStep = false) ∧
    (p2.hears 17 { dst := mU.dst, ringFull := mU.ringFull, domain := mU.domain, seqId := mU.seqId, twoStep := true, correction := mU.correction, time := mU.time, stamp := mU.stamp, requester := mU.requester, bytes := mU.bytes : PtpMsg }
      = true ∧ isSeg 17 = false ∧ p2.ptpP2p 17 = true ∧ (p2.port 17).pdreqSent = some ({ dst := mU.dst, ringFull := mU.ringFull, domain := mU.domain, seqId := mU.seqId, twoStep := true, correction := mU.correction, time := mU.time, stamp := mU.stamp, requester := mU.requester, bytes := mU.bytes : PtpMsg }.seqId.toNat,
      77) ∧ { dst := mU.dst, ringFull := mU.ringFull, domain := mU.domain, seqId := mU.seqId, twoStep := true, correction := mU.correction, time := mU.time, stamp := mU.stamp, requester := mU.requester, bytes := mU.bytes : PtpMsg }.requester.toNat
      = p2.portIdentity 17 ∧ { dst := mU.dst, ringFull := mU.ringFull, domain := mU.domain, seqId := mU.seqId, twoStep := true, correction := mU.correction, time := mU.time, stamp := mU.stamp, requester := mU.requester, bytes := mU.bytes : PtpMsg }.twoStep
      = true) := by
  decide +kernel

theorem witness_PtpReceive_3 :
    (p2.hears 17 mU = true ∧ isSeg 17 = false ∧ p2.ptpP2p 17 = true ∧ (p2.port 17).pdreqSent = some (mU.seqId.toNat, 77) ∧
      mU.requester.toNat = p2.portIdentity 17 ∧ (p2.port 17).pdresp = some (4, 5, 6)) ∧
    (p1.hears 3 m0 = true ∧ p1.ptp.mail.length < 8 ∧ m0.bytes.length ≤ 256) := by
  decide +kernel

theorem witness_PtpSend_1 :
    (p0.ptpRoom 4 = true ∧ p0.ptpState 4 = 2 ∧ p0.sendDue (p0.port 4).lastSync (p0.logSync 4) = true) ∧
    (p0.ptpRoom 3 = true ∧ p0.ptpState 3 = 3 ∧ p0.ptpP2p 3 = false ∧ p0.sendDue (p0.port 3).lastDreq (p0.logDreq 3) =
      true) ∧
    (p0.ptpRoom 17 = true ∧ 17 = 16 + 1 ∧ p0.ptpState 17 ≠ 0 ∧ p0.ptpP2p 17 = true) ∧
    (p0.reaches Req.host Page.ptp = true ∧ field 4294931556 0 5 = 4 ∧ p0.ptpState 4 ≠ 0 ∧ p0.ptp.txBusy = false) ∧
    ((qB.reaches Req.host Page.ptp = true ∧ (qB.ptp.txBusy = true ∨ qB.ptpState (field 4294931556 0 5) = 0))) ∧
    ((qB.lineFrame 4 isPtpMail = some { slot := 0, item := TxItem.ptpMail 30 : TxEntry } ∧ (∀ (q : Nat), q < 4 →
      qB.lineFrame q isPtpMail = none))) := by
  decide +kernel

theorem witness_PtpSend_2 :
    (st_2.lineFrame 4 isPtpEvent = some { slot := 0, item := TxItem.sync 7 : TxEntry } ∧ ({ slot := 0, item := TxItem.sync 7 : TxEntry }.item
      = TxItem.sync 7 ∨ { slot := 0, item := TxItem.sync 7 : TxEntry }.item = TxItem.delayReq 7 ∨ { slot := 0, item := TxItem.sync 7 : TxEntry }.item
      = TxItem.pdelayReq 7 ∨ ∃ (t : Nat), ∃ (r : Nat), ∃ (c : Int), { slot := 0, item := TxItem.sync 7 : TxEntry }.item =
      TxItem.pdelayResp 7 t r c)) := by
  and_intros <;> first
    | exact Or.inr rfl
    | exact not_mem_place (by decide +kernel)
    | exact not_hpp (by decide +kernel)
    | decide +kernel
    | exact forall_some (by decide +kernel)
    | exact forall_some_pair (by decide +kernel)
    | exact Or.inl (by decide +kernel)
    | exact Or.inr ⟨_, rfl, by decide +kernel⟩

theorem witness_PtpBlock_1 :
    (st_9.rb Reg.ptpCtl 0 = true ∧ st_9.pageLive Page.ptp = true ∧ st_9.holdDue = true ∧ st_9.rb Reg.ptpSta 2 = false) ∧
    (p0.ptp.epochSeen < p0.time.w0 / 2 ^ 32) ∧
    (p0.ptp.secSeen < p0.time.w0 / 1000000000) ∧
    (p4.reaches Req.host Page.ptp = true ∧ p4.ptp.mail = [(2, 3, [1, 2]), (7, 3, [1, 2])]) ∧
    (p0.reaches Req.host Page.ptp = true ∧ p0.ptp.mail = []) ∧
    ((p0.reaches Req.host Page.ptpp = true ∧ (field 305419896 0 3 ≠ 3 ∨ ∀ (q : Nat), q ∈ p0.slavePort? → q = 3))) := by
  decide +kernel

theorem witness_PtpBlock_2 :
    (p4.reaches Req.host Page.ptpp = true ∧ field 4293920891 0 3 = 3 ∧ (∃ (q : Nat), q ∈ p4.slavePort? ∧ q ≠ 4)) := by
  decide +kernel

end Sys2Proof.Tests.F1

namespace Sys2Proof.Tests.G1

def pd0 : Pend := {lane := 40, group := 2, snap := false, gsnap := false, b := 77, bw0 := some 78, seq := 3}

def c0 : State := { ((up.wrs [(Reg.talgGscfg, 5), (Reg.tileSncnt 2, 4), (Reg.tileSnrd 2,1), (Reg.tileSnwr 2, 3)]).setMapEntry 40 (mkMap 2 7 false)) with time := {fab := 5000, w0 := 10^9}, tally := {pend := [pd0], entries := [{tile := 2, slot := 1, lane := 40, group := 2, snap := false, b := 5, bw0 := some 6},{tile := 2, slot := 2, lane := 40, group := 2, snap := false, b := 5, bw0 := none}]} }

def c1 : State := (((c0.setTile 2 {(c0.tile 2) with snHeld := 2}).writeWords (Store.tile 2 0) (recWord 7 3 + 2) [99, 100]))

def c2 : State := {c1 with tally := {}}

theorem witness_Tallies_1 :
    (c1.nextCopy 2 = some pd0 ∧ c1.snRoom 2 ≠ 0 ∧ c1.tileAwake 2 = true ∧ c1.pwr.state = PwrState.run) ∧
    ((∀ (e : OpenEntry), e ∈ c1.tally.entries → e.slot < 32)) ∧
    (c2.reaches Req.host (Page.tile 2) = true ∧ decide ((field 1 0 5 + c2.snCnt 2 - c2.snRd 2) % c2.snCnt 2 = 0 ∧ field 1
      0 5 = c2.snRd 2) = true) ∧
    (c2.reaches Req.host (Page.tile 2) = true ∧ decide ((field 2 0 5 + c2.snCnt 2 - c2.snRd 2) % c2.snCnt 2 = 0 ∧ field 2
      0 5 = c2.snRd 2) = false ∧ field 2 0 5 < c2.snCnt 2 ∧ (field 2 0 5 + c2.snCnt 2 - c2.snRd 2) % c2.snCnt 2 ≤ (c2.tile
      2).snHeld ∧ ((List.range ((field 2 0 5 + c2.snCnt 2 - c2.snRd 2) % c2.snCnt 2)).any fun (i : Nat) ↦
      c2.tally.entries.any fun (e : OpenEntry) ↦ e.tile == 2 && e.slot == (c2.snRd 2 + i) % c2.snCnt 2) = false) ∧
    ((c1.reaches Req.host (Page.tile 2) = true ∧ decide ((field 2 0 5 + c1.snCnt 2 - c1.snRd 2) % c1.snCnt 2 = 0 ∧ field 2
      0 5 = c1.snRd 2) = false ∧ (c1.snCnt 2 ≤ field 2 0 5 ∨ (c1.tile 2).snHeld < (field 2 0 5 + c1.snCnt 2 - c1.snRd 2) %
      c1.snCnt 2 ∨ ((List.range ((field 2 0 5 + c1.snCnt 2 - c1.snRd 2) % c1.snCnt 2)).any fun (i : Nat) ↦
      c1.tally.entries.any fun (e : OpenEntry) ↦ e.tile == 2 && e.slot == (c1.snRd 2 + i) % c1.snCnt 2) = true))) ∧
    (c0.reaches Req.host (Page.tile 2) = true ∧ (c0.tile 2).snHeld = 0 ∧ (((8 * if true = true then c0.snBase 2 else field
      4294901957 3 12) + 1056 * if true = true then max 1 (field 4294901957 0 5) else c0.snCnt 2) ≤ 32768)) := by
  decide +kernel

theorem witness_Tallies_2 :
    (c1.reaches Req.host (Page.tile 2) = true ∧ ((c1.tile 2).snHeld ≠ 0 ∨ 32768 < (8 * if true = true then c1.snBase 2
      else field 2 3 12) + 1056 * if true = true then max 1 (field 2 0 5) else c1.snCnt 2)) := by
  decide +kernel

end Sys2Proof.Tests.G1

namespace Sys2Proof.Tests.G2

def pd0 : Pend := {lane := 40, group := 2, snap := false, gsnap := false, b := 77, bw0 := some 78, seq := 3}

def c0 : State := { ((up.wrs [(Reg.talgGscfg, 5), (Reg.tileSncnt 2, 4), (Reg.tileSnrd 2,1), (Reg.tileSnwr 2, 3)]).setMapEntry 40 (mkMap 2 7 false)) with time := {fab := 5000, w0 := 10^9}, tally := {pend := [pd0], entries := [{tile := 2, slot := 1, lane := 40, group := 2, snap := false, b := 5, bw0 := some 6},{tile := 2, slot := 2, lane := 40, group := 2, snap := false, b := 5, bw0 := none}]} }

def c3 : State := {c0 with tally := {gsnap := some 7, pend := [pd0], entries := c0.tally.entries}}

def cSl : State := {c3 with pwr := {c3.pwr with state := .sleep}}

def st_1 : State := c3.wrs [(Reg.hdrSnapsta 0x68, 1)]

theorem witness_Snapshots :
    ((c3.tally.gsnap = some 7 ∧ 7 ≤ c3.time.w0 ∧ c3.pwr.state = PwrState.run ∧ (∀ (e : OpenEntry), e ∈ c3.tally.entries →
      e.tile < 128 ∧ e.slot < 32))) ∧
    (cSl.tally.gsnap = some 7 ∧ 7 ≤ cSl.time.w0 ∧ cSl.pwr.state ≠ PwrState.run) ∧
    ((pageKind? 104).isSome = true ∧ st_1.reaches (Req.core 3) 104 = true) ∧
    (c3.reaches Req.host Page.talg = true) := by
  decide +kernel

end Sys2Proof.Tests.G2

namespace Sys2Proof.Tests.G3

def stB : StreamSt := {bank0 := {state := .empty, len := 29, header := 0}, fill := some 0, bank1 := {state := .spilling, len := 16, header := 5}}

def st0 : State := {((up.wrs [(Reg.strmScfg 2, 0x13)]).setStream 2 stB).onCore 9 (fun c => ((((c.setDev Dev.apstr 2 false).setDev Dev.aplen 5 false).setDev Dev.apbuf 7 false).setDev (Dev.apbuf+1) 8 false)) with time := {fab := 10^10, w0 := 10^9}}

def stF : State := st0.onCore 9 (fun c => c.setDev Dev.aplen 0 true)

def stN : State := st0.setStream 2 {stB with fill := none}

def st1 : State := st0.setStream 2 {bank0 := {state := .empty, len := 0, header := 0}, bank1 := {state := .closed, len := 16, header := 5}}

def st2 : State := st0.wrs [(Reg.flcFctl, 0x11), (Reg.flcHcfg, 0x11), (Reg.flcHblk, 0x00100001)]

def stS : State := {st1 with time := {fab := 5}}

def ev0 : BitVec 64 := 0x5123456789ABCDEF

def a0 : State := ((((up.wrs [(Reg.alqActl, 0x00001001)]).setMapEntry 40 (mkMap 4 7 false)).writeWords (Store.tile 4 0) (ctxWord 7 + 8) [0x0000000000130040]).onCore 9 (fun c => (((c.setDev (Dev.alpt+1) 10 false)).setDev Dev.alpri 0x80 false).setDev Dev.alkind 9 false)) 

def aP (c : Option Nat) : State := {a0 with alarmPosts := [{req := 9, entry := ev0, core := c}]}

def a1 : State := {a0 with alarms := [(0,5),(1,2)]}

def a2 (c : Option Nat) : State := {aP c with alarms := (List.range 2048).map (fun i => (i, 3))}

def p0 (c : Option Nat) : AlarmPost := {req := 9, entry := ev0, core := c}

def st_1 : State := a0.writeWords (Store.tile 4 0) (ctxWord 7 + 8) [0x30]

def st_2 : State := a0.setMapEntry 40 0

def st_4 : State := {aP (some 9) with alarms := [(0,3)]}

def st_5 : State := (aP (some 9)).wrs [(Reg.alqActl, 0x00081001)]

theorem witness_Streams_1 :
    (stF.canAsk (Req.core 9) = true ∧ (stF.core 9).devNat Dev.apstr 1 = 2 ∧ stF.streamOn 2 = true ∧ (decide (1 ≤ (stF.core
      9).devNat Dev.aplen 1) && decide ((stF.core 9).devNat Dev.aplen 1 ≤ 64) && (!stF.rb (Reg.strmScfg 2) 3 || decide
      ((stF.core 9).devNat Dev.aplen 1 = 16))) = false) ∧
    (stN.canAsk (Req.core 9) = true ∧ (stN.core 9).devNat Dev.apstr 1 = 2 ∧ stN.streamOn 2 = true ∧ (decide (1 ≤ (stN.core
      9).devNat Dev.aplen 1) && decide ((stN.core 9).devNat Dev.aplen 1 ≤ 64) && (!stN.rb (Reg.strmScfg 2) 3 || decide
      ((stN.core 9).devNat Dev.aplen 1 = 16))) = true ∧ (((if Option.any (fun (b : Nat) ↦ decide (32768 <
      ((((stN.landClose 2).landClose 2).stream 2).bank b).len + (stN.core 9).devNat Dev.aplen 1)) (((stN.landClose
      2).landClose 2).stream 2).fill = true then ((stN.landClose 2).landClose 2).closeBank 2 0 none else (stN.landClose
      2).landClose 2).stream 2).fill = none)) := by
  decide +kernel

theorem witness_Streams_2 :
    (st0.canAsk (Req.core 9) = true ∧ (st0.core 9).devNat Dev.apstr 1 = 2 ∧ st0.streamOn 2 = true ∧ 0 < 2 ∧ (decide (1 ≤
      (st0.core 9).devNat Dev.aplen 1) && decide ((st0.core 9).devNat Dev.aplen 1 ≤ 64) && (!st0.rb (Reg.strmScfg 2) 3 ||
      decide ((st0.core 9).devNat Dev.aplen 1 = 16))) = true ∧ (((if Option.any (fun (b : Nat) ↦ decide (32768 <
      ((((st0.landClose 2).landClose 2).stream 2).bank b).len + (st0.core 9).devNat Dev.aplen 1)) (((st0.landClose
      2).landClose 2).stream 2).fill = true then ((st0.landClose 2).landClose 2).closeBank 2 0 none else (st0.landClose
      2).landClose 2).stream 2).fill = some 0) ∧ ((((if Option.any (fun (b : Nat) ↦ decide (32768 < ((((st0.landClose
      2).landClose 2).stream 2).bank b).len + (st0.core 9).devNat Dev.aplen 1)) (((st0.landClose 2).landClose 2).stream
      2).fill = true then ((st0.landClose 2).landClose 2).closeBank 2 0 none else (st0.landClose 2).landClose 2).stream
      2).bank 0).len + (st0.core 9).devNat Dev.aplen 1 ≤ 32768)) ∧
    (st0.reaches Req.host Page.strm = true ∧ st0.pageEn Page.strm = true ∧ 0 < 2 ∧ (st0.stream 2).fill = some 0 ∧
      ((st0.stream 2).bank 0).len ≠ 0) ∧
    (st1.reaches Req.host Page.strm = true ∧ st1.pageEn Page.strm = true ∧ 0 < 2 ∧ (st1.stream 2).fill = some 0 ∧
      ((st1.stream 2).bank 0).len = 0) ∧
    (stN.reaches Req.host Page.strm = true ∧ stN.pageEn Page.strm = true ∧ (stN.stream 2).fill = none) := by
  decide +kernel

theorem witness_Streams_3 :
    (st1.closedBank 2 = some 1 ∧ (st1.pwr.state == PwrState.run && (st1.rb (Reg.strmScfg 2) 4 || st1.streamDest 2 == 3) &&
      decide (400000 * st1.rf (Reg.strmSpilltmo 2) 0 24 < st1.time.fab - ((st1.stream 2).bank 1).closedAt)) = true) ∧
    (stS.closedBank 2 = some 1 ∧ (stS.pwr.state == PwrState.run && (stS.rb (Reg.strmScfg 2) 4 || stS.streamDest 2 == 3) &&
      decide (400000 * stS.rf (Reg.strmSpilltmo 2) 0 24 < stS.time.fab - ((stS.stream 2).bank 1).closedAt)) = false) ∧
    (st2.bankIn 2 BankState.spilling = some 1 ∧ (st2.rb Reg.flcFctl 0 && st2.pageLive Page.flc && st2.histOn && decide
      (st2.flash.stageLen + (st2.historyRecord 2 1).fst.length ≤ 8192) && (decide (st2.hblk0 < st2.hblk1) && (st2.rb
      Reg.flcHcfg 4 || decide (st2.flash.stageLen + (st2.historyRecord 2 1).fst.length ≤ st2.histRoom)))) = true) ∧
    (stN.bankIn 2 BankState.spilling = some 1 ∧ (stN.rb Reg.flcFctl 0 && stN.pageLive Page.flc && stN.histOn && decide
      (stN.flash.stageLen + (stN.historyRecord 2 1).fst.length ≤ 8192) && (decide (stN.hblk0 < stN.hblk1) && (stN.rb
      Reg.flcHcfg 4 || decide (stN.flash.stageLen + (stN.historyRecord 2 1).fst.length ≤ stN.histRoom)))) = false) := by
  decide +kernel

theorem witness_Alarms_1 :
    (st_1.canAsk (Req.core 9) = true ∧ (mapValid ((st_1.drainStores 9).mapEntry (((st_1.drainStores 9).core 9).devNat
      Dev.alpt 3 % 2 ^ 20 / 64)) && mapTile ((st_1.drainStores 9).mapEntry (((st_1.drainStores 9).core 9).devNat Dev.alpt
      3 % 2 ^ 20 / 64)) == 9 / 2) = true ∧ ((st_1.drainStores 9).slotByte (mapTile ((st_1.drainStores 9).mapEntry
      (((st_1.drainStores 9).core 9).devNat Dev.alpt 3 % 2 ^ 20 / 64))) (mapLane ((st_1.drainStores 9).mapEntry
      (((st_1.drainStores 9).core 9).devNat Dev.alpt 3 % 2 ^ 20 / 64))) (((st_1.drainStores 9).core 9).devNat Dev.alpt 3 %
      2 ^ 20 % 64) 2).testBit 4 = false) ∧
    (st_2.canAsk (Req.core 9) = true ∧ (mapValid ((st_2.drainStores 9).mapEntry (((st_2.drainStores 9).core 9).devNat
      Dev.alpt 3 % 2 ^ 20 / 64)) && mapTile ((st_2.drainStores 9).mapEntry (((st_2.drainStores 9).core 9).devNat Dev.alpt
      3 % 2 ^ 20 / 64)) == 9 / 2) = false ∧ (BitVec.toNat (((st_2.drainStores 9).core 9).devByte Dev.alpri)).testBit 7 =
      true) := by
  decide +kernel

theorem witness_Alarms_2 :
    ((a0.canAsk (Req.core 9) = true ∧ ((mapValid ((a0.drainStores 9).mapEntry (((a0.drainStores 9).core 9).devNat Dev.alpt
      3 % 2 ^ 20 / 64)) && mapTile ((a0.drainStores 9).mapEntry (((a0.drainStores 9).core 9).devNat Dev.alpt 3 % 2 ^ 20 /
      64)) == 9 / 2) = true ∧ ((a0.drainStores 9).slotByte (mapTile ((a0.drainStores 9).mapEntry (((a0.drainStores 9).core
      9).devNat Dev.alpt 3 % 2 ^ 20 / 64))) (mapLane ((a0.drainStores 9).mapEntry (((a0.drainStores 9).core 9).devNat
      Dev.alpt 3 % 2 ^ 20 / 64))) (((a0.drainStores 9).core 9).devNat Dev.alpt 3 % 2 ^ 20 % 64) 2).testBit 4 = true ∨
      (mapValid ((a0.drainStores 9).mapEntry (((a0.drainStores 9).core 9).devNat Dev.alpt 3 % 2 ^ 20 / 64)) && mapTile
      ((a0.drainStores 9).mapEntry (((a0.drainStores 9).core 9).devNat Dev.alpt 3 % 2 ^ 20 / 64)) == 9 / 2) = false ∧
      (BitVec.toNat (((a0.drainStores 9).core 9).devByte Dev.alpri)).testBit 7 = false))) ∧
    (st_4.alarmPosts = [p0 (some 9)] ∧ st_4.alarmsOn = true ∧ (decide (2048 ≤ st_4.alarms.length) || decide (st_4.rf
      Reg.alqActl 12 4 < natField (p0 (some 9)).entry.toNat 60 4) && decide (2048 - st_4.alarmResv ≤ st_4.alarms.length))
      = false ∧ st_4.unarmed = true) := by
  decide +kernel

theorem witness_Alarms_3 :
    (st_4.alarmPosts = [p0 (some 9)] ∧ st_4.alarmsOn = true ∧ (decide (2048 ≤ st_4.alarms.length) || decide (st_4.rf
      Reg.alqActl 12 4 < natField (p0 (some 9)).entry.toNat 60 4) && decide (2048 - st_4.alarmResv ≤ st_4.alarms.length))
      = false ∧ (p0 (some 9)).core = some 9) ∧
    ((aP none).alarmPosts = [p0 none] ∧ (aP none).alarmsOn = true ∧ (decide (2048 ≤ (aP none).alarms.length) || decide
      ((aP none).rf Reg.alqActl 12 4 < natField (p0 none).entry.toNat 60 4) && decide (2048 - (aP none).alarmResv ≤ (aP
      none).alarms.length)) = false ∧ (p0 none).core = none) ∧
    (st_5.alarmPosts = [p0 (some 9)] ∧ st_5.alarmsOn = true ∧ (decide (2048 ≤ st_5.alarms.length) || decide (st_5.rf
      Reg.alqActl 12 4 < natField (p0 (some 9)).entry.toNat 60 4) && decide (2048 - st_5.alarmResv ≤ st_5.alarms.length))
      = false ∧ st_5.alarms = []) ∧
    (st_5.alarmPosts = [p0 (some 9)] ∧ st_5.alarmsOn = true ∧ (decide (2048 ≤ st_5.alarms.length) || decide (st_5.rf
      Reg.alqActl 12 4 < natField (p0 (some 9)).entry.toNat 60 4) && decide (2048 - st_5.alarmResv ≤ st_5.alarms.length))
      = false ∧ natField (p0 (some 9)).entry.toNat 60 4 ≤ st_5.rf Reg.alqActl 16 4) := by
  decide +kernel

theorem witness_Alarms_4 :
    ((a2 (some 9)).alarmPosts = [p0 (some 9)] ∧ (a2 (some 9)).alarmsOn = true ∧ (decide (2048 ≤ (a2 (some
      9)).alarms.length) || decide ((a2 (some 9)).rf Reg.alqActl 12 4 < natField (p0 (some 9)).entry.toNat 60 4) && decide
      (2048 - (a2 (some 9)).alarmResv ≤ (a2 (some 9)).alarms.length)) = true ∧ (p0 (some 9)).core = some 9) ∧
    ((a2 none).alarmPosts = [p0 none] ∧ (a2 none).alarmsOn = true ∧ (decide (2048 ≤ (a2 none).alarms.length) || decide
      ((a2 none).rf Reg.alqActl 12 4 < natField (p0 none).entry.toNat 60 4) && decide (2048 - (a2 none).alarmResv ≤ (a2
      none).alarms.length)) = true ∧ (p0 none).core = none) ∧
    ({ req := 3, entry := (p0 none).entry, core := (p0 none).core : AlarmPost }.req < { req := 7, entry := (p0 none).entry, core := (p0 none).core : AlarmPost }.req) ∧
    (a1.alarmCyc.cyc ≠ a1.time.fab + 1 ∧ a1.alarms ≠ []) ∧
    (a0.alarmCyc.cyc ≠ a0.time.fab + 1 ∧ a0.alarms = []) ∧
    (Req.host.index ≠ (Req.core 3).index) := by
  decide +kernel

theorem witness_Alarms_5 :
    (a1.reaches Req.host Page.alq = true ∧ a1.alarmsSeen.nextAlarm = some (1, 2) ∧ a1.alarmsSeen.clean Store.alarm 1 1 =
      true ∧ 5 < 16) ∧
    (a1.reaches Req.host Page.alq = true ∧ a1.alarmsSeen.nextAlarm = some (1, 2) ∧ a1.alarmsSeen.clean Store.alarm 1 1 =
      true ∧ a1.alarmsOn = true) ∧
    (a0.reaches Req.host Page.alq = true ∧ a0.alarmsSeen.nextAlarm = none ∧ a0.alarmsOn = true) := by
  decide +kernel

end Sys2Proof.Tests.G3

namespace Sys2Proof.Tests.H1

def l0 : State := {(up.wrs [(Reg.leatStorm 1, 0xF0), (Reg.hdrEvin Page.trip, 0x00000105),(cstaReg 37, 0x00050000),(Reg.talgGscfg,5)]).setChan 37 {fires := [3,4]} with boundary := some 5, time := {fab := 100, w0 := 1000}}

def l3 : State := l0.wrs [(Reg.hdrEvsel Page.trip, 0x105)]

def lL : State := l0.wrs [(Reg.hdrPgctl Page.trip, 5)]

def l1 : State := up.setChan 37 {fires := [0]}

def l2 : State := {l1.wrs [(ccfgReg 37, 0x4003), (Reg.leatLctl, 1)] with time := {fab := 100}}

def lB : State := {up.setChan 3 {refrEnd := 100} with pwr := {up.pwr with state := .hibernate}}

def st_1 : State := l1.setChan 37 {refrEnd := 100}

def d0 : Disp := {lane := 40, wheel := 0, due := 4, cog := 0, core := 0, ticket := false, late := false, held := false, woke := false, sentAt := 4}

def t0 : State := {((up.wrs [(Reg.tileCctl0 5, 3),(Reg.tileEntry0 5, 0x123)]).setMapEntry 40 (mkMap 5 7 false)).setTile 5 {(up.tile 5) with dq := [d0], awake := true} with sent := [(5,d0)], ptab := [(5*4096, 0x2044)], clusters := [(0,{up.cluster 0 with awake := true})]}

def tA : State := t0.setTile 5 {(t0.tile 5) with arrivals := [d0]}

def im (w : CWord) : State := t0.setRaw (Store.tile 5 3) 0 w

def imG : CWord := encodeAt (Store.tile 5 3) 0x123456

def st_3 : State := t0.wrs [(Reg.tileCctl0 5, 0)]

theorem witness_Leat_1 :
    (l0.reaches Req.host Page.leat = true) ∧
    ((l0.reaches Req.host 105 = true ∧ pageKind? 105 = some (PageClass.trip, 0) ∧ hasEvsel PageClass.trip = true ∧ (∀ (e :
      Nat), e < 4 → bitOf 35 (8 + e) = true → field 35 0 8 + e ≤ 255) ∧ (105 = Page.trip → tripLoop 35 (l0.rd (Reg.hdrEvin
      105)) = false))) ∧
    ((l0.reaches Req.host 105 = true ∧ pageKind? 105 = some (PageClass.trip, 0) ∧ hasEvsel PageClass.trip = true ∧ (∃ (e :
      Nat), e < 4 ∧ bitOf 4294908158 (8 + e) = true ∧ 255 < field 4294908158 0 8 + e))) ∧
    ((l0.reaches Req.host 105 = true ∧ pageKind? 105 = some (PageClass.trip, 0) ∧ hasEvsel PageClass.trip = true ∧ 105 =
      Page.trip ∧ (∀ (e : Nat), e < 4 → bitOf 4294906117 (8 + e) = true → field 4294906117 0 8 + e ≤ 255) ∧ tripLoop
      4294906117 (l0.rd (Reg.hdrEvin 105)) = true)) ∧
    (l0.reaches Req.host 105 = true ∧ pageKind? 105 = some (PageClass.trip, 0) ∧ hasEvin PageClass.trip = true ∧ (105 =
      Page.trip → tripLoop (l0.rd (Reg.hdrEvsel 105)) 35 = false)) ∧
    (l3.reaches Req.host 105 = true ∧ 105 = Page.trip ∧ tripLoop (l3.rd (Reg.hdrEvsel 105)) 4294902021 = true) := by
  decide +kernel

theorem witness_Leat_2 :
    (l0.reaches Req.host Page.trip = true ∧ l0.locked Page.trip = false) ∧
    (lL.reaches Req.host Page.trip = true ∧ lL.locked Page.trip = true) ∧
    (l0.reaches Req.host (Page.weir (11 / 8)) = true) ∧
    (l0.reaches Req.host Page.pls = true) ∧
    (l0.reaches Req.host (ccfgReg 37 / 1024) = true) ∧
    ((l0.boundary = some 5 ∧ 5 ≤ l0.time.w0 ∧ (∀ (e : OpenEntry), e ∈ l0.tally.entries → e.tile < 128 ∧ e.slot < 32))) := by
  decide +kernel

theorem witness_Firing :
    ((lB.pwr.state = PwrState.hibernate ∧ (8 ≤ 3 ∨ lB.net < (lB.chan 3).refrEnd))) ∧
    (lB.pwr.state = PwrState.hibernate ∧ 4 < 8 ∧ (lB.chan 4).refrEnd ≤ lB.net) ∧
    (l0.pwr.state ≠ PwrState.hibernate ∧ l0.masked 37 = true) ∧
    (st_1.pwr.state ≠ PwrState.hibernate ∧ st_1.masked 37 = false ∧ st_1.net < (st_1.chan 37).refrEnd) ∧
    (l2.pwr.state ≠ PwrState.hibernate ∧ l2.masked 37 = false ∧ (l2.chan 37).refrEnd ≤ l2.net ∧ bitOf (l2.ccfg 37) 14 =
      true ∧ l2.rf Reg.leatLctl 0 8 ≤ (recentFires l2.net (l2.chan 37).fires).length) ∧
    ((l1.pwr.state ≠ PwrState.hibernate ∧ l1.masked 37 = false ∧ (l1.chan 37).refrEnd ≤ l1.net ∧ (bitOf (l1.ccfg 37) 14 =
      false ∨ (recentFires l1.net (l1.chan 37).fires).length < l1.rf Reg.leatLctl 0 8))) := by
  decide +kernel

theorem witness_Tiles_1 :
    (t0.pwr.state = PwrState.run ∧ t0.nextArrival 5 = some d0 ∧ t0.tileAwake 5 = true ∧ t0.pageEn (Page.tile 5) = true ∧
      t0.pwr.reload.contains 5 = false) ∧
    ((tA.tile 5).arrivals ≠ []) ∧
    (t0.pwr.state = PwrState.run ∧ t0.tileAwake 5 = true ∧ t0.pageEn (Page.tile 5) = true ∧ t0.takes? (2 * 5 + 0) = some
      d0 ∧ (0 = 1 → t0.takes? (2 * 5) = none)) ∧
    (st_3.reaches Req.host (Page.tile 5) = true ∧ st_3.coreRun (st_3.imCore 5) = false ∧ (st_3.core (st_3.imCore 5)).disp
      = none) ∧
    ((t0.reaches Req.host (Page.tile 5) = true ∧ (t0.coreRun (t0.imCore 5) = true ∨ (t0.core (t0.imCore 5)).disp ≠ none))) ∧
    ((im imG).reaches Req.host (Page.tile 5) = true ∧ (im imG).pwr.reload.contains 5 = false ∧ checkAt (Store.tile 5 (3 +
      (im imG).imCore 5 % 2)) ((im imG).rawWord (Store.tile 5 (3 + (im imG).imCore 5 % 2)) ((im imG).imAddr 5)) =
      Found.good 1193046) := by
  decide +kernel

theorem witness_Tiles_2 :
    ((im (imG ^^^ 1)).reaches Req.host (Page.tile 5) = true ∧ (im (imG ^^^ 1)).pwr.reload.contains 5 = false ∧ checkAt
      (Store.tile 5 (3 + (im (imG ^^^ 1)).imCore 5 % 2)) ((im (imG ^^^ 1)).rawWord (Store.tile 5 (3 + (im (imG ^^^
      1)).imCore 5 % 2)) ((im (imG ^^^ 1)).imAddr 5)) = Found.corrected 1193046) ∧
    ((im instrPoison).reaches Req.host (Page.tile 5) = true ∧ (im instrPoison).pwr.reload.contains 5 = false ∧ checkAt
      (Store.tile 5 (3 + (im instrPoison).imCore 5 % 2)) ((im instrPoison).rawWord (Store.tile 5 (3 + (im
      instrPoison).imCore 5 % 2)) ((im instrPoison).imAddr 5)) = Found.poison) ∧
    ((im (imG ^^^ 3)).reaches Req.host (Page.tile 5) = true ∧ (im (imG ^^^ 3)).pwr.reload.contains 5 = false ∧ checkAt
      (Store.tile 5 (3 + (im (imG ^^^ 3)).imCore 5 % 2)) ((im (imG ^^^ 3)).rawWord (Store.tile 5 (3 + (im (imG ^^^
      3)).imCore 5 % 2)) ((im (imG ^^^ 3)).imAddr 5)) = Found.uncorrectable) := by
  decide +kernel

theorem witness_Tiles_3 :
    (t0.reaches Req.host (Page.tile 5) = true ∧ (∀ (e : WriteEntry), e ∈ (t0.core (2 * 5 + 0)).wbuf → e.st / 8 = 5 ∧
      e.word < 2 ^ 40) ∧ (∀ (r : RunDisp), (t0.core (2 * 5 + 0)).disp = some r → r.lidx < 128)) := by
  and_intros <;> first
    | exact Or.inr rfl
    | exact not_mem_place (by decide +kernel)
    | exact not_hpp (by decide +kernel)
    | decide +kernel
    | exact forall_some (by decide +kernel)
    | exact forall_some_pair (by decide +kernel)
    | exact Or.inl (by decide +kernel)
    | exact Or.inr ⟨_, rfl, by decide +kernel⟩

end Sys2Proof.Tests.H1

namespace Sys2Proof.Tests.I1

def mv (lane tile : Nat) : Move := {lane := lane, cls := .firmware, force := false, tile := tile, seat := none, tag := 7}

def h0 : State := { ((up.wrs [(Reg.hopMove0, 40), (Reg.hopHctl, 0), (Reg.hopMapidx, 41)]).setMapEntry 40 (mkMap 5 7 false)) with time := {fab := 4000000000, w0 := 10^9}, ptab := [(5*4096, 0x2044), (6*4096, 0x2044)]}

def hev : State := { h0 with hop := {h0.hop with busy := [(5, 1000000)], outOfTurn := true}}

def h1 : State := {h0 with hop := {h0.hop with fwq := List.replicate 32 (mv 40 6), doneq := [{w0 := 5, w1 := 6},{w0:=8,w1:=9}]}}

def h2 : State := {h1 with hop := {h1.hop with fwq := [mv 40 9]}}

def mg (ph : MigPhase) : Mig := {move := mv 40 6, srcTile := 5, srcLane := 7, dstLane := 3, phase := ph, firstTest := some 5}

def hm (ph : MigPhase) : State := {h0 with hop := {h0.hop with migs := [mg ph]}}

def hmf : State := (hm .testing).wrs [(Reg.hopForbid 0, 0x40)]

def dd : Disp := {lane := 40, wheel := 0, due := 4, cog := 0, core := 0, ticket := false, late := false, held := false, woke := false, sentAt := 4 }

def hp : State := {(hm .testing).wrs [(Reg.hopPinwait, 1), (Reg.hopEval, 100)] with sent := [(5, dd)]}

def hO : State := {(hm .testing) with cores := [(9, {({}:CoreSt) with ppoint := some {point := 40*64+3, fab := 4000000000, accepted := 5, lapsed := false}})]}

def mk1 : Mark := {point := 40*64+3, qual := 5, stale := true}

theorem witness_MovePosts_1 :
    (h1.evalDue = true) ∧
    (hev.hopperOn = true ∧ hev.hop.outOfTurn = true) ∧
    (h0.reaches Req.host Page.hop = true ∧ h0.hop.fwq.length < 32 ∧ (h0.moveTest { lane := h0.rf Reg.hopMove0 0 14, cls := MoveClass.firmware, force := h0.rb Reg.hopMove0 31, tile := field 4294903424 8 7, seat := if bitOf 4294903424 7 = true then none else some (field 4294903424 0 7), tag := field 4294903424 16 8 : Move }
      false = none)) ∧
    (h2.reaches Req.host Page.hop = true ∧ h2.hop.fwq.length < 32 ∧ h2.hop.doneq.length < 32 ∧ (h2.moveTest { lane := h2.rf Reg.hopMove0 0 14, cls := MoveClass.firmware, force := h2.rb Reg.hopMove0 31, tile := field 4294903173 8 7, seat := if bitOf 4294903173 7 = true then none else some (field 4294903173 0 7), tag := field 4294903173 16 8 : Move }
      false = some 7)) ∧
    ((h1.reaches Req.host Page.hop = true ∧ (32 ≤ h1.hop.fwq.length ∨ 32 ≤ h1.hop.doneq.length ∧ (h1.moveTest { lane := h1.rf Reg.hopMove0 0 14, cls := MoveClass.firmware, force := h1.rb Reg.hopMove0 31, tile := field 4294904197 8 7, seat := if bitOf 4294904197 7 = true then none else some (field 4294904197 0 7), tag := field 4294904197 16 8 : Move }
      false).isSome = true))) ∧
    (h1.reaches Req.host Page.hop = true ∧ h1.hop.doneq = [{ w0 := 5, w1 := 6 : MoveDone }, { w0 := 8, w1 := 9 : MoveDone }]) := by
  decide +kernel

theorem witness_MovePosts_2 :
    hev.reaches Req.host Page.hop = true ∧ hev.hop.doneq = [] := by
  decide +kernel

theorem witness_Migrations_1 :
    (h2.nextMove = some (mv 40 9) ∧ h2.hopperOn = true) ∧
    ((hm MigPhase.copied).mig? 40 = some (mg MigPhase.copied) ∧ (mg MigPhase.copied).phase = MigPhase.copied) ∧
    (hO.mig? 40 = some (mg MigPhase.testing) ∧ hO.mayHold (mg MigPhase.testing) = true ∧ hO.moveTest (mg
      MigPhase.testing).move true = none) ∧
    (hmf.mig? 40 = some (mg MigPhase.testing) ∧ hmf.mayHold (mg MigPhase.testing) = true ∧ hmf.moveTest (mg
      MigPhase.testing).move true = some 5 ∧ (mg MigPhase.testing).marks = []) ∧
    (hp.mig? 40 = some (mg MigPhase.testing) ∧ hp.pinDue (mg MigPhase.testing) = true ∧ (mg MigPhase.testing).marks = []) ∧
    ((hm MigPhase.acked).mig? 40 = some (mg MigPhase.acked) ∧ (hm MigPhase.acked).mayFlip (mg MigPhase.acked) = true ∧ (mg
      MigPhase.acked).srcTile < 128 ∧ (mg MigPhase.acked).move.tile < 128 ∧ (mg MigPhase.acked).dstLane < 128 ∧ (mg
      MigPhase.acked).marks = []) := by
  decide +kernel

theorem witness_Migrations_2 :
    ((hm MigPhase.acked).laneHeld (mk1.point / 64) = true ∧ mapValid ((hm MigPhase.acked).mapEntry (mk1.point / 64)) =
      true) ∧
    (h2.laneHeld (mk1.point / 64) = false ∧ mapValid (h2.mapEntry (mk1.point / 64)) = true ∧ h2.tileAwake (mapTile
      (h2.mapEntry (mk1.point / 64))) = true ∧ h2.clean (Store.tile (mapTile (h2.mapEntry (mk1.point / 64))) 0) (recWord
      (mapLane (h2.mapEntry (mk1.point / 64))) (mk1.point % 64)) 1 = true ∧ h2.unarmed = true) ∧
    ((h0.laneHeld (mk1.point / 64) = false ∧ mapValid (h0.mapEntry (mk1.point / 64)) = true ∧ h0.tileAwake (mapTile
      (h0.mapEntry (mk1.point / 64))) = true ∧ h0.clean (Store.tile (mapTile (h0.mapEntry (mk1.point / 64))) 0) (recWord
      (mapLane (h0.mapEntry (mk1.point / 64))) (mk1.point % 64)) 1 = true ∧ h0.unarmed = true ∧ 23 ≠ 18 ∧ (23 < 24 ∨ 32 ≤
      23))) ∧
    (h0.laneHeld (mk1.point / 64) = false ∧ mapValid (h0.mapEntry (mk1.point / 64)) = true ∧ h0.tileAwake (mapTile
      (h0.mapEntry (mk1.point / 64))) = true ∧ h0.clean (Store.tile (mapTile (h0.mapEntry (mk1.point / 64))) 0) (recWord
      (mapLane (h0.mapEntry (mk1.point / 64))) (mk1.point % 64)) 1 = true ∧ 9 < 2 ^ 40 ∧ 9 ≠ recWord (mapLane (h0.mapEntry
      (mk1.point / 64))) (mk1.point % 64)) := by
  decide +kernel

end Sys2Proof.Tests.I1

namespace Sys2Proof.Tests.I2

def h0 : State := { ((up.wrs [(Reg.hopMove0, 40), (Reg.hopHctl, 0), (Reg.hopMapidx, 41)]).setMapEntry 40 (mkMap 5 7 false)) with time := {fab := 4000000000, w0 := 10^9}, ptab := [(5*4096, 0x2044), (6*4096, 0x2044)]}

def fl : Flip := {lane := 40, entry := 3, freed := 4}

def h3 : State := {h0.setMapEntry 40 (mkMap 5 7 true) with hop := {h0.hop with flips := [fl]}}

def h4 : State := {h0 with hop := {h0.hop with prd := some (40*64+3, 9)}}

def h4b : State := h4.setRaw (Store.tile 5 0) (recWord 7 3) poisonWord

def h4d : State := {h4 with hop := {h4.hop with prdDiscard := true}}

def h5 : State := {h0 with hop := {h0.hop with prd := some (41*64+3, 9)}}

def hC : State := h0.onCore 9 (fun c => {c with posted := [(Reg.hopPrdpt, 7)]})

theorem witness_LaneMap_1 :
    (h0.reaches Req.host Page.hop = true ∧ h0.rb Reg.hopHctl 0 = false ∧ h0.hop.migs = [] ∧ (mapValid (field 4294936073 0
      16) && h0.seated.any fun (x : Nat × Nat) ↦ x.fst != h0.rf Reg.hopMapidx 0 14 && x.snd / 256 == field 4294936073 0 16
      / 256 && mapLane x.snd == mapLane (field 4294936073 0 16)) = false) ∧
    ((h0.reaches Req.host Page.hop = true ∧ (h0.rb Reg.hopHctl 0 = true ∨ h0.hop.migs ≠ [] ∨ (mapValid (field 4294935815 0
      16) && h0.seated.any fun (x : Nat × Nat) ↦ x.fst != h0.rf Reg.hopMapidx 0 14 && x.snd / 256 == field 4294935815 0 16
      / 256 && mapLane x.snd == mapLane (field 4294935815 0 16)) = true))) ∧
    (h3.hop.flips = [fl]) ∧
    ((hC.core 9).posted = [(Reg.hopPrdpt, 7)]) ∧
    (h4d.hop.prd = some (40 * 64 + 3, 9) ∧ h4d.pointReadReady = true ∧ h4d.hop.prdDiscard = true) ∧
    (h4.hop.prd = some (40 * 64 + 3, 9) ∧ h4.pointReadReady = true ∧ h4.hop.prdDiscard = false ∧ mapValid (h4.mapEntry
      ((40 * 64 + 3) / 64)) = true ∧ h4.clean (Store.tile (mapTile (h4.mapEntry ((40 * 64 + 3) / 64))) 0) (recWord
      (mapLane (h4.mapEntry ((40 * 64 + 3) / 64))) ((40 * 64 + 3) % 64)) 4 = true) := by
  decide +kernel

theorem witness_LaneMap_2 :
    (h4b.hop.prd = some (40 * 64 + 3, 9) ∧ h4b.pointReadReady = true ∧ h4b.hop.prdDiscard = false ∧ mapValid (h4b.mapEntry
      ((40 * 64 + 3) / 64)) = true ∧ h4b.clean (Store.tile (mapTile (h4b.mapEntry ((40 * 64 + 3) / 64))) 0) (recWord
      (mapLane (h4b.mapEntry ((40 * 64 + 3) / 64))) ((40 * 64 + 3) % 64)) 4 = false) ∧
    (h5.hop.prd = some (41 * 64 + 3, 9) ∧ h5.pointReadReady = true ∧ h5.hop.prdDiscard = false ∧ mapValid (h5.mapEntry
      ((41 * 64 + 3) / 64)) = false) := by
  decide +kernel

end Sys2Proof.Tests.I2

namespace Sys2Proof.Tests.I3

def mv (lane tile : Nat) : Move := {lane := lane, cls := .firmware, force := false, tile := tile, seat := none, tag := 7}

def h0 : State := { ((up.wrs [(Reg.hopMove0, 40), (Reg.hopHctl, 0), (Reg.hopMapidx, 41)]).setMapEntry 40 (mkMap 5 7 false)) with time := {fab := 4000000000, w0 := 10^9}, ptab := [(5*4096, 0x2044), (6*4096, 0x2044)]}

def mg (ph : MigPhase) : Mig := {move := mv 40 6, srcTile := 5, srcLane := 7, dstLane := 3, phase := ph, firstTest := some 5}

def hm (ph : MigPhase) : State := {h0 with hop := {h0.hop with migs := [mg ph]}}

def hr (ph : MigPhase) : State := (hm ph).wrs [(Reg.hoplim1Retpend 0, 0x40)]

theorem witness_Migrations :
    ((hm MigPhase.copying).mig? 40 = some (mg MigPhase.copying) ∧ (mg MigPhase.copying).phase = MigPhase.copying ∧ (mg
      MigPhase.copying).srcLane < 128 ∧ (mg MigPhase.copying).dstLane < 128 ∧ (mg MigPhase.copying).move.tile < 128 ∧ (hm
      MigPhase.copying).retPend (mg MigPhase.copying).move.tile = false) ∧
    ((hr MigPhase.copying).mig? 40 = some (mg MigPhase.copying) ∧ (mg MigPhase.copying).phase = MigPhase.copying ∧ (mg
      MigPhase.copying).srcLane < 128 ∧ (mg MigPhase.copying).dstLane < 128 ∧ (mg MigPhase.copying).move.tile < 128 ∧ (hr
      MigPhase.copying).retPend (mg MigPhase.copying).move.tile = true ∧ (mg MigPhase.copying).marks = []) := by
  decide +kernel

end Sys2Proof.Tests.I3

namespace Sys2Proof.Tests.I4

def h0 : State := { ((up.wrs [(Reg.hopMove0, 40), (Reg.hopHctl, 0), (Reg.hopMapidx, 41)]).setMapEntry 40 (mkMap 5 7 false)) with time := {fab := 4000000000, w0 := 10^9}, ptab := [(5*4096, 0x2044), (6*4096, 0x2044)]}

def h6 : State := {((h0.wrs [(Reg.hopHctl, 3)]).setTile 5 {(h0.tile 5) with uncorr := true}).setTile 6 {(h0.tile 6) with waking := true, awake := false} with hop := {h0.hop with retMapDirty := true}}

def h7 : State := (List.range 16).foldl (fun s i => s.setTile (32+i) {awake := false}) h6

def hPd : State := h6.wrs [(Reg.hoplim1Retpend 0, 0x20)]

def hCl (a : Bool) : State := { h6 with clusters := [(3, {awake := a, waking := true}), (4, {awake := false, asked := true})] }

def hRa : State := { hCl false with pwr := { h6.pwr with rampAt := some (h6.time.fab - 3) } }

def hLk : State := h6.wrs [(Reg.hdrPgctl Page.hoplim1, 5)]

theorem witness_Gating_1 :
    ((h6.tile 5).uncorr = true ∧ h6.retired 5 = false ∧ h6.retPend 5 = false) ∧
    ((hPd.tile 5).uncorr = true ∧ (hPd.retired 5 = true ∨ hPd.retPend 5 = true)) ∧
    (h6.mayGateTile 5 = true) ∧
    ((h6.tile 6).waking = true ∧ (h6.cluster (6 / 16)).awake = true) ∧
    (h6.millOn = true) ∧
    (h7.mayGateCluster 2 = true) := by
  decide +kernel

theorem witness_Gating_2 :
    (((hCl false).cluster 4).asked = true ∧ (∀ (d : Nat), d < 4 → ((hCl false).cluster d).asked = false) ∧ (hCl
      false).rampFree = true) ∧
    ((hRa.cluster 4).asked = true ∧ (∀ (d : Nat), d < 4 → (hRa.cluster d).asked = false) ∧ hRa.rampFree = false) ∧
    ((h6.cluster 4).waking = true) ∧
    (h6.hop.retMapDirty = true) ∧
    (h6.reaches Req.host Page.hoplim1 = true ∧ h6.lockedFor Page.hoplim1 = false) ∧
    (hLk.reaches Req.host Page.hoplim1 = true ∧ hLk.lockedFor Page.hoplim1 = true) := by
  decide +kernel

end Sys2Proof.Tests.I4

namespace Sys2Proof.Tests.J1

def fc (op blk pg : Nat) : FlashCmd := {req := 3, op := op, param := false, block := blk, page := pg, target := 5, xfer := 0, first := 0xFFFF, tag := 3, pslc := true, stripe := false, pguard := false, use := 1, ctag := 9}

def q0 : State := up.wrs [(Reg.flcFctl, 0x101), (Reg.flcFcmd0, 7*16384+9)]

def vv (op : Nat) : Word := w32 (op + 0x90*65536+ 7*128)

def q0f : State := {q0 with flash := {q0.flash with queue := List.replicate 32 (fc 1 3 4)}}

def q0n : State := q0.wr Reg.flcFctl 0x100

def q1 : State := {q0 with flash := {q0.flash with running := some (fc 3 7 0)}}

def q2 : State := {q0 with flash := {q0.flash with suspended := some (fc 3 7 0)}}

def q2r : State := {q2 with flash := {q2.flash with running := some (fc 1 8 0)}}

def ask (s : State) (op : Nat) : State := { s with flash := { s.flash with asks := [fc op 7 9] } }

def st_1 : State := q2.wrs [(Reg.flcFcmd0, 7)]

def st (c : FlashCmd) : State := {q0 with words := (Sparse.set (fun _ => 0) q0.words (wordKey (Store.tile 5 0) (0x9000+3)) 0x123), flash := {q0.flash with queue := [c, fc 1 3 3]}}

def str : State := {(st (fc 3 7 2)).wr Reg.flcErate 1 with flash := {(st (fc 3 7 2)).flash with eraseAt := [0]}}

def st_2 : State := st (fc 2 7 255)

def fg : FlashCmd := { fc 2 0 0 with param := true }

def st_3 : State := { q0 with flash := { q0.flash with queue := [fg] } }

theorem witness_FlashPosts_1 :
    (q0.reaches Req.host Page.flc = true ∧ field (vv 1) 0 4 = 1 ∧ q0.flash.queue.length < 32 ∧ (q0.rb Reg.flcFctl 0 &&
      q0.pageEn Page.flc) = true ∧ 1 ≠ 4 ∧ 1 ≠ 5 ∧ (1 = 1 → Option.any (fun (e : FlashCmd) ↦ e.block == (q0.flashCmdOf (if
      3 ≤ field (vv 1 &&& 16713727) 7 4 then putField (vv 1 &&& 16713727) 7 4 (q0.rf Reg.flcFcmd3 7 4) else vv 1 &&&
      16713727)).block && e.param == (q0.flashCmdOf (if 3 ≤ field (vv 1 &&& 16713727) 7 4 then putField (vv 1 &&&
      16713727) 7 4 (q0.rf Reg.flcFcmd3 7 4) else vv 1 &&& 16713727)).param) q0.flash.suspended = false)) ∧
    ((q0.reaches Req.host Page.flc = true ∧ field (vv 4) 0 4 = 4 ∧ q0.flash.queue.length < 32 ∧ (q0.rb Reg.flcFctl 0 &&
      q0.pageEn Page.flc) = true ∧ (4 = 4 ∨ 4 = 5))) ∧
    (q0f.reaches Req.host Page.flc = true ∧ field (vv 7) 0 4 = 7 ∧ 32 ≤ q0f.flash.queue.length) ∧
    (q0n.reaches Req.host Page.flc = true ∧ field (vv 5) 0 4 = 5 ∧ q0n.flash.queue.length < 32 ∧ q0n.flash.doneq.length <
      32 ∧ (q0n.rb Reg.flcFctl 0 && q0n.pageEn Page.flc) = false) := by
  decide +kernel

theorem witness_FlashPosts_2 :
    (st_1.reaches Req.host Page.flc = true ∧ field (vv 1) 0 4 = 1 ∧ st_1.flash.queue.length < 32 ∧ st_1.flash.doneq.length
      < 32 ∧ (st_1.rb Reg.flcFctl 0 && st_1.pageEn Page.flc) = true ∧ (Option.any (fun (e : FlashCmd) ↦ e.block ==
      (st_1.flashCmdOf (if 3 ≤ field (vv 1 &&& 16713727) 7 4 then putField (vv 1 &&& 16713727) 7 4 (st_1.rf Reg.flcFcmd3 7
      4) else vv 1 &&& 16713727)).block && e.param == (st_1.flashCmdOf (if 3 ≤ field (vv 1 &&& 16713727) 7 4 then putField
      (vv 1 &&& 16713727) 7 4 (st_1.rf Reg.flcFcmd3 7 4) else vv 1 &&& 16713727)).param) st_1.flash.suspended = true) ∧
      (st_1.badTarget (st_1.flashCmdOf (if 3 ≤ field (vv 1 &&& 16713727) 7 4 then putField (vv 1 &&& 16713727) 7 4
      (st_1.rf Reg.flcFcmd3 7 4) else vv 1 &&& 16713727)) = false) ∧ (st_1.tileAwake (st_1.flashCmdOf (if 3 ≤ field (vv 1
      &&& 16713727) 7 4 then putField (vv 1 &&& 16713727) 7 4 (st_1.rf Reg.flcFcmd3 7 4) else vv 1 &&& 16713727)).tile =
      true)) ∧
    ((ask q1 4).flash.asks = [fc 4 7 9] ∧ (ask q1 4).flash.doneq.length < 32 ∧ (fc 4 7 9).op = 4 ∧ (ask q1
      4).flash.running = some (fc 3 7 0) ∧ (fc 3 7 0).op = 3 ∧ (ask q1 4).flash.suspCount < (ask q1 4).rf Reg.flcFctl 4 8
      ∧ (ask q1 4).rb Reg.flcFctl 1 = false ∧ ((ask q1 4).flash.queue.any fun (c : FlashCmd) ↦ c.op == 1 && c.block == (fc
      3 7 0).block && c.param == (fc 3 7 0).param) = false) := by
  decide +kernel

theorem witness_FlashPosts_3 :
    ((ask q0 4).flash.asks = [fc 4 7 9] ∧ (ask q0 4).flash.doneq.length < 32 ∧ (fc 4 7 9).op = 4 ∧ Option.any (fun (e :
      FlashCmd) ↦ e.op == 3 && decide ((ask q0 4).flash.suspCount < (ask q0 4).rf Reg.flcFctl 4 8)) (ask q0
      4).flash.running = false) ∧
    ((ask q2 5).flash.asks = [fc 5 7 9] ∧ (ask q2 5).flash.doneq.length < 32 ∧ (fc 5 7 9).op = 5 ∧ (ask q2
      5).flash.suspended = some (fc 3 7 0) ∧ (ask q2 5).flash.running = none ∧ (ask q2 5).pwr.target = none ∧ (ask q2
      5).pwr.state = PwrState.run) ∧
    ((ask q2r 5).flash.asks = [fc 5 7 9] ∧ (ask q2r 5).flash.doneq.length < 32 ∧ (fc 5 7 9).op = 5 ∧ (ask q2r
      5).flash.suspended = some (fc 3 7 0) ∧ (ask q2r 5).flash.running = some (fc 1 8 0)) ∧
    ((ask q0 5).flash.asks = [fc 5 7 9] ∧ (ask q0 5).flash.doneq.length < 32 ∧ (fc 5 7 9).op = 5 ∧ (ask q0
      5).flash.suspended = none) := by
  decide +kernel

theorem witness_FlashStart :
    ((st_2.runnable? = some (fc 2 7 255) ∧ st_2.flashOn = true ∧ st_2.pwr.target = none ∧ st_2.flashRefusal (fc 2 7 255) =
      none ∧ ((fc 2 7 255).op = 3 → (fc 2 7 255).param = false → st_2.recentErases < max 1 (st_2.rf Reg.flcErate 0 8)) ∧
      ((fc 2 7 255).op = 1 ∨ (fc 2 7 255).op = 2 ∨ (fc 2 7 255).op = 3 ∨ (fc 2 7 255).op = 7))) ∧
    (st_3.runnable? = some fg ∧ st_3.flashOn = true ∧ st_3.pwr.target = none ∧ st_3.flashRefusal fg = some 10 ∧
      st_3.flash.running = none ∧ 10 ≠ 8 ∧ st_3.flash.doneq.length < 32) ∧
    (str.runnable? = some (fc 3 7 2) ∧ str.flashOn = true ∧ str.pwr.target = none ∧ (fc 3 7 2).op = 3 ∧ (fc 3 7 2).param =
      false ∧ str.flashRefusal (fc 3 7 2) = none ∧ max 1 (str.rf Reg.flcErate 0 8) ≤ str.recentErases) ∧
    ((st (fc 6 7 2)).runnable? = some (fc 6 7 2) ∧ (st (fc 6 7 2)).flashOn = true ∧ (st (fc 6 7 2)).pwr.target = none ∧
      (fc 6 7 2).op = 6 ∧ (st (fc 6 7 2)).flash.running = none ∧ (fc 6 7 2).param = false ∧ (fc 6 7 2).block < 16384 ∧ (st
      (fc 6 7 2)).flash.doneq.length < 32) := by
  decide +kernel

end Sys2Proof.Tests.J1

namespace Sys2Proof.Tests.J2

def fc (op blk pg : Nat) : FlashCmd := {req := 3, op := op, param := false, block := blk, page := pg, target := 5, xfer := 0, first := 0xFFFF, tag := 3, pslc := true, stripe := false, pguard := false, use := 1, ctag := 9}

def q0 : State := up.wrs [(Reg.flcFctl, 0x101), (Reg.flcFcmd0, 7*16384+9)]

def sr (c : FlashCmd) : State := {q0 with tiles := [(5, {awake := true})], flash := {q0.flash with running := some c}}

def srp (c : FlashCmd) : State := (sr c).setProgrammed c.key

def srs : State := ({(srp (fc 1 7 3)) with flash := {(srp (fc 1 7 3)).flash with modes := [(7, 2)]}} : State).setProgrammed (7*256+254)

def fp (op : Nat) : FlashCmd := {fc op 1 2 with param := true}

def srT (c : FlashCmd) : State := {sr c with flash := {(sr c).flash with torn := [c.key]}}

def sq : State := {q0 with flash := {q0.flash with doneq := [(4,5),(6,7)]}}

theorem witness_FlashReads_1 :
    (srs.flash.running = some (fc 1 7 3) ∧ (fc 1 7 3).op = 1 ∧ srs.flashOn = true ∧ (fc 1 7 3).target < 2 ^ 19 ∧
      srs.flash.doneq.length < 32 ∧ srs.flash.torn.contains (fc 1 7 3).key = false ∧ 9 < (fc 1 7 3).words) ∧
    ((sr (fp 1)).flash.running = some (fp 1) ∧ (fp 1).op = 1 ∧ (sr (fp 1)).flashOn = true ∧ (fp 1).target < 2 ^ 19 ∧ (sr
      (fp 1)).flash.doneq.length < 32 ∧ (sr (fp 1)).pageProgrammed (fp 1).key = false ∧ (sr (fp 1)).flash.torn.contains
      (fp 1).key = false) ∧
    ((srp (fp 1)).flash.running = some (fp 1) ∧ (fp 1).op = 1 ∧ (srp (fp 1)).flashOn = true ∧ (fp 1).target < 2 ^ 19 ∧
      (srp (fp 1)).flash.doneq.length < 32 ∧ ((srp (fp 1)).pageProgrammed (fp 1).key = true ∨ (srp (fp
      1)).flash.torn.contains (fp 1).key = true) ∧ (sumRead (List.map (fun (i : Nat) ↦ (((srp (fp 1)).wakeServed (fp
      1).tile).pageWords (fp 1)).fst.getD i 0 ^^^ (Option.map (fun (x : Nat × BitVec 72) ↦ x.snd) (List.find? (fun (x :
      Nat × BitVec 72) ↦ x.fst == i) [(5, 4)])).getD 0) (List.range (fp 1).words))).bad = 0) ∧
    (sq.reaches Req.host Page.flc = true ∧ sq.flash.doneq = [(4, 5), (6, 7)]) ∧
    ((sr (fp 1)).reaches Req.host Page.flc = true ∧ (sr (fp 1)).flash.doneq = []) := by
  decide +kernel

theorem witness_FlashReads_2 :
    (srs.flash.running = some (fc 1 7 3) ∧ (fc 1 7 3).op = 1 ∧ srs.flashOn = true ∧ (fc 1 7 3).target < 2 ^ 19 ∧
      srs.flash.doneq.length < 32 ∧ (srs.pageProgrammed (fc 1 7 3).key = true ∨ srs.flash.torn.contains (fc 1 7 3).key =
      true) ∧ ((sumRead (List.map (fun (i : Nat) ↦ ((srs.wakeServed (fc 1 7 3).tile).pageWords (fc 1 7 3)).fst.getD i 0
      ^^^ (Option.map (fun (x : Nat × BitVec 72) ↦ x.snd) (List.find? (fun (x : Nat × BitVec 72) ↦ x.fst == i) [])).getD
      0) (List.range (fc 1 7 3).words))).bad ≠ 0 ∨ true = true) ∧ ((fc 1 7 3).param = false ∧ modeStripe (srs.blockMode
      (fc 1 7 3).block) = true ∧ srs.pageProgrammed ((fc 1 7 3).block * 256 + 254) = true)) ∧
    (srT (fp 1)).flash.running = some (fp 1) ∧ (fp 1).op = 1 ∧ (srT (fp 1)).flashOn = true ∧ (fp 1).target < 2 ^ 19 ∧ (srT
      (fp 1)).flash.doneq.length < 32 ∧ ((srT (fp 1)).pageProgrammed (fp 1).key = true ∨ (srT (fp 1)).flash.torn.contains
      (fp 1).key = true) ∧ ((sumRead (List.map (fun (i : Nat) ↦ (((srT (fp 1)).wakeServed (fp 1).tile).pageWords (fp
      1)).fst.getD i 0 ^^^ (Option.map (fun (x : Nat × BitVec 72) ↦ x.snd) (List.find? (fun (x : Nat × BitVec 72) ↦ x.fst
      == i) [(5, 6)])).getD 0) (List.range (fp 1).words))).bad ≠ 0 ∨ true = true) ∧ ¬((fp 1).param = false ∧ modeStripe
      ((srT (fp 1)).blockMode (fp 1).block) = true ∧ (srT (fp 1)).pageProgrammed ((fp 1).block * 256 + 254) = true) := by
  and_intros <;> first
    | exact Or.inr rfl
    | exact not_mem_place (by decide +kernel)
    | exact not_hpp (by decide +kernel)
    | decide +kernel
    | exact forall_some (by decide +kernel)
    | exact forall_some_pair (by decide +kernel)
    | exact Or.inl (by decide +kernel)
    | exact Or.inr ⟨_, rfl, by decide +kernel⟩

theorem witness_FlashEnds :
    ((sr (fp 2)).flash.running = some (fp 2) ∧ (sr (fp 2)).flashOn = true ∧ (fp 2).req = 3 ∧ (fp 2).block < 16384 ∧ (sr
      (fp 2)).flash.doneq.length < 32 ∧ (fp 2).op = 2) ∧
    ((sr (fc 7 7 3)).flash.running = some (fc 7 7 3) ∧ (sr (fc 7 7 3)).flashOn = true ∧ (fc 7 7 3).req = 3 ∧ (fc 7 7
      3).block < 16384 ∧ (sr (fc 7 7 3)).flash.doneq.length < 32 ∧ (fc 7 7 3).op = 7) ∧
    ((sr (fp 3)).flash.running = some (fp 3) ∧ (sr (fp 3)).flashOn = true ∧ (fp 3).req = 3 ∧ (fp 3).block < 16384 ∧ (sr
      (fp 3)).flash.doneq.length < 32 ∧ (fp 3).op = 3) := by
  decide +kernel

end Sys2Proof.Tests.J2

namespace Sys2Proof.Tests.J3

def q0 : State := up

def j0 : State := (q0.setRaw Store.journal 0x8001 (encodeWord 0x1122334455667788)).wr Reg.jrnJaddr 0x8001

def jw (w : CWord) : State := (q0.setRaw Store.journal 0x8001 w).wr Reg.jrnJaddr 0x8001

def st_1 : State := jw (encodeWord 0x1122334455667788 ^^^ 16)

def st_2 : State := jw (encodeWord 0x1122334455667788 ^^^ 17)

def st_3 : State := j0.wr Reg.jrnJaddr 0

def bs (i : Nat) (st : Nat) (w : CWord) : State := (up.setRaw st i w).wr Reg.eccScrub 1

def b0 : State := up.wrs [(Reg.hoplim1Retire 0, 32)]

def bE : State := {b0.wr (Reg.hdrErrlog 0x106) 0xFFFFFFFF with errs := [(0x105, 5), (0x106, 0x80000007), (0x106, 0x80000008)]}

def st_6 : State := bs 7 40 (encodeWord 5 ^^^ 24)

def st_9 : State := (bs 7 40 3).setTile 5 {awake := false}

def st_10 : State := b0.wr Reg.eccMbsta 1

def st_11 : State := b0.wrs [(Reg.eccMbsta,1),(Reg.eccMbist,5)]

theorem witness_JournalAndScrub_1 :
    (j0.reaches Req.host Page.jrn = true ∧ checkWord (j0.rawWord Store.journal (j0.rf Reg.jrnJaddr 0 19)) = Found.good
      1234605616436508552) ∧
    (st_1.reaches Req.host Page.jrn = true ∧ checkWord (st_1.rawWord Store.journal (st_1.rf Reg.jrnJaddr 0 19)) =
      Found.corrected 1234605616436508552) ∧
    (st_2.reaches (Req.core 3) Page.jrn = true ∧ checkWord (st_2.rawWord Store.journal (st_2.rf Reg.jrnJaddr 0 19)) =
      Found.uncorrectable) ∧
    ((jw poisonWord).reaches Req.host Page.jrn = true ∧ checkWord ((jw poisonWord).rawWord Store.journal ((jw
      poisonWord).rf Reg.jrnJaddr 0 19)) = Found.poison) ∧
    (j0.reaches Req.host Page.jrn = true ∧ j0.mayWriteJournal (j0.rf Reg.jrnJaddr 0 19) = true) ∧
    (st_3.reaches Req.host Page.jrn = true ∧ st_3.mayWriteJournal (st_3.rf Reg.jrnJaddr 0 19) = false) := by
  decide +kernel

theorem witness_JournalAndScrub_2 :
    (st_6.rb Reg.eccScrub 0 = true ∧ st_6.pageLive Page.ecc = true ∧ scrubbed 40 = true ∧ 7 < storeSize 40 ∧ (40 < 1024 →
      (st_6.tile (40 / 8)).awake = true)) ∧
    (st_9.rb Reg.eccScrub 0 = true ∧ st_9.pageLive Page.ecc = true ∧ scrubbed 40 = true ∧ 0 < storeSize 40 ∧ 40 < 1024 ∧
      (st_9.tile (40 / 8)).awake = false) ∧
    (b0.reaches Req.host Page.ecc = true ∧ b0.rb Reg.eccMbsta 0 = false ∧ bitOf 267387141 8 = true ∧ (b0.retired (field
      267387141 0 7) && (b0.lanesOn (field 267387141 0 7)).isEmpty && !b0.coreRun (2 * field 267387141 0 7) && !b0.coreRun
      (2 * field 267387141 0 7 + 1)) = true) ∧
    (b0.reaches Req.host Page.ecc = true ∧ b0.rb Reg.eccMbsta 0 = false ∧ bitOf 267387142 8 = true ∧ (b0.retired (field
      267387142 0 7) && (b0.lanesOn (field 267387142 0 7)).isEmpty && !b0.coreRun (2 * field 267387142 0 7) && !b0.coreRun
      (2 * field 267387142 0 7 + 1)) = false) ∧
    (b0.reaches Req.host Page.ecc = true ∧ b0.rb Reg.eccMbsta 0 = false ∧ bitOf 267386885 8 = false) ∧
    (st_10.reaches Req.host Page.ecc = true ∧ st_10.rb Reg.eccMbsta 0 = true) := by
  decide +kernel

theorem witness_JournalAndScrub_3 :
    (b0.reaches Req.host Page.ecc = true ∧ (b0.errs.all fun (e : Nat × Word) ↦ e.fst != field 267387141 0 14) = true) ∧
    (bE.reaches Req.host Page.ecc = true ∧ List.filter (fun (x : Nat × Word) ↦ x.fst == field 267387142 0 14) bE.errs =
      [(262, 2147483655), (262, 2147483656)]) ∧
    (st_11.rb Reg.eccMbsta 0 = true) := by
  decide +kernel

end Sys2Proof.Tests.J3

namespace Sys2Proof.Tests.K1

def noCrc : Option Byte := none

def ab (a i : Nat) : Byte := BitVec.ofNat 8 (a / 256 ^ i)

def wCrc : State := up.wr Reg.hptHcfg 0x90

def wSlp : State := { up with pwr := { up.pwr with state := .sleep } }

def wd1 : List Byte := [1,2,3,4]

def cr (x : Byte) (a : Nat) : Byte := crc8 (x :: [ab a 0, ab a 1, ab a 2] ++ wd1)

def pf : State := {{up with streams := [(1, {bank0 := {state := .closed, len := 11, header := 0x77}}), (2, {})]}.setRaw Store.stream (bankWord 1 0) (encodeWord 0xABCDEF) with alarms := [(5,3)]}

def pa : State := pf.wr Reg.alqActl 0x1001

def pd : State := pa.wr (Reg.strmScfg 1) 3

def ps : List DWord := [0x77, 0xABCDEF, 0]

def pm : State := { up with host := { up.host with commit := [(Reg.hptScratch, 7, true)] } }

theorem witness_WriteFrames_1 :
    ((up.hostLive = true ∧ (noCrc.isSome = bitOf (if true = true then up.host.cfgWas else up.rd Reg.hptHcfg) 7) ∧ wd1 ++
      wd1 ≠ [] ∧ (wd1 ++ wd1).length % 4 = 0 ∧ (∀ (k : Byte), k ∈ noCrc → crc8 ([2, 252, ab Reg.hptScratch 1, ab
      Reg.hptScratch 2] ++ (wd1 ++ wd1)) = k) ∧ (wd1 ++ wd1).length / 4 ≤ 64 ∧ (252 + 256 * BitVec.toNat (ab
      Reg.hptScratch 1) + 65536 * BitVec.toNat (ab Reg.hptScratch 2)) % 4 = 0 ∧ (2 = 2 → (252 + 256 * BitVec.toNat (ab
      Reg.hptScratch 1) + 65536 * BitVec.toNat (ab Reg.hptScratch 2)) % 1024 + 4 * ((wd1 ++ wd1).length / 4) ≤ 1024) ∧
      pageKind? ((252 + 256 * BitVec.toNat (ab Reg.hptScratch 1) + 65536 * BitVec.toNat (ab Reg.hptScratch 2)) / 1024) =
      some (PageClass.hpt, 0) ∧ up.pageDark PageClass.hpt ((252 + 256 * BitVec.toNat (ab Reg.hptScratch 1) + 65536 *
      BitVec.toNat (ab Reg.hptScratch 2)) / 1024) = false)) ∧
    ((up.hostLive = true ∧ (noCrc.isSome = bitOf (if true = true then up.host.cfgWas else up.rd Reg.hptHcfg) 7) ∧ wd1 ≠ []
      ∧ wd1.length % 4 = 0 ∧ (∀ (k : Byte), k ∈ noCrc → crc8 ([2, 0, 0, 240] ++ wd1) = k) ∧ wd1.length / 4 ≤ 64 ∧ (0 + 256
      * 0 + 65536 * 240) % 4 = 0 ∧ (2 = 2 → (0 + 256 * 0 + 65536 * 240) % 1024 + 4 * (wd1.length / 4) ≤ 1024) ∧ pageKind?
      ((0 + 256 * 0 + 65536 * 240) / 1024) = none)) := by
  decide +kernel

theorem witness_WriteFrames_2 :
    (wSlp.hostLive = true ∧ (noCrc.isSome = bitOf (if true = true then wSlp.host.cfgWas else wSlp.rd Reg.hptHcfg) 7) ∧ wd1
      ≠ [] ∧ wd1.length % 4 = 0 ∧ (∀ (k : Byte), k ∈ noCrc → crc8 ([2, ab Reg.flcFctl 0, ab Reg.flcFctl 1, ab Reg.flcFctl
      2] ++ wd1) = k) ∧ wd1.length / 4 ≤ 64 ∧ (BitVec.toNat (ab Reg.flcFctl 0) + 256 * BitVec.toNat (ab Reg.flcFctl 1) +
      65536 * BitVec.toNat (ab Reg.flcFctl 2)) % 4 = 0 ∧ (2 = 2 → (BitVec.toNat (ab Reg.flcFctl 0) + 256 * BitVec.toNat
      (ab Reg.flcFctl 1) + 65536 * BitVec.toNat (ab Reg.flcFctl 2)) % 1024 + 4 * (wd1.length / 4) ≤ 1024) ∧ pageKind?
      ((BitVec.toNat (ab Reg.flcFctl 0) + 256 * BitVec.toNat (ab Reg.flcFctl 1) + 65536 * BitVec.toNat (ab Reg.flcFctl 2))
      / 1024) = some (PageClass.flc, 0) ∧ wSlp.pageDark PageClass.flc ((BitVec.toNat (ab Reg.flcFctl 0) + 256 *
      BitVec.toNat (ab Reg.flcFctl 1) + 65536 * BitVec.toNat (ab Reg.flcFctl 2)) / 1024) = true) := by
  decide +kernel

theorem witness_WriteFrames_3 :
    ((up.hostLive = true ∧ (noCrc.isSome = bitOf (if true = true then up.host.cfgWas else up.rd Reg.hptHcfg) 7) ∧
      List.replicate 260 5 ≠ [] ∧ (List.replicate 260 5).length % 4 = 0 ∧ (∀ (k : Byte), k ∈ noCrc → crc8 ([2, ab
      Reg.hptScratch 0, ab Reg.hptScratch 1 ||| 3, ab Reg.hptScratch 2] ++ List.replicate 260 5) = k) ∧ ¬(2 = 2 →
      (BitVec.toNat (ab Reg.hptScratch 0) + 256 * BitVec.toNat (ab Reg.hptScratch 1 ||| 3) + 65536 * BitVec.toNat (ab
      Reg.hptScratch 2)) % 1024 + 4 * ((List.replicate 260 5).length / 4) ≤ 1024))) ∧
    ((up.hostLive = true ∧ (noCrc.isSome = bitOf (if true = true then up.host.cfgWas else up.rd Reg.hptHcfg) 7) ∧ wd1 ≠ []
      ∧ wd1.length % 4 = 0 ∧ (∀ (k : Byte), k ∈ noCrc → crc8 ([2, ab (Reg.hptScratch + 1) 0, ab Reg.hptScratch 1, ab
      Reg.hptScratch 2] ++ wd1) = k) ∧ (2 = 2 → (BitVec.toNat (ab (Reg.hptScratch + 1) 0) + 256 * BitVec.toNat (ab
      Reg.hptScratch 1) + 65536 * BitVec.toNat (ab Reg.hptScratch 2)) % 1024 + 4 * (wd1.length / 4) ≤ 1024) ∧
      (BitVec.toNat (ab (Reg.hptScratch + 1) 0) + 256 * BitVec.toNat (ab Reg.hptScratch 1) + 65536 * BitVec.toNat (ab
      Reg.hptScratch 2)) % 4 ≠ 0)) := by
  decide +kernel

theorem witness_WriteFrames_4 :
    ((up.hostLive = true ∧ (noCrc.isSome = bitOf (if true = true then up.host.cfgWas else up.rd Reg.hptHcfg) 7) ∧
      List.replicate 260 5 ≠ [] ∧ (List.replicate 260 5).length % 4 = 0 ∧ (∀ (k : Byte), k ∈ noCrc → crc8 ([3, ab
      Reg.hptScratch 0, ab Reg.hptScratch 1 ||| 3, ab Reg.hptScratch 2] ++ List.replicate 260 5) = k) ∧ (3 = 2 →
      (BitVec.toNat (ab Reg.hptScratch 0) + 256 * BitVec.toNat (ab Reg.hptScratch 1 ||| 3) + 65536 * BitVec.toNat (ab
      Reg.hptScratch 2)) % 1024 + 4 * ((List.replicate 260 5).length / 4) ≤ 1024) ∧ (BitVec.toNat (ab Reg.hptScratch 0) +
      256 * BitVec.toNat (ab Reg.hptScratch 1 ||| 3) + 65536 * BitVec.toNat (ab Reg.hptScratch 2)) % 4 = 0 ∧ 64 <
      (List.replicate 260 5).length / 4)) ∧
    ((wCrc.hostLive = true ∧ ((some (cr 2 Reg.hptScratch)).isSome = bitOf (if false = true then wCrc.host.cfgWas else
      wCrc.rd Reg.hptHcfg) 7) ∧ wd1 ≠ [] ∧ wd1.length % 4 = 0 ∧ ¬∀ (k : Byte), k ∈ some (cr 2 Reg.hptScratch) → crc8 ([3,
      ab Reg.hptScratch 0, ab Reg.hptScratch 1, ab Reg.hptScratch 2] ++ wd1) = k)) ∧
    (up.hostLive = true ∧ (noCrc.isSome = bitOf (if true = true then up.host.cfgWas else up.rd Reg.hptHcfg) 7) ∧ [1, 2,
      3].length % 4 ≠ 0) := by
  decide +kernel

theorem witness_PortFrames_1 :
    (pa.hostLive = true ∧ (BitVec.ofNat 24 (Reg.hptScratch + 2)).toNat % 4 ≠ 0) ∧
    (pm.hostLive = true ∧ (BitVec.ofNat 24 Reg.alqPopl).toNat % 4 = 0) ∧
    (pa.hostLive = true ∧ pa.host.commit = [] ∧ pa.srbusy.contains Page.hpt = false) ∧
    (pa.hostLive = true ∧ 20 ≤ (BitVec.ofNat 24 Reg.hptScratch).toNat) ∧
    (wCrc.hostLive = true ∧ 5 < 20 ∧ 5 % 4 ≠ 0 ∧ [0, 0] = List.replicate 2 0) ∧
    (pa.hostLive = true ∧ 4 = 4 * 1 ∧ 1 < 4 ∧ pa.streamDest 1 = 0 ∧ pa.closedBank 1 = some 0 ∧ pa.clean Store.stream
      (bankWord 1 0) ((((pa.stream 1).bank 0).len + 7) / 8) = true ∧ ps = List.take 3 (BitVec.ofNat 64 ((pa.stream 1).bank
      0).header :: List.map (fun (i : Nat) ↦ wordData (pa.rawWord Store.stream (bankWord 1 0 + i))) (List.range
      ((((pa.stream 1).bank 0).len + 7) / 8))) ∧ 3 = (((pa.stream 1).bank 0).len + 7) / 8 + 1) := by
  decide +kernel

theorem witness_PortFrames_2 :
    (pa.hostLive = true ∧ 4 = 4 * 1 ∧ 1 < 4 ∧ pa.streamDest 1 = 0 ∧ pa.closedBank 1 = some 0 ∧ pa.clean Store.stream
      (bankWord 1 0) ((((pa.stream 1).bank 0).len + 7) / 8) = true ∧ [119, 11259375] = List.take 2 (BitVec.ofNat 64
      ((pa.stream 1).bank 0).header :: List.map (fun (i : Nat) ↦ wordData (pa.rawWord Store.stream (bankWord 1 0 + i)))
      (List.range ((((pa.stream 1).bank 0).len + 7) / 8))) ∧ 2 ≤ (((pa.stream 1).bank 0).len + 7) / 8) ∧
    (pa.hostLive = true ∧ 8 = 4 * 2 ∧ 2 < 4 ∧ pa.streamDest 2 = 0 ∧ pa.closedBank 2 = none ∧ [2, 2] = List.replicate 2
      2#64) ∧
    (pd.hostLive = true ∧ 4 = 4 * 1 ∧ 1 < 4 ∧ pd.streamDest 1 ≠ 0 ∧ 2 ≠ 0 ∧ [1, 1] = List.replicate 2 1#64) ∧
    (pa.hostLive = true ∧ ([1] = [BitVec.ofNat 64 (if pa.alarmsOn = true then pa.alarms.length else 0)])) ∧
    (pa.hostLive = true ∧ ((if pa.alarmsOn = true then pa.alarms.length else 0) ≠ 0) ∧ ([1, (pa.bump
      Reg.hptFrmcnt).laterCycle.popAlarm.fst] = [BitVec.ofNat 64 (if pa.alarmsOn = true then pa.alarms.length else 0),
      (pa.bump Reg.hptFrmcnt).laterCycle.popAlarm.fst])) ∧
    (up.hostLive = true ∧ ((if up.alarmsOn = true then up.alarms.length else 0) = 0) ∧ [0, 0] = List.replicate 2 0) := by
  decide +kernel

theorem witness_PortFrames_3 :
    (pm.hostLive = true ∧ pm.host.commit = [(Reg.hptScratch, 7, true)] ∧ pm.host.appliedAt ≠ some pm.time.fab) ∧
    ((pa.hostLive = true ∧ (pa.host.commit = [] ∨ pa.host.appliedAt = some pa.time.fab))) ∧
    (State.reset.hostLive = false) ∧
    (Reg.hptScratch % 1024 + 4 * 1 < 1024) ∧
    (1024 ≤ Reg.flcFctl % 1024 + 4 * 255) ∧
    (pageKind? (Reg.flcFctl / 1024) = some (PageClass.flc, 0) ∧ wSlp.pageDark PageClass.flc (Reg.flcFctl / 1024) = true) := by
  decide +kernel

end Sys2Proof.Tests.K1

namespace Sys2Proof.Tests.K2

def bt (a : Nat) : PageClass × Nat × RegRow × Nat := (busTarget a).getD (.hpt, 0, (⟨0,0,0,.rw,0,0,false⟩), 0)

def aLock : State := up.setb (Reg.hdrPgctl Page.mon) 2 true

def A (a : Nat) : BitVec 24 := BitVec.ofNat 24 a

def slp : State := { up with pwr := { up.pwr with state := .sleep } }

def aSr : State := { up.wr Reg.flcFctl 7 with srbusy := [Page.flc] }

def gT : State := up.setTile 3 { up.tile 3 with awake := false }

def pm : State := { up with host := { up.host with commit := [(Reg.hptScratch, 7, true)] } }

def aRw : State := { up.wr 1092 0x21 with w1set := [(1092, 1)] }

theorem witness_AccessCodes_1 :
    (aSr.canAsk Req.host = true ∧ aSr.pwr.goWanted = false ∧ aSr.host.ctlWrite = none ∧ aSr.pageOff ((A Reg.flcFctl).toNat
      / 1024) = false ∧ aSr.srbusy.contains ((A Reg.flcFctl).toNat / 1024) = true ∧ (pageKind? ((A Reg.flcFctl).toNat /
      1024)).isSome = true ∧ 8 ≤ (A Reg.flcFctl).toNat % 1024 ∧ (A Reg.flcFctl).toNat % 1024 ≠ 12) ∧
    (gT.canAsk Req.host = true ∧ gT.pwr.goWanted = false ∧ gT.host.ctlWrite = none ∧ pageKind? ((A (259 * 1024 +
      1016)).toNat / 1024) = some (PageClass.tile, 3) ∧ gT.pwr.state = PwrState.run ∧ gT.pageOff ((A (259 * 1024 +
      1016)).toNat / 1024) = true ∧ gT.srbusy.contains ((A (259 * 1024 + 1016)).toNat / 1024) = false ∧ 64 ≤ (A (259 *
      1024 + 1016)).toNat % 1024 ∧ busTarget (A (259 * 1024 + 1016)).toNat = none) ∧
    (slp.canAsk (Req.core 3) = false ∧ slp.pwr.goWanted = false ∧ slp.host.ctlWrite = none) ∧
    (up.reaches Req.host Page.hpt = true) := by
  decide +kernel

theorem witness_AccessCodes_2 :
    (aLock.reaches Req.host ((A Reg.monTlim).toNat / 1024) = true ∧ (∀ (t : Nat), pageKind? ((A Reg.monTlim).toNat / 1024)
      = some (PageClass.tile, t) → aLock.pwr.reload.contains t = false) ∧ busTarget (A Reg.monTlim).toNat = some ((bt
      Reg.monTlim).fst, (bt Reg.monTlim).snd.fst, (bt Reg.monTlim).snd.snd.fst, (bt Reg.monTlim).snd.snd.snd) ∧ ((bt
      Reg.monTlim).snd.snd.fst.access = Access.ro ∨ (bt Reg.monTlim).snd.snd.fst.access = Access.rwl ∧ aLock.lockedFor ((A
      Reg.monTlim).toNat / 1024) = true)) ∧
    (up.reaches Req.host ((A Reg.monThclr).toNat / 1024) = true ∧ (∀ (t : Nat), pageKind? ((A Reg.monThclr).toNat / 1024)
      = some (PageClass.tile, t) → up.pwr.reload.contains t = false) ∧ busTarget (A Reg.monThclr).toNat = some ((bt
      Reg.monThclr).fst, (bt Reg.monThclr).snd.fst, (bt Reg.monThclr).snd.snd.fst, (bt Reg.monThclr).snd.snd.snd) ∧ (bt
      Reg.monThclr).snd.snd.fst.access = Access.wo) ∧
    (aRw.reaches Req.host ((A 1092).toNat / 1024) = true ∧ (∀ (t : Nat), pageKind? ((A 1092).toNat / 1024) = some
      (PageClass.tile, t) → aRw.pwr.reload.contains t = false) ∧ busTarget (A 1092).toNat = some ((bt 1092).fst, (bt
      1092).snd.fst, (bt 1092).snd.snd.fst, (bt 1092).snd.snd.snd) ∧ (bt 1092).snd.snd.fst.access = Access.rw1c ∧ (bt
      1092).fst ≠ PageClass.leat ∧ (bt 1092).fst ≠ PageClass.hoplim1) ∧
    (up.reaches Req.host ((A (1024 * Page.mon + 1020)).toNat / 1024) = true ∧ (∀ (t : Nat), pageKind? ((A (1024 * Page.mon
      + 1020)).toNat / 1024) = some (PageClass.tile, t) → up.pwr.reload.contains t = false) ∧ busTarget (A (1024 *
      Page.mon + 1020)).toNat = none ∧ 64 ≤ (A (1024 * Page.mon + 1020)).toNat % 1024) ∧
    (up.reaches (Req.core 5) ((A Reg.gpioGpull).toNat / 1024) = true ∧ (∀ (t : Nat), pageKind? ((A Reg.gpioGpull).toNat /
      1024) = some (PageClass.tile, t) → up.pwr.reload.contains t = false)) ∧
    (up.reaches (Req.core 5) ((A Reg.gpioGpull).toNat / 1024) = true ∧ (∀ (t : Nat), pageKind? ((A Reg.gpioGpull).toNat /
      1024) = some (PageClass.tile, t) → up.pwr.reload.contains t = false) ∧ 5 ≠ 4) := by
  and_intros <;> first
    | exact Or.inr rfl
    | exact not_mem_place (by decide +kernel)
    | exact not_hpp (by decide +kernel)
    | decide +kernel
    | exact forall_some (by decide +kernel)
    | exact forall_some_pair (by decide +kernel)
    | exact Or.inl (by decide +kernel)
    | exact Or.inr ⟨_, rfl, by decide +kernel⟩

theorem witness_AccessCodes_3 :
    (slp.canAsk Req.host = true ∧ slp.pwr.goWanted = false ∧ slp.host.ctlWrite = none ∧ (∀ (k : PageClass × Nat),
      pageKind? ((A Reg.flcFctl).toNat / 1024) = some k → slp.pageDark k.fst ((A Reg.flcFctl).toNat / 1024) = true)) := by
  and_intros <;> first
    | exact Or.inr rfl
    | exact not_mem_place (by decide +kernel)
    | exact not_hpp (by decide +kernel)
    | decide +kernel
    | exact forall_some (by decide +kernel)
    | exact forall_some_pair (by decide +kernel)
    | exact Or.inl (by decide +kernel)
    | exact Or.inr ⟨_, rfl, by decide +kernel⟩

theorem witness_PageHeaders :
    ((pageKind? 0 = some (PageClass.dev, 0) ∧ up.reaches Req.host 0 = true ∧ (bitOf 15 1 = false ∨ noSoftReset
      PageClass.dev 0 = true))) ∧
    (pageKind? 0 = some (PageClass.dev, 0) ∧ up.reaches Req.host 0 = true ∧ noSoftReset PageClass.dev 0 = true) ∧
    (pageKind? 3 = some (PageClass.mon, 0) ∧ up.reaches Req.host 3 = true ∧ noSoftReset PageClass.mon 0 = false ∧
      (PageClass.mon = PageClass.hpt → Req.host ≠ Req.host)) ∧
    (pageKind? 1 = some (PageClass.hpt, 0) ∧ up.reaches Req.host 1 = true ∧ up.host.commit = []) ∧
    (pageKind? 1 = some (PageClass.hpt, 0) ∧ pm.reaches Req.host 1 = true ∧ pm.host.commit ≠ []) := by
  decide +kernel

end Sys2Proof.Tests.K2

namespace Sys2Proof.Tests.L1

def run0 : State := {up.wrs [(Reg.pwrAlml, 77), (Reg.gpioGin, 5), (Reg.flcErate, 9)] with rtc := {sec := 50}, words := [(wordKey 3 4, 7), (wordKey Store.journal 5, 9)]}

def wd : State := {run0.wr Reg.devWdctl 0x103E8 with mon := {wd := 100}}

def wd0 : State := {run0.wr Reg.devWdctl 0x103E8 with mon := {wd := 0}}

def lowR : State := {run0 with mon := {lowAt := [(3, 5)]}, time := {fab := 900}}

def lowH : State := {lowR with pwr := {lowR.pwr with state := .hibernate}}

def z := State.reset

def z1 : State := {z.setf Reg.bootBsta 0 4 2 with pwr := {z.pwr with pwren := true}, time := {fab := 400000}}

def zo : State := {z with pwr := {z.pwr with offUntil := 9}}

def z6 : State := {z.setf Reg.bootBsta 0 4 6 with pwr := {z.pwr with cfgdef := true}}

theorem witness_StartUp_1 :
    ((lowR.pwr.state ≠ PwrState.hibernate ∧ ((∃ (x : Nat × Nat), x ∈ lowR.mon.lowAt ∧ x.fst ∈ [0, 1, 3, 5] ∧ x.snd + 800 ≤
      lowR.time.fab) ∨ ∃ (f : Nat), lowR.pwr.pgoodFell = some f ∧ f + 800 ≤ lowR.time.fab))) ∧
    ((lowH.pwr.state = PwrState.hibernate ∨ ¬((∃ (x : Nat × Nat), x ∈ lowH.mon.lowAt ∧ x.fst ∈ [0, 1, 3, 5] ∧ x.snd + 800
      ≤ lowH.time.fab) ∨ ∃ (f : Nat), lowH.pwr.pgoodFell = some f ∧ f + 800 ≤ lowH.time.fab))) ∧
    (wd0.dogRuns = true ∧ wd0.mon.wd = 0) ∧
    (wd.dogRuns = true ∧ wd.mon.warned = false ∧ 2 * wd.mon.wd ≤ 400000 * max 1 (wd.rf Reg.devWdctl 0 16)) ∧
    ((wd.dogRuns = false ∨ wd.mon.wd ≠ 0)) ∧
    (wd.reaches Req.host Page.dev = true ∧ field 16765413 0 16 = 53733) := by
  decide +kernel

theorem witness_StartUp_2 :
    (wd.reaches Req.host Page.dev = true ∧ field 53732 0 16 ≠ 53733) ∧
    (wd.reaches Req.host Page.dev = true ∧ field 42435 0 16 = 42435) ∧
    (wd.reaches Req.host Page.dev = true ∧ field 53732 0 16 ≠ 42435) ∧
    (z.pwr.booting = true ∧ z.pwr.pwren = false ∧ z.rf Reg.bootBsta 0 4 ≤ 2 ∧ z.pwr.offUntil ≤ z.time.fab) ∧
    (zo.pwr.booting = true ∧ zo.pwr.pwren = false ∧ zo.rf Reg.bootBsta 0 4 ≤ 2 ∧ zo.time.fab < zo.pwr.offUntil) ∧
    ((z1.pwr.booting = true ∧ z1.pwr.pwren = true ∧ z1.rf Reg.bootBsta 0 4 = 2 ∧ z1.pwr.onAt + 400000 ≤ z1.time.fab ∧ (1 =
      1 ∨ 1 = 3 ∨ 1 = 2 ∧ (1 == 3 || 1 == 2 && z1.fuses.prodlock) = false))) := by
  decide +kernel

theorem witness_StartUp_3 :
    ((z1.pwr.booting = true ∧ z1.pwr.pwren = true ∧ z1.rf Reg.bootBsta 0 4 = 2 ∧ z1.pwr.onAt + 400000 ≤ z1.time.fab ∧ (0 =
      0 ∨ 0 = 2 ∧ (0 == 3 || 0 == 2 && z1.fuses.prodlock) = true))) ∧
    (z6.pwr.booting = true ∧ z6.rf Reg.bootBsta 0 4 = 6 ∧ z6.reaches Req.host Page.boot = true ∧ z6.pwr.cfgdef = true) ∧
    (up.pwr.booting = false ∧ up.reaches (Req.core 3) Page.boot = true) := by
  decide +kernel

end Sys2Proof.Tests.L1

namespace Sys2Proof.Tests.L2

def p0 : State := up.wrs [(Reg.pwrPssta, 0), (Reg.flcFctl, 0x101), (Reg.pwrCksta, 4), (Reg.flcCkblk, 44*65536 + 100)]

def slp : State := {p0 with pwr := {p0.pwr with state := .sleep}}

def qS : State := {p0 with pwr := {p0.pwr with target := some .sleep, since := 0}, ports := [(16, {link := true})], time := {fab := 10^9}}

def qH : State := {qS with pwr := {qS.pwr with target := some .hibernate, since := 0}, streams := [(1, {bank0 := {len := 16}, fill := some 0})]}

def qW : State := qS.wrs [(Reg.pwrPssta, 0x100), (Reg.pwrWakesrc, 4)]

def qF : State := {qS with flash := {qS.flash with running := some {req := 3, op := 1, param := false, block := 0, page := 0, target := 5, xfer := 0, first := 0xFFFF, tag := 3, pslc := true, stripe := false, pguard := false, use := 1, ctag := 9}}}

def qF0 : State := {qF with time := {}}

def wS : State := slp.wr Reg.pwrWakecfg 0xB

def wH : State := {wS with pwr := {wS.pwr with state := .hibernate}}

def wT : State := {wS with pwr := {wS.pwr with state := .run, target := some .sleep}}

def wE : State := {wS with pwr := {wS.pwr with state := .run, target := some .hibernate, entering := true, ck := some ⟨3, 0, 5, true⟩}}

def wR : State := {wS with pwr := {wS.pwr with state := .run}}

def wD : State := slp.wr Reg.pwrWakecfg 0xA

def wF : State := slp.wr Reg.pwrWakecfg 0x2000B

theorem witness_PowerRequests_1 :
    (p0.reaches Req.host Page.pwr = true ∧ p0.psreqRefusal (2 == 3) = 0) ∧
    ((slp.reaches Req.host Page.pwr = true ∧ slp.psreqRefusal (3 == 3) ≠ 0 ∧ (3 = 3 ∨ slp.pwr.state ≠ PwrState.sleep))) ∧
    (slp.reaches Req.host Page.pwr = true ∧ slp.pwr.state = PwrState.sleep) ∧
    ((slp.reaches Req.host Page.pwr = true ∧ (slp.pwr.target.isSome = true ∨ slp.pwr.booting = true ∨ slp.pwr.state ≠
      PwrState.run))) ∧
    (p0.reaches Req.host Page.pwr = true ∧ p0.psreqRefusal (3 == 3) = 0) ∧
    (qS.reaches Req.host Page.pwr = true ∧ qS.pwr.state = PwrState.run ∧ qS.pwr.target = some PwrState.sleep) := by
  decide +kernel

theorem witness_PowerRequests_2 :
    (p0.reaches Req.host Page.pwr = true ∧ p0.pwr.state ≠ PwrState.sleep ∧ p0.pwr.target ≠ some PwrState.sleep) ∧
    (p0.reaches (Req.core 3) Page.hop = true) ∧
    (qS.pwr.target = some PwrState.sleep ∧ qS.pwr.entering = false ∧ qS.quiet = true ∧ qS.rb Reg.pwrPssta 8 = false) ∧
    (qW.pwr.target = some PwrState.sleep ∧ qW.pwr.entering = false ∧ qW.quiet = true ∧ qW.rb Reg.pwrPssta 8 = true ∧ qW.rd
      Reg.pwrWakesrc = w32 (2 ^ 2)) ∧
    (qH.pwr.target = some PwrState.hibernate ∧ qH.pwr.entering = false ∧ qH.quiet = true ∧ PwrState.hibernate ≠
      PwrState.sleep) ∧
    (qF.pwr.target = some PwrState.sleep ∧ qF.pwr.entering = false ∧ qF.quiet = false ∧ qF.pwr.since + 400 * qF.rf
      Reg.pwrSlptmo 0 20 ≤ qF.time.fab) := by
  decide +kernel

theorem witness_PowerRequests_3 :
    (qF0.pwr.target = some PwrState.sleep ∧ qF0.pwr.entering = false ∧ qF0.quiet = false ∧ qF0.time.fab < qF0.pwr.since +
      400 * qF0.rf Reg.pwrSlptmo 0 20) ∧
    (wS.pwr.wakeRaw.testBit 0 = false) ∧
    ((wF.pwr.wakeRaw.testBit 0 ≠ true ∧ (wF.rf Reg.pwrWakecfg 16 4 ≠ 0 ∨ (wF.pwr.wakeLevel.testBit 0 != true) = false))) ∧
    (wS.pwr.wakeRaw.testBit 1 ≠ true ∧ wS.rf Reg.pwrWakecfg 16 4 = 0 ∧ (wS.pwr.wakeLevel.testBit 1 != true) = true ∧ (true
      == wS.rb Reg.pwrWakecfg (3 * 1 + 1)) = false) ∧
    (wD.pwr.wakeRaw.testBit 0 ≠ true ∧ wD.rf Reg.pwrWakecfg 16 4 = 0 ∧ (wD.pwr.wakeLevel.testBit 0 != true) = true ∧ (true
      == wD.rb Reg.pwrWakecfg (3 * 0 + 1)) = true ∧ wD.rb Reg.pwrWakecfg (3 * 0) = false) ∧
    (wS.pwr.wakeRaw.testBit 0 ≠ true ∧ wS.rf Reg.pwrWakecfg 16 4 = 0 ∧ (wS.pwr.wakeLevel.testBit 0 != true) = true ∧ (true
      == wS.rb Reg.pwrWakecfg (3 * 0 + 1)) = true ∧ wS.rb Reg.pwrWakecfg (3 * 0) = true ∧ wS.pwr.state = PwrState.sleep) := by
  decide +kernel

theorem witness_PowerRequests_4 :
    (wH.pwr.wakeRaw.testBit 0 ≠ true ∧ wH.rf Reg.pwrWakecfg 16 4 = 0 ∧ (wH.pwr.wakeLevel.testBit 0 != true) = true ∧ (true
      == wH.rb Reg.pwrWakecfg (3 * 0 + 1)) = true ∧ wH.rb Reg.pwrWakecfg (3 * 0) = true ∧ wH.pwr.state =
      PwrState.hibernate) ∧
    (wT.pwr.wakeRaw.testBit 0 ≠ true ∧ wT.rf Reg.pwrWakecfg 16 4 = 0 ∧ (wT.pwr.wakeLevel.testBit 0 != true) = true ∧ (true
      == wT.rb Reg.pwrWakecfg (3 * 0 + 1)) = true ∧ wT.rb Reg.pwrWakecfg (3 * 0) = true ∧ wT.pwr.state = PwrState.run ∧
      wT.pwr.target = some PwrState.sleep) ∧
    (wE.pwr.wakeRaw.testBit 0 ≠ true ∧ wE.rf Reg.pwrWakecfg 16 4 = 0 ∧ (wE.pwr.wakeLevel.testBit 0 != true) = true ∧ (true
      == wE.rb Reg.pwrWakecfg (3 * 0 + 1)) = true ∧ wE.rb Reg.pwrWakecfg (3 * 0) = true ∧ wE.pwr.state = PwrState.run ∧
      wE.pwr.target = some PwrState.hibernate ∧ wE.pwr.entering = true) := by
  decide +kernel

theorem witness_PowerRequests_5 :
    (wR.pwr.wakeRaw.testBit 0 ≠ true ∧ wR.rf Reg.pwrWakecfg 16 4 = 0 ∧ (wR.pwr.wakeLevel.testBit 0 != true) = true ∧ (true
      == wR.rb Reg.pwrWakecfg (3 * 0 + 1)) = true ∧ wR.rb Reg.pwrWakecfg (3 * 0) = true ∧ wR.pwr.state = PwrState.run ∧
      wR.pwr.target = none ∧ (∀ (c : Causes), wR.pwr.causes = some c → c.hib = false ∨ c.aon ≠ wR.rtc.aon)) := by
  and_intros <;> first
    | exact Or.inr rfl
    | exact not_mem_place (by decide +kernel)
    | exact not_hpp (by decide +kernel)
    | decide +kernel
    | exact forall_some (by decide +kernel)
    | exact forall_some_pair (by decide +kernel)
    | exact Or.inl (by decide +kernel)
    | exact Or.inr ⟨_, rfl, by decide +kernel⟩

end Sys2Proof.Tests.L2

namespace Sys2Proof.Tests.L3

def p0 : State := up.wrs [(Reg.pwrPssta, 0), (Reg.flcFctl, 0x101), (Reg.pwrCksta, 4), (Reg.flcCkblk, 44*65536 + 100), (Reg.hoplim1Retire 0, 0xFFFFFFFF), (Reg.hoplim1Retire 1, 0xFFFFFFFF), (Reg.hoplim1Retire 2, 0xFFFFFFFF), (Reg.hoplim1Retire 3, 0xFFFFFFFF)]

def ent : State := {p0 with pwr := {p0.pwr with target := some .hibernate, entering := true}}

def woken : State := { up with pwr := { up.pwr with state := .hibernate, woken := true } }

def rel : State := { up with pwr := { up.pwr with reload := [3] } }

theorem witness_Hibernation :
    (ent.pwr.entering = true ∧ ent.flash.running = none ∧ ent.flash.queue = []) ∧
    (up.pwr.entering = false) ∧
    ((up.pwr.state ≠ PwrState.hibernate ∨ up.pwr.woken = false)) ∧
    (woken.pwr.state = PwrState.hibernate ∧ woken.pwr.woken = true ∧ (woken.configOk && woken.ckValid) = false) ∧
    (rel.pwr.booting = false ∧ rel.pwr.reload = [3] ∧ 3 < 128) := by
  decide +kernel

end Sys2Proof.Tests.L3

namespace Sys2Proof.Tests.L4

def ts : List Int := [100, 200, 440, 450, 460, 470, 480, 500, 530]

def tsH : List Int := [100, 200, 440, 450, 460, 470, 480, 500, 560]

def mThr : State := up.wrs [(Reg.monTsta, 0x1000000), (Reg.monThrlvl, 0xAAAA)]

def mR : State := {up with ports := [(16, {link := true})]}

def mV : State := up.wr Reg.monVsta 0x8080

def mVd : State := {up.wr Reg.monVsta 0x404 with mon := {up.mon with vddaFault := true, lowAt := [(2, 5)]}}

def mH : State := {up with pwr := {up.pwr with state := .hibernate}}

def pg : State := up.wr Reg.bootBsta 0x19

def pf : State := {pg with pwr := {pg.pwr with pgoodFell := some 5}, time := {fab := 100}}

def pf2 : State := {pg with pwr := {pg.pwr with pgoodFell := some 5}, time := {fab := 1000}}

theorem witness_Monitors_1 :
    ((up.pwr.state ≠ PwrState.hibernate ∧ ts.length = 9 ∧ (∀ (t : Int), t ∈ ts → -1024 ≤ t ∧ t < 560))) ∧
    ((up.pwr.state ≠ PwrState.hibernate ∧ tsH.length = 9 ∧ (∃ (t : Int), t ∈ tsH ∧ 560 ≤ t))) ∧
    (mThr.reaches Req.host Page.mon = true ∧ bitOf 1 0 = true ∧ ((List.range 9).all fun (i : Nat) ↦ decide (mThr.temp i <
      4 * ↑(mThr.rf Reg.monTlim 16 8) - 4 * ↑(mThr.rf Reg.monTlim 24 8))) = true) ∧
    ((mThr.reaches Req.host Page.mon = true ∧ (bitOf 0 0 = false ∨ ((List.range 9).all fun (i : Nat) ↦ decide (mThr.temp i
      < 4 * ↑(mThr.rf Reg.monTlim 16 8) - 4 * ↑(mThr.rf Reg.monTlim 24 8))) = false))) ∧
    (mThr.reaches Req.host Page.mon = true ∧ mThr.lockedFor Page.mon = false ∧ (field 89145392 0 8 ≤ field 89145392 8 8 ∧
      field 89145392 8 8 < field 89145392 16 8 ∧ field 89145392 16 8 ≤ 130)) ∧
    (mThr.reaches Req.host Page.mon = true ∧ mThr.lockedFor Page.mon = false ∧ ¬(field 1 0 8 ≤ field 1 8 8 ∧ field 1 8 8 <
      field 1 16 8 ∧ field 1 16 8 ≤ 130)) := by
  decide +kernel

theorem witness_Monitors_2 :
    ((mR.railSeen 4 = true ∧ (2 < (railLevels 4).snd.fst ∨ (railLevels 4).fst ≠ 0 ∧ 11 * (railLevels 4).fst < 10 * 2))) ∧
    ((mVd.railSeen 0 = true ∧ ¬(750 < (railLevels 0).snd.fst ∨ (railLevels 0).fst ≠ 0 ∧ 11 * (railLevels 0).fst < 10 *
      750))) ∧
    (mR.railSeen 4 = true ∧ 2 < (railLevels 4).snd.snd) ∧
    (mV.railSeen 7 = true ∧ ¬1550 < (railLevels 7).snd.snd) ∧
    (up.railSeen 0 = true) ∧
    (mH.railSeen 2 = false) := by
  decide +kernel

theorem witness_Monitors_3 :
    (pg.pwr.state ≠ PwrState.hibernate ∧ 3 ≤ pg.rf Reg.bootBsta 0 4 ∧ pg.pwr.pgoodFell = none) ∧
    ((mH.pwr.state = PwrState.hibernate ∨ mH.rf Reg.bootBsta 0 4 < 3)) ∧
    (pf.pwr.pgoodFell = some 5 ∧ pf.time.fab < 5 + 800) ∧
    (pf2.pwr.pgoodFell = some 5 ∧ 5 + 800 ≤ pf2.time.fab) := by
  decide +kernel

end Sys2Proof.Tests.L4

namespace Sys2Proof.Tests.L5

def p0 : State := up.wrs [(Reg.pwrRtcsl, 5), (Reg.pwrRtcsh, 1)]

def r1 : State := {(p0.wrs [(Reg.pwrAlml, 9), (Reg.pwrAlmh, 0x80000000)]) with rtc := {sec := 9, sync := some 2}, time := {w0 := 2000000001}}

def r0 : State := {r1 with time := {}}

def rS : State := {r1 with rtc := {r1.rtc with set := some 77}}

def rH : State := {(r1.wr Reg.pwrWakecfg 64) with pwr := {r1.pwr with state := .hibernate}}

def rP : State := {rH with pwr := {r1.pwr with state := .sleep}}

def gb : State := up.wrs [(Reg.gpioGev 3, 0x155), (Reg.gpioGout, 0xF0)]

def gb8 : State := gb.wr Reg.gpioGin 8

theorem witness_ClockAndBalls_1 :
    (p0.reaches Req.host Page.pwr = true) ∧
    (rS.rtc.set = some 77) ∧
    (r1.rtc.sync = some 2 ∧ r1.pwr.state ≠ PwrState.hibernate ∧ 2 ≤ r1.time.w0 / 1000000000) ∧
    ((r0.rtc.sync = some 2 ∧ (r0.pwr.state = PwrState.hibernate ∨ r0.time.w0 / 1000000000 < 2))) ∧
    ((rH.rb Reg.pwrAlmh 31 = true ∧ rH.rtc.sec = BitVec.toNat (rH.rd Reg.pwrAlml) + rH.rf Reg.pwrAlmh 0 16 * 2 ^ 32 ∧
      rH.rtc.alarmed = false) ∧ rH.rb Reg.pwrWakecfg 6 = true ∧ rH.pwr.state = PwrState.hibernate) ∧
    ((rP.rb Reg.pwrAlmh 31 = true ∧ rP.rtc.sec = BitVec.toNat (rP.rd Reg.pwrAlml) + rP.rf Reg.pwrAlmh 0 16 * 2 ^ 32 ∧
      rP.rtc.alarmed = false) ∧ rP.rb Reg.pwrWakecfg 6 = true ∧ rP.pwr.state = PwrState.sleep) := by
  decide +kernel

theorem witness_ClockAndBalls_2 :
    (¬(p0.rb Reg.pwrAlmh 31 = true ∧ p0.rtc.sec = BitVec.toNat (p0.rd Reg.pwrAlml) + p0.rf Reg.pwrAlmh 0 16 * 2 ^ 32 ∧
      p0.rtc.alarmed = false)) ∧
    ((gb.pageOff Page.gpio = false ∧ gb.rb Reg.gpioGin 3 ≠ true ∧ (gb.gpioOut 3 = true → gb.rb Reg.gpioGout 3 = true))) ∧
    (¬(gb8.pageOff Page.gpio = false ∧ gb8.rb Reg.gpioGin 3 ≠ true ∧ (gb8.gpioOut 3 = true → gb8.rb Reg.gpioGout 3 =
      true))) ∧
    (gb8.reaches Req.host Page.gpio = true) := by
  decide +kernel

theorem witness_ClockAndBalls_3 :
    (r1.rb Reg.pwrAlmh 31 = true ∧ r1.rtc.sec = BitVec.toNat (r1.rd Reg.pwrAlml) + r1.rf Reg.pwrAlmh 0 16 * 2 ^ 32 ∧
      r1.rtc.alarmed = false) ∧ (r1.rb Reg.pwrWakecfg 6 = false ∨ r1.pwr.state = PwrState.run ∧ r1.pwr.target = none ∧ ∀
      (c : Causes), r1.pwr.causes = some c → c.hib = false ∨ c.aon ≠ r1.rtc.aon) := by
  and_intros <;> first
    | exact Or.inr rfl
    | exact not_mem_place (by decide +kernel)
    | exact not_hpp (by decide +kernel)
    | decide +kernel
    | exact forall_some (by decide +kernel)
    | exact forall_some_pair (by decide +kernel)
    | exact Or.inl (by decide +kernel)
    | exact Or.inr ⟨_, rfl, by decide +kernel⟩

end Sys2Proof.Tests.L5

namespace Sys2Proof.Tests.M1

def gs : List Byte := [0x11, 0x9C, 3, 0x80, 0xFF, 0x00, 0x40, 0x01, 0xFE, 0x7F, 0x55, 0xAA, 0x10, 0xE0, 0x02, 0xF1]

def cst : CoreSt := {running := true, pc := 5, g := gs, tvec := 0x8100, lk := 0x77, lpe := [9, 9, 9], lps := [2,3,4], lpc := [7,0,0]}

def nsc (c : CoreSt) (w : BitVec 24) : State :=
  { up.setRaw (Store.tile 1 4) 5 (encodeAt (Store.tile 1 4) (w.zeroExtend 64)) with cores := [(3, c)], tiles := [(1, {awake := true})], clusters := [], time := {fab := 1000} }

def runs (s : State) : State := s.wr (Reg.tileCctl1 1) 1

def wr (op d a b last : Nat) : BitVec 24 := BitVec.ofNat 24 (op * 2 ^ 18 + d * 2 ^ 14 + a * 2 ^ 10 + b * 2 ^ 6 + last)

def dn : State := {(nsc {cst with halted := true} 0) with dbg := {(State.reset.dbg) with pend := some (4, .halt 3)}, time := {fab := 1000, w0 := 77}}

def d0 : State := {dn with dbg := {dn.dbg with pend := none}}

def d1 : State := {d0 with dbg := {d0.dbg with unlocked := false}}

def dz : State := {d0 with dbg := {d0.dbg with silent := true}}

def dP : State := (d0.setRaw Store.journal 0 poisonWord).setRaw (Store.tile 1 1) 5 poisonWord

def dRun : State := nsc cst 0

def dSlp : State := {d0 with pwr := {d0.pwr with state := .sleep}}

def dGt : State := {d0 with tiles := [(1, {awake := false})]}

def jd : Nat := Reg.jrnJaddr - Reg.jrnJaddr % 1024 + 0x48

def dT : State := nsc {cst with halted := true, gTag := 2} 0

def dRun1 : State := runs dRun

theorem witness_DebugPackets :
    (dz.dbgLive = false) ∧
    (dn.dbgLive = true ∧ dn.dbg.pend.isSome = true) ∧
    (d1.dbgLive = true ∧ d1.dbg.pend = none ∧ d1.dbgOpen = false) ∧
    (d0.dbgLive = true ∧ d0.dbg.pend = none ∧ d0.dbgOpen = true) := by
  decide +kernel

theorem witness_DebugOperations_1 :
    (d0.regPoison 256 Reg.monTlim = false) ∧
    (dP.regPoison 256 jd = true) ∧
    (([40960, 1024, 8192, 0].getD 1 0 ≤ 5 ∨ dSlp.pwr.state ≠ PwrState.run)) ∧
    (5 < [40960, 1024, 8192, 0].getD 1 0 ∧ dGt.pwr.state = PwrState.run ∧ dGt.tileAwake 1 = false) ∧
    (5 < [40960, 1024, 8192, 0].getD 1 0 ∧ d0.pwr.state = PwrState.run ∧ d0.tileAwake 1 = true ∧ (checkAt (Store.tile 1
      (if 1 = 0 then 0 else if 1 = 1 then 1 + 1 else 3 + 1)) (d0.rawWord (Store.tile 1 (if 1 = 0 then 0 else if 1 = 1 then
      1 + 1 else 3 + 1)) 5) = Found.good 0)) ∧
    (5 < [40960, 1024, 8192, 0].getD 1 0 ∧ dP.pwr.state = PwrState.run ∧ dP.tileAwake 1 = true ∧ (checkAt (Store.tile 1
      (if 1 = 0 then 0 else if 1 = 1 then 1 + 0 else 3 + 0)) (dP.rawWord (Store.tile 1 (if 1 = 0 then 0 else if 1 = 1 then
      1 + 0 else 3 + 0)) 5) = Found.poison)) := by
  decide +kernel

theorem witness_DebugOperations_2 :
    ((9 < [40960, 1024, 8192, 0].getD 2 0 ∧ dRun1.pwr.state = PwrState.run ∧ ¬((dRun1.core (2 * 1 + 1)).halted = true ∨
      dRun1.coreRun (2 * 1 + 1) = false ∧ (dRun1.core (2 * 1 + 1)).disp = none))) ∧
    ((5 < [40960, 1024, 8192, 0].getD 1 0 ∧ d0.pwr.state = PwrState.run ∧ (1 ≠ 2 ∨ (d0.core (2 * 1 + 1)).halted = true ∨
      d0.coreRun (2 * 1 + 1) = false ∧ (d0.core (2 * 1 + 1)).disp = none) ∧ d0.unarmed = true)) ∧
    (natField 1024 10 6 ≠ 0) ∧
    (d0.coreRun 3 = false) ∧
    (dRun1.coreRun 3 = true ∧ (dRun1.core 3).halted = false) ∧
    ((up.core 3).halted = false) := by
  decide +kernel

theorem witness_DebugOperations_3 :
    ((d0.core 3).halted = true ∧ (d0.core 3).mulq = [] ∧ 1 < 16 ∧ (d0.core 3).tag 1 = false) ∧
    ((dT.core 3).halted = true ∧ (dT.core 3).mulq = [] ∧ 1 < 16 ∧ (dT.core 3).tag 1 = true) ∧
    ((d0.core 3).halted = true ∧ (d0.core 3).mulq = [] ∧ 1 < 4) ∧
    ((d0.core 3).halted = true ∧ (d0.core 3).mulq = [] ∧ 1 < 2) ∧
    ((d0.core 3).halted = true ∧ (d0.core 3).mulq = [] ∧ 128 < 256 ∧ srReserved 128 = true) ∧
    (3 < 256) := by
  decide +kernel

end Sys2Proof.Tests.M1

namespace Sys2Proof.Tests.M2

def gs : List Byte := [0x11, 0x9C, 3, 0x80, 0xFF, 0x00, 0x40, 0x01, 0xFE, 0x7F, 0x55, 0xAA, 0x10, 0xE0, 0x02, 0xF1]

def cst : CoreSt := {running := true, pc := 5, g := gs, tvec := 0x8100, lk := 0x77, lpe := [9, 9, 9], lps := [2,3,4], lpc := [7,0,0]}

def nsc (c : CoreSt) (w : BitVec 24) : State :=
  { up.setRaw (Store.tile 1 4) 5 (encodeAt (Store.tile 1 4) (w.zeroExtend 64)) with cores := [(3, c)], tiles := [(1, {awake := true})], clusters := [], time := {fab := 1000} }

def runs (s : State) : State := s.wr (Reg.tileCctl1 1) 1

def wr (op d a b last : Nat) : BitVec 24 := BitVec.ofNat 24 (op * 2 ^ 18 + d * 2 ^ 14 + a * 2 ^ 10 + b * 2 ^ 6 + last)

def dn : State := {(nsc {cst with halted := true} 0) with dbg := {(State.reset.dbg) with pend := some (4, .halt 3)}, time := {fab := 1000, w0 := 77}}

def dr : State := {dn with dbg := {dn.dbg with result := some (5, [3,4])}}

def d0 : State := {dn with dbg := {dn.dbg with pend := none}}

def d1 : State := {d0 with dbg := {d0.dbg with unlocked := false}}

def dc : State := {d0 with dbg := {d0.dbg with challenge := some 5, lockoutTo := 2000, fails := 3}}

def df : State := {d0 with fuses := {d0.fuses with dbglvl := 2}}

def dl : State := (dc.wr Reg.dbgcDlctl 2)

def dm : State := nsc {cst with haltReq := 1} 0

def dO : State := {d0 with dbg := {d0.dbg with orphans := [.halt 3, .resume 3]}}

def dB : State := nsc {cst with bp := [0x8005, 0,0,0]} 0

def dM : State := runs dm

theorem witness_DebugControl_1 :
    (dn.dbgLive = true ∧ dn.dbg.pend.isSome = true) ∧
    (d0.dbgLive = true ∧ d0.dbg.pend = none ∧ d0.dbgLevel ≠ 2 ∧ d0.dbg.lockoutTo ≤ d0.time.fab) ∧
    ((dc.dbgLive = true ∧ dc.dbg.pend = none ∧ (dc.dbgLevel = 2 ∨ dc.time.fab < dc.dbg.lockoutTo))) ∧
    (df.dbgLive = true ∧ df.dbg.pend = none ∧ df.dbgLevel = 2) ∧
    (dl.dbgLive = true ∧ dl.dbg.pend = none ∧ dl.dbgLevel ≠ 2 ∧ dl.rb Reg.dbgcDlctl 1 = true) ∧
    (dc.dbgLive = true ∧ dc.dbg.pend = none ∧ dc.dbgLevel ≠ 2 ∧ dc.rb Reg.dbgcDlctl 1 = false ∧ dc.dbg.challenge = some 5) := by
  decide +kernel

theorem witness_DebugControl_2 :
    (d0.dbgLive = true ∧ d0.dbg.pend = none ∧ d0.dbgLevel ≠ 2 ∧ d0.rb Reg.dbgcDlctl 1 = false ∧ Option.any (fun (c :
      BitVec 128) ↦ 5 == d0.dbgExpected c) d0.dbg.challenge = false) ∧
    (d0.dbgLive = true ∧ d0.dbg.pend = none ∧ d0.dbgOpen = true ∧ 5 ≠ 53733) ∧
    (d1.dbgLive = true ∧ d1.dbg.pend = none ∧ d1.dbgOpen = false) ∧
    (dn.dbgLive = true ∧ dn.dbgOpen = true ∧ dn.dbg.pend = some (4, DbgOp.halt 3) ∧ 4 ≠ 5) ∧
    (dn.dbgLive = true ∧ dn.dbgOpen = true ∧ dn.dbg.pend = some (4, DbgOp.halt 3) ∧ dn.dbg.result = none) ∧
    (dr.dbgLive = true ∧ dr.dbgOpen = true ∧ dr.dbg.pend = some (4, DbgOp.halt 3) ∧ dr.dbg.result = some (5, [3, 4])) := by
  decide +kernel

theorem witness_DebugControl_3 :
    (dO.dbg.orphans = [DbgOp.halt 3, DbgOp.resume 3]) ∧
    (dn.dbg.orphans = [] ∧ dn.dbg.pend = some (4, DbgOp.halt 3) ∧ dn.dbg.result = none) ∧
    ((dr.dbg.orphans = [] ∧ (dr.dbg.pend = none ∨ dr.dbg.result.isSome = true))) ∧
    (dO.pwr.state ≠ PwrState.hibernate ∧ 3 ≠ 90) ∧
    (dO.reaches Req.host Page.dbgc = true ∧ dO.lockedFor Page.dbgc = false) ∧
    (((dM.core 3).stopDue = true ∧ (dM.core 3).halted = false ∧ dM.coreRun 3 = true)) := by
  decide +kernel

theorem witness_DebugControl_4 :
    (¬((dO.core 3).stopDue = true ∧ (dO.core 3).halted = false ∧ dO.coreRun 3 = true)) ∧
    ((dB.coreActive 3 = true ∧ (dB.core 3).wait = CoreWait.none ∧ (dB.core 3).atBreak = true)) ∧
    (¬(dO.coreActive 3 = true ∧ (dO.core 3).wait = CoreWait.none ∧ (dO.core 3).atBreak = true)) ∧
    ((dB.core 3).running = true ∧ (dB.core 3).atBreak = true) ∧
    ((dO.core 3).atBreak = false ∧ dO.beforeBkpt 3 = false) := by
  decide +kernel

end Sys2Proof.Tests.M2

namespace Sys2Proof.Tests.O1

def gs : List Byte := [0x11, 0x9C, 3, 0x80, 0xFF, 0x00, 0x40, 0x01, 0xFE, 0x7F, 0x55, 0xAA, 0x10, 0xE0, 0x02, 0xF1]

def cst : CoreSt := {running := true, pc := 5, g := gs, tvec := 0x8100, lk := 0x77, lpe := [9, 9, 9], lps := [2,3,4], lpc := [7,0,0]}

def nsc (c : CoreSt) (w : BitVec 24) : State :=
  { up.setRaw (Store.tile 1 4) 5 (encodeAt (Store.tile 1 4) (w.zeroExtend 64)) with cores := [(3, c)], tiles := [(1, {awake := true})], clusters := [], time := {fab := 1000} }

def wr (op d a b last : Nat) : BitVec 24 := BitVec.ofNat 24 (op * 2 ^ 18 + d * 2 ^ 14 + a * 2 ^ 10 + b * 2 ^ 6 + last)

def tg (c : CoreSt) (m : Nat) : CoreSt := {c with gTag := m}

def x1 : State := nsc cst (wr 1 4 1 2 0)

def x45 : State := nsc cst (wr 2 4 1 2 32)

def x46 : State := nsc cst (wr 2 5 1 2 32)

def x51 : State := nsc (tg cst 2) (BitVec.ofNat 24 (4*2^18+4*2^14+1*2^10+0x9D*4))

def x55 : State := nsc cst (BitVec.ofNat 24 (8*2^18+4*2^14+0x9D*2^6))

def x56 : State := nsc cst (BitVec.ofNat 24 (13*2^18+1*2^15+4*2^12+5*2^9+0))

def x73 : State := nsc cst (BitVec.ofNat 24 ((14+0)*2^18+1*2^15+4660))

def x74 : State := nsc (tg cst 0x100) (BitVec.ofNat 24 (16*2^18+1*2^15+4*2^12+0xF23))

def x75 : State := nsc (tg cst 0x100) (BitVec.ofNat 24 (17*2^18+4*2^12+5*2^9+0))

def ml (fn : Nat) : State := nsc {cst with mp := 0xFFFFFFFF, mulq := [{fn := fn, a := 0xFFFE, b := 0x8003, tag := true, issued := 3}]} 0

theorem witness_NimlorArithmetic_1 :
    ((0 ∈ [5, 6, 7] → 2 = 0) ∧ (0 ∈ [12, 13, 14, 15] → 2 < 8) ∧ x1.fetches 3 (BitVec.ofNat 24 (1 * 2 ^ 18 + 4 * 2 ^ 14 + 1
      * 2 ^ 10 + 2 * 2 ^ 6 + 0)) = true) ∧
    (x45.fetches 3 (BitVec.ofNat 24 (2 * 2 ^ 18 + 4 * 2 ^ 14 + 1 * 2 ^ 10 + 2 * 2 ^ 6 + 4 * 8)) = true ∧ 4 % 2 = 0) ∧
    (x46.fetches 3 (BitVec.ofNat 24 (2 * 2 ^ 18 + 5 * 2 ^ 14 + 1 * 2 ^ 10 + 2 * 2 ^ 6 + 4 * 8)) = true ∧ 5 % 2 = 1) ∧
    (x51.fetches 3 (BitVec.ofNat 24 (4 * 2 ^ 18 + 4 * 2 ^ 14 + 1 * 2 ^ 10 + 157 * 4)) = true) ∧
    (x55.fetches 3 (BitVec.ofNat 24 (8 * 2 ^ 18 + 4 * 2 ^ 14 + 157 * 2 ^ 6)) = true) ∧
    ((0 ∈ [2, 6, 7] → 5 = 0) ∧ x56.fetches 3 (BitVec.ofNat 24 (13 * 2 ^ 18 + 1 * 2 ^ 15 + 4 * 2 ^ 12 + 5 * 2 ^ 9 + 0)) =
      true) := by
  decide +kernel

theorem witness_NimlorArithmetic_2 :
    (x73.fetches 3 (BitVec.ofNat 24 ((14 + 4660 / 2 ^ 15) * 2 ^ 18 + 1 * 2 ^ 15 + 4660 % 2 ^ 15)) = true) ∧
    (x74.fetches 3 (BitVec.ofNat 24 (16 * 2 ^ 18 + 1 * 2 ^ 15 + 4 * 2 ^ 12 + 3875)) = true) ∧
    ((0 = 5 → 4 = 0 ∧ 5 = 0) ∧ x75.fetches 3 (BitVec.ofNat 24 (17 * 2 ^ 18 + 4 * 2 ^ 12 + 5 * 2 ^ 9 + 0)) = true) ∧
    (((ml 0).core 3).mulq = [{ fn := 0, a := 65534, b := 32771, tag := true, issued := 3 : MulOp }] ∧ { fn := 0, a := 65534, b := 32771, tag := true, issued := 3 : MulOp }.issued
      + 4 ≤ (ml 0).coreCyc 3 ∧ { fn := 0, a := 65534, b := 32771, tag := true, issued := 3 : MulOp }.fn = 0) ∧
    (((ml 1).core 3).mulq = [{ fn := 1, a := 65534, b := 32771, tag := true, issued := 3 : MulOp }] ∧ { fn := 1, a := 65534, b := 32771, tag := true, issued := 3 : MulOp }.issued
      + 4 ≤ (ml 1).coreCyc 3 ∧ { fn := 1, a := 65534, b := 32771, tag := true, issued := 3 : MulOp }.fn = 1) ∧
    (((ml 2).core 3).mulq = [{ fn := 2, a := 65534, b := 32771, tag := true, issued := 3 : MulOp }] ∧ { fn := 2, a := 65534, b := 32771, tag := true, issued := 3 : MulOp }.issued
      + 4 ≤ (ml 2).coreCyc 3 ∧ { fn := 2, a := 65534, b := 32771, tag := true, issued := 3 : MulOp }.fn = 2) := by
  decide +kernel

theorem witness_NimlorArithmetic_3 :
    (((ml 3).core 3).mulq = [{ fn := 3, a := 65534, b := 32771, tag := true, issued := 3 : MulOp }] ∧ { fn := 3, a := 65534, b := 32771, tag := true, issued := 3 : MulOp }.issued
      + 4 ≤ (ml 3).coreCyc 3 ∧ { fn := 3, a := 65534, b := 32771, tag := true, issued := 3 : MulOp }.fn = 3) ∧
    (((ml 4).core 3).mulq = [{ fn := 4, a := 65534, b := 32771, tag := true, issued := 3 : MulOp }] ∧ { fn := 4, a := 65534, b := 32771, tag := true, issued := 3 : MulOp }.issued
      + 4 ≤ (ml 4).coreCyc 3 ∧ { fn := 4, a := 65534, b := 32771, tag := true, issued := 3 : MulOp }.fn = 4) ∧
    (((ml 5).core 3).mulq = [{ fn := 5, a := 65534, b := 32771, tag := true, issued := 3 : MulOp }] ∧ { fn := 5, a := 65534, b := 32771, tag := true, issued := 3 : MulOp }.issued
      + 4 ≤ (ml 5).coreCyc 3 ∧ { fn := 5, a := 65534, b := 32771, tag := true, issued := 3 : MulOp }.fn = 5) := by
  decide +kernel

end Sys2Proof.Tests.O1

namespace Sys2Proof.Tests.O2

def gs : List Byte := [0x11, 0x9C, 3, 0x80, 0xFF, 0x00, 0x40, 0x01, 0xFE, 0x7F, 0x55, 0xAA, 0x10, 0xE0, 0x02, 0xF1]

def cst : CoreSt := {running := true, pc := 5, g := gs, tvec := 0x8100, lk := 0x77, lpe := [9, 9, 9], lps := [2,3,4], lpc := [7,0,0]}

def nsc (c : CoreSt) (w : BitVec 24) : State :=
  { up.setRaw (Store.tile 1 4) 5 (encodeAt (Store.tile 1 4) (w.zeroExtend 64)) with cores := [(3, c)], tiles := [(1, {awake := true})], clusters := [], time := {fab := 1000} }

def wo (op rest : Nat) : BitVec 24 := BitVec.ofNat 24 (op * 2 ^ 18 + rest)

def tg (c : CoreSt) (m : Nat) : CoreSt := {c with gTag := m}

def cm : CoreSt := {cst with abnk := 1, bbnk := 17, g := [0x07,0x90, 0x06,0x10, 0xFF,0xEF, 0x00,0xC0, 3, 1, 0xFE, 0xFF, 0x10, 0xF4, 0x13, 0x77], wpa := [0x1006, 0x900E], wpc := [0x33, 0x00], pwin := 0x10}

def msk (c : CoreSt) (w : BitVec 24) : State := ((nsc c w).setRaw (Store.tile 1 0) ((0x8000 + 0x1006)/8) (encodeWord 0x1122334455667788)).setRaw (Store.tile 1 0) ((17*0x4000 + 0x1007)/8) poisonWord

def e1 : WriteEntry := { st := Store.tile 1 0, word := 0x1200, bytes := [(6, 0xAB, false)] }

def e2 : WriteEntry := { st := Store.tile 1 0, word := 0x1200, bytes := [(6, 0xCD, true), (7, 1, false)] }

def bf (c : CoreSt) (l : List WriteEntry) : CoreSt := { c with wbuf := l }

def pl (k : Nat) (c : CoreSt) (a : Nat) : Nat × Nat := match c.place k a with | .mem st b => (st, b) | .dev d => (9999, d) | .page r b => (r, b)

def x1 : State := msk cst (wo 9 (4*2^14+0*2^6))

def x2 : State := msk cst (wo 10 (4*2^14+0*2^6))

def x3 : State := msk cst (wo 11 (2*2^15+0*2^6))

def x4 : State := msk cst (wo 12 (2*2^15+0*2^6))

def x18 : State := msk cst (wo 10 (4*2^14+4*2^6))

def x20 : State := msk cst (wo 12 (2*2^15+4*2^6))

def x47 : State := msk cst (wo 11 (2*2^15+49*2^6))

def x49 : State := msk cst (wo 9 (4*2^14+50*2^6))

def x83 : State := msk (tg cst 0x10) (wo 10 (4*2^14+16*2^6))

def x84 : State := msk (tg cst 0x10) (wo 12 (2*2^15+16*2^6))

def x85 : State := msk cm (wo 18 (65536+1*2^11+1*2^9+0*2^7+0))

def x86 : State := msk (tg cm 0xC) (wo 18 (65536+1*2^11+1*2^9+0*2^7+0))

def x87 : State := msk cm (wo 20 (65536+1*2^11+1*2^9+0*2^7+0))

def x89 : State := msk cm (wo 19 (65536+1*2^11+1*2^9+0*2^7+0))

def x92 : State := msk cm (wo 21 (65536+1*2^11+1*2^9+0*2^7+0))

def x115 : State := msk cm (wo 18 (65536+0*2^11+1*2^9+0*2^7+0))

def x180 : State := msk (bf cm [e1,e1,e1,e1]) (wo 19 (65536+1*2^11+1*2^9+0*2^7+0))

def cmd : CoreSt := { cm with g := [0x07,0x90, 0x06,0x10, 0x00,0xE0, 0x00,0xC0, 3, 1, 0xFE, 0xFF, 0x10, 0xF4, 0x13, 0x77] }

def x185 : State := msk cmd (wo 19 (65536+2*2^11+1*2^9+0*2^7+0))

def x193 : State := msk cm (wo 19 (65536+6*2^11+1*2^9+0*2^7+0))

def x195 : State := msk (bf cm [e1, e1]) (0)

def x196 : State := msk (bf cm [e2, e1]) (0)

theorem witness_NimlorMemory_1 :
    (x49.fetches 3 (BitVec.ofNat 24 (9 * 2 ^ 18 + 4 * 2 ^ 14 + 50 * 2 ^ 6)) = true ∧ srReserved 50 = true) ∧
    (x1.fetches 3 (BitVec.ofNat 24 (9 * 2 ^ 18 + 4 * 2 ^ 14 + 0 * 2 ^ 6)) = true ∧ srReserved 0 = false) ∧
    (x2.fetches 3 (BitVec.ofNat 24 (10 * 2 ^ 18 + 4 * 2 ^ 14 + 0 * 2 ^ 6)) = true ∧ (x2.readyCore 3).srRefuses [(0,
      (x2.readyCore 3).reg 4)] = true) ∧
    (x83.fetches 3 (BitVec.ofNat 24 (10 * 2 ^ 18 + 4 * 2 ^ 14 + 16 * 2 ^ 6)) = true ∧ (x83.readyCore 3).srRefuses [(16,
      (x83.readyCore 3).reg 4)] = false ∧ (x83.readyCore 3).tag 4 = true) ∧
    (x18.fetches 3 (BitVec.ofNat 24 (10 * 2 ^ 18 + 4 * 2 ^ 14 + 4 * 2 ^ 6)) = true ∧ (x18.readyCore 3).srRefuses [(4,
      (x18.readyCore 3).reg 4)] = false ∧ (x18.readyCore 3).tag 4 = false) ∧
    ((x47.fetches 3 (BitVec.ofNat 24 (11 * 2 ^ 18 + 2 * 2 ^ 15 + 49 * 2 ^ 6)) = true ∧ (srReserved 49 = true ∨ srReserved
      (49 + 1) = true))) := by
  decide +kernel

theorem witness_NimlorMemory_2 :
    (x3.fetches 3 (BitVec.ofNat 24 (11 * 2 ^ 18 + 2 * 2 ^ 15 + 0 * 2 ^ 6)) = true ∧ srReserved 0 = false ∧ srReserved (0 +
      1) = false) ∧
    (x4.fetches 3 (BitVec.ofNat 24 (12 * 2 ^ 18 + 2 * 2 ^ 15 + 0 * 2 ^ 6)) = true ∧ (x4.readyCore 3).srRefuses [(0,
      (x4.readyCore 3).reg (2 * 2)), (0 + 1, (x4.readyCore 3).reg (2 * 2 + 1))] = true) ∧
    (x84.fetches 3 (BitVec.ofNat 24 (12 * 2 ^ 18 + 2 * 2 ^ 15 + 16 * 2 ^ 6)) = true ∧ (x84.readyCore 3).srRefuses [(16,
      (x84.readyCore 3).reg (2 * 2)), (16 + 1, (x84.readyCore 3).reg (2 * 2 + 1))] = false ∧ (x84.readyCore 3).pairTag 2 =
      true) ∧
    (x20.fetches 3 (BitVec.ofNat 24 (12 * 2 ^ 18 + 2 * 2 ^ 15 + 4 * 2 ^ 6)) = true ∧ (x20.readyCore 3).srRefuses [(4,
      (x20.readyCore 3).reg (2 * 2)), (4 + 1, (x20.readyCore 3).reg (2 * 2 + 1))] = false ∧ (x20.readyCore 3).pairTag 2 =
      false) ∧
    ((x86.fetches 3 (BitVec.ofNat 24 (18 * 2 ^ 18 + 4 * 2 ^ 14 + 1 * 2 ^ 11 + 1 * 2 ^ 9 + 0 * 2 ^ 7 + if 1 = 0 then 0 % 16
      else if 1 = 1 then 0 else 0)) = true) ∧ (x86.readyCore 3).wbuf.length + 0 ≤ 4 ∧ ((x86.readyCore 3).pairTag 1 || 1 ==
      0 && (x86.readyCore 3).tag (0 % 16)) = true) ∧
    ((x180.fetches 3 (BitVec.ofNat 24 (19 * 2 ^ 18 + 4 * 2 ^ 14 + 1 * 2 ^ 11 + 1 * 2 ^ 9 + 0 * 2 ^ 7 + if 1 = 0 then 0 %
      16 else if 1 = 1 then 0 else 0)) = true) ∧ 1 ≠ 0 ∧ 4 < (x180.readyCore 3).wbuf.length + 1) := by
  decide +kernel

theorem witness_NimlorMemory_3 :
    (x85.fetches 3 (BitVec.ofNat 24 (18 * 2 ^ 18 + 4 * 2 ^ 14 + 1 * 2 ^ 11 + 1 * 2 ^ 9 + 0 * 2 ^ 7 + if 1 = 0 then 0 % 16
      else if 1 = 1 then 0 else 0)) = true) ∧ ((x85.readyCore 3).pairTag 1 || 1 == 0 && (x85.readyCore 3).tag (0 % 16)) =
      false ∧ (x85.readyCore 3).place 3 ([(((x85.readyCore 3).pair 1).toNat + BitVec.toNat ((x85.readyCore 3).reg (0 %
      16)) * 2 ^ 0) % 65536, (((x85.readyCore 3).pair 1).toNat + 0 * 2 ^ 0) % 65536, ((x85.readyCore 3).pair 1).toNat,
      (((x85.readyCore 3).pair 1).toNat + 65536 - 2 ^ 0) % 65536].getD 1 0) = Place.mem (pl 3 cm 4102).fst (pl 3 cm
      4102).snd ∧ ((x85.readyCore 3).buffered? (pl 3 cm 4102).fst ((pl 3 cm 4102).snd / 8) ((pl 3 cm 4102).snd % 8) ≠ none
      ∨ x85.clean (pl 3 cm 4102).fst ((pl 3 cm 4102).snd / 8) 1 = true) := by
  decide +kernel

theorem witness_NimlorMemory_4 :
    (x115.fetches 3 (BitVec.ofNat 24 (18 * 2 ^ 18 + 4 * 2 ^ 14 + 0 * 2 ^ 11 + 1 * 2 ^ 9 + 0 * 2 ^ 7 + if 1 = 0 then 0 % 16
      else if 1 = 1 then 0 else 0)) = true) ∧ ((x115.readyCore 3).pairTag 0 || 1 == 0 && (x115.readyCore 3).tag (0 % 16))
      = false ∧ (x115.readyCore 3).place 3 ([(((x115.readyCore 3).pair 0).toNat + BitVec.toNat ((x115.readyCore 3).reg (0
      % 16)) * 2 ^ 0) % 65536, (((x115.readyCore 3).pair 0).toNat + 0 * 2 ^ 0) % 65536, ((x115.readyCore 3).pair 0).toNat,
      (((x115.readyCore 3).pair 0).toNat + 65536 - 2 ^ 0) % 65536].getD 1 0) = Place.mem (pl 3 cm 36871).fst (pl 3 cm
      36871).snd ∧ (x115.readyCore 3).buffered? (pl 3 cm 36871).fst ((pl 3 cm 36871).snd / 8) ((pl 3 cm 36871).snd % 8) =
      none ∧ checkAt (pl 3 cm 36871).fst (x115.rawWord (pl 3 cm 36871).fst ((pl 3 cm 36871).snd / 8)) = Found.poison := by
  decide +kernel

theorem witness_NimlorMemory_5 :
    (x87.fetches 3 (BitVec.ofNat 24 (20 * 2 ^ 18 + 2 * 2 ^ 15 + 1 * 2 ^ 11 + 1 * 2 ^ 9 + 0 * 2 ^ 7 + if 1 = 0 then 0 % 16
      else if 1 = 1 then 0 else 0)) = true) ∧ ((x87.readyCore 3).pairTag 1 || 1 == 0 && (x87.readyCore 3).tag (0 % 16)) =
      false ∧ (x87.readyCore 3).place 3 ([(((x87.readyCore 3).pair 1).toNat + BitVec.toNat ((x87.readyCore 3).reg (0 %
      16)) * 2 ^ 0) % 65536, (((x87.readyCore 3).pair 1).toNat + 0 * 2 ^ 0) % 65536, ((x87.readyCore 3).pair 1).toNat,
      (((x87.readyCore 3).pair 1).toNat + 65536 - 2 ^ 0) % 65536].getD 1 0) = Place.mem (pl 3 cm 4102).fst (pl 3 cm
      4102).snd ∧ (x87.readyCore 3).place 3 ([(((x87.readyCore 3).pair 1).toNat + BitVec.toNat ((x87.readyCore 3).reg (0 %
      16)) * 2 ^ 0) % 65536, (((x87.readyCore 3).pair 1).toNat + 0 * 2 ^ 0) % 65536, ((x87.readyCore 3).pair 1).toNat,
      (((x87.readyCore 3).pair 1).toNat + 65536 - 2 ^ 0) % 65536].getD 1 0 + 1) = Place.mem (pl 3 cm 4103).fst (pl 3 cm
      4103).snd ∧ ((x87.readyCore 3).buffered? (pl 3 cm 4102).fst ((pl 3 cm 4102).snd / 8) ((pl 3 cm 4102).snd % 8) ≠ none
      ∨ x87.clean (pl 3 cm 4102).fst ((pl 3 cm 4102).snd / 8) 1 = true) ∧ ((x87.readyCore 3).buffered? (pl 3 cm 4103).fst
      ((pl 3 cm 4103).snd / 8) ((pl 3 cm 4103).snd % 8) ≠ none ∨ x87.clean (pl 3 cm 4103).fst ((pl 3 cm 4103).snd / 8) 1 =
      true) := by
  decide +kernel

theorem witness_NimlorMemory_6 :
    (x89.fetches 3 (BitVec.ofNat 24 (19 * 2 ^ 18 + 4 * 2 ^ 14 + 1 * 2 ^ 11 + 1 * 2 ^ 9 + 0 * 2 ^ 7 + if 1 = 0 then 0 % 16
      else if 1 = 1 then 0 else 0)) = true) ∧ ((x89.readyCore 3).pairTag 1 || 1 == 0 && (x89.readyCore 3).tag (0 % 16)) =
      false ∧ (x89.readyCore 3).wbuf.length < 4 ∧ (x89.readyCore 3).place 3 ([(((x89.readyCore 3).pair 1).toNat +
      BitVec.toNat ((x89.readyCore 3).reg (0 % 16)) * 2 ^ 0) % 65536, (((x89.readyCore 3).pair 1).toNat + 0 * 2 ^ 0) %
      65536, ((x89.readyCore 3).pair 1).toNat, (((x89.readyCore 3).pair 1).toNat + 65536 - 2 ^ 0) % 65536].getD 1 0) =
      Place.mem (pl 3 cm 4102).fst (pl 3 cm 4102).snd := by
  decide +kernel

theorem witness_NimlorMemory_7 :
    (x92.fetches 3 (BitVec.ofNat 24 (21 * 2 ^ 18 + 2 * 2 ^ 15 + 1 * 2 ^ 11 + 1 * 2 ^ 9 + 0 * 2 ^ 7 + if 1 = 0 then 0 % 16
      else if 1 = 1 then 0 else 0)) = true) ∧ ((x92.readyCore 3).pairTag 1 || 1 == 0 && (x92.readyCore 3).tag (0 % 16)) =
      false ∧ (((x92.readyCore 3).wbuf.length + if [(((x92.readyCore 3).pair 1).toNat + BitVec.toNat ((x92.readyCore
      3).reg (0 % 16)) * 2 ^ 0) % 65536, (((x92.readyCore 3).pair 1).toNat + 0 * 2 ^ 0) % 65536, ((x92.readyCore 3).pair
      1).toNat, (((x92.readyCore 3).pair 1).toNat + 65536 - 2 ^ 0) % 65536].getD 1 0 / 8 = ([(((x92.readyCore 3).pair
      1).toNat + BitVec.toNat ((x92.readyCore 3).reg (0 % 16)) * 2 ^ 0) % 65536, (((x92.readyCore 3).pair 1).toNat + 0 * 2
      ^ 0) % 65536, ((x92.readyCore 3).pair 1).toNat, (((x92.readyCore 3).pair 1).toNat + 65536 - 2 ^ 0) % 65536].getD 1 0
      + 1) % 65536 / 8 then 1 else 2) ≤ 4) ∧ (x92.readyCore 3).place 3 ([(((x92.readyCore 3).pair 1).toNat + BitVec.toNat
      ((x92.readyCore 3).reg (0 % 16)) * 2 ^ 0) % 65536, (((x92.readyCore 3).pair 1).toNat + 0 * 2 ^ 0) % 65536,
      ((x92.readyCore 3).pair 1).toNat, (((x92.readyCore 3).pair 1).toNat + 65536 - 2 ^ 0) % 65536].getD 1 0) = Place.mem
      (pl 3 cm 4102).fst (pl 3 cm 4102).snd ∧ (x92.readyCore 3).place 3 ([(((x92.readyCore 3).pair 1).toNat + BitVec.toNat
      ((x92.readyCore 3).reg (0 % 16)) * 2 ^ 0) % 65536, (((x92.readyCore 3).pair 1).toNat + 0 * 2 ^ 0) % 65536,
      ((x92.readyCore 3).pair 1).toNat, (((x92.readyCore 3).pair 1).toNat + 65536 - 2 ^ 0) % 65536].getD 1 0 + 1) =
      Place.mem (pl 3 cm 4103).fst (pl 3 cm 4103).snd := by
  decide +kernel

theorem witness_NimlorMemory_8 :
    ((x185.fetches 3 (BitVec.ofNat 24 (19 * 2 ^ 18 + 4 * 2 ^ 14 + 2 * 2 ^ 11 + 1 * 2 ^ 9 + 0 * 2 ^ 7 + if 1 = 0 then 0 %
      16 else if 1 = 1 then 0 else 0)) = true) ∧ ((x185.readyCore 3).pairTag 2 || 1 == 0 && (x185.readyCore 3).tag (0 %
      16)) = false ∧ (x185.readyCore 3).wbuf = [] ∧ (x185.readyCore 3).place 3 ([(((x185.readyCore 3).pair 2).toNat +
      BitVec.toNat ((x185.readyCore 3).reg (0 % 16)) * 2 ^ 0) % 65536, (((x185.readyCore 3).pair 2).toNat + 0 * 2 ^ 0) %
      65536, ((x185.readyCore 3).pair 2).toNat, (((x185.readyCore 3).pair 2).toNat + 65536 - 2 ^ 0) % 65536].getD 1 0) =
      Place.dev 0 ∧ devMask 0 ≠ 0 ∧ ((x185.readyCore 3).tag 4 = false ∨ devTakesTag 0 = true)) ∧
    ((x193.fetches 3 (BitVec.ofNat 24 (19 * 2 ^ 18 + 4 * 2 ^ 14 + 6 * 2 ^ 11 + 1 * 2 ^ 9 + 0 * 2 ^ 7 + if 1 = 0 then 0 %
      16 else if 1 = 1 then 0 else 0)) = true) ∧ ((x193.readyCore 3).pairTag 6 || 1 == 0 && (x193.readyCore 3).tag (0 %
      16)) = false ∧ (x193.readyCore 3).wbuf = [] ∧ (x193.readyCore 3).place 3 ([(((x193.readyCore 3).pair 6).toNat +
      BitVec.toNat ((x193.readyCore 3).reg (0 % 16)) * 2 ^ 0) % 65536, (((x193.readyCore 3).pair 6).toNat + 0 * 2 ^ 0) %
      65536, ((x193.readyCore 3).pair 6).toNat, (((x193.readyCore 3).pair 6).toNat + 65536 - 2 ^ 0) % 65536].getD 1 0) =
      Place.page (pl 3 cm 62480).fst 0 ∧ (x193.readyCore 3).tag 4 = false) := by
  decide +kernel

theorem witness_NimlorMemory_9 :
    ((x195.core 3).wbuf = [e1, e1] ∧ e1.st < 1024 ∧ e1.st % 8 < 3 ∧ e1.word < 2 ^ 40 ∧ x195.unarmed = true ∧ 7 < 2 ^ 40 ∧
      (Store.tile 1 0 ≠ e1.st ∨ 7 ≠ e1.word)) ∧
    ((x195.core 3).wbuf = [e1, e1] ∧ e1.st < 1024 ∧ e1.st % 8 < 3 ∧ e1.word < 2 ^ 40 ∧ x195.unarmed = true ∧ x195.clean
      e1.st e1.word 1 = true ∧ (∀ (b : Nat × Byte × Bool), b ∈ e1.bytes → b.snd.snd = false)) ∧
    ((x195.core 3).wbuf = [e1, e1] ∧ e1.st < 1024 ∧ e1.st % 8 < 3 ∧ e1.word < 2 ^ 40 ∧ x195.unarmed = true ∧ x195.clean
      e1.st e1.word 1 = true ∧ (∀ (b : Nat × Byte × Bool), b ∈ e1.bytes → b.snd.snd = false) ∧ 6 < 8) ∧
    ((x196.core 3).wbuf = [e2, e1] ∧ e2.st < 1024 ∧ e2.st % 8 < 3 ∧ e2.word < 2 ^ 40 ∧ x196.unarmed = true ∧ ((∃ (b : Nat
      × Byte × Bool), b ∈ e2.bytes ∧ b.snd.snd = true) ∨ checkWord (x196.rawWord e2.st e2.word) = Found.poison)) ∧
    (0 < 65536 ∧ 0 < 32768) ∧
    (36864 < 65536 ∧ 32768 ≤ 36864 ∧ 36864 < 49152) := by
  decide +kernel

theorem witness_NimlorMemory_10 :
    (49157 < 65536 ∧ 49152 ≤ 49157 ∧ 49157 < 57344) ∧
    (57347 < 65536 ∧ 57344 ≤ 57347 ∧ 57347 < 61440) ∧
    (62471 < 65536 ∧ 61440 ≤ 62471) := by
  decide +kernel

end Sys2Proof.Tests.O2

namespace Sys2Proof.Tests.O3

def gs : List Byte := [0x11, 0x9C, 3, 0x80, 0xFF, 0x00, 0x40, 0x01, 0xFE, 0x7F, 0x55, 0xAA, 0x10, 0xE0, 0x02, 0xF1]

def cst : CoreSt := {running := true, pc := 5, g := gs, tvec := 0x8100, lk := 0x77, lpe := [9, 9, 9], lps := [2,3,4], lpc := [7,0,0]}

def nsc (c : CoreSt) (w : BitVec 24) : State :=
  { up.setRaw (Store.tile 1 4) 5 (encodeAt (Store.tile 1 4) (w.zeroExtend 64)) with cores := [(3, c)], tiles := [(1, {awake := true})], clusters := [], time := {fab := 1000} }

def wr (op d a b last : Nat) : BitVec 24 := BitVec.ofNat 24 (op * 2 ^ 18 + d * 2 ^ 14 + a * 2 ^ 10 + b * 2 ^ 6 + last)

def wo (op rest : Nat) : BitVec 24 := BitVec.ofNat 24 (op * 2 ^ 18 + rest)

def tg (c : CoreSt) (m : Nat) : CoreSt := {c with gTag := m}

def cl1 : CoreSt := {cst with lact := 1, lpe := [6, 9, 9]}

def cl2 : CoreSt := {cst with lact := 3, lpe := [5, 9, 9], lpc := [2, 0, 0]}

def cL (c : CoreSt) : CoreSt := {c with lact := 1, lpe := [5, 9, 9], lpc := [7, 0, 0]}

def rdp : RunDisp := {d := {lane := 40, wheel := 0, due := 4, cog := 0, core := 0, ticket := false, late := false, held := false, woke := false, sentAt := 4 }, lidx := 3, start := 5, budgetTaken := false}

def runs (s : State) : State := s.wrs [(Reg.tileCctl0 1, 1), (Reg.tileCctl1 1, 1)]

def bk (s : State) : State := s.wr Reg.dbgcDlctl 4

def x1 : State := (nsc cst (wo 24 (1*2^14+4*2^10+803)))

def x3 : State := (nsc (cL cst) (wo 24 (5*2^14+5*2^10+803)))

def x4 : State := (nsc (tg cst 16) (wo 24 (1*2^14+4*2^10+803)))

def x27 : State := (nsc cst (wo 30 (1*2^14+16*2^6+35)))

def x28 : State := (nsc (tg cst 2) (wo 30 (1*2^14+156*2^6+35)))

def x31 : State := (nsc cst (wo 31 (1*2^14+16*2^6+35)))

def x41 : State := (nsc cst (wo 34 (0*2^15+4*2^12+3875)))

def x43 : State := (nsc cst (wo 34 (2*2^15+2*2^12+3875)))

def x44 : State := (nsc (tg cst 2) (wo 34 (0*2^15+4*2^12+3875)))

def x59 : State := (nsc (tg cst 2) (wo 38 (1*2^14+4*2^11+1827)))

def x60 : State := (nsc cst (wo 39 (1*2^14+2*2^11+1827)))

def x61 : State := (nsc cst (wo 39 (1*2^14+1*2^11+1827)))

def x63 : State := (nsc (cL cst) (wo 0x28 7))

def x64 : State := (nsc cst (wo 0x29 7))

def x67 : State := (nsc cst (wo 0x2A (2*2^15+16384)))

def x68 : State := (nsc (tg cst 16) (wo 0x2A (2*2^15+16384)))

def x69 : State := (nsc cst (wo 0x2B 0))

def x71 : State := (nsc cst (wo 0x2B 1))

def x73 : State := (nsc cst (wo 0x2B 2))

def x75 : State := (nsc cst (wo 0x2B 3))

def x77 : State := (nsc cst (wo 0x2B 4))

def x79 : State := (nsc cst (wo 0x2B 5))

def x81 : State := (nsc cst (wo 0x2B 6))

def x86 : State := bk (nsc cst (wo 0x2B 6))

def x88 : State := (nsc cst (wo 0x2B (77*2^6+7)))

def x90 : State := (nsc cst (wo 0x2C (1*2^16+2*2^13+0)))

def x92 : State := (nsc cst (wo 0x2D (1*2^16+5*2^8+35)))

def x97 : State := (nsc (tg cst 0x10) (wo 0x2C (1*2^16+2*2^13+7)))

def x105 : State := (nsc cst (wo 0x3F 9))

def sb : State := (runs (nsc {cst with disp := some rdp, busy := 100} (wo 0x2B 0))).wr (Reg.tileDmax1 1) 2

theorem witness_NimlorControl_1 :
    (x4.fetches 3 (BitVec.ofNat 24 (24 * 2 ^ 18 + (1 * 2 ^ 14 + 4 * 2 ^ 10 + 3875 % 2 ^ 10))) = true ∧ ((x4.readyCore
      3).tag 1 || (x4.readyCore 3).tag 4) = true) ∧
    (x3.fetches 3 (BitVec.ofNat 24 (24 * 2 ^ 18 + (5 * 2 ^ 14 + 5 * 2 ^ 10 + 3875 % 2 ^ 10))) = true ∧ ((x3.readyCore
      3).tag 5 || (x3.readyCore 3).tag 5) = false ∧ ((x3.readyCore 3).reg 5 == (x3.readyCore 3).reg 5) = true) ∧
    (x1.fetches 3 (BitVec.ofNat 24 (24 * 2 ^ 18 + (1 * 2 ^ 14 + 4 * 2 ^ 10 + 3875 % 2 ^ 10))) = true ∧ ((x1.readyCore
      3).tag 1 || (x1.readyCore 3).tag 4) = false ∧ ((x1.readyCore 3).reg 1 == (x1.readyCore 3).reg 4) = false) ∧
    (x28.fetches 3 (BitVec.ofNat 24 (30 * 2 ^ 18 + (1 * 2 ^ 14 + 156 * 2 ^ 6 + 3875 % 2 ^ 6))) = true ∧ (x28.readyCore
      3).tag 1 = true) ∧
    (x31.fetches 3 (BitVec.ofNat 24 (31 * 2 ^ 18 + (1 * 2 ^ 14 + 16 * 2 ^ 6 + 3875 % 2 ^ 6))) = true ∧ (x31.readyCore
      3).tag 1 = false ∧ ((x31.readyCore 3).reg 1 != 16) = true) ∧
    (x27.fetches 3 (BitVec.ofNat 24 (30 * 2 ^ 18 + (1 * 2 ^ 14 + 16 * 2 ^ 6 + 3875 % 2 ^ 6))) = true ∧ (x27.readyCore
      3).tag 1 = false ∧ ((x27.readyCore 3).reg 1 == 16) = false) := by
  decide +kernel

theorem witness_NimlorControl_2 :
    (x44.fetches 3 (BitVec.ofNat 24 (34 * 2 ^ 18 + (0 * 2 ^ 15 + 4 * 2 ^ 12 + 3875))) = true ∧ ((x44.readyCore 3).pairTag
      0 || (x44.readyCore 3).pairTag 4) = true) ∧
    (x43.fetches 3 (BitVec.ofNat 24 (34 * 2 ^ 18 + (2 * 2 ^ 15 + 2 * 2 ^ 12 + 3875))) = true ∧ ((x43.readyCore 3).pairTag
      2 || (x43.readyCore 3).pairTag 2) = false ∧ ((x43.readyCore 3).pair 2 == (x43.readyCore 3).pair 2) = true) ∧
    (x41.fetches 3 (BitVec.ofNat 24 (34 * 2 ^ 18 + (0 * 2 ^ 15 + 4 * 2 ^ 12 + 3875))) = true ∧ ((x41.readyCore 3).pairTag
      0 || (x41.readyCore 3).pairTag 4) = false ∧ ((x41.readyCore 3).pair 0 == (x41.readyCore 3).pair 4) = false) ∧
    (x59.fetches 3 (BitVec.ofNat 24 (38 * 2 ^ 18 + (1 * 2 ^ 14 + 4 * 2 ^ 11 + 3875 % 2 ^ 11))) = true ∧ (x59.readyCore
      3).tag 1 = true) ∧
    (x60.fetches 3 (BitVec.ofNat 24 (39 * 2 ^ 18 + (1 * 2 ^ 14 + 2 * 2 ^ 11 + 3875 % 2 ^ 11))) = true ∧ (x60.readyCore
      3).tag 1 = false ∧ BitVec.getLsbD ((x60.readyCore 3).reg 1) 2 = true) ∧
    (x61.fetches 3 (BitVec.ofNat 24 (39 * 2 ^ 18 + (1 * 2 ^ 14 + 1 * 2 ^ 11 + 3875 % 2 ^ 11))) = true ∧ (x61.readyCore
      3).tag 1 = false ∧ BitVec.getLsbD ((x61.readyCore 3).reg 1) 1 = false) := by
  decide +kernel

theorem witness_NimlorControl_3 :
    (x63.fetches 3 (BitVec.ofNat 24 (40 * 2 ^ 18 + 7)) = true) ∧
    (x64.fetches 3 (BitVec.ofNat 24 (41 * 2 ^ 18 + 7)) = true) ∧
    ((x68.fetches 3 (BitVec.ofNat 24 (42 * 2 ^ 18 + (2 * 2 ^ 15 + if true = true then 2 ^ 14 else 0))) = true) ∧
      (x68.readyCore 3).pairTag 2 = true) ∧
    ((x67.fetches 3 (BitVec.ofNat 24 (42 * 2 ^ 18 + (2 * 2 ^ 15 + if true = true then 2 ^ 14 else 0))) = true) ∧
      (x67.readyCore 3).pairTag 2 = false) ∧
    (x69.fetches 3 (BitVec.ofNat 24 (43 * 2 ^ 18 + 0)) = true) ∧
    (x71.fetches 3 (BitVec.ofNat 24 (43 * 2 ^ 18 + 1)) = true) := by
  decide +kernel

theorem witness_NimlorControl_4 :
    (x73.fetches 3 (BitVec.ofNat 24 (43 * 2 ^ 18 + 2)) = true) ∧
    (x75.fetches 3 (BitVec.ofNat 24 (43 * 2 ^ 18 + 3)) = true) ∧
    (x77.fetches 3 (BitVec.ofNat 24 (43 * 2 ^ 18 + 4)) = true) ∧
    (x79.fetches 3 (BitVec.ofNat 24 (43 * 2 ^ 18 + (0 * 2 ^ 16 + 5))) = true) ∧
    ((x81.fetches 3 (BitVec.ofNat 24 (43 * 2 ^ 18 + 6)) = true ∧ (x81.bkptOn = false ∨ (x81.readyCore 3).atBkpt = true))) ∧
    (x86.fetches 3 (BitVec.ofNat 24 (43 * 2 ^ 18 + 6)) = true ∧ x86.bkptOn = true ∧ (x86.readyCore 3).atBkpt = false) := by
  decide +kernel

theorem witness_NimlorControl_5 :
    (x88.fetches 3 (BitVec.ofNat 24 (43 * 2 ^ 18 + (77 * 2 ^ 6 + 7))) = true) ∧
    (x90.fetches 3 (BitVec.ofNat 24 (44 * 2 ^ 18 + (1 * 2 ^ 16 + 2 * 2 ^ 13 + 0))) = true) ∧
    (x97.fetches 3 (BitVec.ofNat 24 (44 * 2 ^ 18 + (1 * 2 ^ 16 + 2 * 2 ^ 13 + 7))) = true ∧ 7 ≠ 0 ∧ (x97.readyCore
      3).pairTag 2 = true) ∧
    (x92.fetches 3 (BitVec.ofNat 24 (45 * 2 ^ 18 + (1 * 2 ^ 16 + 5 * 2 ^ 8 + 3875 % 2 ^ 8))) = true ∧ 3875 % 2 ^ 8 ≠ 0) ∧
    (x105.fetches 3 (wo 63 9) = true ∧ opOf (wo 63 9) = none) ∧
    ((sb.core 3).disp = some rdp ∧ rdp.budgetTaken = false ∧ sb.dmax 3 ≠ 0 ∧ sb.dmax 3 * 16 < (sb.core 3).busy ∧
      sb.coreActive 3 = true ∧ (sb.core 3).wait = CoreWait.none ∧ (sb.core 3).stopDue = false ∧ (checkAt (Store.tile (3 /
      2) (3 + 3 % 2)) (sb.rawWord (Store.tile (3 / 2) (3 + 3 % 2)) (sb.core 3).pc.toNat) = Found.good (wordData
      (sb.rawWord (Store.tile (3 / 2) (3 + 3 % 2)) (sb.core 3).pc.toNat)) ∧ BitVec.truncate 24 (wordData (sb.rawWord
      (Store.tile (3 / 2) (3 + 3 % 2)) (sb.core 3).pc.toNat)) = wo 43 0) ∧ (sb.core 3).intrap = false ∧ (sb.core
      3).tvec.getLsbD 15 = true) := by
  decide +kernel

theorem witness_NimlorControl_6 :
    ((∀ (lv : Nat), lv < 3 → cl1.lact.testBit lv = true → cl1.lpe.getD lv 0 ≠ cl1.pc.toNat)) ∧
    ((0 < 3 ∧ cl2.lact.testBit 0 = true ∧ cl2.lpe.getD 0 0 = cl2.pc.toNat ∧ 1 < cl2.lpc.getD 0 0 ∧ (∀ (j : Nat), j < 3 → 0
      < j → cl2.lact.testBit j = true → cl2.lpe.getD j 0 ≠ cl2.pc.toNat))) := by
  decide +kernel

end Sys2Proof.Tests.O3

namespace Sys2Proof.Tests.O4

def gs : List Byte := [0x11, 0x9C, 3, 0x80, 0xFF, 0x00, 0x40, 0x01, 0xFE, 0x7F, 0x55, 0xAA, 0x10, 0xE0, 0x02, 0xF1]

def cst : CoreSt := {running := true, pc := 5, g := gs, tvec := 0x8100, lk := 0x77, lpe := [9, 9, 9], lps := [2,3,4], lpc := [7,0,0]}

def nsc (c : CoreSt) (w : BitVec 24) : State :=
  { up.setRaw (Store.tile 1 4) 5 (encodeAt (Store.tile 1 4) (w.zeroExtend 64)) with cores := [(3, c)], tiles := [(1, {awake := true})], clusters := [], time := {fab := 1000} }

def wo (op rest : Nat) : BitVec 24 := BitVec.ofNat 24 (op * 2 ^ 18 + rest)

def tg (c : CoreSt) (m : Nat) : CoreSt := {c with gTag := m}

def ev (c : CoreSt) : CoreSt := {c with evpend := 0x36, evmsk := 0x14}

def cw : CoreSt := {ev cst with wait := .ewait 4}

def ct : CoreSt := {cst with wait := .wtu 4 2 9 0, wtg := 500}

def cs0 : CoreSt := {cst with wtg := 500}

def at' (s : State) (w0 : Nat) : State := {s with time := {s.time with w0 := w0}}

def x107 : State := (nsc (ev cst) (wo 0x2E (4*2^14)))

def x108 : State := (nsc cst (wo 0x2E (4*2^14)))

def x109 : State := (nsc {cst with haltReq := 4} (wo 0x2E (4*2^14)))

def x111 : State := (nsc cw (wo 0x2E (4*2^14)))

def x112 : State := (nsc cs0 (wo 0x2F (4*2^14+4*2^9)))

def x113 : State := (nsc (tg cs0 256) (wo 0x2F (4*2^14+4*2^9)))

def y1 : State := at' (nsc cs0 (wo 0x2F (4*2^14+4*2^9))) 501

def y2 : State := at' (nsc {ct with wait := .wtu 4 0 9 0} 0) 501

def x114 : State := (nsc cst (wo 0x30 0))

def x115 : State := (nsc cst (wo 0x30 (2^16+0x55*2^8)))

def x116 : State := (nsc cst (wo 0x30 (2*2^16+1*2^4)))

def x117 : State := (nsc (tg cst 2) (wo 0x30 (2*2^16+1*2^4)))

def y4 : State := at' (nsc {ct with wtg := 0x300000000} 0) 9000

theorem witness_NimlorWaits_1 :
    (x107.fetches 3 (BitVec.ofNat 24 (46 * 2 ^ 18 + 4 * 2 ^ 14)) = true ∧ (x107.readyCore 3).evpend &&& (x107.readyCore
      3).evmsk ≠ 0) ∧
    (x108.fetches 3 (BitVec.ofNat 24 (46 * 2 ^ 18 + 4 * 2 ^ 14)) = true ∧ (x108.readyCore 3).evpend &&& (x108.readyCore
      3).evmsk = 0 ∧ (x108.readyCore 3).haltReq.testBit 2 = false) ∧
    (x109.fetches 3 (BitVec.ofNat 24 (46 * 2 ^ 18 + 4 * 2 ^ 14)) = true ∧ (x109.readyCore 3).evpend &&& (x109.readyCore
      3).evmsk = 0 ∧ (x109.readyCore 3).haltReq.testBit 2 = true) ∧
    ((x111.core 3).wait = CoreWait.ewait 4 ∧ x111.coreActive 3 = true ∧ (x111.core 3).stopDue = false ∧ (x111.core
      3).evpend &&& (x111.core 3).evmsk ≠ 0) ∧
    (x113.fetches 3 (BitVec.ofNat 24 (47 * 2 ^ 18 + (4 * 2 ^ 14 + 0 * 2 ^ 12 + 4 * 2 ^ 9))) = true ∧ (x113.readyCore
      3).pairTag 4 = true) ∧
    (y1.fetches 3 (BitVec.ofNat 24 (47 * 2 ^ 18 + (4 * 2 ^ 14 + 0 * 2 ^ 12 + 4 * 2 ^ 9))) = true ∧ (y1.readyCore
      3).pairTag 4 = false ∧ (y1.readyCore 3).wtg.toNat ≤ y1.high 0) := by
  decide +kernel

theorem witness_NimlorWaits_2 :
    (x112.fetches 3 (BitVec.ofNat 24 (47 * 2 ^ 18 + (4 * 2 ^ 14 + 0 * 2 ^ 12 + 4 * 2 ^ 9))) = true ∧ (x112.readyCore
      3).pairTag 4 = false ∧ x112.high 0 < (x112.readyCore 3).wtg.toNat ∧ (x112.readyCore 3).haltReq.testBit 2 = false) ∧
    ((y2.core 3).wait = CoreWait.wtu 4 0 9 0 ∧ y2.coreActive 3 = true ∧ (y2.core 3).stopDue = false ∧ (y2.core
      3).wtg.toNat ≤ y2.high 0) ∧
    ((y4.core 3).wait = CoreWait.wtu 4 2 9 0 ∧ y4.coreActive 3 = true ∧ (y4.core 3).stopDue = false ∧ y4.high 2 < (y4.core
      3).wtg.toNat ∧ 9 ≠ 0 ∧ 0 + 9 * 1000 ≤ y4.time.w0) ∧
    (x114.fetches 3 (BitVec.ofNat 24 (48 * 2 ^ 18 + 0)) = true) ∧
    (x115.fetches 3 (BitVec.ofNat 24 (48 * 2 ^ 18 + (2 ^ 16 + 85 * 2 ^ 8))) = true) ∧
    (x117.fetches 3 (BitVec.ofNat 24 (48 * 2 ^ 18 + (2 * 2 ^ 16 + 1 * 2 ^ 4))) = true ∧ (x117.readyCore 3).tag 1 = true) := by
  decide +kernel

theorem witness_NimlorWaits_3 :
    x116.fetches 3 (BitVec.ofNat 24 (48 * 2 ^ 18 + (2 * 2 ^ 16 + 1 * 2 ^ 4))) = true ∧ (x116.readyCore 3).tag 1 = false := by
  decide +kernel

end Sys2Proof.Tests.O4

namespace Sys2Proof.Tests.O5

def gs : List Byte := [0x11, 0x9C, 3, 0x80, 0xFF, 0x00, 0x40, 0x01, 0xFE, 0x7F, 0x55, 0xAA, 0x10, 0xE0, 0x02, 0xF1]

def cst : CoreSt := {running := true, pc := 5, g := gs, tvec := 0x8100, lk := 0x77, lpe := [9, 9, 9], lps := [2,3,4], lpc := [7,0,0]}

def nsc (c : CoreSt) (w : BitVec 24) : State :=
  { up.setRaw (Store.tile 1 4) 5 (encodeAt (Store.tile 1 4) (w.zeroExtend 64)) with cores := [(3, c)], tiles := [(1, {awake := true})], clusters := [], time := {fab := 1000} }

def ns := nsc cst

def base : State := (((ns 0).setMapEntry 40 (mkMap 1 7 false)).writeWords (Store.tile 1 0) (ctxWord 7 + 8) [0x0000000000130041, 0, 0])

def rd1 : RunDisp := {d := {lane := 40, wheel := 0, due := 4, cog := 0, core := 0, ticket := false, late := false, held := false, woke := false, sentAt := 4 }, lidx := 3, start := 5, budgetTaken := false}

def rd2 : RunDisp := {rd1 with d := {rd1.d with lane := 41}}

def e1 : WriteEntry := { st := Store.tile 1 0, word := 0x1200, bytes := [(6, 0xAB, false)] }

def cp (c : CoreSt) : CoreSt := (((c.setDev Dev.ppslot 0 false).setDev Dev.ppval 9 false).setDev (Dev.pppt+1) 10 false)

def cc (c : CoreSt) : State := {base with cores := [(3, cp c)]}

def cw : CoreSt := { cst with wbuf := [e1] }

def op : OpenPt := { point := 40*64, accepted := 100, lapsed := false, fab := 200 }

def s0 : State := cc cst

def s1 : State := cc { cw with disp := some rd1 }

def s2 : State := cc { cst with disp := some rd2 }

def s3 : State := { s0 with cores := [(3, (cp cst).setDev (Dev.pppt+1) 0 false)] }

def s4 : State := {s0 with hop := {s0.hop with migs := [{move := {lane := 40, cls := .firmware, force := false, tile := 6, seat := none, tag := 7}, srcTile := 1, srcLane := 7, dstLane := 3, phase := .copying, firstTest := none}]}}

def s5 : State := cc { cst with ppoint := some op }

def s7 : State := { s5 with time := { s5.time with fab := 20000 } }

def s8 : State := cc { cst with ppoint := some { op with point := 41*64 }, disp := some rd1 }

theorem witness_NimlorDevices_1 :
    (s0.canAsk (Req.core 3) = true ∧ s0.tileAwake (3 / 2) = true ∧ (s0.core 3).wbuf = []) ∧
    (s1.canAsk (Req.core 3) = true ∧ s1.tileAwake (3 / 2) = true ∧ ((s1.drainStores 3).core 3).disp = some rd1) ∧
    (s0.canAsk (Req.core 3) = true ∧ s0.tileAwake (3 / 2) = true ∧ ((s0.drainStores 3).core 3).disp = none) ∧
    (s3.canAsk (Req.core 3) = true ∧ s3.tileAwake (3 / 2) = true ∧ mapValid ((s3.drainStores 3).mapEntry (((s3.drainStores
      3).core 3).devNat Dev.pppt 3 % 2 ^ 20 / 64)) = false) ∧
    (s4.canAsk (Req.core 3) = true ∧ s4.tileAwake (3 / 2) = true ∧ mapValid ((s4.drainStores 3).mapEntry (((s4.drainStores
      3).core 3).devNat Dev.pppt 3 % 2 ^ 20 / 64)) = true ∧ (s4.drainStores 3).laneHeld (((s4.drainStores 3).core
      3).devNat Dev.pppt 3 % 2 ^ 20 / 64) = true) ∧
    (s0.canAsk (Req.core 3) = true ∧ s0.tileAwake (3 / 2) = true ∧ mapValid ((s0.drainStores 3).mapEntry (((s0.drainStores
      3).core 3).devNat Dev.pppt 3 % 2 ^ 20 / 64)) = true ∧ (s0.drainStores 3).laneHeld (((s0.drainStores 3).core
      3).devNat Dev.pppt 3 % 2 ^ 20 / 64) = false) := by
  decide +kernel

theorem witness_NimlorDevices_2 :
    (s0.canAsk (Req.core 3) = true ∧ s0.tileAwake (3 / 2) = true ∧ ((s0.drainStores 3).core 3).ppoint = none) ∧
    ((s7.canAsk (Req.core 3) = true ∧ s7.tileAwake (3 / 2) = true ∧ ((s7.drainStores 3).core 3).ppoint = some op ∧
      (op.lapsed = true ∨ op.accepted + 4096 ≤ s7.coreCyc 3))) ∧
    (s8.canAsk (Req.core 3) = true ∧ s8.tileAwake (3 / 2) = true ∧ ((s8.drainStores 3).core 3).ppoint = some { point := 41 * 64, accepted := op.accepted, lapsed := op.lapsed, fab := op.fab : OpenPt }
      ∧ { point := 41 * 64, accepted := op.accepted, lapsed := op.lapsed, fab := op.fab : OpenPt }.lapsed = false ∧
      s8.coreCyc 3 < { point := 41 * 64, accepted := op.accepted, lapsed := op.lapsed, fab := op.fab : OpenPt }.accepted +
      4096 ∧ mapValid ((s8.drainStores 3).mapEntry ({ point := 41 * 64, accepted := op.accepted, lapsed := op.lapsed, fab := op.fab : OpenPt }.point
      / 64)) = false) ∧
    (s5.canAsk (Req.core 3) = true ∧ s5.tileAwake (3 / 2) = true ∧ ((s5.drainStores 3).core 3).ppoint = some op ∧
      op.lapsed = false ∧ s5.coreCyc 3 < op.accepted + 4096 ∧ mapValid ((s5.drainStores 3).mapEntry (op.point / 64)) =
      true) ∧
    (s7.canAsk (Req.core 3) = true ∧ s7.tileAwake (3 / 2) = true ∧ ((s7.drainStores 3).core 3).ppoint = some op ∧
      op.accepted + 4096 ≤ s7.coreCyc 3) := by
  decide +kernel

theorem witness_NimlorDevices_3 :
    (s0.canAsk (Req.core 3) = true ∧ s0.tileAwake (3 / 2) = true ∧ ((s0.drainStores 3).core 3).place 3 (((s0.drainStores
      3).core 3).wzlo + 18 * 256) = Place.mem (Store.tile 1 0) 4608 ∧ 4608 < 2 ^ 40) ∧
    (s0.canAsk (Req.core 3) = true ∧ s0.tileAwake (3 / 2) = true ∧ 4 ≤ ((s0.drainStores 3).core 3).twLatch.length) := by
  decide +kernel

theorem witness_NimlorDevices_4 :
    (s2.canAsk (Req.core 3) = true ∧ s2.tileAwake (3 / 2) = true ∧ (∀ (st b : Nat), ((s2.drainStores 3).core 3).place 3
      (((s2.drainStores 3).core 3).wzlo + 225 * 256) ≠ Place.mem st b)) := by
  and_intros <;> first
    | exact Or.inr rfl
    | exact not_mem_place (by decide +kernel)
    | exact not_hpp (by decide +kernel)
    | decide +kernel
    | exact forall_some (by decide +kernel)
    | exact forall_some_pair (by decide +kernel)
    | exact Or.inl (by decide +kernel)
    | exact Or.inr ⟨_, rfl, by decide +kernel⟩

end Sys2Proof.Tests.O5

namespace Sys2Proof.Tests.P1

def q1 : State := { up with pending := [.por, .nrstPin] }

def wbad : BitVec 72 := (BitVec.ofNat 72 (2^64 * ((eccCheck 5 ^^^ 0xFF).toNat) + 5))

theorem witness_StepRunsFront :
    (q1.pending = [Instr.por, Instr.nrstPin]) ∧
    (up.pending = []) ∧
    (q1.pwr.state ≠ PwrState.sleep ∧ q1.pwr.target ≠ some PwrState.sleep) := by
  decide +kernel

theorem witness_IdleTimeExact :
    (up.pending = [] ∧ up.evq = [] ∧ (∀ (p : Nat), p < 18 → (up.port p).arrived = []) ∧ up.rtc.set = none) := by
  decide +kernel

theorem witness_WordCode :
    (0 < 71 ∧ 71 < 72) ∧
    (eccCheck (BitVec.truncate 64 wbad) ^^^ BitVec.truncate 8 (wbad >>> 64) = 255 ∧ wbad ≠ 4703919738795935662080#72) := by
  decide +kernel

end Sys2Proof.Tests.P1

namespace Sys2Proof.Tests

/-! ### A valid checkpoint (Hibernation), its CRCs left as terms -/

/-- A configuration of eight zero bytes; the rest of the journal is zero. -/
def bare : State :=
  { up with words := [(wordKey Store.journal cfgWord, encodeWord (BitVec.ofNat 64 (8 + (crc32c (List.replicate 8 0)).toNat * 2 ^ 32)))] }

/-- The checkpoint's header words: generation 1, the CRC of a body of zeros, the header's own CRC. -/
def ckBodyWord : DWord := BitVec.ofNat 64 (bare.ckBodyCrc.toNat * 2 ^ 32)
def ckHead (j : Nat) : DWord := if j = 0 then 1 else if j = 132 then ckBodyWord else 0
def ckCrcWord : DWord := BitVec.ofNat 64 (crcWords ((List.range 511).map ckHead)).toNat
def ckFull (j : Nat) : DWord := if j = 511 then ckCrcWord else ckHead j

def kept : State :=
  { bare with words := [(wordKey Store.journal ckHeadWord, encodeWord 1), (wordKey Store.journal (ckHeadWord + 132), encodeWord ckBodyWord),
      (wordKey Store.journal (ckHeadWord + 511), encodeWord ckCrcWord)] ++ bare.words }

def asleepKept : State := { kept with pwr := { kept.pwr with state := .hibernate, woken := true } }

theorem ck_words_read (d : DWord) (_ : d ∈ [1, ckBodyWord, ckCrcWord]) : checkWord (encodeWord d) = .good d := by
  have hd : wordData (encodeWord d) = d := by
    apply BitVec.eq_of_getLsbD_eq
    intro i hi
    have := BitVec.getLsbD_append (x := eccCheck d) (y := d) (i := i)
    simp_all [wordData, encodeWord]
  have hc : wordCheck (encodeWord d) = eccFold eccColumns d.toNat := by
    apply BitVec.eq_of_getLsbD_eq
    intro i hi
    have := BitVec.getLsbD_append (x := eccCheck d) (y := d) (i := 64 + i)
    simp_all [wordCheck, encodeWord, eccCheck]
  simp [checkWord, findWord, hd, hc]

theorem zero_word_reads : checkWord 0#72 = .good 0 := by decide +kernel

theorem journal_kept_zero (i : Nat) (h : i ∉ [ckHeadWord, ckHeadWord + 132, ckHeadWord + 511, cfgWord]) :
    asleepKept.rawWord Store.journal i = 0 ∧ bare.rawWord Store.journal i = 0 := by
  have hj : isFlash Store.journal = false := by decide
  simp only [List.mem_cons, List.not_mem_nil, or_false, not_or, ckHeadWord, cfgWord] at h
  constructor <;>
    simp [State.rawWord, hj, asleepKept, kept, bare, Sparse.get, wordKey, ckHeadWord, cfgWord, h.1, h.2.1, h.2.2.1, h.2.2.2]

theorem journal_kept_head (j : Nat) (h : j < 512) : asleepKept.journalWord? (ckHeadWord + j) = some (ckFull j) := by
  by_cases h0 : j ∈ [0, 132, 511]
  · simp only [List.mem_cons, List.not_mem_nil, or_false] at h0
    have key : ∀ w d, asleepKept.rawWord Store.journal (ckHeadWord + j) = encodeWord d → d ∈ [1, ckBodyWord, ckCrcWord] → w = d →
        asleepKept.journalWord? (ckHeadWord + j) = some w := by
      rintro w d hr hd rfl
      simp [State.journalWord?, hr, ck_words_read _ hd]
    obtain rfl | rfl | rfl := h0
    · exact key _ 1 rfl (by simp) (by simp [ckFull, ckHead])
    · exact key _ ckBodyWord rfl (by simp) (by simp [ckFull, ckHead])
    · exact key _ ckCrcWord rfl (by simp) (by simp [ckFull])
  · simp only [List.mem_cons, List.not_mem_nil, or_false, not_or] at h0
    have hr := (journal_kept_zero (ckHeadWord + j) (by simp [ckHeadWord, cfgWord]; omega)).1
    simp [State.journalWord?, hr, zero_word_reads, ckFull, ckHead, h0]

theorem journal_kept_body (i : Nat) (h : ckHeadWord + 512 ≤ i) (h' : i < cfgWord) : asleepKept.journalWord? i = some 0 := by
  have hr := (journal_kept_zero i (by simp only [List.mem_cons, List.not_mem_nil, or_false]; omega)).1
  simp [State.journalWord?, hr, zero_word_reads]

theorem words_read (s : State) (f : Nat → DWord) (i n : Nat) (h : ∀ j < n, s.journalWord? (i + j) = some (f j)) :
    s.journalWords? i n = some ((List.range n).map f) := by
  have key : ∀ l : List Nat, (∀ j ∈ l, s.journalWord? (i + j) = some (f j)) →
      (l.map (fun j => s.journalWord? (i + j))).foldr (fun w r => match w, r with
        | some d, some ds => some (d :: ds)
        | _, _ => none) (some []) = some (l.map f) := by
    intro l hl
    induction l with
    | nil => rfl
    | cons x l ih =>
      have hx := hl x (by simp)
      have := ih (fun j hj => hl j (by simp [hj]))
      simp only [List.map_cons, List.foldr_cons, this, hx]
  exact key _ (fun j hj => h j (List.mem_range.mp hj))

theorem peek_kept (i : Nat) (h : ckHeadWord + 512 ≤ i) (h' : i < cfgWord) :
    asleepKept.peekWord Store.journal i = bare.peekWord Store.journal i := by
  have hr := journal_kept_zero i (by simp only [List.mem_cons, List.not_mem_nil, or_false]; omega)
  simp only [State.peekWord, hr.1, hr.2]

theorem valid_of (s : State) (ws : List DWord) (d : DWord) (hh : s.ckHead? = some ws) (hb : s.ckBodyReads = true)
    (hd : ws.getD 132 0 = d) (hn : natField d.toNat 32 32 = s.ckBodyCrc.toNat) : s.ckValid = true := by
  rw [State.ckValid, hh, Option.any_some, hb, hd, hn, Bool.true_and, beq_self_eq_true]

theorem head_of (s : State) (h : DWord) (ws : List DWord) (h0 : s.journalWord? ckHeadWord = some h) (hn : natField h.toNat 0 32 ≠ 0)
    (hw : s.journalWords? ckHeadWord 512 = some ws)
    (hc : natField (ws.getD 511 0).toNat 0 32 = (crcWords (ws.take 511)).toNat) : s.ckHead? = some ws := by
  simp only [State.ckHead?, h0, if_neg hn, hw, Option.filter, hc, beq_self_eq_true, ↓reduceIte]

theorem kept_first_word : asleepKept.journalWord? ckHeadWord = some (ckFull 0) := by
  have := journal_kept_head 0 (by decide)
  rwa [Nat.add_zero] at this

theorem kept_body_reads : asleepKept.ckBodyReads = true := by
  simp only [State.ckBodyReads, words_read asleepKept (fun _ => 0) ckMillWord ckBodyLen (fun j hj =>
    journal_kept_body _ (by simp only [ckHeadWord, ckMillWord]; omega) (by simp only [ckMillWord, cfgWord, ckBodyLen] at *; omega)),
    Option.isSome_some]

theorem kept_body_crc : asleepKept.ckBodyCrc = bare.ckBodyCrc := by
  simp only [State.ckBodyCrc]
  exact congrArg crcWords (List.map_congr_left (fun j hj => peek_kept _ (by simp only [ckHeadWord, ckMillWord]; omega)
    (by have := List.mem_range.mp hj; simp only [ckMillWord, cfgWord, ckBodyLen] at *; omega)))

theorem kept_head_words : ((List.range 512).map ckFull).take 511 = (List.range 511).map ckHead := by
  rw [← List.map_take, List.take_range]
  exact List.map_congr_left (fun j hj => by have := List.mem_range.mp hj; simp [ckFull]; omega)

theorem kept_crc_place : ((List.range 512).map ckFull).getD 511 0 = ckCrcWord := by
  simp [List.getD, ckFull]

theorem kept_body_place : ((List.range 512).map ckFull).getD 132 0 = ckBodyWord := by
  simp [List.getD, ckFull, ckHead]

theorem low_of (c : BitVec 32) : natField (BitVec.ofNat 64 c.toNat).toNat 0 32 = c.toNat := by
  simp [natField]
  omega

theorem high_of (c : BitVec 32) : natField (BitVec.ofNat 64 (c.toNat * 2 ^ 32)).toNat 32 32 = c.toNat := by
  simp [natField, Nat.shiftRight_eq_div_pow]
  omega

theorem kept_crc_value : natField ckCrcWord.toNat 0 32 = (crcWords ((List.range 511).map ckHead)).toNat := low_of _

theorem kept_body_value : natField ckBodyWord.toNat 32 32 = bare.ckBodyCrc.toNat := high_of _

theorem ckValid_asleepKept : asleepKept.ckValid = true := by
  have hw := words_read asleepKept ckFull ckHeadWord 512 (fun j hj => journal_kept_head j hj)
  have hh := head_of asleepKept _ _ kept_first_word (by simp [ckFull, ckHead, natField]) hw (by rw [kept_crc_place, kept_head_words, kept_crc_value])
  exact valid_of asleepKept _ _ hh kept_body_reads kept_body_place (by rw [kept_body_value, kept_body_crc])

theorem witness_Hibernation_restore :
    asleepKept.pwr.state = .hibernate ∧ asleepKept.pwr.woken = true ∧ asleepKept.configOk = true ∧ asleepKept.ckValid = true :=
  ⟨rfl, rfl, by decide +kernel, ckValid_asleepKept⟩

/-- Of the two clauses on a restore that finds its checkpoint, one applies: a container is found or none is. The first rests on
the signature check, which no closed term evaluates (assumption 9). -/
theorem witness_Hibernation_container (t : State) : (t.findCopy [0, 1, 2]).1.isSome = true ∨ (t.findCopy [0, 1, 2]).1 = none := by
  cases (t.findCopy [0, 1, 2]).1 <;> simp

end Sys2Proof.Tests
end

section
/-! Bits of a register, and the updates of the front end as a whole: what each leaves as it was (04 R129-R165). -/

namespace Sys2Proof.Machine

/-! ### Bits and fields -/

/-- A bit of a register after a field of it was replaced. -/
theorem bitOf_putField (v : Word) (lo n x i : Nat) (hi : i < 32) :
    bitOf (putField v lo n x) i = if lo ≤ i ∧ i < lo + n then x.testBit (i - lo) else bitOf v i := by
  simp only [bitOf, putField, BitVec.getLsbD_or, BitVec.getLsbD_and, BitVec.getLsbD_not, BitVec.getLsbD_ofNat,
    Nat.testBit_shiftLeft, Nat.testBit_mod_two_pow, Nat.testBit_two_pow_sub_one, hi, decide_true, Bool.true_and]
  by_cases h₁ : lo ≤ i <;> by_cases h₂ : i < lo + n
  · simp [h₁, h₂, show i - lo < n by omega]
  · simp [h₁, h₂, show ¬ i - lo < n by omega]
  · simp [h₁]
  · simp [h₁]

/-- A bit of a register after a bit of it was replaced. -/
theorem bitOf_putBit (v : Word) (j i : Nat) (b : Bool) (hi : i < 32) :
    bitOf (putBit v j b) i = if i = j then b else bitOf v i := by
  rw [putBit, bitOf_putField _ _ _ _ _ hi]
  by_cases h : i = j
  · subst h; cases b <;> simp
  · rw [if_neg h, if_neg (by omega)]

/-- A field that a mask covers. -/
theorem field_and_mask (v m : Word) (lo n : Nat) (h : ∀ i < n, m.getLsbD (lo + i) = true) :
    field (v &&& m) lo n = field v lo n := by
  refine Nat.eq_of_testBit_eq fun i => ?_
  simp only [field, natField, Nat.testBit_mod_two_pow, Nat.testBit_shiftRight, BitVec.testBit_toNat, BitVec.getLsbD_and]
  by_cases hi : i < n
  · simp [h i hi]
  · simp [hi]

/-- A bit that a mask covers. -/
theorem bitOf_and_mask (v m : Word) (i : Nat) (h : m.getLsbD i = true) : bitOf (v &&& m) i = bitOf v i := by
  simp [bitOf, h]

/-! ### Derived updates of the registers -/

section Derived
variable (s : State) (a b n page e : Nat) (v : Bool)

@[simp] theorem State.rd_bumpBy (c : Nat) :
    (s.bumpBy a n).rd c = if c = a then s.rd a + BitVec.ofNat 32 n else s.rd c := by simp [State.bumpBy]
@[simp] theorem State.rd_setb (c : Nat) : (s.setb a b v).rd c = if c = a then putBit (s.rd a) b v else s.rd c := by
  simp [State.setb]
@[simp] theorem State.rd_raise (c : Nat) :
    (s.raise page b).rd c = if c = Reg.hdrIraw page then putBit (s.rd (Reg.hdrIraw page)) b true else s.rd c := by
  simp [State.raise, State.set1]

@[simp] theorem State.cnv_bumpBy (g : Nat) : (s.bumpBy a n).cnv g = s.cnv g := by simp [State.bumpBy]
@[simp] theorem State.cnv_setb (g : Nat) : (s.setb a b v).cnv g = s.cnv g := by simp [State.setb]
@[simp] theorem State.cnv_raise (g : Nat) : (s.raise page b).cnv g = s.cnv g := by simp [State.raise, State.set1]

@[simp] theorem State.slots_bumpBy : (s.bumpBy a n).slots = s.slots := by simp [State.bumpBy]
@[simp] theorem State.slots_setb : (s.setb a b v).slots = s.slots := by simp [State.setb]
@[simp] theorem State.slots_raise : (s.raise page b).slots = s.slots := by simp [State.raise, State.set1]

@[simp] theorem State.evq_bumpBy : (s.bumpBy a n).evq = s.evq := by simp [State.bumpBy]
@[simp] theorem State.evq_setb : (s.setb a b v).evq = s.evq := by simp [State.setb]
@[simp] theorem State.evq_raise : (s.raise page b).evq = s.evq := by simp [State.raise, State.set1]

@[simp] theorem State.w1set_setb : (s.setb a b v).w1set = s.w1set := by simp [State.setb]

@[simp] theorem State.time_setb : (s.setb a b v).time = s.time := by simp [State.setb]

end Derived

@[simp] theorem State.bump_eq (s : State) (a : Nat) : s.bump a = s.bumpBy a 1 := rfl

/-- A bit of a register after a bit of some register was replaced. -/
theorem State.rb_setb (s : State) (a b : Nat) (v : Bool) (c i : Nat) (hi : i < 32) :
    (s.setb a b v).rb c i = if c = a ∧ i = b then v else s.rb c i := by
  simp only [State.rb, State.rd_setb]
  by_cases h : c = a
  · subst h; simp [bitOf_putBit _ _ _ _ hi]
  · simp [h]

/-- A raised IRAW bit is set. -/
theorem State.rb_raise_same (s : State) (page b : Nat) (h : b < 32) :
    (s.raise page b).rb (Reg.hdrIraw page) b = true := by
  simp [State.rb, bitOf_putBit _ _ _ _ h]

/-! ### What an update of the front end leaves as it was -/

/-- `u` is `s` but for the registers `l`, the notes of IRAW bits set, converters, filter slots and the events under way. -/
structure FrontOnly (l : List Nat) (s u : State) : Prop where
  rest : u = { s with regs := u.regs, w1set := u.w1set, conv := u.conv, slots := u.slots, evq := u.evq }
  regs : OffRegs l s u

namespace FrontOnly
variable {l l' : List Nat} {s t u : State} {a b n page e g : Nat}

theorem refl : FrontOnly l s s := ⟨rfl, fun _ _ => rfl⟩

theorem trans (h : FrontOnly l s t) (h' : FrontOnly l t u) : FrontOnly l s u := by
  refine ⟨?_, fun a ha => (h'.regs a ha).trans (h.regs a ha)⟩
  have e := h'.rest
  rw [h.rest] at e
  exact e

theorem mono (h : FrontOnly l s u) (hl : l ⊆ l') : FrontOnly l' s u :=
  ⟨h.rest, fun a ha => h.regs a (fun h' => ha (hl h'))⟩

theorem time (h : FrontOnly l s u) : u.time = s.time := by rw [h.rest]
theorem pwr (h : FrontOnly l s u) : u.pwr = s.pwr := by rw [h.rest]
theorem host (h : FrontOnly l s u) : u.host = s.host := by rw [h.rest]

theorem rd (h : FrontOnly l s u) (ha : a ∉ l) : u.rd a = s.rd a := h.regs a ha

/-- The registers of a list of pages that holds every register named. -/
theorem offPages {ps : List Nat} (h : FrontOnly l s u) (hl : ∀ a ∈ l, a / 1024 ∈ ps) : OffPages ps s u :=
  fun a ha => h.regs a (fun h' => ha (hl a h'))

theorem wr (ha : a ∈ l) (v : Word) : FrontOnly l s (s.wr a v) := by
  refine ⟨rfl, fun c hc => ?_⟩
  rw [State.rd_wr, if_neg (by rintro rfl; exact hc ha)]

theorem bumpBy (ha : a ∈ l) : FrontOnly l s (s.bumpBy a n) := wr ha _
theorem setb (ha : a ∈ l) (v : Bool) : FrontOnly l s (s.setb a b v) := wr ha _
theorem raise (ha : Reg.hdrIraw page ∈ l) : FrontOnly l s (s.raise page b) :=
  (setb ha true).trans ⟨rfl, fun _ _ => rfl⟩
theorem event : FrontOnly l s (s.event page e) := by
  unfold State.event
  split
  · exact ⟨rfl, fun _ _ => rfl⟩
  · exact refl
theorem setCnv (c : ConvSt) : FrontOnly l s (s.setCnv g c) := ⟨rfl, fun _ _ => rfl⟩
theorem setSlot (c : SlotSt) : FrontOnly l s (s.setSlot g c) := ⟨rfl, fun _ _ => rfl⟩

theorem onlyIf {c : Bool} {f : State → State} (h : c = true → FrontOnly l s (f s)) : FrontOnly l s (s.onlyIf c f) := by
  cases c with
  | false => exact refl
  | true => exact h rfl

theorem foldl {α : Type} {f : State → α → State} (xs : List α) (h : ∀ x ∈ xs, ∀ t, FrontOnly l t (f t x)) :
    FrontOnly l s (xs.foldl f s) := by
  induction xs generalizing s with
  | nil => exact refl
  | cons x xs ih => exact (h x (by simp) s).trans (ih fun y hy => h y (by simp [hy]))

/-- No filter slot and no event: registers, notes and converters alone. -/
theorem rest_conv (h : FrontOnly l s u) (hs : u.slots = s.slots) (he : u.evq = s.evq) :
    u = { s with regs := u.regs, w1set := u.w1set, conv := u.conv } := by
  have e := h.rest
  rw [hs, he] at e
  exact e

theorem rest_noEvents (h : FrontOnly l s u) (he : u.evq = s.evq) :
    u = { s with regs := u.regs, w1set := u.w1set, conv := u.conv, slots := u.slots } := by
  have e := h.rest
  rw [he] at e
  exact e

theorem rest_regsConv (h : FrontOnly l s u) (hs : u.slots = s.slots) (he : u.evq = s.evq) (hw : u.w1set = s.w1set) :
    u = { s with regs := u.regs, conv := u.conv } := by
  have e := h.rest
  rw [hs, he, hw] at e
  exact e

end FrontOnly

/-- A part of the state that no step of a fold changes. -/
theorem State.foldl_keeps {α β : Type} (p : State → β) {f : State → α → State} (h : ∀ t x, p (f t x) = p t)
    (xs : List α) (s : State) : p (xs.foldl f s) = p s := by
  induction xs generalizing s with
  | nil => rfl
  | cons x xs ih => rw [List.foldl_cons, ih, h]

end Sys2Proof.Machine
end

section
/-! What the updates of a converter do: range switches, samples, outputs that leave, the multiplexer, scans and CSYNC (04
R136-R152, 05 R168-R195). -/

namespace Sys2Proof.Machine

/-! ### Range switches and samples -/

theorem State.switchRange_front (s : State) (g t m : Nat) :
    FrontOnly [Reg.cnvRchgcnt g, Reg.hdrIraw (Page.cnv g)] s (s.switchRange g t m) := by
  have h : FrontOnly [Reg.cnvRchgcnt g, Reg.hdrIraw (Page.cnv g)] s ((s.setTag g m t).setCnv g { (s.setTag g m t).cnv g with
      pend := none, blank := some { lo := m, hi := m + 9 }, held := some { lo := m, hi := m + 9 } }) :=
    (FrontOnly.setCnv _).trans (.setCnv _)
  simp only [State.switchRange]
  split
  · exact h.trans ((FrontOnly.bumpBy (by simp)).trans ((FrontOnly.raise (by simp)).trans .event))
  · exact h

theorem State.landSwitch_front (s : State) (g t m : Nat) :
    FrontOnly [Reg.cnvRchgcnt g, Reg.hdrIraw (Page.cnv g)] s (s.landSwitch g t m) :=
  (State.switchRange_front ..).trans (.setCnv _)

theorem State.countOver_front {l : List Nat} (s : State) (g n : Nat) (h : Reg.cnvOvrcnt g ∈ l)
    (h' : Reg.hdrIraw (Page.cnv g) ∈ l) : FrontOnly l s (s.countOver g n) := by
  unfold State.countOver
  split
  · exact .refl
  · exact (FrontOnly.bumpBy h).trans ((FrontOnly.raise h').trans .event)

theorem State.decideRange_front (l : List Nat) (s : State) (g b : Nat) : FrontOnly l s (s.decideRange g b) := by
  simp only [State.decideRange]
  split
  · exact .refl
  · exact .setCnv _

/-- Registers that a sample's entry can write: counters, STA and IRAW of the converter, SATCNT and IRAW of its engine. -/
abbrev feedRegs (g : Nat) : List Nat :=
  [Reg.cnvRchgcnt g, Reg.cnvOvrcnt g, Reg.cnvSta g, Reg.hdrIraw (Page.cnv g), Reg.filSatcnt (g / 4),
    Reg.hdrIraw (Page.fil (g / 4))]

theorem State.countSat_front (s : State) (g n : Nat) : FrontOnly (feedRegs g) s (s.countSat g n) :=
  (FrontOnly.bumpBy (by simp)).trans (.setb (by simp) _)

/-- A decided switch that is due by the next sample has taken effect (R143). -/
def State.landDue (s : State) (g : Nat) : State :=
  match (s.cnv g).pend with
  | some (t, ms) => if ms ≤ (s.cnv g).fed then s.landSwitch g t ms else s
  | none => s

/-- Sample `m` enters the filter and the block that is filling (R136, R137, R143). -/
def State.takeSample (s : State) (g m : Nat) (x : Sample) : State :=
  let c := s.cnv g
  let overs := c.overloaded m x
  let v := if c.blanked m then c.pred else s.sampleValue g m x
  let s := s.setCnv g { c with
    fed := m + 1
    blockSum := (if m % 8 = 0 then 0 else c.blockSum) + v
    blockOver := (m % 8 != 0 && c.blockOver) || overs
    trims := c.trims.filter (fun y => decide (m < y.upTo))
    ovrs := if overs then addSpan m { lo := m, hi := m + 1 } c.ovrs else c.ovrs }
  let sl := s.slot g
  let s := s.setSlot g { sl with hist := if m < sl.restart then sl.hist else v :: sl.hist }
  let s := (s.setb (Reg.cnvSta g) 15 overs).countOver g (b2n overs)
  s.countSat g (satsAt (s.sampleAt g) sl.phases sl.restart (s.lastStage g) m)

/-- A sample enters after the switch due by it, and the last one of a block runs the detector (R139). -/
theorem State.feed_eq (s : State) (g : Nat) (x : Sample) :
    s.feed g x =
      let m := (s.cnv g).fed
      let t := (s.landDue g).takeSample g m x
      if m % 8 = 7 then t.decideRange g (m / 8) else t := rfl

theorem State.landDue_front (s : State) (g : Nat) : FrontOnly (feedRegs g) s (s.landDue g) := by
  have h := fun t ms => (State.landSwitch_front s g t ms).mono (l' := feedRegs g) (by simp)
  unfold State.landDue
  split
  · split
    · exact h ..
    · exact .refl
  · exact .refl

theorem State.takeSample_front (s : State) (g m : Nat) (x : Sample) : FrontOnly (feedRegs g) s (s.takeSample g m x) :=
  (FrontOnly.setCnv _).trans ((FrontOnly.setSlot _).trans ((FrontOnly.setb (by simp) _).trans
    ((State.countOver_front _ _ _ (by simp) (by simp)).trans (State.countSat_front ..))))

theorem State.feed_front (s : State) (g : Nat) (x : Sample) : FrontOnly (feedRegs g) s (s.feed g x) := by
  have h := (State.landDue_front s g).trans (State.takeSample_front _ g (s.cnv g).fed x)
  rw [State.feed_eq]
  simp only
  split
  · exact h.trans (State.decideRange_front ..)
  · exact h

/-! ### Outputs that leave change no setting -/

theorem cnvCctl_notMem_feedRegs (g : Fin 8) : Reg.cnvCctl g ∉ feedRegs g := by decide +revert

theorem cnvCctl_notMem_supcnt (g : Fin 8) : Reg.cnvCctl g ∉ [Reg.cnvSupcnt g] := by decide +revert

/-- Converter `g` keeps its CCTL, and power states and the host port are as they were. -/
structure KeepsControl (g : Fin 8) (s u : State) : Prop where
  cctl : u.rd (Reg.cnvCctl g) = s.rd (Reg.cnvCctl g)
  pwr : u.pwr = s.pwr
  host : u.host = s.host

namespace KeepsControl
variable {g : Fin 8} {s t u : State}

theorem refl : KeepsControl g s s := ⟨rfl, rfl, rfl⟩

theorem trans (h : KeepsControl g s t) (h' : KeepsControl g t u) : KeepsControl g s u :=
  ⟨h'.cctl.trans h.cctl, h'.pwr.trans h.pwr, h'.host.trans h.host⟩

theorem errs {l : List (Nat × Word)} : KeepsControl g s { s with errs := l } := ⟨rfl, rfl, rfl⟩
theorem entered {l : List (Nat × Nat)} : KeepsControl g s { s with entered := l } := ⟨rfl, rfl, rfl⟩
theorem setSlot {j : Nat} {c : SlotSt} : KeepsControl g s (s.setSlot j c) := ⟨rfl, rfl, rfl⟩

theorem of_front {l : List Nat} (h : FrontOnly l s u) (hc : Reg.cnvCctl g ∉ l) : KeepsControl g s u :=
  ⟨h.rd hc, h.pwr, h.host⟩

/-- A write to a header register or outside the pages of the converters. -/
theorem wr {a : Nat} (h : a % 1024 < 0x40 ∨ 0x12000 ≤ a) (v : Word) : KeepsControl g s (s.wr a v) := by
  refine ⟨?_, rfl, rfl⟩
  rw [State.rd_wr, if_neg]
  have := g.isLt
  simp only [Reg.cnvCctl]
  omega

theorem header {page n : Nat} (h : n < 0x40) (v : Word) : KeepsControl g s (s.wr (page * 1024 + n) v) :=
  wr (.inl (by omega)) v

theorem raise {page b : Nat} : KeepsControl g s (s.raise page b) := (header (by decide) _).trans ⟨rfl, rfl, rfl⟩

theorem event {page e : Nat} : KeepsControl g s (s.event page e) :=
  of_front (l := []) .event (by simp)

theorem setRaw (st : Store) (i : Nat) (w : CWord) : KeepsControl g s (s.setRaw st i w) := ⟨by simp, by simp, by simp⟩

theorem foldl {α : Type} {f : State → α → State} (xs : List α) (h : ∀ t x, KeepsControl g t (f t x)) :
    KeepsControl g s (xs.foldl f s) := by
  induction xs generalizing s with
  | nil => exact refl
  | cons x xs ih => exact (h s x).trans ih

theorem onlyIf {c : Bool} {f : State → State} (h : KeepsControl g s (f s)) : KeepsControl g s (s.onlyIf c f) := by
  cases c with
  | false => exact refl
  | true => exact h

end KeepsControl

section Keeps
variable (s : State) (g : Fin 8)

theorem State.putWord_keepsControl (st : Store) (i : Nat) (w : CWord) : KeepsControl g s (s.putWord st i w) := by
  unfold State.putWord
  split
  · exact ⟨rfl, rfl, rfl⟩
  · simp only
    split
    · exact ((KeepsControl.wr (.inr (by decide)) _).trans .raise).trans (.setRaw ..)
    · exact .setRaw ..

theorem State.writeWords_keepsControl (st : Store) (ds : List DWord) (i : Nat) :
    KeepsControl g s (s.writeWords st i ds) := by
  induction ds generalizing s i with
  | nil => exact .refl
  | cons d ds ih => exact (State.putWord_keepsControl ..).trans (ih ..)

theorem State.logError_keepsControl (st : Store) (i : Nat) (scrub : Bool) : KeepsControl g s (s.logError st i scrub) := by
  unfold State.logError
  refine KeepsControl.trans ?_ .raise
  refine KeepsControl.trans ?_ (.wr (.inr (by decide)) _)
  refine KeepsControl.trans ?_ (.wr (.inr (by decide)) _)
  refine KeepsControl.trans ?_ (.wr (.inr (by simp only [Reg.eccElstmp]; omega)) _)
  refine KeepsControl.trans ?_ (.wr (.inr (by simp only [Reg.eccElw]; omega)) _)
  refine KeepsControl.trans ?_ (.wr (.inr (by simp only [Reg.eccEla]; omega)) _)
  refine KeepsControl.trans ?_ .errs
  split
  · exact .header (n := 0x2C) (by decide) _
  · exact .header (n := 0x2C) (by decide) _

theorem State.noteTileError_keepsControl (st : Store) : KeepsControl g s (s.noteTileError st) := by
  unfold State.noteTileError
  split
  · exact KeepsControl.trans (t := s.setTile ..) ⟨rfl, rfl, rfl⟩ .raise
  · exact .refl

theorem State.readWord_keepsControl (st : Store) (i : Nat) : KeepsControl g s (s.readWord st i).2 := by
  unfold State.readWord
  split
  · exact .refl
  · exact .header (by decide) _
  · exact .wr (.inr (by decide)) _
  · refine KeepsControl.trans ?_ ((State.logError_keepsControl ..).trans (State.noteTileError_keepsControl ..))
    split
    · exact .refl
    · exact .setRaw ..

theorem State.readWords_keepsControl (st : Store) (n i : Nat) : KeepsControl g s (s.readWords st i n).2 := by
  induction n generalizing s i with
  | zero => exact .refl
  | succ n ih => exact (State.readWord_keepsControl ..).trans (ih ..)

theorem State.feedTo_keepsControl (m : Nat) (xs : List Sample) : KeepsControl g s (s.feedTo g m xs) := by
  unfold State.feedTo
  split
  · exact .refl
  · refine .foldl _ fun t i => ?_
    have h := fun (t : State) (x : Sample) => KeepsControl.of_front (State.feed_front t g x) (cnvCctl_notMem_feedRegs g)
    split
    · exact h ..
    · exact KeepsControl.trans (t := t.freeSample.2) ⟨rfl, rfl, rfl⟩ (h ..)

theorem State.emit_keepsControl (w : Window) (y : Entry) : KeepsControl g s (s.emit g w y) := by
  unfold State.emit
  simp only
  split
  · exact .of_front (.bumpBy (l := [Reg.cnvSupcnt g]) (by simp)) (cnvCctl_notMem_supcnt g)
  · have hh : 0x12000 ≤ Reg.filHead (g / 4) (g % 4) := by simp only [Reg.filHead]; omega
    refine KeepsControl.trans ?_ .entered
    refine KeepsControl.trans ?_ .event
    refine KeepsControl.trans ?_ .setSlot
    refine KeepsControl.trans ?_ (.wr (.inr hh) _)
    exact (State.writeWords_keepsControl ..).trans (State.writeWords_keepsControl ..)

theorem State.afterOutput_keepsControl (n hi : Nat) : KeepsControl g s (s.afterOutput g n hi) := ⟨rfl, rfl, rfl⟩

theorem State.mainOutput_keepsControl (xs : List Sample) : KeepsControl g s (s.mainOutput g xs) := by
  unfold State.mainOutput
  simp only
  split
  · exact .refl
  · exact (State.feedTo_keepsControl ..).trans ((State.emit_keepsControl ..).trans (State.afterOutput_keepsControl ..))

theorem State.fadeStep_keepsControl : KeepsControl g s (s.fadeStep g) := by
  unfold State.fadeStep
  simp only
  split
  · exact .refl
  · split
    · have ha : 0x12000 ≤ Reg.filSta (g / 4) := by simp only [Reg.filSta]; omega
      exact KeepsControl.setSlot.trans ((KeepsControl.wr (.inr ha) _).trans .raise)
    · exact ⟨rfl, rfl, rfl⟩

theorem State.firBank_keepsControl (b n : Nat) : KeepsControl g s (s.firBank g b n).2 := by
  unfold State.firBank
  simp only
  split
  · exact State.readWords_keepsControl ..
  · exact (State.readWords_keepsControl ..).trans ⟨rfl, rfl, rfl⟩

theorem State.firValue_keepsControl : KeepsControl g s (s.firValue g).2 := by
  unfold State.firValue
  simp only
  split
  · exact State.firBank_keepsControl ..
  · split
    · exact State.firBank_keepsControl ..
    · exact (State.firBank_keepsControl ..).trans (State.firBank_keepsControl ..)

theorem State.dropFir_keepsControl : KeepsControl g s (s.dropFir g) := by
  unfold State.dropFir
  exact ((KeepsControl.wr (.inr (by simp only [Reg.filDropcnt]; omega)) _).trans .raise).trans
    ((State.fadeStep_keepsControl ..).trans (State.afterOutput_keepsControl ..))

theorem State.firOutput_keepsControl (xs : List Sample) : KeepsControl g s (s.firOutput g xs) := by
  unfold State.firOutput
  simp only
  split
  · exact .refl
  · split
    · exact (State.feedTo_keepsControl ..).trans (State.dropFir_keepsControl ..)
    · have hv := (State.feedTo_keepsControl s g (s.nextFir g).span.hi xs).trans (State.firValue_keepsControl ..)
      have hc := fun (t : State) n => KeepsControl.of_front (State.countSat_front t g n) (cnvCctl_notMem_feedRegs g)
      exact (hv.trans (hc ..)).trans ((State.emit_keepsControl ..).trans
        ((State.fadeStep_keepsControl ..).trans (State.afterOutput_keepsControl ..)))

/-- Outputs that leave before a change of the settings change none themselves. -/
theorem State.flushDue_keepsControl : KeepsControl g s (s.flushDue g) :=
  .onlyIf (.foldl _ fun t _ => (State.mainOutput_keepsControl t g []).trans (State.firOutput_keepsControl ..))

end Keeps

end Sys2Proof.Machine
end

section
/-! Writes to the pages of the converters and of the excitation that reach their block (04 R131-R165). -/

namespace Sys2Proof.Machine

/-! ### A write that reaches the block -/

/-- The register at `addr` lies at offset `off` of `page`, is number `n` of its row, takes the bits `m` of a write, and any
requester may write it (R444, R450). -/
def writableAt (addr page off : Nat) (cls : PageClass) (i n : Nat) (m : Word) : Bool :=
  addr / 1024 == page && addr % 1024 == off &&
    match busTarget addr with
    | some (c, j, r, k) => c == cls && j == i && k == n && r.mask == m && (r.access == .rw || r.access == .wo)
    | none => false

/-- A write that reaches its block acts there, where power states and the host port are as they were. -/
theorem State.reqWrite_writable {s : State} {req : Req} {addr page off i n : Nat} {cls : PageClass} {m v : Word}
    (hw : writableAt addr page off cls i n m = true) (h : s.reaches req page = true) {u : State}
    (hu : s.writeBlock req.index cls i off n addr (v &&& m) = u) (hp : u.pwr = s.pwr) (hh : u.host = s.host) :
    s.reqWrite req addr v = u := by
  unfold writableAt at hw
  split at hw
  · next c j r k ht =>
    simp only [Bool.and_eq_true, beq_iff_eq, Bool.or_eq_true] at hw
    obtain ⟨⟨rfl, rfl⟩, ⟨⟨⟨rfl, rfl⟩, rfl⟩, rfl⟩, ha⟩ := hw
    obtain ⟨-, -, -, hg, hc⟩ := State.reaches_iff h
    exact State.reqWrite_block ht h (ha.imp_right .inl) hu (by rw [hp, hg]) (by rw [hh, hc])
  · simp at hw

theorem writableAt_cctl (g : Fin 8) : writableAt (Reg.cnvCctl g) (Page.cnv g) 0x040 .cnv g 0 0x7FF = true := by
  decide +revert
theorem writableAt_insel (g : Fin 8) : writableAt (Reg.cnvInsel g) (Page.cnv g) 0x044 .cnv g 0 0x3 = true := by
  decide +revert
theorem writableAt_imode (g : Fin 8) : writableAt (Reg.cnvImode g) (Page.cnv g) 0x048 .cnv g 0 0x7777 = true := by
  decide +revert
theorem writableAt_rng (g : Fin 8) : writableAt (Reg.cnvRng g) (Page.cnv g) 0x04C .cnv g 0 0xFFFF077F = true := by
  decide +revert
theorem writableAt_burn (g : Fin 8) : writableAt (Reg.cnvBurn g) (Page.cnv g) 0x05C .cnv g 0 0xFF = true := by decide +revert
theorem writableAt_scango (g : Fin 8) : writableAt (Reg.cnvScango g) (Page.cnv g) 0x060 .cnv g 0 0x1 = true := by
  decide +revert
theorem writableAt_gtrim (g : Fin 8) (t : Fin 5) :
    writableAt (Reg.cnvGtrim g t) (Page.cnv g) (0x064 + 4 * t) .cnv g t 0xFFFFFF = true := by decide +revert
theorem writableAt_otrim (g : Fin 8) (t : Fin 5) :
    writableAt (Reg.cnvOtrim g t) (Page.cnv g) (0x078 + 4 * t) .cnv g t 0xFFFFFF = true := by decide +revert

/-! ### Scans and CSYNC (R148-R152) -/

@[simp] theorem State.muxSwitch_cnv (s : State) (g i tick : Nat) : (s.muxSwitch g i tick).cnv g = { s.cnv g with
    input := i, live := none, pend := none, blank := none, held := none, afterProbe := false, dn := 0, probeEnd := none
    settleEnd := some (tick + s.rf (Reg.cnvMuxset g) 0 16)
    tags := addHist (s.taken g) (ceilDiv tick 2) ((s.cnv g).tag, i) (s.cnv g).tags } := by simp [State.muxSwitch]

theorem State.muxSwitch_front (l : List Nat) (s : State) (g i tick : Nat) : FrontOnly l s (s.muxSwitch g i tick) := .setCnv _

@[simp] theorem State.muxSwitch_evq (s : State) (g i tick : Nat) : (s.muxSwitch g i tick).evq = s.evq := rfl

@[simp] theorem State.scanEntry_cnv (s : State) (g e tick : Nat) : (s.scanEntry g e tick).cnv g = { s.cnv g with
    input := s.rf (Reg.cnvScanl g) (2 * e) 2, live := none, pend := none, blank := none, held := none, afterProbe := false
    dn := 0, probeEnd := none, settleEnd := some (tick + s.rf (Reg.cnvMuxset g) 0 16)
    tags := addHist (s.taken g) (ceilDiv tick 2) ((s.cnv g).tag, s.rf (Reg.cnvScanl g) (2 * e) 2) (s.cnv g).tags
    scanning := true, entry := e, outs := 0 } := by simp [State.scanEntry]

theorem State.scanEntry_front (l : List Nat) (s : State) (g e tick : Nat) : FrontOnly l s (s.scanEntry g e tick) :=
  (State.muxSwitch_front ..).trans (.setCnv _)

@[simp] theorem State.scanEntry_slots (s : State) (g e tick : Nat) : (s.scanEntry g e tick).slots = s.slots := rfl
@[simp] theorem State.scanEntry_evq (s : State) (g e tick : Nat) : (s.scanEntry g e tick).evq = s.evq := rfl

/-- Registers a scan trigger or a CSYNC can write. -/
abbrev syncRegs (g : Nat) : List Nat := [Reg.cnvSynccnt g, Reg.cnvSyncbusy g, Reg.hdrIraw (Page.cnv g)]

theorem State.scanTrigger_front (s : State) (g : Nat) : FrontOnly (syncRegs g) s (s.scanTrigger g) := by
  unfold State.scanTrigger
  simp only
  split
  · exact .refl
  · split
    · exact (FrontOnly.bumpBy (by simp)).trans (.raise (by simp))
    · exact (FrontOnly.bumpBy (by simp)).trans ((State.scanEntry_front ..).trans (.setCnv _))

@[simp] theorem State.scanTrigger_slots (s : State) (g : Nat) : (s.scanTrigger g).slots = s.slots := by
  unfold State.scanTrigger; simp only; split_ifs <;> simp
@[simp] theorem State.scanTrigger_evq (s : State) (g : Nat) : (s.scanTrigger g).evq = s.evq := by
  unfold State.scanTrigger; simp only; split_ifs <;> simp

theorem State.realign_front (l : List Nat) (s : State) (g m : Nat) : FrontOnly l s (s.realign g m) := by
  unfold State.realign
  simp only
  split_ifs
  · exact .refl
  · exact .refl
  · exact .setSlot _
  · exact .setSlot _
  · exact .setSlot _

@[simp] theorem State.realign_evq (s : State) (g m : Nat) : (s.realign g m).evq = s.evq := by
  unfold State.realign; simp only; split_ifs <;> simp

/-- In a settling window nothing is to realign (R148). -/
theorem State.realign_settling {s : State} {g : Nat} (m : Nat) (h : (s.cnv g).live = none) : s.realign g m = s := by
  simp [State.realign, h]

theorem State.syncAct_front (s : State) (g : Nat) : FrontOnly (syncRegs g) s (s.syncAct g) := by
  unfold State.syncAct
  split_ifs
  · exact .refl
  · exact .onlyIf fun _ => State.scanTrigger_front ..
  · exact (FrontOnly.bumpBy (by simp)).trans (State.realign_front ..)

@[simp] theorem State.onlyIf_evq {s : State} {c : Bool} {f : State → State} (h : (f s).evq = s.evq) :
    (s.onlyIf c f).evq = s.evq := by cases c <;> simp [h]

@[simp] theorem State.syncAct_evq (s : State) (g : Nat) : (s.syncAct g).evq = s.evq := by
  unfold State.syncAct
  split_ifs <;> simp

/-- A CSYNC leaves a converter alone that is off, or in continuous mode while its input settles. -/
theorem State.syncAct_idle {s : State} {g : Nat} (h : bitOf (s.cctlCnv g) 0 = false ∨
    (bitOf (s.cctlCnv g) 1 = false ∧ (s.cnv g).live = none)) : (s.syncAct g).cnv g = s.cnv g := by
  unfold State.syncAct
  split_ifs with hon hscan
  · rfl
  · rcases h with h | ⟨h, -⟩
    · simp [State.cnvOn, h] at hon
    · simp [State.cnvScan, h] at hscan
  · rcases h with h | ⟨-, h⟩
    · simp [State.cnvOn, h] at hon
    · rw [State.realign_settling] <;> simp [h]

/-- What a CSYNC of this FAB cycle did to the converter is undone (R152). -/
def State.unsync (s : State) (g : Nat) (y : SyncSt) : State :=
  let t := ((s.wr (Reg.cnvSynccnt g) y.cnt).wr (Reg.cnvSyncbusy g) y.busy).setb (Reg.hdrIraw (Page.cnv g)) 4 y.raw
  t.setCnv g { t.cnv g with trigAt := y.trig }

theorem State.unsync_front (s : State) (g : Nat) (y : SyncSt) : FrontOnly (syncRegs g) s (s.unsync g y) :=
  (FrontOnly.wr (by simp) _).trans ((FrontOnly.wr (by simp) _).trans ((FrontOnly.setb (by simp) _).trans (.setCnv _)))

@[simp] theorem State.unsync_cnv (s : State) (g : Nat) (y : SyncSt) :
    (s.unsync g y).cnv g = { s.cnv g with trigAt := y.trig } := by simp [State.unsync]
@[simp] theorem State.unsync_evq (s : State) (g : Nat) (y : SyncSt) : (s.unsync g y).evq = s.evq := by simp [State.unsync]

/-- A configuration change either finds no CSYNC of its FAB cycle, or acts before it (R152). -/
theorem State.resync_cases (s : State) (g : Nat) : s.resync g = s ∨ ∃ y, s.resync g = (s.unsync g y).syncAct g := by
  unfold State.resync
  split
  · exact .inl rfl
  · next y _ =>
    split
    · exact .inl rfl
    · exact .inr ⟨y, rfl⟩

theorem State.resync_front (s : State) (g : Nat) : FrontOnly (syncRegs g) s (s.resync g) := by
  rcases State.resync_cases s g with h | ⟨y, h⟩ <;> rw [h]
  · exact .refl
  · exact (State.unsync_front ..).trans (State.syncAct_front ..)

@[simp] theorem State.resync_evq (s : State) (g : Nat) : (s.resync g).evq = s.evq := by
  rcases State.resync_cases s g with h | ⟨y, h⟩ <;> simp [h]

theorem cnvCctl_notMem_syncRegs (g : Fin 8) : Reg.cnvCctl g ∉ syncRegs g := by decide +revert

/-- A CSYNC of the FAB cycle changes of the converter, where it is off or its input settles, the trigger's cycle alone. -/
theorem State.resync_idle {s : State} {g : Fin 8} (h : bitOf (s.cctlCnv g) 0 = false ∨
    (bitOf (s.cctlCnv g) 1 = false ∧ (s.cnv g).live = none)) :
    ∃ t, (s.resync g).cnv g = { s.cnv g with trigAt := t } := by
  rcases State.resync_cases s g with e | ⟨y, e⟩ <;> rw [e]
  · exact ⟨_, rfl⟩
  · have hc : (s.unsync g y).cctlCnv g = s.cctlCnv g := (State.unsync_front s g y).rd (cnvCctl_notMem_syncRegs g)
    refine ⟨y.trig, ?_⟩
    rw [State.syncAct_idle (by simpa [hc] using h), State.unsync_cnv]

end Sys2Proof.Machine
end

section
/-! The control of a converter: SCANGO, CCTL, INSEL, IMODE, RNG, trims and burnout, and the conditions at its inputs (04
R131-R165). -/

namespace Sys2Proof.Machine

/-! ### Updates by a control write -/

theorem State.chop_front (l : List Nat) (s : State) (g : Nat) : FrontOnly l s (s.chop g) := by
  unfold State.chop
  simp only
  split
  · exact .refl
  · exact .setCnv _

@[simp] theorem State.chop_slots (s : State) (g : Nat) : (s.chop g).slots = s.slots := by
  unfold State.chop; simp only; split_ifs <;> simp
@[simp] theorem State.chop_evq (s : State) (g : Nat) : (s.chop g).evq = s.evq := by
  unfold State.chop; simp only; split_ifs <;> simp
@[simp] theorem State.chop_sync (s : State) (g : Nat) : ((s.chop g).cnv g).sync = (s.cnv g).sync := by
  unfold State.chop; simp only; split_ifs <;> simp

theorem State.markLow_front {l : List Nat} (s : State) (g : Nat) (on : Bool) (h : Reg.cnvSta g ∈ l) :
    FrontOnly l s (s.markLow g on) := (FrontOnly.setb h _).trans (.setCnv _)

@[simp] theorem State.markLow_cnv (s : State) (g : Nat) (on : Bool) : (s.markLow g on).cnv g = { s.cnv g with
    lows := addHist (s.taken g) (firstSample g s.time.fab) on (s.cnv g).lows } := by simp [State.markLow, State.taken]
@[simp] theorem State.markLow_slots (s : State) (g : Nat) (on : Bool) : (s.markLow g on).slots = s.slots := by
  simp [State.markLow]
@[simp] theorem State.markLow_evq (s : State) (g : Nat) (on : Bool) : (s.markLow g on).evq = s.evq := by
  simp [State.markLow]

theorem State.stopCnv_front (l : List Nat) (s : State) (g : Nat) : FrontOnly l s (s.stopCnv g) := .setCnv _

@[simp] theorem State.stopCnv_cnv (s : State) (g : Nat) : (s.stopCnv g).cnv g = { s.cnv g with
    scanning := false, outs := 0, pend := none, blank := none, held := none, afterProbe := false, dn := 0
    settleEnd := none, probeEnd := none, live := none } := by simp [State.stopCnv]

theorem cnvCctl_notMem_sta (g : Fin 8) : Reg.cnvCctl g ∉ [Reg.cnvSta g] := by decide +revert

theorem cnvInsel_settings (g : Fin 8) : Reg.cnvInsel g ∉ [Reg.cnvCctl g, Reg.cnvSta g] := by decide +revert
theorem cnvMuxset_settings (g : Fin 8) : Reg.cnvMuxset g ∉ [Reg.cnvCctl g, Reg.cnvSta g] := by decide +revert
theorem cnvScanl_settings (g : Fin 8) : Reg.cnvScanl g ∉ [Reg.cnvCctl g, Reg.cnvSta g] := by decide +revert

/-! ### CCTL (R132, R146, R147, R149) -/

/-- The value CCTL takes: a reserved TRIG keeps the old one (R8, R149). -/
def cctlValue (old v : Word) : Word :=
  if field v 2 2 = 3 then putField (v &&& 0x7FF) 2 2 (field old 2 2) else v &&& 0x7FF

theorem bitOf_cctlValue (old v : Word) (i : Nat) (hi : i < 2) : bitOf (cctlValue old v) i = bitOf v i := by
  have hm : (0x7FF : Word).getLsbD i = true := by
    rcases Nat.le_one_iff_eq_zero_or_eq_one.mp (Nat.le_of_lt_succ hi) with rfl | rfl <;> decide
  unfold cctlValue
  split
  · rw [bitOf_putField _ _ _ _ _ (by omega), if_neg (by omega), bitOf_and_mask _ _ _ hm]
  · exact bitOf_and_mask _ _ _ hm

/-- CCTL takes its value; CHOPNEG's negation and REFLOW's marking follow it (R134, R159). -/
def State.takeCctl (s : State) (g : Nat) (v : Word) : State :=
  let t := (s.wr (Reg.cnvCctl g) v).chop g
  t.onlyIf (field v 4 2 == 0 && t.rb (Reg.cnvSta g) 14) (·.markLow g false)

/-- The converter stops, goes on, or switches its multiplexer to begin anew (R146, R147, R149). -/
def State.rerun (s : State) (g : Nat) (v : Word) (moved : Bool) : State :=
  if !bitOf v 0 then s.stopCnv g
  else
    let i := if bitOf v 1 then (s.cnv g).input else s.rf (Reg.cnvInsel g) 0 2
    let t := s.onlyIf moved (fun s => (s.stopCnv g).muxSwitch g i s.anaNext)
    t.onlyIf (bitOf v 1 && field v 2 2 == 0 && !(t.cnv g).scanning) (fun s => s.scanEntry g 0 s.anaNext)

/-- A CCTL write changes EN or MODE. -/
def State.moves (s : State) (g : Nat) (v : Word) : Bool :=
  bitOf (s.cctlCnv g) 0 != bitOf v 0 || bitOf (s.cctlCnv g) 1 != bitOf v 1

theorem State.setCctl_eq (s : State) (g : Nat) (v : Word) :
    s.setCctl g v = ((((s.onlyIf (s.moves g v) (·.flushDue g)).takeCctl g v).rerun g v (s.moves g v)).onlyIf
      (s.moves g v) (·.resync g)) := rfl

section Cctl
variable (s : State) (g : Fin 8) (v : Word)

theorem State.takeCctl_front : FrontOnly [Reg.cnvCctl g, Reg.cnvSta g] s (s.takeCctl g v) := by
  unfold State.takeCctl
  refine (FrontOnly.wr (by simp) v).trans ((State.chop_front ..).trans (.onlyIf fun _ => ?_))
  exact State.markLow_front _ _ _ (by simp)

theorem State.takeCctl_cctl : (s.takeCctl g v).rd (Reg.cnvCctl g) = v := by
  have h : FrontOnly [Reg.cnvSta g] (s.wr (Reg.cnvCctl g) v) (s.takeCctl g v) := by
    unfold State.takeCctl
    exact (State.chop_front ..).trans (.onlyIf fun _ => State.markLow_front _ _ _ (by simp))
  rw [h.rd (cnvCctl_notMem_sta g), State.rd_wr, if_pos rfl]

@[simp] theorem State.takeCctl_evq : (s.takeCctl g v).evq = s.evq := by
  unfold State.takeCctl State.onlyIf; simp only; split_ifs <;> simp
@[simp] theorem State.takeCctl_sync : ((s.takeCctl g v).cnv g).sync = (s.cnv g).sync := by
  unfold State.takeCctl State.onlyIf; simp only; split_ifs <;> simp

theorem State.rerun_front (l : List Nat) (moved : Bool) : FrontOnly l s (s.rerun g v moved) := by
  unfold State.rerun
  split
  · exact State.stopCnv_front ..
  · exact (FrontOnly.onlyIf fun _ => (State.stopCnv_front ..).trans (State.muxSwitch_front ..)).trans
      (.onlyIf fun _ => State.scanEntry_front ..)

@[simp] theorem State.rerun_evq (moved : Bool) : (s.rerun g v moved).evq = s.evq := by
  unfold State.rerun State.onlyIf; simp only; split_ifs <;> simp [State.stopCnv]

/-- EN = 0 stops the converter. -/
theorem State.rerun_off (moved : Bool) (h : bitOf v 0 = false) : s.rerun g v moved = s.stopCnv g := by simp [State.rerun, h]

/-- Continuous mode begins with a multiplexer switch to INSEL. -/
theorem State.rerun_continuous (h : bitOf v 0 = true) (h1 : bitOf v 1 = false) :
    s.rerun g v true = (s.stopCnv g).muxSwitch g (s.rf (Reg.cnvInsel g) 0 2) s.anaNext := by simp [State.rerun, h, h1]

/-- A free-running scan begins with entry 0. -/
theorem State.rerun_scan (h : bitOf v 0 = true) (h1 : bitOf v 1 = true) (h2 : field v 2 2 = 0) :
    s.rerun g v true = ((s.stopCnv g).muxSwitch g (s.cnv g).input s.anaNext).scanEntry g 0 s.anaNext := by
  simp [State.rerun, h, h1, h2]
  rfl

/-- Registers a CCTL write can write. -/
abbrev cctlRegs (g : Nat) : List Nat :=
  [Reg.cnvCctl g, Reg.cnvSta g, Reg.cnvSynccnt g, Reg.cnvSyncbusy g, Reg.hdrIraw (Page.cnv g)]

theorem State.setCctl_front : FrontOnly (cctlRegs g) (s.onlyIf (s.moves g v) (·.flushDue g)) (s.setCctl g v) := by
  rw [State.setCctl_eq]
  exact ((State.takeCctl_front ..).mono (by simp)).trans ((State.rerun_front ..).trans
    (.onlyIf fun _ => (State.resync_front ..).mono (by simp)))

theorem State.setCctl_evq : (s.setCctl g v).evq = (s.onlyIf (s.moves g v) (·.flushDue g)).evq := by
  rw [State.setCctl_eq]; simp

theorem State.setCctl_cctl : (s.setCctl g v).rd (Reg.cnvCctl g) = v := by
  have h : FrontOnly (syncRegs g) ((s.onlyIf (s.moves g v) (·.flushDue g)).takeCctl g v) (s.setCctl g v) := by
    rw [State.setCctl_eq]
    exact (State.rerun_front ..).trans (.onlyIf fun _ => State.resync_front ..)
  rw [h.rd (cnvCctl_notMem_syncRegs g), State.takeCctl_cctl]

theorem State.setCctl_keeps : (s.setCctl g v).pwr = s.pwr ∧ (s.setCctl g v).host = s.host := by
  have hf := State.setCctl_front s g v
  have hk : KeepsControl g s (s.onlyIf (s.moves g v) (·.flushDue g)) := .onlyIf (State.flushDue_keepsControl s g)
  exact ⟨hf.pwr.trans hk.pwr, hf.host.trans hk.host⟩

/-- Where no output can leave, none does. -/
theorem State.flushDue_off {s : State} {g : Nat} (h : s.slotOn g = false) : s.flushDue g = s := by simp [State.flushDue, h]

/-- The converter after a CCTL write that stops it, or that begins continuous mode anew: a CSYNC of the FAB cycle adds
nothing but the trigger's cycle. -/
theorem State.setCctl_cnv {t : State} (ht : t = (s.onlyIf (s.moves g v) (·.flushDue g)).takeCctl g v)
    (h : bitOf v 0 = false ∨ (bitOf v 1 = false ∧ ((t.rerun g v (s.moves g v)).cnv g).live = none)) :
    ∃ c, (s.setCctl g v).cnv g = { (t.rerun g v (s.moves g v)).cnv g with trigAt := c } := by
  have hc : (t.rerun g v (s.moves g v)).cctlCnv g = v := by
    rw [State.cctlCnv, (State.rerun_front t g v [] _).rd (by simp), ht, State.takeCctl_cctl]
  rw [State.setCctl_eq, ← ht]
  cases hm : s.moves g v with
  | false => exact ⟨_, rfl⟩
  | true =>
    rw [hm] at hc h
    exact State.resync_idle (by rwa [hc])

/-- EN = 0 stops the converter. -/
theorem State.setCctl_stops (h : bitOf v 0 = false) :
    ((s.setCctl g v).cnv g).live = none ∧ ((s.setCctl g v).cnv g).scanning = false ∧
      ((s.setCctl g v).cnv g).settleEnd = none ∧ ((s.setCctl g v).cnv g).probeEnd = none := by
  obtain ⟨c, hc⟩ := State.setCctl_cnv s g v rfl (.inl h)
  rw [hc, State.rerun_off _ _ _ _ h]
  simp

theorem State.moves_rising (h : bitOf v 0 = true) (h' : bitOf (s.cctlCnv g) 0 = false) : s.moves g v = true := by
  simp [State.moves, h, h']

theorem State.takeCctl_settings (a : Nat) (ha : a ∉ [Reg.cnvCctl g, Reg.cnvSta g]) :
    (s.takeCctl g v).rd a = s.rd a := (State.takeCctl_front s g v).rd ha

theorem State.takeCctl_anaNext : (s.takeCctl g v).anaNext = s.anaNext := by
  rw [State.anaNext, (State.takeCctl_front s g v).time, State.anaNext]

/-- Continuous mode begins: INSEL's input settles for MUXSET ANA ticks, and no sample enters (R146, R147). `t` is the state
after the outputs that left. -/
theorem State.setCctl_continuous {t : State} (ht : t = s.flushDue g) (hm : s.moves g v = true) (h : bitOf v 0 = true)
    (h1 : bitOf v 1 = false) :
    ((s.setCctl g v).cnv g).input = t.rf (Reg.cnvInsel g) 0 2 ∧ ((s.setCctl g v).cnv g).live = none ∧
      ((s.setCctl g v).cnv g).scanning = false ∧
      ((s.setCctl g v).cnv g).settleEnd = some (t.anaNext + t.rf (Reg.cnvMuxset g) 0 16) := by
  obtain ⟨c, hc⟩ := State.setCctl_cnv s g v rfl (.inr ⟨h1, by rw [hm, State.rerun_continuous _ _ _ h h1]; simp⟩)
  rw [hc, hm, State.onlyIf_true, ← ht, State.rerun_continuous _ _ _ h h1]
  simp only [State.muxSwitch_cnv, State.stopCnv_cnv, State.rf, State.takeCctl_settings t g v _ (cnvInsel_settings g),
    (State.stopCnv_front [] _ _).rd (List.not_mem_nil), State.takeCctl_settings t g v _ (cnvMuxset_settings g),
    State.takeCctl_anaNext, and_self]

/-- A free-running scan begins with its first entry, where no CSYNC came in the FAB cycle. -/
theorem State.setCctl_freeRun (h : bitOf v 0 = true) (h1 : bitOf v 1 = true) (h2 : field v 2 2 = 0)
    (h' : bitOf (s.cctlCnv g) 0 = false) (hs : (s.cnv g).sync = none) :
    ((s.setCctl g v).cnv g).scanning = true ∧ ((s.setCctl g v).cnv g).entry = 0 ∧
      ((s.setCctl g v).cnv g).input = s.rf (Reg.cnvScanl g) 0 2 ∧
      ((s.setCctl g v).cnv g).settleEnd = some (s.anaNext + s.rf (Reg.cnvMuxset g) 0 16) := by
  have hf : s.flushDue g = s := State.flushDue_off (by simp [State.slotOn, State.cnvOn, h'])
  have hn : (((s.takeCctl g v).rerun g v true).cnv g).sync = none := by
    rw [State.rerun_scan _ _ _ h h1 h2]; simp [hs]
  have he : s.setCctl g v = (s.takeCctl g v).rerun g v true := by
    rw [State.setCctl_eq, State.moves_rising s g v h h', State.onlyIf_true, State.onlyIf_true, hf, State.resync, hn]
  rw [he, State.rerun_scan _ _ _ h h1 h2]
  simp only [State.scanEntry_cnv, State.rf, (State.muxSwitch_front [] _ _ _ _).rd (List.not_mem_nil),
    (State.stopCnv_front [] _ _).rd (List.not_mem_nil), State.takeCctl_settings s g v _ (cnvScanl_settings g),
    State.takeCctl_settings s g v _ (cnvMuxset_settings g), State.takeCctl_anaNext, Nat.mul_zero, and_self]

end Cctl

theorem cctlRegs_page (g : Fin 8) : ∀ a ∈ cctlRegs g, a / 1024 ∈ [Page.cnv g] := by decide +revert

/-! ### The writes of O6 -/

section Writes
variable {s : State} {req : Req} {g : Fin 8} (v : Word)

theorem State.writeCctl_eq : s.writeCctl g (v &&& 0x7FF) = s.setCctl g (cctlValue (s.cctlCnv g) v) := by
  rw [State.writeCctl, BitVec.and_assoc, BitVec.and_self, field_and_mask _ _ _ _ (by decide), cctlValue]

theorem cctlWrite_completes (hr : s.reaches req (Page.cnv g) = true) :
    let w := cctlValue (s.cctlCnv g) v
    let s' := s.flushDue g
    Completes (.cctlWrite req g v) s (fun u =>
      u.rd (Reg.cnvCctl g) = w ∧
      (bitOf v 0 = false →
        (u.cnv g).live = none ∧ (u.cnv g).scanning = false ∧ (u.cnv g).settleEnd = none ∧ (u.cnv g).probeEnd = none) ∧
      (bitOf v 0 = true → bitOf v 1 = false → bitOf (s.cctlCnv g) 0 = false →
        (u.cnv g).input = s.rf (Reg.cnvInsel g) 0 2 ∧ (u.cnv g).live = none ∧
        (u.cnv g).settleEnd = some (s.anaNext + s.rf (Reg.cnvMuxset g) 0 16)) ∧
      (bitOf v 0 = true → bitOf v 1 = false → bitOf (s.cctlCnv g) 0 = true → bitOf (s.cctlCnv g) 1 = true →
        (u.cnv g).input = s'.rf (Reg.cnvInsel g) 0 2 ∧ (u.cnv g).live = none ∧ (u.cnv g).scanning = false ∧
        (u.cnv g).settleEnd = some (s'.anaNext + s'.rf (Reg.cnvMuxset g) 0 16)) ∧
      (bitOf v 0 = true → bitOf v 1 = true → field w 2 2 = 0 → bitOf (s.cctlCnv g) 0 = false → (s.cnv g).sync = none →
        (u.cnv g).scanning = true ∧ (u.cnv g).entry = 0 ∧ (u.cnv g).input = s.rf (Reg.cnvScanl g) 0 2 ∧
        (u.cnv g).settleEnd = some (s.anaNext + s.rf (Reg.cnvMuxset g) 0 16)) ∧
      (s.slotOn g = false → OffPages [Page.cnv g] s u ∧
        u = { s with regs := u.regs, w1set := u.w1set, conv := u.conv, slots := u.slots })) := by
  intro w s'
  have h0 : bitOf w 0 = bitOf v 0 := bitOf_cctlValue _ _ _ (by decide)
  have h1 : bitOf w 1 = bitOf v 1 := bitOf_cctlValue _ _ _ (by decide)
  obtain ⟨hp, hh⟩ := State.setCctl_keeps s g w
  refine ⟨s.setCctl g w, congrArg finish (State.reqWrite_writable (writableAt_cctl g) hr (State.writeCctl_eq v) hp hh),
    State.setCctl_cctl s g w, fun hv => ?_, fun hv hv1 hold => ?_, fun hv hv1 hold hold1 => ?_, fun hv hv1 hw hold hs => ?_,
    fun hoff => ?_⟩
  · exact State.setCctl_stops s g w (h0.trans hv)
  · have hf : s = s.flushDue g := (State.flushDue_off (by simp [State.slotOn, State.cnvOn, hold])).symm
    obtain ⟨hi, hl, -, he⟩ := State.setCctl_continuous s g w hf (State.moves_rising s g w (h0.trans hv) hold)
      (h0.trans hv) (h1.trans hv1)
    exact ⟨hi, hl, he⟩
  · exact State.setCctl_continuous s g w rfl (by simp [State.moves, h0, h1, hv, hv1, hold, hold1]) (h0.trans hv)
      (h1.trans hv1)
  · exact State.setCctl_freeRun s g w (h0.trans hv) (h1.trans hv1) hw hold hs
  · have hf : s.onlyIf (s.moves g w) (·.flushDue g) = s := by
      cases s.moves g w <;> simp [State.flushDue_off hoff]
    have hfr := State.setCctl_front s g w
    have hev := State.setCctl_evq s g w
    rw [hf] at hfr hev
    exact ⟨hfr.offPages (cctlRegs_page g), hfr.rest_noEvents hev⟩

end Writes

section Writes
variable {s : State} {req : Req} {g : Fin 8} (v : Word)

/-! ### SCANGO (R149) -/

theorem syncRegs_page (g : Fin 8) : ∀ a ∈ syncRegs g, a / 1024 ∈ [Page.cnv g] := by decide +revert

/-- Nothing further happens in the FAB cycle of a trigger acted on. -/
theorem State.scanTrigger_again (ht : (s.cnv g).trigAt = some s.time.fab) : s.scanTrigger g = s := by
  simp [State.scanTrigger, ht]

/-- A trigger during a scan counts in SYNCBUSY. -/
theorem State.scanTrigger_busy (hs : (s.cnv g).scanning = true) (ht : (s.cnv g).trigAt ≠ some s.time.fab) :
    s.scanTrigger g = (s.bump (Reg.cnvSyncbusy g)).raise (Page.cnv g) 4 := by
  simp [State.scanTrigger, ht, hs]

/-- A trigger acted on counts in SYNCCNT and starts the first entry. -/
theorem State.scanTrigger_starts (hs : (s.cnv g).scanning = false) (ht : (s.cnv g).trigAt ≠ some s.time.fab) :
    s.scanTrigger g = ((s.bump (Reg.cnvSynccnt g)).scanEntry g 0 s.anaNext).setCnv g
      { ((s.bump (Reg.cnvSynccnt g)).scanEntry g 0 s.anaNext).cnv g with trigAt := some s.time.fab } := by
  unfold State.scanTrigger
  simp only [hs, ht, ↓reduceIte, Bool.false_eq_true]
  rfl

/-- A SCANGO write to a converter that converts in SCAN mode is a scan trigger. -/
theorem State.reqWrite_scango (hr : s.reaches req (Page.cnv g) = true) (hon : s.cnvOn g = true) (hsc : s.cnvScan g = true) :
    s.reqWrite req (Reg.cnvScango g) 1 = s.scanTrigger g := by
  have hf := State.scanTrigger_front s g
  refine State.reqWrite_writable (writableAt_scango g) hr ?_ hf.pwr hf.host
  calc s.strobe (1 &&& 1) (·.scanGo g false) = s.scanGo g false := rfl
    _ = s.scanTrigger g := by simp [State.scanGo, hon, hsc]

theorem scango_starts (hr : s.reaches req (Page.cnv g) = true) (hon : s.cnvOn g = true) (hsc : s.cnvScan g = true)
    (hs : (s.cnv g).scanning = false) (ht : (s.cnv g).trigAt ≠ some s.time.fab) :
    Completes (.scango req g) s (fun u =>
      (u.cnv g).scanning = true ∧ (u.cnv g).entry = 0 ∧ (u.cnv g).trigAt = some s.time.fab ∧
      (u.cnv g).settleEnd = some (s.anaNext + s.rf (Reg.cnvMuxset g) 0 16) ∧
      u.rd (Reg.cnvSynccnt g) = s.rd (Reg.cnvSynccnt g) + 1 ∧
      OffPages [Page.cnv g] s u ∧ u = { s with regs := u.regs, w1set := u.w1set, conv := u.conv }) := by
  have hf := State.scanTrigger_front s g
  refine ⟨_, congrArg finish (State.reqWrite_scango hr hon hsc), ?_, ?_, ?_, ?_, ?_, hf.offPages (syncRegs_page g),
    hf.rest_conv (by simp) (by simp)⟩
  all_goals rw [State.scanTrigger_starts hs ht]
  · simp
  · simp
  · simp
  · simp [State.rf]
  · simp [State.scanEntry, State.muxSwitch]

theorem scango_during_scan (hr : s.reaches req (Page.cnv g) = true) (hon : s.cnvOn g = true) (hsc : s.cnvScan g = true)
    (hs : (s.cnv g).scanning = true) (ht : (s.cnv g).trigAt ≠ some s.time.fab) :
    Completes (.scango req g) s (fun u => u = (s.bump (Reg.cnvSyncbusy g)).raise (Page.cnv g) 4) :=
  ⟨_, congrArg finish (State.reqWrite_scango hr hon hsc), State.scanTrigger_busy hs ht⟩

theorem scango_again (hr : s.reaches req (Page.cnv g) = true) (hon : s.cnvOn g = true) (hsc : s.cnvScan g = true)
    (ht : (s.cnv g).trigAt = some s.time.fab) : Completes (.scango req g) s (fun u => u = s) :=
  ⟨_, congrArg finish (State.reqWrite_scango hr hon hsc), State.scanTrigger_again ht⟩

/-! ### INSEL and IMODE (R130, R131, R147) -/

/-- A changed INSEL switches the multiplexer of a converter in continuous mode, after the outputs that leave. -/
theorem State.writeInsel_moved (hon : s.cnvOn g = true) (hsc : s.cnvScan g = false) (hi : (s.cnv g).input ≠ field v 0 2) :
    s.writeInsel g (v &&& 0x3) =
      (((s.flushDue g).wr (Reg.cnvInsel g) (v &&& 3)).muxSwitch g (field v 0 2) (s.flushDue g).anaNext).resync g := by
  have hb : ((s.cnv g).input != field v 0 2) = true := by simpa using hi
  simp only [State.writeInsel, field_and_mask v 0x3 0 2 (by decide), BitVec.and_assoc, BitVec.and_self, hon, hsc, hb,
    Bool.not_false, Bool.and_self, State.onlyIf_true]
  rfl

theorem inselWrite_completes (hr : s.reaches req (Page.cnv g) = true) (hon : s.cnvOn g = true) (hsc : s.cnvScan g = false)
    (hi : (s.cnv g).input ≠ field v 0 2) :
    Completes (.inselWrite req g v) s (fun u =>
      let s' := s.flushDue g
      u = ((s'.wr (Reg.cnvInsel g) (v &&& 3)).muxSwitch g (field v 0 2) s'.anaNext).resync g ∧
      (u.cnv g).input = field v 0 2 ∧ (u.cnv g).live = none ∧
      (u.cnv g).settleEnd = some (s'.anaNext + s'.rf (Reg.cnvMuxset g) 0 16)) := by
  have hk := State.flushDue_keepsControl s g
  have hscan : bitOf ((((s.flushDue g).wr (Reg.cnvInsel g) (v &&& 3)).muxSwitch g (field v 0 2)
      (s.flushDue g).anaNext).cctlCnv g) 1 = false := by
    have hne : Reg.cnvCctl g ≠ Reg.cnvInsel g := by simp
    rw [State.cctlCnv, (State.muxSwitch_front [] _ _ _ _).rd List.not_mem_nil, State.rd_wr, if_neg hne, hk.cctl]
    exact hsc
  obtain ⟨c, hc⟩ := State.resync_idle (.inr ⟨hscan, by simp⟩)
  refine ⟨_, congrArg finish (State.reqWrite_writable (writableAt_insel g) hr (State.writeInsel_moved v hon hsc hi)
    ((State.resync_front ..).pwr.trans hk.pwr) ((State.resync_front ..).host.trans hk.host)), rfl, ?_, ?_, ?_⟩
  all_goals rw [hc]
  · simp
  · simp
  · simp [State.rf]

/-- A changed mode of the input selected is a multiplexer switch at the next modulator sample. -/
theorem State.writeImode_moved (hon : s.cnvOn g = true) (hsc : s.cnvScan g = false)
    (hi : field (mixModes (s.rd (Reg.cnvImode g)) (v &&& 0x7777) 4) (4 * (s.cnv g).input) 3 ≠
      field (s.rd (Reg.cnvImode g)) (4 * (s.cnv g).input) 3) :
    s.writeImode g (v &&& 0x7777) =
      ((s.flushDue g).wr (Reg.cnvImode g) (mixModes (s.rd (Reg.cnvImode g)) (v &&& 0x7777) 4)).muxSwitch g (s.cnv g).input
        (2 * firstSample g (s.flushDue g).time.fab) := by
  have hb := bne_iff_ne.mpr hi.symm
  simp only [State.writeImode, hon, hsc, hb, Bool.not_false, Bool.and_self, Bool.true_or, State.onlyIf_true]
  rfl

theorem imodeWrite_completes (hr : s.reaches req (Page.cnv g) = true) (hon : s.cnvOn g = true) (hsc : s.cnvScan g = false)
    (hi : field (mixModes (s.rd (Reg.cnvImode g)) (v &&& 0x7777) 4) (4 * (s.cnv g).input) 3 ≠
      field (s.rd (Reg.cnvImode g)) (4 * (s.cnv g).input) 3) :
    Completes (.imodeWrite req g v) s (fun u =>
      let s' := s.flushDue g
      u = (s'.wr (Reg.cnvImode g) (mixModes (s.rd (Reg.cnvImode g)) (v &&& 0x7777) 4)).muxSwitch g (s.cnv g).input
            (2 * firstSample g s'.time.fab) ∧
      u.rd (Reg.cnvImode g) = mixModes (s.rd (Reg.cnvImode g)) (v &&& 0x7777) 4 ∧ (u.cnv g).live = none ∧
      (u.cnv g).settleEnd = some (2 * firstSample g s'.time.fab + s'.rf (Reg.cnvMuxset g) 0 16)) := by
  have hk := State.flushDue_keepsControl s g
  refine ⟨_, congrArg finish (State.reqWrite_writable (writableAt_imode g) hr (State.writeImode_moved v hon hsc hi)
    hk.pwr hk.host), rfl, ?_, ?_, ?_⟩
  · rw [(State.muxSwitch_front [] _ _ _ _).rd List.not_mem_nil, State.rd_wr, if_pos rfl]
  · simp
  · simp [State.rf]

/-! ### RNG, trims and burnout (R138, R142, R156) -/

/-- A RNG value with RLO ≤ FIXR ≤ RHI ≤ 4: a DN of 0 is 1, and a changed setting waits for the next block. -/
theorem rngWrite_takes (hr : s.reaches req (Page.cnv g) = true) :
    let x := v &&& 0xFFFF077F
    let w := if field x 16 16 = 0 then putField x 16 16 1 else x
    field x 4 3 ≤ field x 1 3 → field x 1 3 ≤ field x 8 3 → field x 8 3 ≤ 4 →
    Completes (.rngWrite req g v) s (fun u =>
      (field w 0 11 ≠ s.rf (Reg.cnvRng g) 0 11 →
        u = (s.wr (Reg.cnvRng g) w).setCnv g { s.cnv g with rngPend := true }) ∧
      (field w 0 11 = s.rf (Reg.cnvRng g) 0 11 → u = s.wr (Reg.cnvRng g) w)) := by
  intro x w hlo hhi hmax
  have hu : s.writeRng g x = (s.wr (Reg.cnvRng g) w).onlyIf (field w 0 11 != s.rf (Reg.cnvRng g) 0 11)
      (fun s => s.setCnv g { s.cnv g with rngPend := true }) := by
    have hx : x &&& 0xFFFF077F = x := by rw [BitVec.and_assoc, BitVec.and_self]
    simp only [State.writeRng, hx, hlo, hhi, hmax, decide_true, Bool.and_self, ↓reduceIte]
    rfl
  refine ⟨_, congrArg finish (State.reqWrite_writable (writableAt_rng g) hr hu ?_ ?_), fun h => ?_, fun h => ?_⟩
  · cases field w 0 11 != s.rf (Reg.cnvRng g) 0 11 <;> simp
  · cases field w 0 11 != s.rf (Reg.cnvRng g) 0 11 <;> simp
  · simp [bne_iff_ne.mpr h]
  · simp [h]

/-- Any other RNG value is refused with RNGREJ. -/
theorem rngWrite_refused (hr : s.reaches req (Page.cnv g) = true)
    (h : ¬ (field (v &&& 0xFFFF077F) 4 3 ≤ field (v &&& 0xFFFF077F) 1 3 ∧
      field (v &&& 0xFFFF077F) 1 3 ≤ field (v &&& 0xFFFF077F) 8 3 ∧ field (v &&& 0xFFFF077F) 8 3 ≤ 4)) :
    Completes (.rngWrite req g v) s (fun u => u = (s.setb (Reg.cnvSta g) 16 true).raise (Page.cnv g) 6) := by
  have hu : s.writeRng g (v &&& 0xFFFF077F) = (s.setb (Reg.cnvSta g) 16 true).raise (Page.cnv g) 6 := by
    simp only [State.writeRng]
    rw [if_neg (by simpa [and_assoc] using h)]
  have hf : FrontOnly [Reg.cnvSta g, Reg.hdrIraw (Page.cnv g)] s ((s.setb (Reg.cnvSta g) 16 true).raise (Page.cnv g) 6) :=
    (FrontOnly.setb (by simp) _).trans (.raise (by simp))
  exact ⟨_, congrArg finish (State.reqWrite_writable (writableAt_rng g) hr hu hf.pwr hf.host), rfl⟩

/-- The write of a trim at the block: its number in the row of GTRIM or OTRIM is its tag. -/
theorem State.writeBlock_trim (s : State) (r i a : Nat) (t : Fin 5) (offset : Bool) (x : Word) :
    s.writeBlock r .cnv i ((if offset then 0x078 else 0x064) + 4 * t) t a x = s.writeTrim i t offset x := by
  cases offset <;> fin_cases t <;> rfl

theorem State.reqWrite_trim (t : Fin 5) (offset : Bool) (hr : s.reaches req (Page.cnv g) = true) :
    s.reqWrite req (if offset then Reg.cnvOtrim g t else Reg.cnvGtrim g t) v = s.writeTrim g t offset (v &&& 0xFFFFFF) := by
  have hb := State.writeBlock_trim s req.index g (if offset then Reg.cnvOtrim g t else Reg.cnvGtrim g t) t offset
    (v &&& 0xFFFFFF)
  cases offset with
  | false => exact State.reqWrite_writable (writableAt_gtrim g t) hr hb rfl rfl
  | true => exact State.reqWrite_writable (writableAt_otrim g t) hr hb rfl rfl

theorem State.writeTrim_cnv (s : State) (g t : Nat) (off : Bool) (v : Word) : (s.writeTrim g t off v).cnv g =
    let a := if off then Reg.cnvOtrim g t else Reg.cnvGtrim g t
    let m := firstSample g s.time.fab
    { s.cnv g with
      trims := { upTo := m, tag := t, off := off, value := sfield (s.rd a) 0 24 } :: (s.cnv g).trims
      trans := if (s.cnv g).tag = t then addSpan (s.taken g) { lo := m, hi := m + 1 } (s.cnv g).trans
               else (s.cnv g).trans } := by
  simp [State.writeTrim]

theorem State.writeTrim_cnv_other (s : State) (g t j : Nat) (off : Bool) (v : Word) (h : j ≠ g) :
    (s.writeTrim g t off v).cnv j = s.cnv j := by simp [State.writeTrim, h]

theorem trimWrite_completes (t : Fin 5) (offset : Bool) (hr : s.reaches req (Page.cnv g) = true) :
    Completes (.trimWrite req g t offset v) s (fun u =>
      let a := if offset then Reg.cnvOtrim g t else Reg.cnvGtrim g t
      let m := firstSample g s.time.fab
      u.rd a = v &&& 0xFFFFFF ∧ (u.cnv g).trims =
        { upTo := m, tag := t, off := offset, value := sfield (s.rd a) 0 24 } :: (s.cnv g).trims ∧
      (t.val ≠ (s.cnv g).tag → (u.cnv g).trans = (s.cnv g).trans) ∧
      (t.val = (s.cnv g).tag → { lo := m, hi := m + 1 } ∈ (u.cnv g).trans) ∧
      OffRegs [a] s u ∧ OffUnit State.cnv g s u ∧ u = { s with regs := u.regs, conv := u.conv }) := by
  refine ⟨_, congrArg finish (State.reqWrite_trim v t offset hr), ?_, ?_, fun h => ?_, fun h => ?_, fun a ha => ?_,
    fun j hj => State.writeTrim_cnv_other _ _ _ _ _ _ hj, rfl⟩
  · simp [State.writeTrim, BitVec.and_assoc]
  · rw [State.writeTrim_cnv]
  · rw [State.writeTrim_cnv]; simp [h.symm]
  · rw [State.writeTrim_cnv]; simp [h, addSpan]
  · simp only [State.writeTrim, State.rd_setCnv, State.rd_wr, if_neg (List.mem_singleton.not.mp ha)]

/-- OPEN of an input clears where its burnout goes off (R165). -/
def State.clearOpen (s : State) (g : Nat) (v : Word) (i : Nat) : State :=
  s.onlyIf (field v (2 * i) 2 == 0) (·.setb (Reg.cnvSta g) (10 + i) false)

theorem State.clearOpen_front (s : State) (g : Nat) (v : Word) (i : Nat) :
    FrontOnly [Reg.cnvSta g] s (s.clearOpen g v i) := .onlyIf fun _ => .setb (by simp) _

/-- What no bit of STA touches, the clearing of OPEN leaves as it was. -/
theorem State.clearOpen_keeps {β : Type} (p : State → β) (hp : ∀ (t : State) (a b : Nat), p (t.setb a b false) = p t)
    (g : Nat) (v : Word) (t : State) (i : Nat) : p (t.clearOpen g v i) = p t := by
  unfold State.clearOpen State.onlyIf
  split
  · exact hp ..
  · rfl

theorem State.clearOpen_clear {s : State} {g i j : Nat} {v : Word} (hj : j < 4)
    (h : s.rb (Reg.cnvSta g) (10 + j) = false ∨ (j = i ∧ field v (2 * i) 2 = 0)) :
    (s.clearOpen g v i).rb (Reg.cnvSta g) (10 + j) = false := by
  unfold State.clearOpen State.onlyIf
  split
  · rw [State.rb_setb _ _ _ _ _ _ (by omega)]
    rcases h with h | ⟨rfl, -⟩ <;> simp [*]
  · next hf =>
    rcases h with h | ⟨-, h⟩
    · exact h
    · simp [h] at hf

/-- Each input of the list whose burnout is off has OPEN clear in the end. -/
theorem State.foldl_clearOpen_clear {g j : Nat} {v : Word} (hj : j < 4) (hz : field v (2 * j) 2 = 0) (l : List Nat)
    (s : State) (h : s.rb (Reg.cnvSta g) (10 + j) = false ∨ j ∈ l) :
    (l.foldl (fun s i => s.clearOpen g v i) s).rb (Reg.cnvSta g) (10 + j) = false := by
  induction l generalizing s with
  | nil => simpa using h
  | cons i l ih =>
    refine ih _ ?_
    rcases h with h | h
    · exact .inl (State.clearOpen_clear hj (.inl h))
    · rcases List.mem_cons.mp h with rfl | h
      · exact .inl (State.clearOpen_clear hj (.inr ⟨rfl, hz⟩))
      · exact .inr h

/-- A changed burnout opens a change interval, and the inputs without burnout lose OPEN (R156, R165). -/
theorem State.writeBurn_changed (h : s.rf (Reg.cnvBurn g) 0 8 ≠ field v 0 8) :
    s.writeBurn g (v &&& 0xFF) =
      (List.range 4).foldl (fun s i => s.clearOpen g v i) ((s.wr (Reg.cnvBurn g) (v &&& 0xFF)).openChange g 256) := by
  have hb : (field (s.rd (Reg.cnvBurn g)) 0 8 != field v 0 8) = true := bne_iff_ne.mpr h
  have hv : field (v &&& 0xFF) 0 8 = field v 0 8 := field_and_mask _ _ _ _ (by decide)
  have hj : ∀ i < 4, field (v &&& 0xFF) (2 * i) 2 = field v (2 * i) 2 :=
    fun i hi => field_and_mask _ _ _ _ (by revert i; decide)
  simp only [State.writeBurn, BitVec.and_assoc, BitVec.and_self, hv, hb, State.onlyIf_true]
  refine List.foldl_ext _ _ _ fun t i hi => ?_
  rw [hj i (List.mem_range.mp hi), State.clearOpen]

theorem cnvBurn_notMem_sta (g : Fin 8) : Reg.cnvBurn g ∉ [Reg.cnvSta g] := by decide +revert

theorem burnWrite_completes (hr : s.reaches req (Page.cnv g) = true) (h : s.rf (Reg.cnvBurn g) 0 8 ≠ field v 0 8) :
    Completes (.burnWrite req g v) s (fun u =>
      u.rd (Reg.cnvBurn g) = v &&& 0xFF ∧
      u.conv = (s.openChange g 256).conv ∧ (∀ j : Fin 4, field v (2 * j) 2 = 0 → u.rb (Reg.cnvSta g) (10 + j) = false) ∧
      OffRegs [Reg.cnvBurn g, Reg.cnvSta g] s u ∧ u = { s with regs := u.regs, conv := u.conv }) := by
  have hf : FrontOnly [Reg.cnvSta g] ((s.wr (Reg.cnvBurn g) (v &&& 0xFF)).openChange g 256)
      ((List.range 4).foldl (fun s i => s.clearOpen g v i) ((s.wr (Reg.cnvBurn g) (v &&& 0xFF)).openChange g 256)) :=
    .foldl _ fun i _ t => State.clearOpen_front t g v i
  have hs : FrontOnly [Reg.cnvBurn g, Reg.cnvSta g] s _ :=
    (FrontOnly.wr (by simp) (v &&& 0xFF)).trans ((FrontOnly.setCnv (g := g) _).trans (hf.mono (by simp)))
  refine ⟨_, congrArg finish (State.reqWrite_writable (writableAt_burn g) hr (State.writeBurn_changed v h) hs.pwr hs.host),
    ?_, ?_, fun j hj => ?_, hs.regs, hs.rest_regsConv ?_ ?_ ?_⟩
  · rw [hf.rd (cnvBurn_notMem_sta g)]
    simp [State.openChange]
  · rw [State.foldl_keeps State.conv (State.clearOpen_keeps _ (by simp [State.setb]) g v)]
    simp [State.openChange, State.setCnv, State.taken]
  · exact State.foldl_clearOpen_clear j.isLt hj _ _ (.inr (List.mem_range.mpr j.isLt))
  · rw [State.foldl_keeps State.slots (State.clearOpen_keeps _ (by simp) g v)]; rfl
  · rw [State.foldl_keeps State.evq (State.clearOpen_keeps _ (by simp) g v)]; rfl
  · rw [State.foldl_keeps State.w1set (State.clearOpen_keeps _ (by simp) g v)]; rfl

end Writes

/-! ### Conditions at the inputs (R134, R165) -/

section Conditions
variable {s : State} {g : Fin 8}

/-- The entry just added holds for its own sample. -/
theorem holdsAt_addHist {α : Type} (d x : α) (now m : Nat) (l : List (Nat × α)) :
    holdsAt d m (addHist now m x l) = x := by
  simp [addHist, holdsAt]

theorem reflowRegs_page (g : Fin 8) : ∀ a ∈ [Reg.cnvSta g, Reg.hdrIraw (Page.cnv g)], a / 1024 ∈ [Page.cnv g] := by
  decide +revert

theorem cnvSta_notMem_iraw (g : Fin 8) : Reg.cnvSta g ∉ [Reg.hdrIraw (Page.cnv g)] := by decide +revert

theorem reflow_completes (hd : s.rf (Reg.cnvCctl g) 4 2 ≠ 0) (hlow : s.rb (Reg.cnvSta g) 14 = false) :
    Completes (.reflow g) s (fun u =>
      u.rb (Reg.cnvSta g) 14 = true ∧ u.rb (Reg.hdrIraw (Page.cnv g)) 3 = true ∧
      holdsAt false (firstSample g s.time.fab) (u.cnv g).lows = true ∧
      OffPages [Page.cnv g] s u ∧ OffUnit State.cnv g s u ∧
      u = { s with regs := u.regs, w1set := u.w1set, conv := u.conv }) := by
  have hu : s.refLow g = (s.markLow g true).raise (Page.cnv g) 3 := by
    have hb : (s.rf (Reg.cnvCctl g) 4 2 != 0) = true := bne_iff_ne.mpr hd
    simp [State.refLow, hb, hlow]
  have hf : FrontOnly [Reg.cnvSta g, Reg.hdrIraw (Page.cnv g)] s ((s.markLow g true).raise (Page.cnv g) 3) :=
    (State.markLow_front _ _ _ (by simp)).trans (.raise (by simp))
  refine ⟨_, congrArg finish hu, ?_, State.rb_raise_same _ _ _ (by decide), ?_, hf.offPages (reflowRegs_page g),
    fun j hj => ?_, hf.rest_conv (by simp) (by simp)⟩
  · have hr : FrontOnly [Reg.hdrIraw (Page.cnv g)] (s.markLow g true) ((s.markLow g true).raise (Page.cnv g) 3) :=
      .raise (by simp)
    rw [State.rb, hr.rd (cnvSta_notMem_iraw g)]
    simp [State.markLow, bitOf_putBit]
  · simp [holdsAt_addHist]
  · simp [State.markLow, hj]

theorem reflowEnd_completes (hlow : s.rb (Reg.cnvSta g) 14 = true) :
    Completes (.reflowEnd g) s (fun u =>
      u.rb (Reg.cnvSta g) 14 = false ∧ holdsAt false (firstSample g s.time.fab) (u.cnv g).lows = false ∧
      OffRegs [Reg.cnvSta g] s u ∧ OffUnit State.cnv g s u ∧ u = { s with regs := u.regs, conv := u.conv }) := by
  have hu : s.refGood g = s.markLow g false := by simp [State.refGood, hlow]
  refine ⟨_, congrArg finish hu, ?_, ?_, (State.markLow_front s g false (by simp)).regs, fun j hj => ?_, rfl⟩
  · simp [State.markLow, State.rb, bitOf_putBit]
  · simp [holdsAt_addHist]
  · simp [State.markLow, hj]

theorem openSet_completes (j : Fin 4) (hb : s.rf (Reg.cnvBurn g) (2 * j) 2 ≠ 0)
    (ho : s.rb (Reg.cnvSta g) (10 + j) = false) :
    Completes (.openSet g j) s (fun u => u = (s.setb (Reg.cnvSta g) (10 + j) true).raise (Page.cnv g) 2) :=
  ⟨_, rfl, by simp [State.openSensor, hb, ho]⟩

theorem openClear_completes (j : Fin 4) (hb : s.rf (Reg.cnvBurn g) (2 * j) 2 ≠ 0)
    (ho : s.rb (Reg.cnvSta g) (10 + j) = true) :
    Completes (.openClear g j) s (fun u => u = s.setb (Reg.cnvSta g) (10 + j) false) :=
  ⟨_, rfl, by simp [State.openSensor, hb, ho]⟩

end Conditions

/-- Settles O6, command by command. -/
theorem converterControl : Obligations.ConverterControl := by
  unfold Obligations.ConverterControl
  intro s req g v
  refine ⟨fun hr => ⟨fun hon hsc => ⟨?_, ?_, ?_⟩, cctlWrite_completes v hr, inselWrite_completes v hr,
    imodeWrite_completes v hr, ⟨rngWrite_takes v hr, rngWrite_refused v hr⟩,
    fun t offset => trimWrite_completes v t offset hr, burnWrite_completes v hr⟩,
    reflow_completes, reflowEnd_completes, fun j hb => ⟨openSet_completes j hb, openClear_completes j hb⟩⟩
  · exact scango_starts hr hon hsc
  · exact scango_during_scan hr hon hsc
  · exact scango_again hr hon hsc

end Sys2Proof.Machine
end

section
/-! Excitation: writes of CHSEL, the presets and XCTL, the rearm, the conditions of a channel and what it drives (04
R153-R163). -/

namespace Sys2Proof.Machine

/-! ### A channel driven anew (R153, R154) -/

/-- Registers that driving a channel and counting the change can write. -/
abbrev excRegs : List Nat := [Reg.excXsta, Reg.hdrIraw Page.exc, Reg.excChgcnt]

theorem excChsel_notMem (k : Fin 8) : Reg.excChsel k ∉ excRegs := by decide +revert
theorem excChsel_ne_excp (k : Fin 8) (p : Fin 16) : Reg.excChsel k ≠ Reg.excExcp p := by decide +revert
theorem excChsel_page (k : Fin 8) : ∀ a ∈ Reg.excChsel k :: excRegs, a / 1024 ∈ [Page.exc] := by decide +revert
theorem excChgcnt_ne_chsel (k : Fin 8) : Reg.excChgcnt ≠ Reg.excChsel k := by decide +revert
theorem excChsel_ne_xctl (k : Fin 8) : Reg.excChsel k ≠ Reg.excXctl := by decide +revert
theorem excChsel_ne_xsta (k : Fin 8) : Reg.excChsel k ≠ Reg.excXsta := by decide +revert
theorem excExcp_page (p : Fin 16) : ∀ a ∈ Reg.excExcp p :: excRegs, a / 1024 ∈ [Page.exc] := by decide +revert
theorem excExcp_notMem (p : Fin 16) : Reg.excExcp p ∉ excRegs := by decide +revert
theorem excChgcnt_ne_excp (p : Fin 16) : Reg.excChgcnt ≠ Reg.excExcp p := by decide +revert
theorem excExcp_ne_xctl (p : Fin 16) : Reg.excExcp p ≠ Reg.excXctl := by decide +revert
theorem excExcp_ne_xsta (p : Fin 16) : Reg.excExcp p ≠ Reg.excXsta := by decide +revert

section Channel
variable (s : State) (k : Nat)

theorem State.drive_front : FrontOnly [Reg.excXsta, Reg.hdrIraw Page.exc] s (s.drive k) := by
  unfold State.drive
  refine (FrontOnly.onlyIf fun _ => .setb (by simp) _).trans ((FrontOnly.onlyIf fun _ => .setb (by simp) _).trans
    (.onlyIf fun _ => ?_))
  exact (FrontOnly.setb (by simp) _).trans (.raise (by simp))

/-- What neither the channels' bits of XSTA nor an IRAW bit touches, driving a channel leaves as it was. -/
theorem State.drive_keeps {β : Type} (p : State → β) (hk : k < 8)
    (hb : ∀ (t : State) (b : Nat) (v : Bool), b < 24 → p (t.setb Reg.excXsta b v) = p t)
    (hr : ∀ t : State, p (t.raise Page.exc 0) = p t) : p (s.drive k) = p s := by
  have hif : ∀ (t : State) (c : Bool) (f : State → State), p (f t) = p t → p (t.onlyIf c f) = p t := fun t c f h => by
    cases c
    · rfl
    · exact h
  unfold State.drive
  simp only
  rw [hif _ _ _ ((hr _).trans (hb _ _ _ (by omega))), hif _ _ _ (hb _ _ _ (by omega)), hif _ _ _ (hb _ _ _ (by omega))]

theorem State.openChange_front (l : List Nat) (n : Nat) : FrontOnly l s (s.openChange k n) := .setCnv _

/-- The change intervals and the chopping that an excitation change brings, converter by converter. -/
def State.noteChange (convs n : Nat) : State :=
  (List.range 8).foldl (fun s g => (s.onlyIf (convs.testBit g) (·.openChange g n)).chop g) s

theorem State.excChange_eq : s.excChange k = (s.bump Reg.excChgcnt).noteChange
    ((s.bump Reg.excChgcnt).rf (Reg.excXconv k) 0 8) ((s.bump Reg.excChgcnt).rf (Reg.excXset k) 0 16) := rfl

theorem State.noteChange_front (l : List Nat) (convs n : Nat) : FrontOnly l s (s.noteChange convs n) :=
  .foldl _ fun _ _ _ => (FrontOnly.onlyIf fun _ => State.openChange_front ..).trans (State.chop_front ..)

@[simp] theorem State.noteChange_slots (convs n : Nat) : (s.noteChange convs n).slots = s.slots :=
  State.foldl_keeps State.slots (fun t g => by rw [State.chop_slots]; cases convs.testBit g <;> rfl) _ _

@[simp] theorem State.noteChange_evq (convs n : Nat) : (s.noteChange convs n).evq = s.evq :=
  State.foldl_keeps State.evq (fun t g => by rw [State.chop_evq]; cases convs.testBit g <;> rfl) _ _

theorem State.excChange_front : FrontOnly [Reg.excChgcnt] s (s.excChange k) :=
  (FrontOnly.bumpBy (by simp)).trans (State.noteChange_front ..)

/-- Channel `k` drives anew, an excitation change. -/
def State.change : State := (s.drive k).excChange k

theorem State.change_front : FrontOnly excRegs s (s.change k) :=
  ((State.drive_front s k).mono (by simp)).trans ((State.excChange_front ..).mono (by simp))

variable {k} in
theorem State.change_slots (hk : k < 8) : (s.change k).slots = s.slots := by
  rw [State.change, State.excChange_eq]
  simpa using State.drive_keeps s k State.slots hk (by simp) (by simp)

variable {k} in
theorem State.change_evq (hk : k < 8) : (s.change k).evq = s.evq := by
  rw [State.change, State.excChange_eq]
  simpa using State.drive_keeps s k State.evq hk (by simp) (by simp)

/-- The change counts once in CHGCNT. -/
theorem State.change_chgcnt : (s.change k).rd Reg.excChgcnt = s.rd Reg.excChgcnt + 1 := by
  rw [State.change, State.excChange_eq, (State.noteChange_front _ [] _ _).rd List.not_mem_nil, State.bump_eq,
    State.rd_bumpBy, if_pos rfl, (State.drive_front s k).rd (by decide)]
  rfl

variable {k} in
/-- EXCOFF stays as it is while channels are driven. -/
theorem State.change_excoff (hk : k < 8) : (s.change k).rb Reg.excXsta 24 = s.rb Reg.excXsta 24 := by
  have hne : Reg.excXsta ≠ Reg.hdrIraw Page.exc := by decide
  have hd : (s.drive k).rb Reg.excXsta 24 = s.rb Reg.excXsta 24 :=
    State.drive_keeps s k (fun t => t.rb Reg.excXsta 24) hk
      (fun t b v h => by rw [State.rb_setb _ _ _ _ _ _ (by decide), if_neg (by omega)])
      (fun t => by simp [State.rb, hne])
  rw [← hd, State.change, State.rb, (State.excChange_front ..).rd (by decide), State.rb]

variable {k} in
theorem State.change_chanOn (hk : k < 8) : (s.change k).chanOn = s.chanOn := by
  rw [State.chanOn, State.change_excoff s hk, State.rb, (State.change_front s k).rd (by decide)]
  rfl

theorem State.applyPreset_on (h : s.chanOn = true) : s.applyPreset k = s.change k := by
  simp [State.applyPreset, h, State.change]
theorem State.applyPreset_off (h : s.chanOn = false) : s.applyPreset k = s := by simp [State.applyPreset, h]

end Channel

/-! ### All channels -/

/-- The channels of a list are driven anew. -/
def State.changeAll (s : State) (l : List Nat) : State := l.foldl State.change s

section All
variable (s : State) (l : List Nat)

theorem State.changeAll_front : FrontOnly excRegs s (s.changeAll l) := .foldl _ fun k _ t => State.change_front t k

theorem State.changeAll_chgcnt :
    (s.changeAll l).rd Reg.excChgcnt = s.rd Reg.excChgcnt + BitVec.ofNat 32 l.length := by
  induction l generalizing s with
  | nil => simp [State.changeAll]
  | cons k l ih =>
    rw [State.changeAll, List.foldl_cons, ← State.changeAll, ih, State.change_chgcnt, List.length_cons, Nat.add_comm,
      BitVec.ofNat_add, BitVec.add_assoc]
    rfl

variable {l}

/-- What driving one channel leaves as it was, driving several does. -/
theorem State.changeAll_keeps {β : Type} (p : State → β) (hl : ∀ k ∈ l, k < 8)
    (h : ∀ (t : State) (k : Nat), k < 8 → p (t.change k) = p t) : p (s.changeAll l) = p s := by
  induction l generalizing s with
  | nil => rfl
  | cons k l ih =>
    rw [State.changeAll, List.foldl_cons, ← State.changeAll, ih _ (fun j hj => hl j (List.mem_cons_of_mem _ hj)),
      h _ _ (hl k List.mem_cons_self)]

end All

/-- Every channel of a list that applies preset `p` is driven anew, while channels are on (R154). -/
theorem State.foldl_applyPreset_on {p : Nat} : ∀ (l : List Nat) (s : State), (∀ k ∈ l, k < 8) → s.chanOn = true →
    l.foldl (fun s k => s.onlyIf (s.rf (Reg.excChsel k) 0 4 == p) (·.applyPreset k)) s =
      s.changeAll (l.filter (fun k => s.rf (Reg.excChsel k) 0 4 == p)) := by
  intro l
  induction l with
  | nil => intro s _ _; rfl
  | cons k l ih =>
    intro s hl hon
    have hl' : ∀ j ∈ l, j < 8 := fun j hj => hl j (List.mem_cons_of_mem _ hj)
    rw [List.foldl_cons]
    cases hk : s.rf (Reg.excChsel k) 0 4 == p with
    | false => rw [State.onlyIf_false, ih s hl' hon, List.filter_cons_of_neg (by simp [hk])]
    | true =>
      have hon' : (s.change k).chanOn = true := (State.change_chanOn s (hl k List.mem_cons_self)).trans hon
      have hsel : ∀ j ∈ l, ((s.change k).rf (Reg.excChsel j) 0 4 == p) = (s.rf (Reg.excChsel j) 0 4 == p) := by
        intro j hj
        rw [State.rf, (State.change_front s k).rd (excChsel_notMem ⟨j, hl' j hj⟩), State.rf]
      rw [State.onlyIf_true, State.applyPreset_on s k hon, ih _ hl' hon', List.filter_congr hsel,
        List.filter_cons_of_pos (by simpa using hk)]
      rfl

theorem State.foldl_applyPreset_off {p : Nat} : ∀ (l : List Nat) (s : State), s.chanOn = false →
    l.foldl (fun s k => s.onlyIf (s.rf (Reg.excChsel k) 0 4 == p) (·.applyPreset k)) s = s := by
  intro l
  induction l with
  | nil => intro s _; rfl
  | cons k l ih =>
    intro s hoff
    have hk : s.onlyIf (s.rf (Reg.excChsel k) 0 4 == p) (·.applyPreset k) = s := by
      rw [State.onlyIf, State.applyPreset_off s k hoff, ite_self]
    rw [List.foldl_cons, hk, ih s hoff]

/-! ### The writes of O7 -/

theorem writableAt_chsel (k : Fin 8) : writableAt (Reg.excChsel k) Page.exc (0x084 + 4 * k) .exc 0 k 0xF = true := by
  decide +revert
theorem writableAt_excp (p : Fin 16) : writableAt (Reg.excExcp p) Page.exc (0x044 + 4 * p) .exc 0 p 0x3FFF7 = true := by
  decide +revert
theorem writableAt_xctl : writableAt Reg.excXctl Page.exc 0x040 .exc 0 0 0x1 = true := by decide
theorem writableAt_xrearm : writableAt Reg.excXrearm Page.exc 0x108 .exc 0 0 0x1 = true := by decide

theorem State.writeBlock_chsel (s : State) (r a : Nat) (k : Fin 8) (x : Word) :
    s.writeBlock r .exc 0 (0x084 + 4 * k) k a x = s.writeChsel k x := by fin_cases k <;> rfl

theorem State.writeBlock_excp (s : State) (r a : Nat) (p : Fin 16) (x : Word) :
    s.writeBlock r .exc 0 (0x044 + 4 * p) p a x = s.writeExcp p x := by fin_cases p <;> rfl

section Writes
variable {s : State} {req : Req} (v : Word)

/-- A register of the page but XCTL and XSTA says nothing of whether the channels are on. -/
theorem State.chanOn_wr (s : State) {a : Nat} (x : Word) (h : a ≠ Reg.excXctl) (h' : a ≠ Reg.excXsta) :
    (s.wr a x).chanOn = s.chanOn := by simp [State.chanOn, State.rb, Ne.symm h, Ne.symm h']

theorem State.applyPreset_keeps {β : Type} (p : State → β) (t : State) (k : Nat) (h : p (t.change k) = p t) :
    p (t.applyPreset k) = p t := by
  cases hon : t.chanOn with
  | false => rw [State.applyPreset_off t k hon]
  | true => rw [State.applyPreset_on t k hon, h]

theorem State.applyPreset_front (t : State) (k : Nat) : FrontOnly excRegs t (t.applyPreset k) := by
  cases hon : t.chanOn with
  | false => rw [State.applyPreset_off t k hon]; exact .refl
  | true => rw [State.applyPreset_on t k hon]; exact State.change_front t k

theorem chselWrite_completes (k : Fin 8) (hr : s.reaches req Page.exc = true) :
    Completes (.chselWrite req k v) s (fun u =>
      u.rd (Reg.excChsel k) = v &&& 0xF ∧
      (s.chanOn = false → u.regs = (s.wr (Reg.excChsel k) (v &&& 0xF)).regs) ∧
      (s.chanOn = true → u.rd Reg.excChgcnt = s.rd Reg.excChgcnt + 1) ∧
      OffPages [Page.exc] s u ∧
      u = { s with regs := u.regs, w1set := u.w1set, conv := u.conv, chselWr := u.chselWr }) := by
  have hpage : ∀ a ∈ Reg.excChsel k :: excRegs, a / 1024 ∈ [Page.exc] := excChsel_page k
  have hchg : Reg.excChgcnt ≠ Reg.excChsel k := excChgcnt_ne_chsel k
  have hon : (s.wr (Reg.excChsel k) (v &&& 0xF)).chanOn = s.chanOn :=
    State.chanOn_wr s _ (excChsel_ne_xctl k) (excChsel_ne_xsta k)
  have hf := State.applyPreset_front (s.wr (Reg.excChsel k) (v &&& 0xF)) k
  have hs : FrontOnly (Reg.excChsel k :: excRegs) s _ := (FrontOnly.wr (by simp) (v &&& 0xF)).trans (hf.mono (by simp))
  have hu : s.writeChsel k (v &&& 0xF) = { (s.wr (Reg.excChsel k) (v &&& 0xF)).applyPreset k with
      chselWr := Sparse.set (fun _ => 0) s.chselWr k (s.time.fab + 1) } := by
    rw [State.writeChsel, BitVec.and_assoc, BitVec.and_self]
  refine ⟨_, congrArg finish (State.reqWrite_writable (writableAt_chsel k) hr ((State.writeBlock_chsel ..).trans hu)
    hs.pwr hs.host), ?_, fun hoff => ?_, fun h => ?_, hs.offPages hpage, ?_⟩
  · exact (hf.rd (excChsel_notMem k)).trans (by rw [State.rd_wr, if_pos rfl])
  · exact (congrArg State.regs (State.applyPreset_off _ k (hon.trans hoff)) :)
  · calc ((s.wr (Reg.excChsel k) (v &&& 0xF)).applyPreset k).rd Reg.excChgcnt
        = ((s.wr (Reg.excChsel k) (v &&& 0xF)).change k).rd Reg.excChgcnt := by rw [State.applyPreset_on _ k (hon.trans h)]
      _ = s.rd Reg.excChgcnt + 1 := by rw [State.change_chgcnt, State.rd_wr, if_neg hchg]
  · exact congrArg (fun t : State => { t with chselWr := Sparse.set (fun _ => 0) s.chselWr k (s.time.fab + 1) })
      (hs.rest_conv (State.applyPreset_keeps State.slots _ k (State.change_slots _ k.isLt))
        (State.applyPreset_keeps State.evq _ k (State.change_evq _ k.isLt)))

/-- The channels that apply preset `p`. -/
abbrev State.appliers (s : State) (p : Nat) : List Nat := (List.range 8).filter (fun k => s.rf (Reg.excChsel k) 0 4 == p)

theorem State.appliers_lt (s : State) (p : Nat) : ∀ k ∈ s.appliers p, k < 8 :=
  fun _ hk => List.mem_range.mp (List.mem_of_mem_filter hk)

theorem State.chanOn_wr_excp (s : State) (p : Fin 16) (x : Word) : (s.wr (Reg.excExcp p) x).chanOn = s.chanOn :=
  State.chanOn_wr s x (excExcp_ne_xctl p) (excExcp_ne_xsta p)

/-- A preset write while the channels are off changes the preset alone. -/
theorem State.writeExcp_off (s : State) (p : Fin 16) (x : Word) (h : s.chanOn = false) :
    s.writeExcp p x = s.wr (Reg.excExcp p) (mixPreset (s.rd (Reg.excExcp p)) x) :=
  State.foldl_applyPreset_off _ _ ((State.chanOn_wr_excp ..).trans h)

/-- A preset write while the channels are on drives anew the channels that apply the preset. -/
theorem State.writeExcp_on (s : State) (p : Fin 16) (x : Word) (h : s.chanOn = true) :
    s.writeExcp p x = (s.wr (Reg.excExcp p) (mixPreset (s.rd (Reg.excExcp p)) x)).changeAll (s.appliers p) := by
  have hsel : (s.wr (Reg.excExcp p) (mixPreset (s.rd (Reg.excExcp p)) x)).appliers p = s.appliers p :=
    List.filter_congr fun k hk => by
      rw [State.rf, State.rd_wr, if_neg (excChsel_ne_excp ⟨k, List.mem_range.mp hk⟩ p), State.rf]
  rw [State.writeExcp, State.foldl_applyPreset_on _ _ (fun k hk => List.mem_range.mp hk) ((State.chanOn_wr_excp ..).trans h)]
  exact congrArg _ hsel

theorem State.writeExcp_front (s : State) (p : Fin 16) (x : Word) :
    FrontOnly (Reg.excExcp p :: excRegs) s (s.writeExcp p x) := by
  have hw : FrontOnly (Reg.excExcp p :: excRegs) s (s.wr (Reg.excExcp p) (mixPreset (s.rd (Reg.excExcp p)) x)) :=
    .wr (by simp) _
  cases h : s.chanOn with
  | false => rwa [State.writeExcp_off s p x h]
  | true => rw [State.writeExcp_on s p x h]; exact hw.trans ((State.changeAll_front ..).mono (List.subset_cons_self _ _))

/-- What a preset write leaves of a part of the state that neither the write nor a change of a channel touches. -/
theorem State.writeExcp_keeps {β : Type} (f : State → β) (s : State) (p : Fin 16) (x : Word)
    (hw : ∀ y, f (s.wr (Reg.excExcp p) y) = f s) (hc : ∀ (t : State) (k : Nat), k < 8 → f (t.change k) = f t) :
    f (s.writeExcp p x) = f s := by
  cases h : s.chanOn with
  | false => rw [State.writeExcp_off s p x h, hw]
  | true => rw [State.writeExcp_on s p x h, State.changeAll_keeps _ f (State.appliers_lt s p) hc, hw]

theorem State.writeExcp_takes (s : State) (p : Fin 16) (x : Word) :
    (s.writeExcp p x).rd (Reg.excExcp p) = mixPreset (s.rd (Reg.excExcp p)) x := by
  cases h : s.chanOn with
  | false => rw [State.writeExcp_off s p x h, State.rd_wr, if_pos rfl]
  | true =>
    rw [State.writeExcp_on s p x h, (State.changeAll_front ..).rd (excExcp_notMem p), State.rd_wr, if_pos rfl]

theorem excpWrite_completes (p : Fin 16) (hr : s.reaches req Page.exc = true) :
    Completes (.excpWrite req p v) s (fun u =>
      u.rd (Reg.excExcp p) = mixPreset (s.rd (Reg.excExcp p)) (v &&& 0x3FFF7) ∧
      (s.chanOn = false → u.regs = (s.wr (Reg.excExcp p) (mixPreset (s.rd (Reg.excExcp p)) (v &&& 0x3FFF7))).regs) ∧
      (s.chanOn = true → u.rd Reg.excChgcnt = s.rd Reg.excChgcnt + BitVec.ofNat 32
        ((List.range 8).filter (fun k => s.rf (Reg.excChsel k) 0 4 == p.val)).length) ∧
      OffPages [Page.exc] s u ∧ u = { s with regs := u.regs, w1set := u.w1set, conv := u.conv }) := by
  have hf := State.writeExcp_front s p (v &&& 0x3FFF7)
  refine ⟨_, congrArg finish (State.reqWrite_writable (writableAt_excp p) hr (State.writeBlock_excp ..) hf.pwr hf.host),
    State.writeExcp_takes .., fun h => ?_, fun h => ?_, hf.offPages (excExcp_page p), hf.rest_conv ?_ ?_⟩
  · rw [State.writeExcp_off s p _ h]
  · rw [State.writeExcp_on s p _ h, State.changeAll_chgcnt, State.rd_wr, if_neg (excChgcnt_ne_excp p)]
  · exact State.writeExcp_keeps State.slots s p _ (fun _ => rfl) fun t _ hk => State.change_slots t hk
  · exact State.writeExcp_keeps State.evq s p _ (fun _ => rfl) fun t _ hk => State.change_evq t hk

/-- A change of every channel after a bit was replaced in XCTL or XSTA: EN of XCTL, EXCOFF. -/
theorem State.changeEvery_spec (s : State) {a b : Nat} (x : Bool) (ha : a = Reg.excXctl ∨ a = Reg.excXsta)
    {u : State} (hu : (List.range 8).foldl State.change (s.setb a b x) = u) :
    u.rd Reg.excChgcnt = s.rd Reg.excChgcnt + 8 ∧ OffPages [Page.exc] s u ∧ u.pwr = s.pwr ∧ u.host = s.host ∧
      u = { s with regs := u.regs, w1set := u.w1set, conv := u.conv } := by
  subst hu
  have hf : FrontOnly (Reg.excXctl :: excRegs) s ((s.setb a b x).changeAll (List.range 8)) :=
    (FrontOnly.setb (by rcases ha with rfl | rfl <;> simp) x).trans ((State.changeAll_front ..).mono (by simp))
  have hne : Reg.excChgcnt ≠ a := by rcases ha with rfl | rfl <;> decide
  refine ⟨?_, hf.offPages (by decide), hf.pwr, hf.host, hf.rest_conv ?_ ?_⟩
  · rw [← State.changeAll, State.changeAll_chgcnt, State.rd_setb, if_neg hne]; rfl
  · rw [State.changeAll_keeps _ State.slots (fun k hk => List.mem_range.mp hk) fun t k hk => State.change_slots t hk,
      State.slots_setb]
  · rw [State.changeAll_keeps _ State.evq (fun k hk => List.mem_range.mp hk) fun t k hk => State.change_evq t hk,
      State.evq_setb]

theorem State.reqWrite_xctl (hr : s.reaches req Page.exc = true) (hc : s.pwr.cfgdef = false)
    (hp : (s.writeXctl v).pwr = s.pwr) (hh : (s.writeXctl v).host = s.host) :
    s.reqWrite req Reg.excXctl v = s.writeXctl v := by
  have hv : s.writeXctl (v &&& 0x1) = s.writeXctl v := by
    simp only [State.writeXctl, bitOf_and_mask v 0x1 0 (by decide)]
  refine State.reqWrite_writable writableAt_xctl hr ?_ hp hh
  exact (if_neg (by simp [hc])).trans hv

theorem xctlWrite_changes (hr : s.reaches req Page.exc = true) (hc : s.pwr.cfgdef = false)
    (h : s.rb Reg.excXctl 0 ≠ bitOf v 0) :
    Completes (.xctlWrite req v) s (fun u =>
      u.rb Reg.excXctl 0 = bitOf v 0 ∧ u.rd Reg.excChgcnt = s.rd Reg.excChgcnt + 8 ∧
      OffPages [Page.exc] s u ∧ u = { s with regs := u.regs, w1set := u.w1set, conv := u.conv }) := by
  have hu : (List.range 8).foldl State.change (s.setb Reg.excXctl 0 (bitOf v 0)) = s.writeXctl v := by
    unfold State.writeXctl
    rw [if_neg (by simpa using h)]
    rfl
  obtain ⟨hn, hoff, hp, hh, hrest⟩ := State.changeEvery_spec s _ (.inl rfl) hu
  refine ⟨_, congrArg finish (State.reqWrite_xctl v hr hc hp hh), ?_, hn, hoff, hrest⟩
  rw [← hu, ← State.changeAll, State.rb, (State.changeAll_front ..).rd (by decide), State.rd_setb, if_pos rfl,
    bitOf_putBit _ _ _ _ (by decide), if_pos rfl]

theorem xctlWrite_same (hr : s.reaches req Page.exc = true) (hc : s.pwr.cfgdef = false)
    (h : s.rb Reg.excXctl 0 = bitOf v 0) : Completes (.xctlWrite req v) s (fun u => u = s) := by
  have hu : s.writeXctl v = s := by simp [State.writeXctl, h]
  exact ⟨s, congrArg finish ((State.reqWrite_xctl v hr hc (by rw [hu]) (by rw [hu])).trans hu), rfl⟩

theorem State.reqWrite_xrearm (hr : s.reaches req Page.exc = true) (hp : s.excRearm.pwr = s.pwr)
    (hh : s.excRearm.host = s.host) : s.reqWrite req Reg.excXrearm 1 = s.excRearm :=
  State.reqWrite_writable writableAt_xrearm hr rfl hp hh

theorem xrearm_ends (hr : s.reaches req Page.exc = true) (hoff : s.rb Reg.excXsta 24 = true) (ha : s.mon.aot = false)
    (hv : s.mon.vddaFault = false) :
    Completes (.xrearm req) s (fun u =>
      u.rb Reg.excXsta 24 = false ∧ u.rd Reg.excChgcnt = s.rd Reg.excChgcnt + 8 ∧
      OffPages [Page.exc] s u ∧ u = { s with regs := u.regs, w1set := u.w1set, conv := u.conv }) := by
  have hu : (List.range 8).foldl State.change (s.setb Reg.excXsta 24 false) = s.excRearm := by
    unfold State.excRearm
    rw [if_neg (by simp [hoff, ha, hv])]
    rfl
  obtain ⟨hn, hpg, hp, hh, hrest⟩ := State.changeEvery_spec s _ (.inr rfl) hu
  refine ⟨_, congrArg finish (State.reqWrite_xrearm hr hp hh), ?_, hn, hpg, hrest⟩
  rw [← hu, ← State.changeAll, State.changeAll_keeps _ (fun t => t.rb Reg.excXsta 24) (fun k hk => List.mem_range.mp hk)
    fun t k hk => State.change_excoff t hk, State.rb_setb _ _ _ _ _ _ (by decide), if_pos ⟨rfl, rfl⟩]

theorem xrearm_ignored (hr : s.reaches req Page.exc = true) (h : s.mon.aot = true ∨ s.mon.vddaFault = true) :
    Completes (.xrearm req) s (fun u => u = s) := by
  have hu : s.excRearm = s := by
    unfold State.excRearm
    rw [if_pos (by rcases h with h | h <;> simp [h])]
  exact ⟨s, congrArg finish ((State.reqWrite_xrearm hr (by rw [hu]) (by rw [hu])).trans hu), rfl⟩

end Writes

/-! ### What a channel drives, and its conditions (R153, R160, R161, R163) -/

section Drives
variable (s : State) (k : Fin 8)

/-- The mode of the preset a channel applies while the channels are on. -/
theorem State.excMode_on (h : s.chanOn = true) : s.excMode k = field (s.chanPreset k) 0 2 := by simp [State.excMode, h]

theorem State.excOut_off (h : s.chanOn = false ∨ field (s.chanPreset k) 0 2 = 0) : s.excOut k = .off := by
  have hm : s.excMode k = 0 := by
    unfold State.excMode
    rcases h with h | h <;> simp [h]
  simp [State.excOut, hm]

theorem State.excOut_current (h : s.chanOn = true) (hm : field (s.chanPreset k) 0 2 = 1) :
    s.excOut k = .current (bitOf (s.chanPreset k) 2)
      (min (field (s.chanPreset k) 4 14) (s.rf (Reg.excXlim k) 0 14)) := by
  simp [State.excOut, State.excMode_on s k h, hm]

theorem State.excOut_voltage (h : s.chanOn = true) (hm : field (s.chanPreset k) 0 2 = 2) :
    s.excOut k = .voltage (if bitOf (s.chanPreset k) 2 then 16384 - field (s.chanPreset k) 4 14
      else field (s.chanPreset k) 4 14) := by
  simp [State.excOut, State.excMode_on s k h, hm]

end Drives

/-- Settles O7, command by command. -/
theorem excitation : Obligations.Excitation := by
  unfold Obligations.Excitation
  intro s req v
  refine ⟨fun hr => ⟨fun k => chselWrite_completes v k hr, fun p => excpWrite_completes v p hr,
    fun hc => ⟨xctlWrite_changes v hr hc, xctlWrite_same v hr hc⟩, xrearm_ends hr, xrearm_ignored hr⟩,
    fun k => ⟨⟨State.excOut_off s k, State.excOut_current s k, State.excOut_voltage s k⟩, fun hm hb => ?_,
      fun hm hb => ?_, ⟨_, rfl, rfl⟩, ⟨_, rfl, rfl⟩⟩⟩
  · exact ⟨_, rfl, by simp [State.excFlag, hm, hb]⟩
  · exact ⟨_, rfl, by simp [State.excFlag, hm, hb]⟩

end Sys2Proof.Machine
end

section
/-! Converter events (04 R137-R151): a state in which the detector does not decide on the values that the samples had before
the block.

The statement speaks of every state, and a state may hold a tag beyond the five that have trims. The trims of tag `t` lie at
GTRIMt and OTRIMt; OTRIM5 would lie at STA, where OVRNOW changes with each sample (R137), and so the sum over a block of the
values taken before its first sample is not the sum the detector sees. No RNG value sets a tag above 4 (R142). -/

namespace Sys2Proof.Machine

/-- Settling changes no converter of a part in RUN that is not on its way to SLEEP. -/
theorem State.settle_conv {s : State} (hr : s.pwr.state = .run) (ht : s.pwr.target = none) : s.settle.conv = s.conv := by
  have hw : s.monWake = s := by
    simp [State.monWake, hr, ht, show (PwrState.run == PwrState.sleep) = false from rfl]
  rw [State.settle, hw, State.noteWaits]
  split <;> rfl

/-- Converter 0 runs in AUTO on tag 5, its first block of samples is complete, and the sample before was overloaded. -/
def strayTag : State :=
  let s := (State.reset.wr (Reg.cnvCctl 0) 1).wr (Reg.cnvSta 0) 0x8000
  { s.setCnv 0 { tag := 5, live := some 0 } with time := { fab := 400 } }

/-- Eight samples which at 32,768 more each would exceed 0.9 of the full scale of tag 5 (R139). -/
def strayBlock : List Sample := List.replicate 8 { raw := 1912045568, ovl := false }

/-- The detector decides on tag 5, so no switch is pending. -/
theorem strayTag_pend : ((strayTag.rangeDetect 0 strayBlock).cnv 0).pend = none := by decide +kernel

/-- Refutes O5: in `strayTag` the values before the block ask for a switch and the detector's own sum does not. -/
theorem not_converterEvents : ¬ Obligations.ConverterEvents := by
  intro h
  obtain ⟨hdetect, -⟩ := h strayTag 0
  obtain ⟨u, hu, -, -, -, hpend, -, -, hrest⟩ := hdetect strayBlock 0 0 rfl (by decide +kernel) (by decide +kernel)
    (by decide +kernel) (by decide +kernel) (by decide) (by decide +kernel) (by decide +kernel) (by decide +kernel)
    (by decide +kernel)
  have hs : (strayTag.rangeDetect 0 strayBlock).settle = u.settle := by injection hu
  have hr : u.pwr = strayTag.pwr := by rw [hrest]
  have hc : u.conv = (strayTag.rangeDetect 0 strayBlock).conv := by
    rw [← State.settle_conv (s := u) (by rw [hr]; rfl) (by rw [hr]; rfl), ← hs,
      State.settle_conv (by decide +kernel) (by decide +kernel)]
  have hnone : (u.cnv 0).pend = none := by
    rw [State.cnv, hc]
    exact strayTag_pend
  rw [show ((0 : Fin 8) : Nat) = 0 from rfl, hnone] at hpend
  exact absurd hpend (by decide +kernel)

end Sys2Proof.Machine
end

section
/-! The words of a filter engine's memory: what is written, what is read (05 R195, R196, 12 R396, R397, R406). -/

namespace Sys2Proof.Machine

/-! ### Words of a filter store -/

@[simp] theorem wordData_encodeWord (d : DWord) : wordData (encodeWord d) = d := by
  refine BitVec.eq_of_getLsbD_eq fun i hi => ?_
  rw [wordData, encodeWord, BitVec.truncate, BitVec.getLsbD_setWidth, BitVec.getLsbD_append]
  simp [hi]

@[simp] theorem wordCheck_encodeWord (d : DWord) : wordCheck (encodeWord d) = eccCheck d := by
  refine BitVec.eq_of_getLsbD_eq fun i hi => ?_
  rw [wordCheck, encodeWord, BitVec.truncate, BitVec.getLsbD_setWidth, BitVec.getLsbD_ushiftRight, BitVec.getLsbD_append]
  simp [hi]

/-- A word with its own check byte is good (R396, R397). -/
@[simp] theorem checkWord_encodeWord (d : DWord) : checkWord (encodeWord d) = .good d := by
  simp [checkWord, findWord, eccCheck]

/-- `u` is `s` but for the words of its stores. -/
def WordsOnly (s u : State) : Prop := u = { s with words := u.words }

namespace WordsOnly
variable {s t u : State}

theorem trans (h : WordsOnly s t) (h' : WordsOnly t u) : WordsOnly s u := by
  unfold WordsOnly at *
  rw [h] at h'
  exact h'

theorem conv (h : WordsOnly s u) : u.conv = s.conv := by rw [h]
theorem slot (h : WordsOnly s u) (g : Nat) : u.slot g = s.slot g := by rw [h]; rfl
theorem rd (h : WordsOnly s u) (a : Nat) : u.rd a = s.rd a := by rw [h]; rfl
theorem unarmed (h : WordsOnly s u) : u.unarmed = s.unarmed := by rw [h]; rfl

end WordsOnly

section Words
variable {s : State} {e : Nat}

theorem isInstr_filter (e : Nat) : isInstr (Store.filter e) = false := by
  have h : ¬ (1026 + e < 1024) := by omega
  simp [isInstr, Store.filter, h]

theorem checkAt_filter (e : Nat) (w : CWord) : checkAt (Store.filter e) w = checkWord w := by
  simp [checkAt, isInstr_filter]

theorem isFlash_filter (he : e < 2) : isFlash (Store.filter e) = false := by
  have h : 1026 + e ≠ 1049 ∧ 1026 + e ≠ 1050 := by omega
  simp [isFlash, h.1, h.2]

/-- A word a filter engine writes lands as written while no injection is armed (R406). -/
theorem State.writeWord_filter (he : e < 2) (h : s.unarmed = true) (i : Nat) (d : DWord) :
    s.writeWord (Store.filter e) i d = s.setRaw (Store.filter e) i (encodeWord d) := by
  have hj : 1026 + e ≠ 1048 := by omega
  have hb : bitOf (s.rd Reg.eccEinj0) 20 = false := by simpa [State.unarmed, State.rb] using h
  simp [State.writeWord, State.putWord, hj, hb, encodeAt, fitWord, isInstr_filter]

theorem State.rawWord_setRaw_filter (he : e < 2) (i j : Nat) (w : CWord) :
    (s.setRaw (Store.filter e) i w).rawWord (Store.filter e) j =
      if j = i then w else s.rawWord (Store.filter e) j := by
  simp [State.setRaw, State.rawWord, isFlash_filter he, Sparse.get_set, wordKey]

theorem State.setRaw_filter_words (he : e < 2) (i : Nat) (w : CWord) : WordsOnly s (s.setRaw (Store.filter e) i w) := by
  simp [WordsOnly, State.setRaw, isFlash_filter he]

/-- Two words in a row, as a record is written (R195). -/
theorem State.writeWords_pair (he : e < 2) (h : s.unarmed = true) (i : Nat) (a b : DWord) :
    s.writeWords (Store.filter e) i [a, b] =
      (s.setRaw (Store.filter e) i (encodeWord a)).setRaw (Store.filter e) (i + 1) (encodeWord b) := by
  simp only [State.writeWords]
  rw [State.writeWord_filter he h, State.writeWord_filter he ((State.setRaw_filter_words he ..).unarmed.trans h)]

theorem State.writeWords_pair_words (he : e < 2) (h : s.unarmed = true) (i : Nat) (a b : DWord) :
    WordsOnly s (s.writeWords (Store.filter e) i [a, b]) := by
  rw [State.writeWords_pair he h]
  exact (State.setRaw_filter_words he ..).trans (State.setRaw_filter_words he ..)

theorem State.rawWord_writeWords_pair (he : e < 2) (h : s.unarmed = true) (i j : Nat) (a b : DWord) :
    (s.writeWords (Store.filter e) i [a, b]).rawWord (Store.filter e) j =
      if j = i + 1 then encodeWord b else if j = i then encodeWord a else s.rawWord (Store.filter e) j := by
  rw [State.writeWords_pair he h, State.rawWord_setRaw_filter he, State.rawWord_setRaw_filter he]

theorem State.rawWord_writeWords_same (he : e < 2) (h : s.unarmed = true) (i : Nat) (a b : DWord) :
    (s.writeWords (Store.filter e) i [a, b]).rawWord (Store.filter e) i = encodeWord a ∧
      (s.writeWords (Store.filter e) i [a, b]).rawWord (Store.filter e) (i + 1) = encodeWord b := by
  rw [State.rawWord_writeWords_pair he h, if_neg (by omega), if_pos rfl, State.rawWord_writeWords_pair he h, if_pos rfl]
  exact ⟨rfl, rfl⟩

theorem State.rawWord_writeWords_other (he : e < 2) (h : s.unarmed = true) {i j : Nat} (hj : j < i) (a b : DWord) :
    (s.writeWords (Store.filter e) i [a, b]).rawWord (Store.filter e) j = s.rawWord (Store.filter e) j := by
  rw [State.rawWord_writeWords_pair he h, if_neg (by omega), if_neg (by omega)]

theorem State.writeWords_pair_offStores (he : e < 2) (h : s.unarmed = true) {i : Nat} (hi : i + 1 < 2 ^ 40) (a b : DWord) :
    OffStores [Store.filter e] s (s.writeWords (Store.filter e) i [a, b]) := by
  intro st j hst hj
  have hne : ¬ st = Store.filter e := by simpa using hst
  rw [State.writeWords_pair he h, State.rawWord_setRaw _ _ _ _ _ _ hi hj, if_neg (by simp [hne]),
    State.rawWord_setRaw _ _ _ _ _ _ (by omega) hj, if_neg (by simp [hne])]

end Words

/-! ### Words read -/

/-- A good word read from a filter store. -/
theorem State.readWord_filter {s : State} {e n : Nat} {d : DWord} (h : s.rawWord (Store.filter e) n = encodeWord d) :
    s.readWord (Store.filter e) n = (some d, s) := by
  simp only [State.readWord, h, checkAt_filter, checkWord_encodeWord]

/-- Words that are good are read as they stand, and the reads change nothing (R397). -/
theorem State.readWords_clean {s : State} {st : Store} : ∀ {n i : Nat}, s.clean st i n = true →
    s.readWords st i n = ((List.range n).map (fun j => some (wordData (s.rawWord st (i + j)))), s)
  | 0, _, _ => rfl
  | n + 1, i, h => by
    obtain ⟨h0, hn⟩ : checkAt st (s.rawWord st i) = .good (wordData (s.rawWord st i)) ∧ s.clean st (i + 1) n = true := by
      simpa [State.clean, List.range_succ_eq_map, Nat.add_assoc, Nat.add_comm 1] using h
    have hr : s.readWord st i = (some (wordData (s.rawWord st i)), s) := by rw [State.readWord, h0]
    simp only [State.readWords, hr, State.readWords_clean hn, List.range_succ_eq_map, List.map_cons, List.map_map]
    simp [Nat.add_assoc, Nat.add_comm 1, Function.comp_def]

end Sys2Proof.Machine
end

section
/-! The samples that a command tells enter one by one: of a slot they change the samples it holds alone (04 R136-R143, 05
R174). -/

namespace Sys2Proof.Machine

/-! ### The samples a command tells -/

/-- A fold by number that takes at each number the element of a list is the fold over the list. -/
theorem foldl_range_eq_foldl {α β : Type} (f : β → α → β) : ∀ (xs : List α) (F : β → Nat → β) (b : β),
    (∀ b i x, xs[i]? = some x → F b i = f b x) → (List.range xs.length).foldl F b = xs.foldl f b
  | [], _, _, _ => rfl
  | x :: xs, F, b, h => by
    rw [List.length_cons, List.range_succ_eq_map, List.foldl_cons, List.foldl_map, h b 0 x rfl]
    exact foldl_range_eq_foldl f xs _ _ fun b i y hy => h b (i + 1) y (by simpa using hy)

/-- The samples `xs` enter. -/
abbrev State.feedAll (s : State) (g : Nat) (xs : List Sample) : State := xs.foldl (fun s x => s.feed g x) s

/-- Where a command tells every sample up to `m`, those enter (R147). -/
theorem State.feedTo_told {s : State} {g m : Nat} {xs : List Sample} (hl : (s.cnv g).live.isSome = true)
    (hn : xs.length = m - (s.cnv g).fed) : s.feedTo g m xs = s.feedAll g xs := by
  have hl' : (s.cnv g).live.isNone = false := by simpa [← Option.not_isSome] using hl
  rw [State.feedTo, hl', if_neg (by simp), ← hn]
  exact foldl_range_eq_foldl _ xs _ s fun t i x h => by simp only [h]

theorem State.feedAll_front (s : State) (g : Nat) (xs : List Sample) : FrontOnly (feedRegs g) s (s.feedAll g xs) :=
  .foldl _ fun x _ t => State.feed_front t g x

/-- Of slot `g` no more than the samples it holds changes. -/
def HistOnly (g : Nat) (s u : State) : Prop := ∃ h, u.slot g = { s.slot g with hist := h }

namespace HistOnly
variable {g : Nat} {s t u : State}

theorem of_slots (h : u.slots = s.slots) : HistOnly g s u := ⟨(s.slot g).hist, by rw [State.slot, h, ← State.slot]⟩

theorem trans (h : HistOnly g s t) (h' : HistOnly g t u) : HistOnly g s u := by
  obtain ⟨a, ha⟩ := h
  obtain ⟨b, hb⟩ := h'
  exact ⟨b, by rw [hb, ha]⟩

theorem setHist (l : List Int) : HistOnly g s (s.setSlot g { s.slot g with hist := l }) := ⟨l, by simp⟩

end HistOnly

@[simp] theorem State.slots_event (s : State) (page e : Nat) : (s.event page e).slots = s.slots := by
  unfold State.event
  split <;> rfl

theorem State.slots_countSat (s : State) (g n : Nat) : (s.countSat g n).slots = s.slots := by simp [State.countSat]

theorem State.slots_landDue (s : State) (g : Nat) : (s.landDue g).slots = s.slots := by
  unfold State.landDue
  split
  · split
    · simp only [State.landSwitch, State.switchRange, State.setTag]
      split <;> simp
    · rfl
  · rfl

theorem State.slots_countOver (s : State) (g n : Nat) : (s.countOver g n).slots = s.slots := by
  unfold State.countOver
  split <;> simp

theorem State.slots_decideRange (s : State) (g b : Nat) : (s.decideRange g b).slots = s.slots := by
  simp only [State.decideRange]
  split <;> simp

theorem State.takeSample_slot (s : State) (g m : Nat) (x : Sample) : HistOnly g s (s.takeSample g m x) := by
  simp only [State.takeSample]
  refine HistOnly.trans ?_ (.of_slots (State.slots_countSat ..))
  refine HistOnly.trans ?_ (.of_slots (State.slots_countOver ..))
  refine HistOnly.trans ?_ (.of_slots (State.slots_setb ..))
  exact (HistOnly.of_slots (State.setCnv_slots ..)).trans (.setHist _)

theorem State.slot_congr {s u : State} (h : u.slots = s.slots) (g : Nat) : u.slot g = s.slot g := by
  rw [State.slot, h, State.slot]

/-- Of a slot a sample changes the samples it holds alone (R174). -/
theorem State.feed_slot (s : State) (g : Nat) (x : Sample) : HistOnly g s (s.feed g x) := by
  have ht := (HistOnly.of_slots (State.slots_landDue s g)).trans (State.takeSample_slot _ g (s.cnv g).fed x)
  rw [State.feed_eq]
  simp only
  split
  · exact ht.trans (.of_slots (State.slots_decideRange ..))
  · exact ht

theorem State.feedAll_slot (g : Nat) : ∀ (xs : List Sample) (s : State), HistOnly g s (s.feedAll g xs)
  | [], _ => .of_slots rfl
  | x :: xs, s => (State.feed_slot s g x).trans (State.feedAll_slot g xs _)

end Sys2Proof.Machine
end

section
/-! What an output reads of the settings of its slot, and what of its engine changes beside the record (05 R170, R180,
R181). -/

namespace Sys2Proof.Machine

/-! ### What the samples of a window leave as it was -/

/-- The output period of a slot is PATH's. -/
theorem State.outPeriod_congr {s u : State} {g : Nat} (h : u.path g = s.path g) : u.outPeriod g = s.outPeriod g := by
  have hf : u.firPath g = s.firPath g := by rw [State.firPath, h, State.firPath]
  simp only [State.outPeriod, State.firDec, State.firSpacing, hf, h]

/-- The settings of slot `g` and the armed injection, none of which a sample writes. -/
abbrev settingRegs (g : Nat) : List Nat :=
  [Reg.filPath (g / 4) (g % 4), Reg.filBanka (g / 4), Reg.filBankb (g / 4), Reg.cnvCctl g, Reg.eccEinj0]

theorem settingRegs_notMem_feedRegs (g : Fin 8) : ∀ a ∈ settingRegs g, a ∉ feedRegs g := by decide +revert

section Fed
variable (s : State) (g : Fin 8) (xs : List Sample)

theorem State.feedAll_rd {a : Nat} (ha : a ∈ settingRegs g) : (s.feedAll g xs).rd a = s.rd a :=
  (State.feedAll_front s g xs).rd (settingRegs_notMem_feedRegs g a ha)

theorem State.feedAll_next : ((s.feedAll g xs).slot g).next = (s.slot g).next := by
  obtain ⟨h, e⟩ := State.feedAll_slot g xs s
  rw [e]

theorem State.feedAll_fade : ((s.feedAll g xs).slot g).fade = (s.slot g).fade := by
  obtain ⟨h, e⟩ := State.feedAll_slot g xs s
  rw [e]

theorem State.feedAll_path : (s.feedAll g xs).path g = s.path g := State.feedAll_rd s g xs (by simp)

theorem State.feedAll_fbank : (s.feedAll g xs).fbank g = s.fbank g := by rw [State.fbank, State.feedAll_path, State.fbank]

theorem State.feedAll_bankReg (b : Nat) : (s.feedAll g xs).bankReg (g / 4) b = s.bankReg (g / 4) b := by
  unfold State.bankReg
  split
  · exact State.feedAll_rd s g xs (by simp)
  · exact State.feedAll_rd s g xs (by simp)

theorem State.feedAll_firWindow (b n : Nat) : (s.feedAll g xs).firWindow g b n = s.firWindow g b n := by
  simp only [State.firWindow, State.firSpacing, State.ntap, State.fcent, State.feedAll_path, State.feedAll_bankReg]

theorem State.feedAll_nextFir : (s.feedAll g xs).nextFir g = s.nextFir g := by
  simp only [State.nextFir, State.feedAll_firWindow, State.feedAll_fbank, State.feedAll_next, State.feedAll_fade]

theorem State.feedAll_outPeriod : (s.feedAll g xs).outPeriod g = s.outPeriod g :=
  State.outPeriod_congr (State.feedAll_path s g xs)

theorem State.feedAll_firLate : (s.feedAll g xs).firLate g = s.firLate g := by
  simp only [State.firLate, State.feedAll_nextFir, State.feedAll_outPeriod, closed, (State.feedAll_front s g xs).time]

theorem State.feedAll_unarmed (h : s.unarmed = true) : (s.feedAll g xs).unarmed = true := by
  rw [State.unarmed, State.rb, State.feedAll_rd s g xs (by simp)]
  exact h

end Fed

/-! ### What an output changes of its engine but the record -/

/-- Registers of an engine that its flags and counters are in. -/
abbrev engineRegs (e : Nat) : List Nat :=
  [Reg.filSta e, Reg.filSatcnt e, Reg.filDropcnt e, Reg.hdrIraw (Page.fil e)]

/-- `u` is `s` but for the flags and counters of the engine and the fade of slot `g`. -/
structure EngineOnly (g : Nat) (s u : State) : Prop extends FrontOnly (engineRegs (g / 4)) s u where
  conv : u.conv = s.conv
  evq : u.evq = s.evq
  slot : ∃ f, u.slot g = { s.slot g with fade := f }

namespace EngineOnly
variable {g : Nat} {s t u : State}

theorem of_slots (h : FrontOnly (engineRegs (g / 4)) s u) (hc : u.conv = s.conv) (he : u.evq = s.evq)
    (hs : u.slots = s.slots) : EngineOnly g s u := ⟨h, hc, he, (s.slot g).fade, by rw [State.slot, hs, ← State.slot]⟩

theorem refl : EngineOnly g s s := of_slots .refl rfl rfl rfl

theorem trans (h : EngineOnly g s t) (h' : EngineOnly g t u) : EngineOnly g s u := by
  obtain ⟨a, ha⟩ := h.slot
  obtain ⟨b, hb⟩ := h'.slot
  exact ⟨h.toFrontOnly.trans h'.toFrontOnly, h'.conv.trans h.conv, h'.evq.trans h.evq, b, by rw [hb, ha]⟩

theorem countSat (n : Nat) : EngineOnly g s (s.countSat g n) :=
  of_slots ((FrontOnly.bumpBy (by simp)).trans (.setb (by simp) _)) (by simp [State.countSat, State.setb, State.bumpBy])
    (by simp [State.countSat]) (State.slots_countSat ..)

theorem raise (b : Nat) : EngineOnly g s (s.raise (Page.fil (g / 4)) b) := of_slots (.raise (by simp)) rfl rfl rfl

theorem fadeStep : EngineOnly g s (s.fadeStep g) := by
  have hset : ∀ f, EngineOnly g s (s.setSlot g { s.slot g with fade := f }) :=
    fun f => ⟨.setSlot _, rfl, rfl, f, by simp⟩
  unfold State.fadeStep
  simp only
  split
  · exact refl
  · split
    · exact ((hset none).trans (of_slots (.setb (by simp) _) rfl rfl rfl)).trans (raise 3)
    · exact hset _

end EngineOnly

end Sys2Proof.Machine
end

section
/-! The record of an output: its words, where it is stored and what tells it (05 R187, R190, R195). -/

namespace Sys2Proof.Machine

/-! ### The record of an output (R187, R190, R195) -/

/-- A span of the list meets the window (R190). -/
def Window.hit (w : Window) (l : List Span) : Bool := l.any (fun sp => sp.meets w.span)

/-- The tag and the input that hold for a window's centre (R145, R187). -/
def State.centreTag (s : State) (g : Nat) (w : Window) : Nat × Nat :=
  holdsAt ((s.cnv g).tag, (s.cnv g).input) w.centre (s.cnv g).tags

/-- SETSUP holds the output back (R158). -/
def State.heldBack (s : State) (g : Nat) (w : Window) : Bool := w.hit (s.cnv g).changes && bitOf (s.cctlCnv g) 6

/-- Word 0 of the record: VALUE, RANGE, the flags, INPUT and SEQ (R187). -/
def State.valueWord (s : State) (g : Nat) (w : Window) (v : Int) (sat : Bool) : DWord :=
  BitVec.ofNat 64 (natOf v 32 * 2 ^ 32 + (s.centreTag g w).1 * 2 ^ 29 + b2n (w.hit (s.cnv g).trans) * 2 ^ 28 +
    b2n (w.hit (s.cnv g).changes) * 2 ^ 27 + b2n (w.hit (s.cnv g).ovrs || sat) * 2 ^ 26 + (s.centreTag g w).2 * 2 ^ 24 +
    (s.slot g).seq)

/-- Word 1 of the record: STAMP and WPOS of the centre (R187). -/
def State.timeWord (s : State) (g : Nat) (w : Window) : DWord :=
  let cap := ((s.slot g).caps.find? (fun x => x.sample == w.centre)).getD { sample := w.centre, stamp := 0, wpos := 0 }
  BitVec.ofNat 64 (cap.stamp * 2 ^ 32 + cap.wpos)

/-- The record stands in the slot's ring and as its input's newest (R195). -/
def State.storeRecord (s : State) (g : Nat) (w : Window) (v : Int) (sat : Bool) : State :=
  let d := [s.valueWord g w v sat, s.timeWord g w]
  (s.writeWords (Store.filter (g / 4)) (ringWord (g % 4) (s.slot g).ring) d).writeWords (Store.filter (g / 4))
    (newWord (g % 4) (s.centreTag g w).2) d

/-- HEAD tells the record `seq` stored last, at `ring`, and the ring moves on (R195). -/
def State.tellRecord (s : State) (g ring seq : Nat) : State :=
  let t := s.wr (Reg.filHead (g / 4) (g % 4)) (w32 (ring + seq * 256))
  (t.setSlot g { t.slot g with ring := (ring + 1) % 256 }).event (Page.fil (g / 4)) (g % 4)

/-- What an output can change: registers and notes, words, slots, converters, events and the order of entry. -/
def OutputOnly (s u : State) : Prop :=
  u = { s with regs := u.regs, w1set := u.w1set, words := u.words, slots := u.slots, conv := u.conv, evq := u.evq,
               entered := u.entered }

namespace OutputOnly
variable {s t u : State}

theorem trans (h : OutputOnly s t) (h' : OutputOnly t u) : OutputOnly s u := by
  unfold OutputOnly at *
  rw [h] at h'
  exact h'

theorem of_front {l : List Nat} (h : FrontOnly l s u) : OutputOnly s u := by
  have hw : u.words = s.words := by rw [h.rest]
  have hn : u.entered = s.entered := by rw [h.rest]
  rw [OutputOnly, hw, hn]
  exact h.rest

theorem of_words (h : WordsOnly s u) : OutputOnly s u := by
  rw [h]
  rfl

end OutputOnly

/-- The rings lie below the newest records (R24). -/
theorem ringWord_lt_newWord {k r : Nat} (hk : k < 4) (hr : r < 256) (i : Nat) : ringWord k r + 1 < newWord k i := by
  unfold ringWord newWord
  omega

section Record
variable {s : State} {g : Fin 8} {w : Window}

theorem engine_lt (g : Fin 8) : g.val / 4 < 2 := by omega

theorem State.emit_held (y : Entry) (h : s.heldBack g w = true) : s.emit g w y = s.bump (Reg.cnvSupcnt g) := if_pos h

theorem State.emit_leaves (y : Entry) (h : s.heldBack g w = false) : ∃ l, s.emit g w y =
    { (s.storeRecord g w y.v y.sat).tellRecord g (s.slot g).ring (s.slot g).seq with entered := l } :=
  ⟨_, if_neg (ne_true_of_eq_false h)⟩

section Store
variable (v : Int) (sat : Bool) (hu : s.unarmed = true)
include hu

/-- No injection is armed after the first copy of the record is written. -/
theorem State.ringCopy_unarmed (i : Nat) (a b : DWord) : (s.writeWords (Store.filter (g / 4)) i [a, b]).unarmed = true :=
  (State.writeWords_pair_words (engine_lt g) hu ..).unarmed.trans hu

theorem State.storeRecord_words : WordsOnly s (s.storeRecord g w v sat) :=
  (State.writeWords_pair_words (engine_lt g) hu ..).trans
    (State.writeWords_pair_words (engine_lt g) (State.ringCopy_unarmed hu ..) ..)

/-- The slot's newest record for its input. -/
theorem State.storeRecord_newest :
    (s.storeRecord g w v sat).rawWord (Store.filter (g / 4)) (newWord (g % 4) (s.centreTag g w).2) =
        encodeWord (s.valueWord g w v sat) ∧
      (s.storeRecord g w v sat).rawWord (Store.filter (g / 4)) (newWord (g % 4) (s.centreTag g w).2 + 1) =
        encodeWord (s.timeWord g w) := by
  exact State.rawWord_writeWords_same (engine_lt g) (State.ringCopy_unarmed hu ..) _ _ _

/-- The record in the ring: the newest one is stored elsewhere. -/
theorem State.storeRecord_ring (hr : (s.slot g).ring < 256) :
    (s.storeRecord g w v sat).rawWord (Store.filter (g / 4)) (ringWord (g % 4) (s.slot g).ring) =
        encodeWord (s.valueWord g w v sat) ∧
      (s.storeRecord g w v sat).rawWord (Store.filter (g / 4)) (ringWord (g % 4) (s.slot g).ring + 1) =
        encodeWord (s.timeWord g w) := by
  have hv := State.ringCopy_unarmed (g := g) hu
  have hlt := ringWord_lt_newWord (k := g.val % 4) (by omega) hr (s.centreTag g w).2
  have hring := State.rawWord_writeWords_same (engine_lt g) hu (ringWord (g % 4) (s.slot g).ring) (s.valueWord g w v sat)
    (s.timeWord g w)
  rw [State.storeRecord, State.rawWord_writeWords_other (engine_lt g) (hv ..) (by omega),
    State.rawWord_writeWords_other (engine_lt g) (hv ..) hlt]
  exact hring

theorem State.storeRecord_offStores (hr : (s.slot g).ring < 256) (ht : (s.centreTag g w).2 < 4) :
    OffStores [Store.filter (g / 4)] s (s.storeRecord g w v sat) := by
  have hv := State.ringCopy_unarmed (g := g) hu
  intro st i hst hi
  rw [State.storeRecord, State.writeWords_pair_offStores (engine_lt g) (hv ..) (by unfold newWord; omega) _ _ _ _ hst hi,
    State.writeWords_pair_offStores (engine_lt g) hu (by unfold ringWord; omega) _ _ _ _ hst hi]

end Store

section Tell
variable (ring seq : Nat)

theorem State.tellRecord_front : FrontOnly [Reg.filHead (g / 4) (g % 4)] s (s.tellRecord g ring seq) :=
  (FrontOnly.wr (by simp) _).trans ((FrontOnly.setSlot _).trans .event)

theorem State.tellRecord_head :
    (s.tellRecord g ring seq).rd (Reg.filHead (g / 4) (g % 4)) = w32 (ring + seq * 256) := by
  rw [State.tellRecord, FrontOnly.rd (l := []) .event (by simp), State.rd_setSlot, State.rd_wr, if_pos rfl]

theorem State.tellRecord_slot : (s.tellRecord g ring seq).slot g = { s.slot g with ring := (ring + 1) % 256 } := by
  rw [State.tellRecord, State.slot_congr (State.slots_event ..), State.slot_setSlot, if_pos rfl, State.slot_wr]

theorem State.conv_event (page n : Nat) : (s.event page n).conv = s.conv := by
  unfold State.event
  split <;> rfl

theorem State.tellRecord_conv : (s.tellRecord g ring seq).conv = s.conv := State.conv_event ..

end Tell

section Emit
variable (y : Entry) (hu : s.unarmed = true)
include hu

theorem State.emit_rd {a : Nat} (ha : a ∉ [Reg.cnvSupcnt g, Reg.filHead (g / 4) (g % 4)]) :
    (s.emit g w y).rd a = s.rd a := by
  simp only [List.mem_cons, List.not_mem_nil, or_false, not_or] at ha
  cases h : s.heldBack g w with
  | true => rw [State.emit_held y h, State.bump_eq, State.rd_bumpBy, if_neg ha.1]
  | false =>
    obtain ⟨l, e⟩ := State.emit_leaves y h
    rw [e]
    exact ((State.tellRecord_front ..).rd (by simpa using ha.2)).trans ((State.storeRecord_words _ _ hu).rd a)

theorem State.emit_conv : (s.emit g w y).conv = s.conv := by
  cases h : s.heldBack g w with
  | true => rw [State.emit_held y h]; rfl
  | false =>
    obtain ⟨l, e⟩ := State.emit_leaves y h
    rw [e]
    exact (State.tellRecord_conv ..).trans (State.storeRecord_words _ _ hu).conv

/-- Of its slot an output that leaves or is held back changes no more than the place in the ring. -/
theorem State.emit_slot : ∃ r, (s.emit g w y).slot g = { s.slot g with ring := r } := by
  cases h : s.heldBack g w with
  | true => exact ⟨(s.slot g).ring, by rw [State.emit_held y h]; rfl⟩
  | false =>
    obtain ⟨l, e⟩ := State.emit_leaves y h
    refine ⟨((s.slot g).ring + 1) % 256, ?_⟩
    rw [e]
    refine (State.tellRecord_slot ..).trans ?_
    rw [(State.storeRecord_words _ _ hu).slot]

theorem State.emit_rest : OutputOnly s (s.emit g w y) := by
  cases h : s.heldBack g w with
  | true => rw [State.emit_held y h]; exact .of_front (.bumpBy (l := [Reg.cnvSupcnt g]) (by simp))
  | false =>
    obtain ⟨l, e⟩ := State.emit_leaves y h
    rw [e]
    exact ((OutputOnly.of_words (State.storeRecord_words _ _ hu)).trans (.of_front (State.tellRecord_front ..))).trans rfl

end Emit

end Record

end Sys2Proof.Machine
end

section
/-! An output that leaves its slot, or is held back (05 R158, R187-R191, R195). -/

namespace Sys2Proof.Machine

/-! ### The place of the next output (R148, R173, R188) -/

section After
variable (s : State) (g n hi : Nat)

theorem State.afterOutput_slot :
    ((s.afterOutput g n hi).slot g).seq = ((s.slot g).seq + 1) % 2 ^ 24 ∧
    ((s.afterOutput g n hi).slot g).first = false ∧ ((s.afterOutput g n hi).slot g).ring = (s.slot g).ring ∧
    ((s.afterOutput g n hi).slot g).fade = (s.slot g).fade := by
  simp only [State.afterOutput, State.slot_setCnv, State.slot_setSlot, if_pos]
  split
  · split <;> simp
  · simp

/-- With no realignment waiting the next output falls a period later. -/
theorem State.afterOutput_next (h : (s.slot g).realign = []) :
    ((s.afterOutput g n hi).slot g).next = n + s.outPeriod g := by
  simp only [State.afterOutput, State.slot_setCnv, State.slot_setSlot, if_pos, h]

theorem State.afterOutput_cnv : (s.afterOutput g n hi).cnv g =
    { s.cnv g with outs := (s.cnv g).outs + b2n (s.cnvScan g), endTick := 2 * hi } := by
  simp [State.afterOutput, State.cnvScan, State.cctlCnv]

theorem State.afterOutput_evq : (s.afterOutput g n hi).evq = s.evq := rfl

theorem State.afterOutput_front (l : List Nat) : FrontOnly l s (s.afterOutput g n hi) :=
  (FrontOnly.setSlot _).trans (.setCnv _)

end After

theorem FrontOnly.words {l : List Nat} {s u : State} (h : FrontOnly l s u) : u.words = s.words := by rw [h.rest]
theorem FrontOnly.rawWord {l : List Nat} {s u : State} (h : FrontOnly l s u) (st : Store) (i : Nat) :
    u.rawWord st i = s.rawWord st i := by rw [h.rest]; rfl

/-! ### What an output reads does not depend on the flags of its engine -/

theorem settingRegs_notMem_engineRegs (g : Fin 8) : ∀ a ∈ settingRegs g, a ∉ engineRegs (g / 4) := by decide +revert

namespace EngineOnly
variable {g : Fin 8} {s u : State} (h : EngineOnly g s u)
include h

theorem cnv (k : Nat) : u.cnv k = s.cnv k := by rw [State.cnv, h.conv, State.cnv]

theorem setting {a : Nat} (ha : a ∈ settingRegs g) : u.rd a = s.rd a := h.rd (settingRegs_notMem_engineRegs g a ha)

theorem unarmed (hu : s.unarmed = true) : u.unarmed = true := by
  rw [State.unarmed, State.rb, h.setting (by simp)]
  exact hu

theorem heldBack (w : Window) : u.heldBack g w = s.heldBack g w := by
  rw [State.heldBack, h.cnv, State.cctlCnv, h.setting (by simp), State.heldBack, State.cctlCnv]

theorem centreTag (w : Window) : u.centreTag g w = s.centreTag g w := by rw [State.centreTag, h.cnv, State.centreTag]

theorem valueWord (w : Window) (v : Int) (sat : Bool) : u.valueWord g w v sat = s.valueWord g w v sat := by
  obtain ⟨f, e⟩ := h.slot
  rw [State.valueWord, h.centreTag, h.cnv, e, State.valueWord]

theorem timeWord (w : Window) : u.timeWord g w = s.timeWord g w := by
  obtain ⟨f, e⟩ := h.slot
  rw [State.timeWord, e, State.timeWord]

theorem ring : (u.slot g).ring = (s.slot g).ring := by
  obtain ⟨f, e⟩ := h.slot
  rw [e]

theorem seq : (u.slot g).seq = (s.slot g).seq := by
  obtain ⟨f, e⟩ := h.slot
  rw [e]

end EngineOnly

/-! ### An output that leaves (R158, R187-R191, R195) -/

/-- Registers an output can write. -/
abbrev outputRegs (g : Nat) : List Nat :=
  Reg.cnvSupcnt g :: Reg.filHead (g / 4) (g % 4) :: engineRegs (g / 4)

theorem outputRegs_page (g : Fin 8) : ∀ a ∈ outputRegs g, a / 1024 ∈ [Page.cnv g, Page.fil (g / 4)] := by decide +revert
theorem settingRegs_notMem_outputRegs (g : Fin 8) : ∀ a ∈ settingRegs g, a ∉ outputRegs g := by decide +revert
theorem cnvSupcnt_notMem_engineRegs (g : Fin 8) : Reg.cnvSupcnt g ∉ engineRegs (g / 4) := by decide +revert
theorem filHead_notMem_engineRegs (g : Fin 8) : Reg.filHead (g / 4) (g % 4) ∉ engineRegs (g / 4) := by decide +revert

section Leaves
variable {s t b : State} {g : Fin 8} {w : Window} {y : Entry} (hu : s.unarmed = true) (hs : EngineOnly g s t)
  (hb : EngineOnly g (t.emit g w y) b)
include hu hs hb

theorem output_offRegs (n hi : Nat) : OffRegs (outputRegs g) s (b.afterOutput g n hi) := by
  intro a ha
  simp only [List.mem_cons, not_or] at ha
  obtain ⟨hsup, hhead, heng⟩ := ha
  have hf : a ∉ engineRegs (g / 4) := by simpa using heng
  calc (b.afterOutput g n hi).rd a = b.rd a := (State.afterOutput_front b g n hi []).rd (by simp)
    _ = (t.emit g w y).rd a := hb.rd hf
    _ = t.rd a := State.emit_rd y (hs.unarmed hu) (by simp [hsup, hhead])
    _ = s.rd a := hs.rd hf

theorem output_rest (n hi : Nat) : OutputOnly s (b.afterOutput g n hi) :=
  (OutputOnly.of_front hs.toFrontOnly).trans ((State.emit_rest y (hs.unarmed hu)).trans
    ((OutputOnly.of_front hb.toFrontOnly).trans (.of_front (State.afterOutput_front b g n hi []))))

omit hu hs in
theorem output_rawWord (n hi : Nat) (st : Store) (i : Nat) :
    (b.afterOutput g n hi).rawWord st i = (t.emit g w y).rawWord st i :=
  ((State.afterOutput_front b g n hi []).rawWord st i).trans (hb.rawWord st i)

omit hu in
/-- SETSUP holds the output back, and counts it. -/
theorem output_held (n hi : Nat) (h : s.heldBack g w = true) :
    (b.afterOutput g n hi).rd (Reg.cnvSupcnt g) = s.rd (Reg.cnvSupcnt g) + 1 ∧
    ((b.afterOutput g n hi).slot g).ring = (s.slot g).ring ∧ (b.afterOutput g n hi).words = s.words := by
  have he : t.emit g w y = t.bumpBy (Reg.cnvSupcnt g) 1 := State.emit_held y ((hs.heldBack w).trans h)
  have hc := cnvSupcnt_notMem_engineRegs g
  refine ⟨?_, ?_, ?_⟩
  · rw [(State.afterOutput_front b g n hi []).rd (by simp), hb.rd hc, he, State.rd_bumpBy, if_pos rfl, hs.rd hc]
    rfl
  · rw [(State.afterOutput_slot b g n hi).2.2.1, hb.ring, he]
    exact hs.ring
  · rw [(State.afterOutput_front b g n hi []).words, hb.words, he]
    exact hs.words

omit hu in
/-- An output that leaves has its record stored, told in HEAD and counted in the ring. -/
theorem output_leaves (n hi : Nat) (h : s.heldBack g w = false) :
    let u := b.afterOutput g n hi
    (∀ st i, u.rawWord st i = (t.storeRecord g w y.v y.sat).rawWord st i) ∧
    u.rd (Reg.filHead (g / 4) (g % 4)) = w32 ((s.slot g).ring + (s.slot g).seq * 256) ∧
    (u.slot g).ring = ((s.slot g).ring + 1) % 256 := by
  obtain ⟨l, he⟩ := State.emit_leaves y ((hs.heldBack w).trans h)
  rw [hs.ring, hs.seq] at he
  refine ⟨fun st i => ?_, ?_, ?_⟩
  · rw [output_rawWord hb, he]
    exact (State.tellRecord_front ..).rawWord st i
  · rw [(State.afterOutput_front b g n hi []).rd (by simp), hb.rd (filHead_notMem_engineRegs g), he]
    exact State.tellRecord_head ..
  · rw [(State.afterOutput_slot b g n hi).2.2.1, hb.ring, he]
    exact congrArg SlotSt.ring (State.tellRecord_slot ..)

/-- The record stands at the slot's place in the ring, where that is one, and as its input's newest. -/
theorem output_record (n hi : Nat) (h : s.heldBack g w = false) :
    let u := b.afterOutput g n hi
    ((s.slot g).ring < 256 →
      u.rawWord (Store.filter (g / 4)) (ringWord (g % 4) (s.slot g).ring) = encodeWord (s.valueWord g w y.v y.sat) ∧
      u.rawWord (Store.filter (g / 4)) (ringWord (g % 4) (s.slot g).ring + 1) = encodeWord (s.timeWord g w)) ∧
    u.rawWord (Store.filter (g / 4)) (newWord (g % 4) (s.centreTag g w).2) = encodeWord (s.valueWord g w y.v y.sat) ∧
    u.rawWord (Store.filter (g / 4)) (newWord (g % 4) (s.centreTag g w).2 + 1) = encodeWord (s.timeWord g w) := by
  have hring := State.storeRecord_ring (g := g) (w := w) y.v y.sat (hs.unarmed hu)
  have hnew := State.storeRecord_newest (g := g) (w := w) y.v y.sat (hs.unarmed hu)
  rw [hs.ring, hs.valueWord, hs.timeWord] at hring
  rw [hs.centreTag, hs.valueWord, hs.timeWord] at hnew
  simp only [(output_leaves hs hb n hi h).1]
  exact ⟨hring, hnew⟩

theorem output_offStores (n hi : Nat) (hr : (s.slot g).ring < 256) (ht : (s.centreTag g w).2 < 4) :
    OffStores [Store.filter (g / 4)] s (b.afterOutput g n hi) := by
  intro st i hst hi'
  have ht' : t.rawWord st i = s.rawWord st i := hs.rawWord st i
  cases h : s.heldBack g w with
  | true =>
    rw [output_rawWord hb, State.emit_held y ((hs.heldBack w).trans h), ← ht']
    rfl
  | false =>
    rw [(output_leaves hs hb n hi h).1, ← ht']
    exact State.storeRecord_offStores _ _ (hs.unarmed hu) (by rwa [hs.ring]) (by rwa [hs.centreTag]) st i hst hi'

/-- An output that leaves a slot after no more than the flags of its engine changed. -/
theorem delivered_of_emit : Delivered g w y.v y.sat s (b.afterOutput g (s.slot g).next w.span.hi) := by
  have ht := hs.unarmed hu
  obtain ⟨r, hslot⟩ := State.emit_slot (w := w) (g := g) y ht
  obtain ⟨f, hbs⟩ := hb.slot
  obtain ⟨f', hts⟩ := hs.slot
  obtain ⟨hseq, hfirst, -, -⟩ := State.afterOutput_slot b g (s.slot g).next w.span.hi
  have hcnv : b.cnv g = s.cnv g := by
    rw [hb.cnv, State.cnv, State.emit_conv y ht, ← State.cnv, hs.cnv]
  have hset : ∀ a ∈ settingRegs g, b.rd a = s.rd a := fun a ha =>
    ((State.afterOutput_front b g (s.slot g).next w.span.hi []).rd (by simp)).symm.trans
      (output_offRegs hu hs hb _ _ a (settingRegs_notMem_outputRegs g a ha))
  refine ⟨output_held hs hb _ _, fun h => ?_, ?_, hfirst, fun h => ?_, ?_, ?_,
    fun a ha => output_offRegs hu hs hb _ _ a fun hm => ha (outputRegs_page g a hm), output_offStores hu hs hb _ _,
    output_rest hu hs hb _ _⟩
  · obtain ⟨-, hhead, hring⟩ := output_leaves hs hb (s.slot g).next w.span.hi h
    obtain ⟨hold, hnew, hnew'⟩ := output_record hu hs hb (s.slot g).next w.span.hi h
    exact ⟨fun hr _ => hold hr, hnew, hnew', hhead, hring⟩
  · rw [hseq, hbs, hslot, hts]
  · rw [State.afterOutput_next _ _ _ _ (by rw [hbs, hslot, hts]; exact h), State.outPeriod_congr (hset _ (by simp))]
  · rw [State.afterOutput_cnv, hcnv]
    simp only [State.cnvScan, State.cctlCnv]
    rw [hset _ (by simp)]
  · rw [State.afterOutput_cnv]

end Leaves

end Sys2Proof.Machine
end

section
/-! FIR results, the step of a fade, and the outputs that are due (05 R169-R182, R194). -/

namespace Sys2Proof.Machine

/-! ### FIR results (R176, R181) -/

/-- The sum of a list of products taken pair by pair. -/
theorem foldl_zip_range (c : Nat → Int) (f : Nat → Entry) (n : Nat) :
    ((List.range n).zip ((List.range n).map f)).foldl (fun a jx => a + c jx.1 * jx.2.v) 0 =
      ((List.range n).map (fun j => c j * (f j).v)).foldl (· + ·) 0 := by
  rw [← List.map_prod_left_eq_zip, List.foldl_map, List.foldl_map]

section Bank
variable {s : State} {g b n : Nat}

/-- The source outputs that bank `b` takes where the newest is centred at `n` (R177). -/
def State.bankSources (s : State) (g b n : Nat) : List Entry :=
  (List.range (s.ntap (g / 4) b)).map (fun j =>
    s.sourceEntry g (s.firWindow g b n).centre (n - (s.ntap (g / 4) b - 1) * s.firSpacing g + j * s.firSpacing g))

/-- The result of a bank that is ready (R176). -/
def State.bankEntry (s : State) (g b n : Nat) : Entry :=
  let y := firResult (s.bankSum g b n) (s.fgain (g / 4) b)
  { y with sat := y.own || (s.bankSources g b n).any (·.sat) }

/-- A bank that is ready gives its rounded sum, and the reads of its words change nothing (R176). -/
theorem State.firBank_ready (h : s.bankReady g b n = true) : s.firBank g b n = (s.bankEntry g b n, s) := by
  simp only [State.bankReady, Bool.and_eq_true] at h
  obtain ⟨hclean, hrestart⟩ := h
  have hsum : ((List.range (s.ntap (g / 4) b)).zip (s.bankSources g b n)).foldl (fun a jx => a +
      coefOf ((List.range (ceilDiv (3 * s.ntap (g / 4) b) 8)).map (fun i =>
        wordData (s.rawWord (Store.filter (g / 4)) (coefWord b i)))) jx.1 * jx.2.v) 0 = s.bankSum g b n :=
    foldl_zip_range ..
  have hword : ∀ i, coefWord b 0 + i = coefWord b i := fun i => rfl
  unfold State.firBank
  simp only [State.readWords_clean hclean, hword, List.map_map, Function.comp_def, Option.getD_some]
  rw [if_pos (by simpa using hrestart)]
  exact congrArg (fun x => (({ firResult x (s.fgain (g / 4) b) with
    sat := (firResult x (s.fgain (g / 4) b)).own || (s.bankSources g b n).any (·.sat) } : Entry), s)) hsum

end Bank

/-- Outside a fade, and at its last output, an FIR output is the result of the slot's bank (R176, R181). -/
theorem State.firValue_pure {s : State} {g : Nat} (hf : ∀ f, (s.slot g).fade = some f → f.last = true)
    (h : s.bankReady g (s.fbank g) (s.slot g).next = true) :
    let y := s.bankEntry g (s.fbank g) (s.slot g).next
    s.firValue g = ((y, b2n y.own), s) := by
  rw [State.firValue, State.firBank_ready h]
  split
  · rfl
  · next f e => rw [if_pos (hf f e)]

/-- Within a fade an FIR output is the mix of both banks' results (R181). -/
theorem State.firValue_mix {s : State} {g : Nat} {f : FadeSt} (hf : (s.slot g).fade = some f) (hl : f.last = false)
    (h : s.bankReady g (s.fbank g) (s.slot g).next = true) (ho : s.bankReady g f.oldBank (s.slot g).next = true) :
    let yo := s.bankEntry g f.oldBank (s.slot g).next
    let yn := s.bankEntry g (s.fbank g) (s.slot g).next
    s.firValue g = ((⟨fadeMix f.n f.i yo.v yn.v, false, yo.sat || yn.sat⟩, b2n yo.own + b2n yn.own), s) := by
  rw [State.firValue, State.firBank_ready h]
  simp only [hf, hl, State.firBank_ready ho]
  rfl

/-! ### The step of a fade (R181) -/

section Fade
variable {s : State} {g : Nat}

theorem State.fadeStep_none (h : (s.slot g).fade = none) : s.fadeStep g = s := by
  simp only [State.fadeStep, h]

theorem State.fadeStep_on {f : FadeSt} (h : (s.slot g).fade = some f) (hl : f.i + 1 ≠ 2 ^ f.n) :
    ((s.fadeStep g).slot g).fade = some { f with i := f.i + 1 } := by
  simp only [State.fadeStep, h, if_neg hl, State.slot_setSlot, if_pos]

theorem State.fadeStep_ends {f : FadeSt} (h : (s.slot g).fade = some f) (hl : f.i + 1 = 2 ^ f.n) :
    ((s.fadeStep g).slot g).fade = none ∧ (s.fadeStep g).rb (Reg.filSta (g / 4)) (g % 4) = false ∧
      (s.fadeStep g).rb (Reg.hdrIraw (Page.fil (g / 4))) 3 = true := by
  have hne : Reg.filSta (g / 4) ≠ Reg.hdrIraw (Page.fil (g / 4)) := by
    simp only [Reg.filSta, Reg.hdrIraw, Page.fil]
    omega
  simp only [State.fadeStep, h, if_pos hl]
  refine ⟨?_, ?_, State.rb_raise_same _ _ _ (by decide)⟩
  · rw [State.slot_congr (State.slots_raise ..), State.slot_congr (State.slots_setb ..), State.slot_setSlot, if_pos rfl]
  · rw [State.rb, State.rd_raise, if_neg hne, ← State.rb, State.rb_setb _ _ _ _ _ _ (by omega), if_pos ⟨rfl, rfl⟩]

end Fade

/-! ### The outputs of a slot (R168-R182, R194) -/

section Outputs
variable {s : State} {g : Fin 8} {xs : List Sample}

theorem State.slotOn_live (h : s.slotOn g = true) : (s.cnv g).live.isSome = true := by
  simp only [State.slotOn, Bool.and_eq_true] at h
  exact h.1.2

/-- A main-path output that is due leaves over the samples of its window (R169-R174). -/
theorem State.mainOutput_due (hd : s.mainDue g = true) (hn : xs.length = (s.nextMain g).span.hi - (s.cnv g).fed) :
    let w := s.nextMain g
    let t := s.feedAll g xs
    s.mainOutput g xs = (t.emit g w (stageEntry (t.sampleAt g) (t.slot g).phases (t.lastStage g) w.centre)).afterOutput g
      (t.slot g).next w.span.hi := by
  have hon : s.slotOn g = true := by
    simp only [State.mainDue, Bool.and_eq_true] at hd
    exact hd.1.1
  simp only [State.mainOutput, hd, State.feedTo_told (State.slotOn_live hon) hn, State.feedAll_next]
  rfl

theorem State.firDue_on (hd : s.firDue g = true) : s.slotOn g = true := by
  simp only [State.firDue, Bool.and_eq_true] at hd
  exact hd.1.1

/-- An FIR output that is due in time leaves with the value it has over the samples of its window (R176, R181). -/
theorem State.firOutput_inTime {y : Entry} {k : Nat} (hd : s.firDue g = true) (hl : s.firLate g = false)
    (hn : xs.length = (s.nextFir g).span.hi - (s.cnv g).fed)
    (hv : (s.feedAll g xs).firValue g = ((y, k), s.feedAll g xs)) :
    s.firOutput g xs = ((((s.feedAll g xs).countSat g k).emit g (s.nextFir g) y).fadeStep g).afterOutput g
      ((s.feedAll g xs).slot g).next (s.nextFir g).span.hi := by
  simp only [State.firOutput, hd, State.feedTo_told (State.slotOn_live (State.firDue_on hd)) hn, State.feedAll_firLate, hl,
    hv, State.feedAll_next]
  rfl

/-- An FIR output that is late is dropped once the samples of its window have entered (R194). -/
theorem State.firDrop_late (hd : s.firDue g = true) (hl : s.firLate g = true)
    (hn : xs.length = (s.nextFir g).span.hi - (s.cnv g).fed) : s.firDrop g xs = (s.feedAll g xs).dropFir g := by
  simp only [State.firDrop, hd, hl, State.feedTo_told (State.slotOn_live (State.firDue_on hd)) hn]
  rfl

end Outputs

end Sys2Proof.Machine
end

section
/-! The outputs of the filter engines, command by command (05 R169-R196). -/

namespace Sys2Proof.Machine

section Value
variable {s : State} {g : Fin 8} {xs : List Sample}

/-- Outside a fade, and at its last output, the value is the slot's own bank's. -/
theorem State.feedAll_firValue_pure (hb : (s.feedAll g xs).bankReady g (s.fbank g) (s.slot g).next = true)
    (hf : ∀ f, (s.slot g).fade = some f → f.last = true) :
    let y := (s.feedAll g xs).bankEntry g (s.fbank g) (s.slot g).next
    (s.feedAll g xs).firValue g = ((y, b2n y.own), s.feedAll g xs) := by
  rw [← State.feedAll_fbank s g xs, ← State.feedAll_next s g xs] at hb ⊢
  exact State.firValue_pure (by rwa [State.feedAll_fade]) hb

/-- Within a fade the value is the mix of both banks'. -/
theorem State.feedAll_firValue_mix {f : FadeSt} (hb : (s.feedAll g xs).bankReady g (s.fbank g) (s.slot g).next = true)
    (hf : (s.slot g).fade = some f) (hl : f.last = false)
    (ho : (s.feedAll g xs).bankReady g f.oldBank (s.slot g).next = true) :
    let yo := (s.feedAll g xs).bankEntry g f.oldBank (s.slot g).next
    let yn := (s.feedAll g xs).bankEntry g (s.fbank g) (s.slot g).next
    (s.feedAll g xs).firValue g =
      ((⟨fadeMix f.n f.i yo.v yn.v, false, yo.sat || yn.sat⟩, b2n yo.own + b2n yn.own), s.feedAll g xs) := by
  rw [← State.feedAll_fbank s g xs] at hb ⊢
  rw [← State.feedAll_next s g xs] at hb ho ⊢
  exact State.firValue_mix ((State.feedAll_fade s g xs).trans hf) hl hb ho

end Value

/-! ### A dropped output (R194) -/

/-- A drop counts and is flagged. -/
def State.countDrop (s : State) (e : Nat) : State := (s.bump (Reg.filDropcnt e)).raise (Page.fil e) 4

section Drop
variable (s : State) (g : Nat)

theorem filDropcnt_ne_iraw (e : Nat) : Reg.filDropcnt e ≠ Reg.hdrIraw (Page.fil e) := by
  simp only [Reg.filDropcnt, Reg.hdrIraw, Page.fil]
  omega

theorem State.countDrop_front (e : Nat) :
    FrontOnly [Reg.filDropcnt e, Reg.hdrIraw (Page.fil e)] s (s.countDrop e) :=
  (FrontOnly.bumpBy (by simp)).trans (.raise (by simp))

theorem State.countDrop_slots (e : Nat) : (s.countDrop e).slots = s.slots :=
  (State.slots_raise ..).trans (State.slots_bumpBy ..)

theorem State.countDrop_evq (e : Nat) : (s.countDrop e).evq = s.evq :=
  (State.evq_raise ..).trans (State.evq_bumpBy ..)

theorem State.countDrop_dropcnt (e : Nat) : (s.countDrop e).rd (Reg.filDropcnt e) = s.rd (Reg.filDropcnt e) + 1 := by
  rw [State.countDrop, State.rd_raise, if_neg (filDropcnt_ne_iraw e), State.bump_eq, State.rd_bumpBy, if_pos rfl]
  rfl

theorem State.countDrop_flag (e : Nat) : (s.countDrop e).rb (Reg.hdrIraw (Page.fil e)) 4 = true :=
  State.rb_raise_same _ _ _ (by decide)

theorem State.dropFir_noFade (h : (s.slot g).fade = none) :
    s.dropFir g = (s.countDrop (g / 4)).afterOutput g (s.slot g).next (s.nextFir g).span.hi :=
  congrArg (·.afterOutput g (s.slot g).next (s.nextFir g).span.hi)
    (State.fadeStep_none (s := s.countDrop (g / 4)) (by rw [State.slot_congr (State.countDrop_slots ..), h]))

end Drop

/-! ### The commands of O8 -/

section Commands
variable {s : State} {g : Fin 8} {xs : List Sample} (hu : s.unarmed = true)
include hu

theorem filterOutput_completes (hm : s.mayEnter g = true) (hd : s.mainDue g = true)
    (hn : xs.length = (s.nextMain g).span.hi - (s.cnv g).fed) :
    let t := s.feedAll g xs
    Completes (.filterOutput g xs) s (fun u =>
      let y := stageEntry (t.sampleAt g) (t.slot g).phases (t.lastStage g) (s.nextMain g).centre
      Delivered g (s.nextMain g) y.v y.sat t u) := by
  have he : s.onlyIf (s.mayEnter g) (·.mainOutput g xs) = s.mainOutput g xs := by rw [hm]; rfl
  exact ⟨_, congrArg finish (he.trans (State.mainOutput_due hd hn)),
    delivered_of_emit (State.feedAll_unarmed s g xs hu) .refl .refl⟩

/-- What an FIR output in time comes to: the output leaves, and the fade steps on. -/
theorem firOutput_completes {y : Entry} {k : Nat} (hm : s.mayEnter g = true) (hd : s.firDue g = true)
    (hl : s.firLate g = false) (hn : xs.length = (s.nextFir g).span.hi - (s.cnv g).fed)
    (hv : (s.feedAll g xs).firValue g = ((y, k), s.feedAll g xs)) :
    Completes (.firOutput g xs) s (fun u => Delivered g (s.nextFir g) y.v y.sat (s.feedAll g xs) u ∧
      ∃ a : State, (a.slot g).fade = (s.slot g).fade ∧ (u.slot g).fade = ((a.fadeStep g).slot g).fade ∧
        ∀ r, u.rd r = (a.fadeStep g).rd r) := by
  have he : s.onlyIf (s.mayEnter g) (·.firOutput g xs) = s.firOutput g xs := by rw [hm]; rfl
  have ht := State.feedAll_unarmed s g xs hu
  have hc : EngineOnly g (s.feedAll g xs) ((s.feedAll g xs).countSat g k) := .countSat k
  obtain ⟨r, hr⟩ := State.emit_slot (w := s.nextFir g) (g := g) y (hc.unarmed ht)
  refine ⟨_, congrArg finish (he.trans (State.firOutput_inTime hd hl hn hv)), delivered_of_emit ht hc .fadeStep,
    ((s.feedAll g xs).countSat g k).emit g (s.nextFir g) y, ?_, (State.afterOutput_slot ..).2.2.2,
    fun r => (State.afterOutput_front _ _ _ _ []).rd (by simp)⟩
  rw [hr, State.slot_congr (State.slots_countSat ..)]
  exact State.feedAll_fade s g xs

section Fir
variable (hm : s.mayEnter g = true) (hd : s.firDue g = true) (hl : s.firLate g = false)
  (hn : xs.length = (s.nextFir g).span.hi - (s.cnv g).fed)
  (hb : (s.feedAll g xs).bankReady g (s.fbank g) (s.slot g).next = true)
include hm hd hl hn hb

theorem firOutput_noFade (hf : (s.slot g).fade = none) :
    let t := s.feedAll g xs
    let yn := firResult (t.bankSum g (s.fbank g) (s.slot g).next) (t.fgain (g / 4) (s.fbank g))
    Completes (.firOutput g xs) s (fun u =>
      (∃ sat : Bool, (yn.own = true → sat = true) ∧ Delivered g (s.nextFir g) yn.v sat t u) ∧ (u.slot g).fade = none) := by
  have hv := State.feedAll_firValue_pure hb (by simp [hf])
  obtain ⟨u, hx, hdel, a, ha, hfade, -⟩ := firOutput_completes hu hm hd hl hn hv
  refine ⟨u, hx, ⟨_, fun ho => ?_, hdel⟩, ?_⟩
  · exact Bool.or_eq_true_iff.mpr (.inl ho)
  · rw [hfade, State.fadeStep_none (ha.trans hf), ha, hf]

theorem firOutput_fade {f : FadeSt} (hf : (s.slot g).fade = some f)
    (ho : (s.feedAll g xs).bankReady g f.oldBank (s.slot g).next = true) :
    let t := s.feedAll g xs
    let n := (s.slot g).next
    let b := s.fbank g
    let yn := firResult (t.bankSum g b n) (t.fgain (g / 4) b)
    Completes (.firOutput g xs) s (fun u =>
      let yo := firResult (t.bankSum g f.oldBank n) (t.fgain (g / 4) f.oldBank)
      (f.i + 1 ≠ 2 ^ f.n →
        (∃ sat : Bool, Delivered g (s.nextFir g) (fadeMix f.n f.i yo.v yn.v) sat t u) ∧
        (u.slot g).fade = some { f with i := f.i + 1 }) ∧
      (f.i + 1 = 2 ^ f.n →
        (∃ sat : Bool, Delivered g (s.nextFir g) yn.v sat t u) ∧ (u.slot g).fade = none ∧
        u.rb (Reg.filSta (g / 4)) (g % 4) = false ∧ u.rb (Reg.hdrIraw (Page.fil (g / 4))) 3 = true)) := by
  by_cases hlast : f.i + 1 = 2 ^ f.n
  · have hv := State.feedAll_firValue_pure hb (by simp [hf, FadeSt.last, hlast])
    obtain ⟨u, hx, hdel, a, ha, hfade, hrd⟩ := firOutput_completes hu hm hd hl hn hv
    obtain ⟨hend, hsta, hraw⟩ := State.fadeStep_ends (ha.trans hf) hlast
    exact ⟨u, hx, fun h => absurd hlast h, fun _ => ⟨⟨_, hdel⟩, hfade.trans hend, by rw [State.rb, hrd]; exact hsta,
      by rw [State.rb, hrd]; exact hraw⟩⟩
  · have hv := State.feedAll_firValue_mix hb hf (by simp [FadeSt.last, hlast]) ho
    obtain ⟨u, hx, hdel, a, ha, hfade, -⟩ := firOutput_completes hu hm hd hl hn hv
    exact ⟨u, hx, fun _ => ⟨⟨_, hdel⟩, hfade.trans (State.fadeStep_on (ha.trans hf) hlast)⟩, fun h => absurd h hlast⟩

end Fir

end Commands

theorem dropcntRegs_page (g : Fin 8) :
    ∀ a ∈ [Reg.filDropcnt (g / 4), Reg.hdrIraw (Page.fil (g / 4))], a / 1024 ∈ [Page.fil (g / 4)] := by decide +revert

theorem firdrop_completes {s : State} {g : Fin 8} {xs : List Sample} (hd : s.firDue g = true) (hl : s.firLate g = true)
    (hn : xs.length = (s.nextFir g).span.hi - (s.cnv g).fed) (hf : (s.slot g).fade = none) :
    let t := s.feedAll g xs
    Completes (.firdrop g xs) s (fun u =>
      u.rd (Reg.filDropcnt (g / 4)) = t.rd (Reg.filDropcnt (g / 4)) + 1 ∧ u.rb (Reg.hdrIraw (Page.fil (g / 4))) 4 = true ∧
      (u.slot g).seq = ((t.slot g).seq + 1) % 2 ^ 24 ∧ (u.slot g).ring = (t.slot g).ring ∧
      OffPages [Page.fil (g / 4)] t u ∧
      u = { t with regs := u.regs, w1set := u.w1set, slots := u.slots, conv := u.conv }) := by
  intro t
  have hf' : (t.slot g).fade = none := (State.feedAll_fade s g xs).trans hf
  have hc := State.countDrop_front t (g / 4)
  have ha := State.afterOutput_front (t.countDrop (g / 4)) g (t.slot g).next (t.nextFir g).span.hi
  have hslot : (t.countDrop (g / 4)).slot g = t.slot g := State.slot_congr (State.countDrop_slots ..) g
  obtain ⟨hseq, -, hring, -⟩ := State.afterOutput_slot (t.countDrop (g / 4)) g (t.slot g).next (t.nextFir g).span.hi
  have hall := hc.trans (ha _)
  refine ⟨_, congrArg finish ((State.firDrop_late hd hl hn).trans (State.dropFir_noFade t g hf')), ?_, ?_, ?_, ?_,
    hall.offPages (dropcntRegs_page g), ?_⟩
  · rw [(ha []).rd (by simp), State.countDrop_dropcnt]
  · rw [State.rb, (ha []).rd (by simp)]
    exact State.countDrop_flag t (g / 4)
  · rw [hseq, hslot]
  · rw [hring, hslot]
  · exact hall.rest_noEvents ((State.afterOutput_evq ..).trans (State.countDrop_evq ..))

/-- Settles O8, command by command. -/
theorem filterOutputs : Obligations.FilterOutputs := by
  unfold Obligations.FilterOutputs
  intro s g xs e t hu
  exact ⟨fun hm hd hn => filterOutput_completes hu hm hd hn, fun hd hn =>
    ⟨fun hm hl hf hb => firOutput_noFade hu hm hd hl hn hb hf,
      fun f hm hl hf hb ho => firOutput_fade hu hm hd hl hn hb hf ho, fun hl hf => firdrop_completes hd hl hn hf⟩⟩

end Sys2Proof.Machine
end

section
/-! PATH writes: what forbids them, the restart of a slot and the start of a fade (05 R181, R183, R193). -/

namespace Sys2Proof.Machine

/-- `u` is `s` but for registers and filter slots. -/
def SlotsOnly (s u : State) : Prop := u = { s with regs := u.regs, slots := u.slots }

namespace SlotsOnly
variable {s t u : State}

theorem trans (h : SlotsOnly s t) (h' : SlotsOnly t u) : SlotsOnly s u := by
  unfold SlotsOnly at *
  rw [h] at h'
  exact h'

theorem refl : SlotsOnly s s := rfl
theorem wr (a : Nat) (v : Word) : SlotsOnly s (s.wr a v) := rfl
theorem setSlot (g : Nat) (c : SlotSt) : SlotsOnly s (s.setSlot g c) := rfl
theorem pwr (h : SlotsOnly s u) : u.pwr = s.pwr := by rw [h]
theorem host (h : SlotsOnly s u) : u.host = s.host := by rw [h]

end SlotsOnly

/-! ### Restart and fade (R181, R193) -/

/-- A changed path restarts the slot and counts (R193). -/
def State.restartPath (s : State) (g : Nat) : State :=
  let s := s.bump (Reg.filRestcnt (g / 4))
  if (s.cnv g).live.isSome then s.restartFilter g (firstSample g s.time.fab)
  else (s.setSlot g { s.slot g with fade := none }).setb (Reg.filSta (g / 4)) (g % 4) false

/-- A fade from bank `b` over `2 ^ n` outputs starts (R181). -/
def State.startFade (s : State) (g b n : Nat) : State :=
  (s.setSlot g { s.slot g with fade := some { oldBank := b, i := 0, n := n } }).setb (Reg.filSta (g / 4)) (g % 4) true

section Restart
variable (s : State) (g : Nat)

theorem filRestcnt_ne_sta (e : Nat) : Reg.filRestcnt e ≠ Reg.filSta e := by
  simp only [Reg.filRestcnt, Reg.filSta]
  omega

/-- A restart counts, ends a fade, and starts the filter of a converter that delivers samples at the next one (R193). -/
theorem State.restartPath_spec :
    let u := s.restartPath g
    SlotsOnly s u ∧ OffRegs [Reg.filRestcnt (g / 4), Reg.filSta (g / 4)] s u ∧
    u.rd (Reg.filRestcnt (g / 4)) = s.rd (Reg.filRestcnt (g / 4)) + 1 ∧ (u.slot g).fade = none ∧
    u.rb (Reg.filSta (g / 4)) (g % 4) = false ∧
    ((s.cnv g).live.isSome = true → (u.slot g).restart = firstSample g s.time.fab ∧ (u.slot g).first = true) := by
  obtain ⟨c, he, hfade, hlive⟩ : ∃ c, s.restartPath g =
      ((s.bumpBy (Reg.filRestcnt (g / 4)) 1).setSlot g c).setb (Reg.filSta (g / 4)) (g % 4) false ∧ c.fade = none ∧
      ((s.cnv g).live.isSome = true → c.restart = firstSample g s.time.fab ∧ c.first = true) := by
    unfold State.restartPath
    simp only
    split
    · exact ⟨_, rfl, rfl, fun _ => ⟨rfl, rfl⟩⟩
    · next h => exact ⟨_, rfl, rfl, fun h' => absurd h' h⟩
  have hslot : (s.restartPath g).slot g = c := by
    rw [he, State.slot_congr (State.slots_setb ..), State.slot_setSlot, if_pos rfl]
  refine ⟨?_, fun a ha => ?_, ?_, by rw [hslot, hfade], ?_, by rwa [hslot]⟩
  · rw [he]
    exact ((SlotsOnly.wr ..).trans (.setSlot g c)).trans (.wr ..)
  · simp only [List.mem_cons, List.not_mem_nil, or_false, not_or] at ha
    rw [he, State.rd_setb, if_neg ha.2, State.rd_setSlot, State.rd_bumpBy, if_neg ha.1]
  · rw [he, State.rd_setb, if_neg (filRestcnt_ne_sta _), State.rd_setSlot, State.rd_bumpBy, if_pos rfl]
    rfl
  · rw [he, State.rb_setb _ _ _ _ _ _ (by omega), if_pos ⟨rfl, rfl⟩]

theorem State.startFade_spec (b n : Nat) :
    let u := s.startFade g b n
    SlotsOnly s u ∧ OffRegs [Reg.filRestcnt (g / 4), Reg.filSta (g / 4)] s u ∧
    u.rb (Reg.filSta (g / 4)) (g % 4) = true ∧ (u.slot g).fade = some { oldBank := b, i := 0, n := n } := by
  refine ⟨(SlotsOnly.setSlot ..).trans (.wr ..), fun a ha => ?_, ?_, ?_⟩
  · simp only [List.mem_cons, List.not_mem_nil, or_false, not_or] at ha
    rw [State.startFade, State.rd_setb, if_neg ha.2, State.rd_setSlot]
  · rw [State.startFade, State.rb_setb _ _ _ _ _ _ (by omega), if_pos ⟨rfl, rfl⟩]
  · rw [State.startFade, State.slot_congr (State.slots_setb ..), State.slot_setSlot, if_pos rfl]

end Restart

/-! ### The write at the block -/

section Write
variable {s : State} {g : Nat} {x : Word}

theorem State.writePath_cfgrej (hp : bitOf (mixPath (s.path g) x) 0 = true)
    (hc : s.ntap (g / 4) (field (mixPath (s.path g) x) 9 1) - 1 < s.fcent (g / 4) (field (mixPath (s.path g) x) 9 1)) :
    s.writePath g x = s.raise (Page.fil (g / 4)) 2 := by
  simp [State.writePath, hp, hc]

theorem State.writePath_takes
    (hc : bitOf (mixPath (s.path g) x) 0 = false ∨
      s.fcent (g / 4) (field (mixPath (s.path g) x) 9 1) ≤ s.ntap (g / 4) (field (mixPath (s.path g) x) 9 1) - 1) :
    let p := mixPath (s.path g) x
    let newBank := field p 9 1 != field (s.path g) 9 1
    let t := (s.flushDue g).wr (Reg.filPath (g / 4) (g % 4)) p
    s.writePath g x =
      if (s.slot g).fade.isSome && newBank then s.raise (Page.fil (g / 4)) 1
      else if field (s.path g) 0 9 != field p 0 9 || field (s.path g) 16 8 != field p 16 8 then t.restartPath g
      else if bitOf p 0 && newBank then t.startFade g (field (s.path g) 9 1) (field p 10 4)
      else t := by
  have hn : ¬ (bitOf (mixPath (s.path g) x) 0 && decide (s.ntap (g / 4) (field (mixPath (s.path g) x) 9 1) - 1 <
      s.fcent (g / 4) (field (mixPath (s.path g) x) 9 1))) = true := by
    rcases hc with h | h <;> simp [h]
  exact if_neg hn

end Write

/-! ### The command -/

theorem writableAt_path (g : Fin 8) :
    writableAt (Reg.filPath (g / 4) (g % 4)) (Page.fil (g / 4)) (0x040 + 4 * (g % 4)) .fil (g / 4) (g % 4) 0xFFFFFF =
      true := by decide +revert

theorem State.writeBlock_path (s : State) (r a : Nat) (g : Fin 8) (x : Word) :
    s.writeBlock r .fil (g / 4) (0x040 + 4 * (g % 4)) (g % 4) a x = s.writePath g x := by fin_cases g <;> rfl

theorem filPath_ne (g : Fin 8) :
    Reg.filPath (g / 4) (g % 4) ≠ Reg.filSta (g / 4) ∧ Reg.filPath (g / 4) (g % 4) ≠ Reg.filRestcnt (g / 4) := by
  decide +revert

theorem pathRegs_page (g : Fin 8) :
    ∀ a ∈ [Reg.filPath (g / 4) (g % 4), Reg.filRestcnt (g / 4), Reg.filSta (g / 4)], a / 1024 ∈ [Page.fil (g / 4)] := by
  decide +revert

/-- PATH holds its value, whatever follows of a restart or a fade, and no other page of registers changes. -/
theorem path_taken (t : State) (g : Fin 8) (p : Word) {u : State}
    (hs : SlotsOnly (t.wr (Reg.filPath (g / 4) (g % 4)) p) u)
    (hr : OffRegs [Reg.filRestcnt (g / 4), Reg.filSta (g / 4)] (t.wr (Reg.filPath (g / 4) (g % 4)) p) u) :
    u.path g = p ∧ OffPages [Page.fil (g / 4)] t u ∧ SlotsOnly t u := by
  refine ⟨?_, fun a ha => ?_, (SlotsOnly.wr ..).trans hs⟩
  · rw [State.path, hr _ (by simp [filPath_ne g]), State.rd_wr, if_pos rfl]
  · obtain ⟨hp, hq⟩ := List.ne_and_not_mem_of_not_mem_cons fun hm => ha (pathRegs_page g a hm)
    rw [hr a hq, State.rd_wr, if_neg hp]

section PathWrite
variable {s : State} {g : Fin 8} {req : Req} (v : Word) (hr : s.reaches req (Page.fil (g / 4)) = true)
include hr

theorem pathWrite_acts {u : State} (hu : s.writePath g (v &&& 0xFFFFFF) = u) (hp : u.pwr = s.pwr) (hh : u.host = s.host) :
    exec (.pathWrite req g v) s = .next u.settle :=
  congrArg finish (State.reqWrite_writable (writableAt_path g) hr ((State.writeBlock_path ..).trans hu) hp hh)

theorem pathWrite_cfgrej (hb : bitOf (mixPath (s.path g) (v &&& 0xFFFFFF)) 0 = true)
    (hc : s.ntap (g / 4) (field (mixPath (s.path g) (v &&& 0xFFFFFF)) 9 1) - 1 <
      s.fcent (g / 4) (field (mixPath (s.path g) (v &&& 0xFFFFFF)) 9 1)) :
    Completes (.pathWrite req g v) s (fun u => u = s.raise (Page.fil (g / 4)) 2) :=
  ⟨_, pathWrite_acts v hr (State.writePath_cfgrej hb hc) rfl rfl, rfl⟩

section Taken
variable (hc : bitOf (mixPath (s.path g) (v &&& 0xFFFFFF)) 0 = false ∨
  s.fcent (g / 4) (field (mixPath (s.path g) (v &&& 0xFFFFFF)) 9 1) ≤
    s.ntap (g / 4) (field (mixPath (s.path g) (v &&& 0xFFFFFF)) 9 1) - 1)
include hc

theorem pathWrite_faderej (hf : (s.slot g).fade ≠ none)
    (hb : (field (mixPath (s.path g) (v &&& 0xFFFFFF)) 9 1 != field (s.path g) 9 1) = true) :
    Completes (.pathWrite req g v) s (fun u => u = s.raise (Page.fil (g / 4)) 1) := by
  have hu := State.writePath_takes hc
  simp only [Option.isSome_iff_ne_none.mpr hf, hb] at hu
  exact ⟨_, pathWrite_acts v hr hu rfl rfl, rfl⟩

/-- PATH takes its value; then a changed path restarts the slot, and a changed bank alone starts a fade. -/
theorem pathWrite_takes
    (hf : (s.slot g).fade = none ∨ (field (mixPath (s.path g) (v &&& 0xFFFFFF)) 9 1 != field (s.path g) 9 1) = false) :
    let p := mixPath (s.path g) (v &&& 0xFFFFFF)
    let t := s.flushDue g
    let changed := field (s.path g) 0 9 != field p 0 9 || field (s.path g) 16 8 != field p 16 8
    let newBank := field p 9 1 != field (s.path g) 9 1
    Completes (.pathWrite req g v) s (fun u =>
      u.path g = p ∧
      (changed = true →
        u.rd (Reg.filRestcnt (g / 4)) = t.rd (Reg.filRestcnt (g / 4)) + 1 ∧ (u.slot g).fade = none ∧
        u.rb (Reg.filSta (g / 4)) (g % 4) = false ∧
        ((t.cnv g).live.isSome = true → (u.slot g).restart = firstSample g t.time.fab ∧ (u.slot g).first = true)) ∧
      (changed = false → bitOf p 0 = true → newBank = true →
        u.rb (Reg.filSta (g / 4)) (g % 4) = true ∧
        (u.slot g).fade = some { oldBank := field (s.path g) 9 1, i := 0, n := field p 10 4 }) ∧
      (changed = false → bitOf p 0 = false ∨ newBank = false → u = t.wr (Reg.filPath (g / 4) (g % 4)) p) ∧
      OffPages [Page.fil (g / 4)] t u ∧ u = { t with regs := u.regs, slots := u.slots }) := by
  intro p t changed newBank
  have hu : s.writePath g (v &&& 0xFFFFFF) =
      if changed then (t.wr (Reg.filPath (g / 4) (g % 4)) p).restartPath g
      else if bitOf p 0 && newBank then
        (t.wr (Reg.filPath (g / 4) (g % 4)) p).startFade g (field (s.path g) 9 1) (field p 10 4)
      else t.wr (Reg.filPath (g / 4) (g % 4)) p :=
    (State.writePath_takes hc).trans (if_neg (by
      rcases hf with h | h
      · simp [h]
      · rw [h, Bool.and_false]; exact Bool.false_ne_true))
  have hk := State.flushDue_keepsControl s g
  have acts : ∀ u : State, s.writePath g (v &&& 0xFFFFFF) = u → SlotsOnly (t.wr (Reg.filPath (g / 4) (g % 4)) p) u →
      exec (.pathWrite req g v) s = .next u.settle := fun u e h =>
    pathWrite_acts v hr e (h.pwr.trans hk.pwr) (h.host.trans hk.host)
  cases hch : changed with
  | true =>
    obtain ⟨hs, hreg, hcnt, hfade, hsta, hlive⟩ := State.restartPath_spec (t.wr (Reg.filPath (g / 4) (g % 4)) p) g
    obtain ⟨hpath, hoff, hrest⟩ := path_taken t g p hs hreg
    rw [hch, if_pos rfl] at hu
    rw [State.rd_wr, if_neg (filPath_ne g).2.symm] at hcnt
    exact ⟨_, acts _ hu hs, hpath, fun _ => ⟨hcnt, hfade, hsta, hlive⟩, fun h => absurd h (by simp),
      fun h => absurd h (by simp), hoff, hrest⟩
  | false =>
    rw [hch, if_neg (by simp)] at hu
    cases hnb : bitOf p 0 && newBank with
    | true =>
      obtain ⟨hs, hreg, hsta, hfade⟩ := State.startFade_spec (t.wr (Reg.filPath (g / 4) (g % 4)) p) g (field (s.path g) 9 1)
        (field p 10 4)
      obtain ⟨hpath, hoff, hrest⟩ := path_taken t g p hs hreg
      rw [hnb, if_pos rfl] at hu
      obtain ⟨hb, hn⟩ := Bool.and_eq_true_iff.mp hnb
      exact ⟨_, acts _ hu hs, hpath, fun h => absurd h (by simp), fun _ _ _ => ⟨hsta, hfade⟩,
        fun _ h => by rcases h with h | h <;> simp [hb, hn] at h, hoff, hrest⟩
    | false =>
      obtain ⟨hpath, hoff, hrest⟩ := path_taken t g p .refl fun _ _ => rfl
      rw [hnb, if_neg (by simp)] at hu
      exact ⟨_, acts _ hu .refl, hpath, fun h => absurd h (by simp), fun _ hb hn => by simp [hb, hn] at hnb,
        fun _ _ => rfl, hoff, hrest⟩

end Taken

end PathWrite

end Sys2Proof.Machine
end

section
/-! Writes of coefficients and of the bank registers (05 R179, R180). -/

namespace Sys2Proof.Machine

/-! ### The coefficient registers (R179) -/

/-- The row of the coefficient registers. -/
abbrev coefRow : RegRow := ⟨0x040, 4, 240, .rw, 0x0, 0xFFFFFFFF, false⟩

theorem pageKind_fcoe (e : Fin 2) (i : Fin 3) :
    pageKind? (Page.fcoe (3 * e + i)) = some (.fcoe, 3 * e.val + i.val) := by decide +revert

section Coef
variable {e : Fin 2} {i : Fin 3} {j : Nat} (hj : j < if i.val < 2 then 240 else 96)
include hj

theorem fcoeCoef_place :
    Reg.fcoeCoef (3 * e + i) j / 1024 = Page.fcoe (3 * e + i) ∧ Reg.fcoeCoef (3 * e + i) j % 1024 = 0x40 + 4 * j := by
  simp only [Reg.fcoeCoef, Page.fcoe]
  split at hj <;> omega

theorem busTarget_coef : busTarget (Reg.fcoeCoef (3 * e + i) j) = some (.fcoe, 3 * e.val + i.val, coefRow, j) := by
  obtain ⟨hp, ho⟩ := fcoeCoef_place (e := e) hj
  have hrow : rowAt (blockRows .fcoe) (0x40 + 4 * j) = some (coefRow, j) := by
    simp only [blockRows, rowAt]
    rw [if_neg (by decide), if_pos (by split at hj <;> omega)]
    simp
  have habs : absentReg .fcoe (3 * e.val + i.val) (0x40 + 4 * j) = false := by
    simp only [absentReg, Bool.and_eq_false_iff, beq_eq_false_iff_ne, decide_eq_false_iff_not]
    split at hj <;> omega
  unfold busTarget
  rw [hp, ho, pageKind_fcoe]
  simp only [hrow, habs]
  rw [if_neg (by omega)]
  rfl

theorem writableAt_coef :
    writableAt (Reg.fcoeCoef (3 * e + i) j) (Page.fcoe (3 * e + i)) (0x40 + 4 * j) .fcoe (3 * e + i) j 0xFFFFFFFF =
      true := by
  obtain ⟨hp, ho⟩ := fcoeCoef_place (e := e) hj
  unfold writableAt
  rw [busTarget_coef hj, hp, ho]
  simp

/-- The bank and the byte in it that a coefficient register holds first (R179). -/
theorem coefPlace_coef : coefPlace i (0x40 + 4 * j) =
    (if i.val < 2 then i.val else j / 48, if i.val < 2 then 4 * j else 960 + 4 * (j % 48)) := by
  unfold coefPlace
  split_ifs with hi h48
  · simp
  · rw [Prod.mk.injEq]
    omega
  · rw [if_neg hi] at hj
    rw [Prod.mk.injEq]
    omega

theorem bankOf_coef : bankOf (Reg.fcoeCoef (3 * e + i) j) = (e.val, if i.val < 2 then i.val else j / 48) := by
  obtain ⟨hp, ho⟩ := fcoeCoef_place (e := e) hj
  have hdiv : (Page.fcoe (3 * e + i) - 0x50) / 3 = e := by simp only [Page.fcoe]; omega
  have hmod : (Page.fcoe (3 * e + i) - 0x50) % 3 = i := by simp only [Page.fcoe]; omega
  unfold bankOf
  simp only [hp, ho, hdiv, hmod]
  rw [if_neg (by simp only [Page.fcoe]; omega), coefPlace_coef hj]

end Coef

/-! ### A write of four coefficient bytes (R179) -/

theorem setWidth_or_high (v : Word) (d : DWord) :
    v.setWidth 64 ||| (d >>> 32 <<< 32) = BitVec.ofNat 64 (v.toNat + d.toNat / 2 ^ 32 * 2 ^ 32) := by
  have hv := v.isLt
  have hd := d.isLt
  have hmod : d.toNat / 2 ^ 32 * 2 ^ 32 % 2 ^ 64 = 2 ^ 32 * (d.toNat / 2 ^ 32) := by omega
  refine BitVec.eq_of_toNat_eq ?_
  rw [BitVec.toNat_or, BitVec.toNat_setWidth, BitVec.toNat_shiftLeft, BitVec.toNat_ushiftRight, BitVec.toNat_ofNat,
    Nat.shiftRight_eq_div_pow, Nat.shiftLeft_eq, hmod, Nat.mod_eq_of_lt (by omega), Nat.or_comm,
    ← Nat.two_pow_add_eq_or_of_lt hv]
  omega

theorem shiftLeft_or_low (v : Word) (d : DWord) :
    (v.setWidth 64 <<< 32) ||| (d <<< 32 >>> 32) = BitVec.ofNat 64 (v.toNat * 2 ^ 32 + d.toNat % 2 ^ 32) := by
  have hv := v.isLt
  have hlow : d.toNat * 2 ^ 32 % 2 ^ 64 / 2 ^ 32 = d.toNat % 2 ^ 32 := by omega
  have hmod : v.toNat % 2 ^ 64 * 2 ^ 32 % 2 ^ 64 = 2 ^ 32 * v.toNat := by omega
  refine BitVec.eq_of_toNat_eq ?_
  rw [BitVec.toNat_or, BitVec.toNat_shiftLeft, BitVec.toNat_setWidth, BitVec.toNat_ushiftRight, BitVec.toNat_shiftLeft,
    BitVec.toNat_ofNat, Nat.shiftRight_eq_div_pow, Nat.shiftLeft_eq, Nat.shiftLeft_eq, hlow, hmod,
    ← Nat.two_pow_add_eq_or_of_lt (Nat.mod_lt _ (by decide))]
  omega

/-- Four bytes of a good word of a bank are replaced. -/
theorem State.writeCoef_good {s : State} {e b byte : Nat} {d : DWord} (he : e < 2) (hu : s.unarmed = true)
    (h : s.rawWord (Store.filter e) (coefWord b (byte / 8)) = encodeWord d) (v : Word) :
    s.writeCoef e b byte v = s.setRaw (Store.filter e) (coefWord b (byte / 8))
      (encodeWord (if byte % 8 < 4 then BitVec.ofNat 64 (v.toNat + d.toNat / 2 ^ 32 * 2 ^ 32)
        else BitVec.ofNat 64 (v.toNat * 2 ^ 32 + d.toNat % 2 ^ 32))) := by
  simp only [State.writeCoef, State.readWord_filter h, Option.getD_some]
  rw [State.writeWord_filter he hu, setWidth_or_high, shiftLeft_or_low]

/-! ### The commands -/

theorem State.writeBank_used {s : State} {addr : Nat} {v : Word} {p : Nat × Nat} (hb : bankOf addr = p)
    (h : s.bankUsed p.1 p.2 = true) : s.writeBank addr v = s.raise (Page.fil p.1) 0 := by
  simp only [State.writeBank, hb, h]
  rfl

theorem bankWrite_acts {s u : State} {req : Req} {a : BitVec 24} {v : Word} (hb : isBankReg a.toNat = true)
    (hw : s.reqWrite req a.toNat v = u) : exec (.bankWrite req a v) s = .next u.settle := by
  have he : s.onlyIf (isBankReg a.toNat) (·.reqWrite req a.toNat v) = u := by rw [hb]; exact hw
  exact congrArg finish he

section CoefWrite
variable {s : State} {req : Req} {e : Fin 2} {i : Fin 3} {j : Nat} {a : BitVec 24} (v : Word)
  (hj : j < if i.val < 2 then 240 else 96) (ha : a.toNat = Reg.fcoeCoef (3 * e + i) j)
  (hr : s.reaches req (Page.fcoe (3 * e + i)) = true)
include hj ha hr

theorem coefWrite_acts {u : State} (hu : s.writeBank (Reg.fcoeCoef (3 * e + i) j) v = u) (hp : u.pwr = s.pwr)
    (hh : u.host = s.host) : exec (.bankWrite req a v) s = .next u.settle := by
  obtain ⟨hpg, ho⟩ := fcoeCoef_place (e := e) hj
  refine bankWrite_acts ?_ ?_
  · rw [ha, isBankReg, hpg, pageKind_fcoe, ho]
    simp
  · rw [ha]
    refine State.reqWrite_writable (writableAt_coef hj) hr ?_ hp hh
    have hv : v &&& 0xFFFFFFFF = v := BitVec.and_allOnes
    rw [hv]
    exact hu

theorem coefWrite_refused (hb : s.bankUsed e (if i.val < 2 then i.val else j / 48) = true) :
    Completes (.bankWrite req a v) s (fun u => u = s.raise (Page.fil e) 0) :=
  ⟨_, coefWrite_acts v hj ha hr (State.writeBank_used (bankOf_coef hj) hb) rfl rfl, rfl⟩

theorem coefWrite_takes {d : DWord} (hu : s.unarmed = true) :
    let b := if i.val < 2 then i.val else j / 48
    let byte := if i.val < 2 then 4 * j else 960 + 4 * (j % 48)
    s.bankUsed e b = false → s.rawWord (Store.filter e) (coefWord b (byte / 8)) = encodeWord d →
    Completes (.bankWrite req a v) s (fun u =>
      u.rawWord (Store.filter e) (coefWord b (byte / 8)) =
        encodeWord (if byte % 8 < 4 then BitVec.ofNat 64 (v.toNat + d.toNat / 2 ^ 32 * 2 ^ 32)
                    else BitVec.ofNat 64 (v.toNat * 2 ^ 32 + d.toNat % 2 ^ 32)) ∧
      (∀ st n, (st ≠ Store.filter e ∨ n ≠ coefWord b (byte / 8)) → n < 2 ^ 40 → u.rawWord st n = s.rawWord st n) ∧
      u = { s with words := u.words }) := by
  intro b byte hb hraw
  obtain ⟨hpg, ho⟩ := fcoeCoef_place (e := e) hj
  have hbyte : byte < 2 ^ 20 ∧ b < 2 ^ 20 := by
    simp only [byte, b]
    split_ifs at hj ⊢ <;> omega
  have hn : coefWord b (byte / 8) < 2 ^ 40 := by unfold coefWord; omega
  have hw : s.writeBank (Reg.fcoeCoef (3 * e + i) j) v = s.writeCoef e b byte v := by
    have hmod : (Page.fcoe (3 * e + i) - 0x50) % 3 = i := by simp only [Page.fcoe]; omega
    simp only [State.writeBank, bankOf_coef hj, hpg, ho, hmod, coefPlace_coef hj]
    rw [if_neg (by rw [hb]; exact Bool.false_ne_true), if_neg (by simp only [Page.fcoe]; omega)]
  have hset := hw.trans (State.writeCoef_good e.isLt hu hraw v)
  have hwords := State.setRaw_filter_words (s := s) e.isLt (coefWord b (byte / 8))
    (encodeWord (if byte % 8 < 4 then BitVec.ofNat 64 (v.toNat + d.toNat / 2 ^ 32 * 2 ^ 32)
      else BitVec.ofNat 64 (v.toNat * 2 ^ 32 + d.toNat % 2 ^ 32)))
  refine ⟨_, coefWrite_acts v hj ha hr hset (by rw [hwords]) (by rw [hwords]), ?_, fun st n hne hlt => ?_, hwords⟩
  · rw [State.rawWord_setRaw_filter e.isLt, if_pos rfl]
  · rw [State.rawWord_setRaw _ _ _ _ _ _ hn hlt, if_neg (by tauto)]

end CoefWrite

section BankRegs
variable {s : State} {req : Req} {e : Fin 2} {b : Bool} (v : Word) (hr : s.reaches req (Page.fil e) = true)

/-- The address of BANKA or BANKB. -/
abbrev bankAddr (e : Nat) (b : Bool) : Nat := if b then Reg.filBankb e else Reg.filBanka e

theorem writableAt_bank (e : Fin 2) (b : Bool) :
    writableAt (bankAddr e b) (Page.fil e) (if b then 0x054 else 0x050) .fil e 0 0x1FFFFF = true := by decide +revert

theorem isBankReg_bank (e : Fin 2) (b : Bool) : isBankReg (bankAddr e b) = true := by decide +revert

theorem bankOf_bank (e : Fin 2) (b : Bool) : bankOf (bankAddr e b) = (e.val, if b then 1 else 0) := by decide +revert

theorem bankAddr_page (e : Fin 2) (b : Bool) : bankAddr e b / 1024 < 0x50 := by decide +revert

theorem State.writeBlock_bank (s : State) (r i a : Nat) (b : Bool) (x : Word) :
    s.writeBlock r .fil i (if b then 0x054 else 0x050) 0 a x = s.writeBank a x := by cases b <;> rfl

/-- A bank register not in use takes its value, NTAP held to the bank's coefficients. -/
theorem State.writeBank_free (h : s.bankUsed e (if b then 1 else 0) = false) :
    s.writeBank (bankAddr e b) (v &&& 0x1FFFFF) =
      s.wr (bankAddr e b) (putField (v &&& 0x1FFFFF) 0 9 (min 383 (field v 0 9))) := by
  have hp : bankAddr e b / 1024 < 0x50 := bankAddr_page e b
  have hf : field (v &&& 0x1FFFFF) 0 9 = field v 0 9 := field_and_mask _ _ _ _ (by decide)
  simp only [State.writeBank, bankOf_bank, h, if_pos hp, fitBank, BitVec.and_assoc, BitVec.and_self, hf]
  rfl

include hr

theorem bankWrite_completes {a : BitVec 24} (ha : a.toNat = bankAddr e b) :
    (s.bankUsed e (if b then 1 else 0) = false →
      Completes (.bankWrite req a v) s (fun u => u = s.wr a.toNat (putField (v &&& 0x1FFFFF) 0 9 (min 383 (field v 0 9))))) ∧
    (s.bankUsed e (if b then 1 else 0) = true →
      Completes (.bankWrite req a v) s (fun u => u = s.raise (Page.fil e) 0)) := by
  have acts : ∀ u : State, s.writeBank (bankAddr e b) (v &&& 0x1FFFFF) = u → u.pwr = s.pwr → u.host = s.host →
      exec (.bankWrite req a v) s = .next u.settle := fun u hu hp hh =>
    bankWrite_acts (by rw [ha]; exact isBankReg_bank e b)
      (by rw [ha]; exact State.reqWrite_writable (writableAt_bank e b) hr ((State.writeBlock_bank ..).trans hu) hp hh)
  refine ⟨fun h => ⟨_, acts _ (State.writeBank_free v h) rfl rfl, by rw [ha]⟩, fun h => ?_⟩
  exact ⟨_, acts _ (State.writeBank_used (bankOf_bank e b) h) rfl rfl, rfl⟩

end BankRegs

end Sys2Proof.Machine
end

section
/-! Reads of records, and the registers of the filter engines, one by one (05 R179-R196). -/

namespace Sys2Proof.Machine

/-! ### A record read and latched -/

theorem State.recordWords_good {s : State} {e n : Nat} {d0 d1 : DWord}
    (h0 : s.rawWord (Store.filter e) n = encodeWord d0) (h1 : s.rawWord (Store.filter e) (n + 1) = encodeWord d1) :
    s.recordWords e n = ([lo32 d0.toNat, hi32 d0.toNat, lo32 d1.toNat, hi32 d1.toNat], s) := by
  simp only [State.recordWords, State.readWords, State.readWord_filter h0, State.readWord_filter h1]
  rfl

theorem State.wrMany_regs : ∀ (l : List Word) (s : State) (a : Nat), s.wrMany a l = { s with regs := (s.wrMany a l).regs }
  | [], _, _ => rfl
  | v :: l, s, a => State.wrMany_regs l (s.wr a v) (a + 4)

theorem State.rd_wrMany (s : State) (a : Nat) (x y z : Word) (b : Nat) : (s.wrMany a [x, y, z]).rd b =
    if b = a + 8 then z else if b = a + 4 then y else if b = a then x else s.rd b := by
  simp only [State.wrMany, State.rd_wr]

/-- A read that latches a record brings its first word, and the registers from `a` on hold the other three. -/
theorem latched_record (s : State) {a page : Nat} (hpage : ∀ i < 3, (a + 4 * i) / 1024 = page) (w x y z : Word) :
    let u := { s.wrMany a [x, y, z] with rdata := [w] }
    u.rd a = x ∧ u.rd (a + 4) = y ∧ u.rd (a + 8) = z ∧ OffPages [page] s u ∧
      u = { s with rdata := u.rdata, regs := u.regs } := by
  have hrd := State.rd_wrMany s a x y z
  refine ⟨(hrd _).trans ?_, (hrd _).trans ?_, (hrd _).trans (if_pos rfl), fun b hb => (hrd _).trans ?_,
    congrArg (fun t : State => { t with rdata := [w] }) (State.wrMany_regs [x, y, z] s a)⟩
  · rw [if_neg (by omega), if_neg (by omega), if_pos rfl]
  · rw [if_neg (by omega), if_pos rfl]
  · have hne : ∀ i < 3, b ≠ a + 4 * i := fun i hi h => hb (by rw [h, hpage i hi]; simp)
    rw [if_neg (hne 2 (by decide)), if_neg (hne 1 (by decide))]
    exact if_neg (hne 0 (by decide))

section Reads
variable {s : State} {req : Req} {e : Fin 2} {d0 d1 : DWord} (hr : s.reaches req (Page.fil e) = true)

theorem busTarget_new (e : Fin 2) (k i : Fin 4) : busTarget (Reg.filNew e (16 * k + 4 * i)) =
    some (.fil, e.val, ⟨0x100, 4, 64, .ro, 0x0, 0xFFFFFFFF, false⟩, 16 * k.val + 4 * i.val) := by decide +revert

theorem busTarget_rrd (e : Fin 2) : busTarget (Reg.filRrd e 0) =
    some (.fil, e.val, ⟨0x074, 4, 4, .ro, 0x0, 0xFFFFFFFF, false⟩, 0) := by decide +revert

theorem filNew_page (e : Fin 2) (k i : Fin 4) : Reg.filNew e (16 * k + 4 * i) / 1024 = Page.fil e ∧
    Reg.filNew e (16 * k + 4 * i) % 1024 = 0x100 + 0x40 * k + 0x10 * i := by decide +revert

theorem State.readBlock_new (s : State) (r e n a : Nat) (k i : Fin 4) :
    s.readBlock r .fil e (0x100 + 0x40 * k + 0x10 * i) n a =
      ((s.recordWords e (newWord k i)).1.headD 0,
        (s.recordWords e (newWord k i)).2.wrMany (a + 4) ((s.recordWords e (newWord k i)).1.drop 1)) := by
  fin_cases k <;> fin_cases i <;> rfl

theorem State.readBlock_rrd (s : State) (r e n a : Nat) :
    s.readBlock r .fil e 0x074 n a = ((s.recordWords e (s.ringSelected e)).1.headD 0,
      (s.recordWords e (s.ringSelected e)).2.wrMany (Reg.filRrd e 1) ((s.recordWords e (s.ringSelected e)).1.drop 1)) := rfl

theorem filRrd_page (e : Fin 2) : Reg.filRrd e 0 / 1024 = Page.fil e ∧ Reg.filRrd e 0 % 1024 = 0x074 := by decide +revert

include hr

theorem newW0lRead_completes (k i : Fin 4) (h0 : s.rawWord (Store.filter e) (newWord k i) = encodeWord d0)
    (h1 : s.rawWord (Store.filter e) (newWord k i + 1) = encodeWord d1) :
    Completes (.newW0lRead req e k i) s (fun u =>
      let b := 16 * k.val + 4 * i.val
      u.rdata = [lo32 d0.toNat] ∧ u.rd (Reg.filNew e (b + 1)) = hi32 d0.toNat ∧
      u.rd (Reg.filNew e (b + 2)) = lo32 d1.toNat ∧ u.rd (Reg.filNew e (b + 3)) = hi32 d1.toNat ∧
      OffPages [Page.fil e] s u ∧ u = { s with rdata := u.rdata, regs := u.regs }) := by
  obtain ⟨hp, ho⟩ := filNew_page e k i
  have hread := State.reqRead_block (busTarget_new e k i) (by rw [hp]; exact hr) (by decide) rfl (by decide) rfl
  rw [ho, State.readBlock_new, State.recordWords_good h0 h1] at hread
  refine ⟨_, congrArg finish hread, rfl, ?_⟩
  exact latched_record s (a := Reg.filNew e (16 * k + 4 * i) + 4) (fun j hj => by simp only [Reg.filNew, Page.fil]; omega) ..

theorem rrd0Read_completes (h0 : s.rawWord (Store.filter e) (s.ringSelected e) = encodeWord d0)
    (h1 : s.rawWord (Store.filter e) (s.ringSelected e + 1) = encodeWord d1) :
    Completes (.rrd0Read req e) s (fun u =>
      u.rdata = [lo32 d0.toNat] ∧ u.rd (Reg.filRrd e 1) = hi32 d0.toNat ∧
      u.rd (Reg.filRrd e 2) = lo32 d1.toNat ∧ u.rd (Reg.filRrd e 3) = hi32 d1.toNat ∧
      OffPages [Page.fil e] s u ∧ u = { s with rdata := u.rdata, regs := u.regs }) := by
  obtain ⟨hp, ho⟩ := filRrd_page e
  have hread := State.reqRead_block (busTarget_rrd e) (by rw [hp]; exact hr) (by decide) rfl (by decide) rfl
  rw [ho, State.readBlock_rrd, State.recordWords_good h0 h1] at hread
  refine ⟨_, congrArg finish hread, rfl, ?_⟩
  exact latched_record s (a := Reg.filRrd e 1) (fun j hj => by simp only [Reg.filRrd, Page.fil]; omega) ..

end Reads

/-- Settles O9, register by register. -/
theorem filterRegisters : Obligations.FilterRegisters := by
  unfold Obligations.FilterRegisters
  intro s req v
  refine ⟨fun g hr => ⟨pathWrite_cfgrej v hr, fun hc => ⟨pathWrite_faderej v hr hc, pathWrite_takes v hr hc⟩⟩,
    fun e i j a d hj ha hr => ⟨fun hb hu => coefWrite_takes v hj ha hr hu hb, coefWrite_refused v hj ha hr⟩,
    fun e b a ha hr => bankWrite_completes v hr ha,
    fun e d0 d1 hr => ⟨newW0lRead_completes hr, rrd0Read_completes hr⟩⟩

end Sys2Proof.Machine
end

section
/-! Fields of a register, and what the updates of the pulse channels and the sluice leave as it was (06 R213-R228). -/

namespace Sys2Proof.Machine

/-! ### Fields and counting fields -/

/-- A bit of a field is that bit of the register. -/
theorem testBit_field (v : Word) (lo n i : Nat) : (field v lo n).testBit i = (decide (i < n) && bitOf v (lo + i)) := by
  simp [field, natField, bitOf, Nat.testBit_mod_two_pow, Nat.testBit_shiftRight, BitVec.testBit_toNat]

/-- A field that was replaced reads as the new value. -/
theorem field_putField_same (v : Word) {lo n : Nat} (x : Nat) (h : lo + n ≤ 32) :
    field (putField v lo n x) lo n = x % 2 ^ n := by
  refine Nat.eq_of_testBit_eq fun i => ?_
  rw [testBit_field, Nat.testBit_mod_two_pow]
  by_cases hi : i < n
  · rw [bitOf_putField _ _ _ _ _ (by omega), if_pos (by omega), Nat.add_sub_cancel_left]
  · simp [hi]

theorem field_lt (v : Word) (lo n : Nat) : field v lo n < 2 ^ n := Nat.mod_lt _ (Nat.two_pow_pos n)

section Counts
variable (s : State) (a lo n : Nat)

@[simp] theorem State.rd_setf (x c : Nat) : (s.setf a lo n x).rd c = if c = a then putField (s.rd a) lo n x else s.rd c := by
  simp [State.setf]

theorem State.rf_setf_same (x : Nat) (h : lo + n ≤ 32) : (s.setf a lo n x).rf a lo n = x % 2 ^ n := by
  rw [State.rf, State.rd_setf, if_pos rfl, field_putField_same _ _ h]

/-- A saturating count leaves every other register. -/
theorem State.rd_bumpSat_off {c : Nat} (h : c ≠ a) : (s.bumpSat a lo n).rd c = s.rd c := by
  unfold State.bumpSat
  simp only
  split
  · rw [State.rd_setf, if_neg h]
  · rfl

/-- A saturating count: one more, up to the field's maximum (R454). -/
theorem State.rf_bumpSat (h : lo + n ≤ 32) : (s.bumpSat a lo n).rf a lo n = min (2 ^ n - 1) (s.rf a lo n + 1) := by
  have hlt : s.rf a lo n < 2 ^ n := field_lt ..
  unfold State.bumpSat
  simp only
  split
  · next hc => rw [State.rf_setf_same _ _ _ _ _ h, Nat.mod_eq_of_lt hc]; omega
  · omega

end Counts

/-! ### Updates that leave pulse channels or registers alone -/

section Reads
variable (s : State)

theorem State.pulse_congr {s u : State} (h : u.pulses = s.pulses) (k : Nat) : u.pulse k = s.pulse k := by
  rw [State.pulse, h, State.pulse]

@[simp] theorem State.rd_event (page e a : Nat) : (s.event page e).rd a = s.rd a := by
  unfold State.event
  split <;> simp

@[simp] theorem State.pulse_event (page e k : Nat) : (s.event page e).pulse k = s.pulse k := by
  unfold State.event
  split <;> simp

@[simp] theorem State.pulse_setb (a b k : Nat) (v : Bool) : (s.setb a b v).pulse k = s.pulse k := rfl
@[simp] theorem State.pulse_bumpBy (a n k : Nat) : (s.bumpBy a n).pulse k = s.pulse k := rfl
@[simp] theorem State.pulse_raise (page b k : Nat) : (s.raise page b).pulse k = s.pulse k := rfl
@[simp] theorem State.time_raise (page b : Nat) : (s.raise page b).time = s.time := rfl
theorem State.pulses_bumpSat (a lo n : Nat) : (s.bumpSat a lo n).pulses = s.pulses := by
  unfold State.bumpSat
  simp only
  split <;> rfl

end Reads

/-! ### What an update of the sluice leaves as it was -/

/-- `u` is `s` but for registers of the pages `ps`, the notes of IRAW bits set, pulse channels and the events under way. -/
structure SluiceOnly (ps : List Nat) (s u : State) : Prop where
  rest : u = { s with regs := u.regs, w1set := u.w1set, pulses := u.pulses, evq := u.evq }
  regs : OffPages ps s u

namespace SluiceOnly
variable {ps ps' : List Nat} {s t u : State} {a b n page e : Nat}

theorem refl : SluiceOnly ps s s := ⟨rfl, fun _ _ => rfl⟩

theorem trans (h : SluiceOnly ps s t) (h' : SluiceOnly ps t u) : SluiceOnly ps s u := by
  refine ⟨?_, fun a ha => (h'.regs a ha).trans (h.regs a ha)⟩
  have e := h'.rest
  rw [h.rest] at e
  exact e

theorem mono (h : SluiceOnly ps s u) (hp : ps ⊆ ps') : SluiceOnly ps' s u :=
  ⟨h.rest, fun a ha => h.regs a (fun h' => ha (hp h'))⟩

theorem time (h : SluiceOnly ps s u) : u.time = s.time := by rw [h.rest]
theorem pwr (h : SluiceOnly ps s u) : u.pwr = s.pwr := by rw [h.rest]
theorem host (h : SluiceOnly ps s u) : u.host = s.host := by rw [h.rest]
theorem weirs (h : SluiceOnly ps s u) : u.weirs = s.weirs := by rw [h.rest]
theorem weir (h : SluiceOnly ps s u) (w : Nat) : u.weir w = s.weir w := by rw [State.weir, h.weirs, State.weir]
theorem tripBall (h : SluiceOnly ps s u) : u.tripBall = s.tripBall := by rw [h.rest]
theorem tripSince (h : SluiceOnly ps s u) : u.tripSince = s.tripSince := by rw [h.rest]

/-- No event: registers, notes and pulse channels alone. -/
theorem rest_noEvents (h : SluiceOnly ps s u) (he : u.evq = s.evq) :
    u = { s with regs := u.regs, w1set := u.w1set, pulses := u.pulses } := by
  have e := h.rest
  rw [he] at e
  exact e

theorem wr (ha : a / 1024 ∈ ps) (v : Word) : SluiceOnly ps s (s.wr a v) := by
  refine ⟨rfl, fun c hc => ?_⟩
  rw [State.rd_wr, if_neg (by rintro rfl; exact hc ha)]

theorem setb (ha : a / 1024 ∈ ps) (v : Bool) : SluiceOnly ps s (s.setb a b v) := wr ha _
theorem setf {lo x : Nat} (ha : a / 1024 ∈ ps) : SluiceOnly ps s (s.setf a lo n x) := wr ha _
theorem bumpBy (ha : a / 1024 ∈ ps) : SluiceOnly ps s (s.bumpBy a n) := wr ha _
theorem bumpSat {lo : Nat} (ha : a / 1024 ∈ ps) : SluiceOnly ps s (s.bumpSat a lo n) := by
  unfold State.bumpSat
  simp only
  split
  · exact setf ha
  · exact refl
theorem raise (hp : page ∈ ps) : SluiceOnly ps s (s.raise page b) :=
  (setb (by rwa [show Reg.hdrIraw page / 1024 = page by simp only [Reg.hdrIraw]; omega]) true).trans ⟨rfl, fun _ _ => rfl⟩
theorem event : SluiceOnly ps s (s.event page e) := by
  refine ⟨?_, fun a _ => State.rd_event s page e a⟩
  unfold State.event
  split <;> rfl
theorem setPulse (c : PulseSt) : SluiceOnly ps s (s.setPulse n c) := ⟨rfl, fun _ _ => rfl⟩

theorem onlyIf {c : Bool} {f : State → State} (h : c = true → SluiceOnly ps s (f s)) : SluiceOnly ps s (s.onlyIf c f) := by
  cases c with
  | false => exact refl
  | true => exact h rfl

theorem foldl {α : Type} {f : State → α → State} (xs : List α) (h : ∀ x ∈ xs, ∀ t, SluiceOnly ps t (f t x)) :
    SluiceOnly ps s (xs.foldl f s) := by
  induction xs generalizing s with
  | nil => exact refl
  | cons x xs ih => exact (h x (by simp) s).trans (ih fun y hy => h y (by simp [hy]))

end SluiceOnly

/-! ### The end of a pulse and the cancel of a deferred edge (R214, R216) -/

/-- A channel that becomes INACTIVE in FAB cycle `t`. -/
def PulseSt.ended (p : PulseSt) (t : Nat) : PulseSt := if p.active then { p with active := false, inactSince := t } else p

theorem PulseSt.ended_of_active {p : PulseSt} (t : Nat) (h : p.active = true) :
    p.ended t = { p with active := false, inactSince := t } := if_pos h

theorem PulseSt.ended_active (p : PulseSt) (t : Nat) : (p.ended t).active = false := by
  unfold PulseSt.ended
  split
  · rfl
  · next h => simpa using h

section Pulse
variable (s : State) (ch : Nat)

theorem State.pulse_endPulse (k : Nat) :
    (s.endPulse ch).pulse k = if k = ch then (s.pulse ch).ended s.time.fab else s.pulse k := by
  unfold State.endPulse PulseSt.ended
  simp only
  split
  · rw [State.pulse_setPulse]
  · split
    · next hk => rw [hk]
    · rfl

@[simp] theorem State.rd_endPulse (a : Nat) : (s.endPulse ch).rd a = s.rd a := by
  unfold State.endPulse
  simp only
  split <;> simp

theorem State.endPulse_only (ps : List Nat) : SluiceOnly ps s (s.endPulse ch) := by
  unfold State.endPulse
  simp only
  split
  · exact .setPulse _
  · exact .refl

@[simp] theorem State.pulse_limit (i b k : Nat) : (s.limit ch i b).pulse k = s.pulse k := by
  rw [State.limit, State.pulse_event, State.pulse_raise, State.pulse_congr (State.pulses_bumpSat ..)]

/-- A count in LIMCNT leaves every register but LIMCNT and IRAW of the page. -/
theorem State.rd_limit_off (i b : Nat) {c : Nat} (h : c ∉ [Reg.plsLimcnt ch, Reg.hdrIraw Page.pls]) :
    (s.limit ch i b).rd c = s.rd c := by
  simp only [List.mem_cons, List.not_mem_nil, or_false, not_or] at h
  rw [State.limit, State.rd_event, State.rd_raise, if_neg h.2, State.rd_bumpSat_off _ _ _ _ h.1]

/-- LIMCNT field `i` counts, up to 255. -/
theorem State.limit_counts {i : Nat} (b : Nat) (hi : i < 4) :
    (s.limit ch i b).rf (Reg.plsLimcnt ch) (8 * i) 8 = min 255 (s.rf (Reg.plsLimcnt ch) (8 * i) 8 + 1) := by
  have hne : Reg.plsLimcnt ch ≠ Reg.hdrIraw Page.pls := by simp only [Reg.plsLimcnt, Reg.hdrIraw, Page.pls]; omega
  have hr : (s.limit ch i b).rd (Reg.plsLimcnt ch) = (s.bumpSat (Reg.plsLimcnt ch) (8 * i) 8).rd (Reg.plsLimcnt ch) := by
    rw [State.limit, State.rd_event, State.rd_raise, if_neg hne]
  rw [State.rf, hr]
  exact State.rf_bumpSat _ _ _ _ (by omega)

/-- Its interrupt bit is set. -/
theorem State.limit_raises (i : Nat) {b : Nat} (hb : b < 32) : (s.limit ch i b).rb (Reg.hdrIraw Page.pls) b = true := by
  rw [State.limit, State.rb, State.rd_event]
  exact State.rb_raise_same _ _ _ hb

theorem plsLimcnt_page {ch : Nat} (h : ch < 16) : Reg.plsLimcnt ch / 1024 = Page.pls := by
  simp only [Reg.plsLimcnt, Page.pls]; omega

theorem State.limit_only {ch : Nat} (h : ch < 16) {ps : List Nat} (hp : Page.pls ∈ ps) (i b : Nat) :
    SluiceOnly ps s (s.limit ch i b) :=
  (SluiceOnly.bumpSat (by rwa [plsLimcnt_page h])).trans ((SluiceOnly.raise hp).trans .event)

theorem State.pulse_cancelDeferred (k : Nat) :
    (s.cancelDeferred ch).pulse k = if k = ch then { s.pulse ch with deferred := false } else s.pulse k := by
  unfold State.cancelDeferred
  simp only
  split
  · rw [State.pulse_limit, State.pulse_setPulse]
  · next h =>
    split
    · next hk => rw [hk, ← Bool.eq_false_iff.mpr h]
    · rfl

theorem State.rd_cancelDeferred_off {c : Nat} (h : c ∉ [Reg.plsLimcnt ch, Reg.hdrIraw Page.pls]) :
    (s.cancelDeferred ch).rd c = s.rd c := by
  unfold State.cancelDeferred
  simp only
  split
  · rw [State.rd_limit_off _ _ _ _ h, State.rd_setPulse]
  · rfl

/-- With no edge deferred there is nothing to cancel. -/
theorem State.cancelDeferred_none (h : (s.pulse ch).deferred = false) : s.cancelDeferred ch = s := by
  simp [State.cancelDeferred, h]

theorem State.cancelDeferred_raises (h : (s.pulse ch).deferred = true) :
    (s.cancelDeferred ch).rb (Reg.hdrIraw Page.pls) 2 = true := by
  rw [State.cancelDeferred, if_pos h]
  exact State.limit_raises _ _ _ (by decide)

theorem State.cancelDeferred_only {ch : Nat} (h : ch < 16) {ps : List Nat} (hp : Page.pls ∈ ps) :
    SluiceOnly ps s (s.cancelDeferred ch) := by
  unfold State.cancelDeferred
  simp only
  split
  · exact (SluiceOnly.setPulse _).trans (State.limit_only _ h hp _ _)
  · exact .refl

end Pulse

end Sys2Proof.Machine
end

section
/-! Trips: what a source does to one channel and leaves of the others, and what the TRIP page's commands do (06 R221-R227). -/

namespace Sys2Proof.Machine

/-- The pages a trip writes. -/
abbrev sluicePages : List Nat := [Page.trip, Page.pls]

/-- Registers that a trip of channel `n` can write. -/
abbrev tripRegs (n : Nat) : List Nat :=
  [Reg.tripTripped, Reg.tripCause n, Reg.tripCstmp n, Reg.tripTripcnt, Reg.hdrIraw Page.trip, Reg.plsLimcnt n, Reg.hdrIraw Page.pls]

/-- Registers of a channel that only its own trip writes. -/
abbrev channelRegs (n : Nat) : List Nat := [Reg.tripTsrc n, Reg.tripCause n, Reg.tripCstmp n]

theorem channelRegs_apart (k n : Fin 16) (h : n ≠ k) : ∀ a ∈ channelRegs n, a ∉ tripRegs k := by
  have hv : n.val ≠ k.val := fun e => h (Fin.ext e)
  simp only [List.mem_cons, List.not_mem_nil, or_false, forall_eq_or_imp, forall_eq, Reg.tripTripped, Reg.tripCause,
    Reg.tripCstmp, Reg.tripTripcnt, Reg.hdrIraw, Page.trip, Page.pls, Reg.plsLimcnt, Reg.tripTsrc]
  omega

theorem tripCause_page (n : Fin 16) : Reg.tripCause n / 1024 ∈ sluicePages := by decide +revert
theorem tripCstmp_page (n : Fin 16) : Reg.tripCstmp n / 1024 ∈ sluicePages := by decide +revert

/-- The written registers of a trip that come after its record. -/
theorem tripRecord_apart (n : Fin 16) :
    ∀ a ∈ [Reg.tripTripped, Reg.tripCause n, Reg.tripCstmp n],
      a ∉ [Reg.tripTripcnt, Reg.hdrIraw Page.trip] ∧ a ∉ [Reg.plsLimcnt n, Reg.hdrIraw Page.pls] := by decide +revert

/-! ### A trip of one channel (R222, R223) -/

/-- The record of a trip: TRIPPED, CAUSE and CSTMP. -/
def State.noteTrip (s : State) (n code seen : Nat) : State :=
  ((s.setb Reg.tripTripped n true).wr (Reg.tripCause n) (w32 (code + seen * 32))).wr (Reg.tripCstmp n) s.stampNow

/-- The count of a trip and its interrupt. -/
def State.countTrip (s : State) : State := ((s.bump Reg.tripTripcnt).raise Page.trip 0).event Page.trip 0

/-- A trip records, counts, ends the pulse, cancels the deferred edge, and starts the off time. -/
theorem State.trip_eq (s : State) (n code seen : Nat) : s.trip n code seen =
    let t := ((s.noteTrip n code seen).countTrip.endPulse n).cancelDeferred n
    t.setPulse n { t.pulse n with inactSince := t.time.fab, ball := false, tripAt := some t.time.fab } := rfl

section Trip
variable (s : State) (n : Fin 16) (code seen m : Nat)

theorem State.noteTrip_only : SluiceOnly sluicePages s (s.noteTrip n code seen) :=
  (SluiceOnly.setb (by decide) _).trans ((SluiceOnly.wr (tripCause_page n) _).trans (.wr (tripCstmp_page n) _))

theorem State.countTrip_only : SluiceOnly sluicePages s s.countTrip :=
  (SluiceOnly.bumpBy (by decide)).trans ((SluiceOnly.raise (by decide)).trans .event)

/-- All of a trip but the start of the off time. -/
theorem State.tripEnds_only :
    SluiceOnly sluicePages s (((s.noteTrip n code seen).countTrip.endPulse n).cancelDeferred n) :=
  (State.noteTrip_only s n code seen).trans ((State.countTrip_only _).trans ((State.endPulse_only ..).trans
    (State.cancelDeferred_only _ n.isLt (by decide))))

theorem State.trip_only : SluiceOnly sluicePages s (s.trip n code seen) := by
  rw [State.trip_eq]
  exact (State.tripEnds_only s n code seen).trans (.setPulse _)

@[simp] theorem State.pulse_countTrip (k : Nat) : s.countTrip.pulse k = s.pulse k := by simp [State.countTrip]
@[simp] theorem State.pulse_noteTrip (k : Nat) : (s.noteTrip n code seen).pulse k = s.pulse k := rfl

theorem State.rd_countTrip_off {a : Nat} (h : a ∉ [Reg.tripTripcnt, Reg.hdrIraw Page.trip]) : s.countTrip.rd a = s.rd a := by
  simp only [List.mem_cons, List.not_mem_nil, or_false, not_or] at h
  rw [State.countTrip, State.rd_event, State.rd_raise, if_neg h.2, State.bump_eq, State.rd_bumpBy, if_neg h.1]

/-- The channel that trips: INACTIVE from now on, with no edge deferred. -/
theorem State.pulse_trip (k : Nat) : (s.trip n code seen).pulse k = if k = n then
    { (s.pulse n).ended s.time.fab with deferred := false, inactSince := s.time.fab, ball := false, tripAt := some s.time.fab }
    else s.pulse k := by
  have ht := (State.tripEnds_only s n code seen).time
  have ht' := ((State.noteTrip_only s n code seen).trans (State.countTrip_only _)).time
  rw [State.trip_eq, State.pulse_setPulse]
  simp only [State.pulse_cancelDeferred, State.pulse_endPulse, ht, ht', State.pulse_countTrip, State.pulse_noteTrip, if_true]
  split <;> rfl

/-- After the count, only LIMCNT and the interrupts of the page of the pulses follow. -/
theorem State.rd_trip {a : Nat} (h : a ∉ [Reg.tripTripcnt, Reg.hdrIraw Page.trip])
    (h' : a ∉ [Reg.plsLimcnt n, Reg.hdrIraw Page.pls]) : (s.trip n code seen).rd a = (s.noteTrip n code seen).rd a := by
  rw [State.trip_eq, State.rd_setPulse, State.rd_cancelDeferred_off _ _ h', State.rd_endPulse, State.rd_countTrip_off _ h]

theorem State.trip_offRegs : OffRegs (tripRegs n) s (s.trip n code seen) := by
  intro a ha
  simp only [List.mem_cons, List.not_mem_nil, or_false, not_or] at ha
  obtain ⟨h1, h2, h3, h4, h5, h6, h7⟩ := ha
  rw [State.rd_trip s n code seen (by simp [h4, h5]) (by simp [h6, h7]), State.noteTrip, State.rd_wr, if_neg h3, State.rd_wr,
    if_neg h2, State.rd_setb, if_neg h1]

theorem State.tripped_trip (k : Fin 16) : (s.trip n code seen).tripped k = if k = n then true else s.tripped k := by
  obtain ⟨h, h'⟩ := tripRecord_apart n Reg.tripTripped (by simp)
  have hc : Reg.tripTripped ≠ Reg.tripCause n := by simp only [Reg.tripTripped, Reg.tripCause]; omega
  have hs : Reg.tripTripped ≠ Reg.tripCstmp n := by simp only [Reg.tripTripped, Reg.tripCstmp]; omega
  have hb := State.rb_setb s Reg.tripTripped n true Reg.tripTripped k (by omega)
  rw [State.tripped, State.rb, State.rd_trip s n code seen h h', State.noteTrip, State.rd_wr, if_neg hs, State.rd_wr, if_neg hc,
    ← State.rb, hb]
  simp only [true_and, Fin.val_inj]
  rfl

/-- CAUSE and CSTMP of a trip. -/
theorem State.rd_trip_record : (s.trip n code seen).rd (Reg.tripCause n) = w32 (code + seen * 32) ∧
    (s.trip n code seen).rd (Reg.tripCstmp n) = s.stampNow := by
  obtain ⟨hc, hc'⟩ := tripRecord_apart n (Reg.tripCause n) (by simp)
  obtain ⟨hs, hs'⟩ := tripRecord_apart n (Reg.tripCstmp n) (by simp)
  have hne : Reg.tripCause n ≠ Reg.tripCstmp n := by simp only [Reg.tripCause, Reg.tripCstmp]; omega
  rw [State.rd_trip s n code seen hc hc', State.rd_trip s n code seen hs hs', State.noteTrip, State.rd_wr, if_neg hne,
    State.rd_wr, if_pos rfl, State.rd_wr, if_pos rfl]
  exact ⟨rfl, rfl⟩

/-! ### The asserted sources act on one channel -/

/-- A channel with none of the sources enabled is as it was. -/
theorem State.tripBy_off {s : State} {n m : Nat} (h : m &&& s.rf (Reg.tripTsrc n) 0 21 = 0) : s.tripBy n m = s := if_pos h

/-- The channel with the sources `e` seen. -/
abbrev State.seeSources (s : State) (n e : Nat) : State := s.setPulse n { s.pulse n with seen := (s.pulse n).seen ||| e }

/-- A channel that is not tripped trips. -/
theorem State.tripBy_fresh {s : State} {n m : Nat} (h : m &&& s.rf (Reg.tripTsrc n) 0 21 ≠ 0) (ht : s.tripped n = false) :
    s.tripBy n m =
      let e := m &&& s.rf (Reg.tripTsrc n) 0 21
      (s.seeSources n e).trip n (lowestBit e) e := by
  have ht' : (s.seeSources n (m &&& s.rf (Reg.tripTsrc n) 0 21)).tripped n = false := by
    rw [State.tripped, State.rb, State.rd_setPulse]; exact ht
  simp [State.tripBy, h, ht']

/-- A tripped channel sees the sources; FIRST is the lowest of those of the FAB cycle of the trip. -/
theorem State.tripBy_again {s : State} {n m : Nat} (h : m &&& s.rf (Reg.tripTsrc n) 0 21 ≠ 0) (ht : s.tripped n = true) :
    s.tripBy n m =
      let e := m &&& s.rf (Reg.tripTsrc n) 0 21
      let t := (s.seeSources n e).orReg (Reg.tripCause n) (w32 (e * 32))
      t.onlyIf ((t.pulse n).tripAt == some t.time.fab)
        (fun t => t.setf (Reg.tripCause n) 0 5 (min (t.rf (Reg.tripCause n) 0 5) (lowestBit e))) := by
  have ht' : (s.seeSources n (m &&& s.rf (Reg.tripTsrc n) 0 21)).tripped n = true := by
    rw [State.tripped, State.rb, State.rd_setPulse]; exact ht
  simp [State.tripBy, h, ht']

theorem State.onlyIf_rd_setf (c : Bool) (x : State → Nat) {a b lo w : Nat} (h : b ≠ a) :
    (s.onlyIf c (fun t => t.setf a lo w (x t))).rd b = s.rd b := by
  cases c with
  | false => rfl
  | true => rw [State.onlyIf_true, State.rd_setf, if_neg h]

theorem State.tripBy_only : SluiceOnly sluicePages s (s.tripBy n m) := by
  by_cases h : m &&& s.rf (Reg.tripTsrc n) 0 21 = 0
  · rw [State.tripBy_off h]; exact .refl
  · cases ht : s.tripped n with
    | false => rw [State.tripBy_fresh h ht]; exact (SluiceOnly.setPulse _).trans (State.trip_only ..)
    | true =>
      rw [State.tripBy_again h ht]
      exact (SluiceOnly.setPulse _).trans ((SluiceOnly.wr (tripCause_page n) _).trans
        (.onlyIf fun _ => .setf (tripCause_page n)))

/-- An enabled source leaves the channel tripped. -/
theorem State.tripBy_trips (h : m &&& s.rf (Reg.tripTsrc n) 0 21 ≠ 0) : (s.tripBy n m).tripped n = true := by
  cases ht : s.tripped n with
  | false => rw [State.tripBy_fresh h ht, State.tripped_trip, if_pos rfl]
  | true =>
    have hne : Reg.tripTripped ≠ Reg.tripCause n := by simp only [Reg.tripTripped, Reg.tripCause]; omega
    rw [State.tripBy_again h ht, State.tripped, State.rb]
    simp only
    rw [State.onlyIf_rd_setf _ _ _ hne, State.orReg, State.rd_wr, if_neg hne, State.rd_setPulse]
    exact ht

/-- A channel that trips ends its pulse and cancels its deferred edge, and records cause and stamp. -/
theorem State.tripBy_records (h : m &&& s.rf (Reg.tripTsrc n) 0 21 ≠ 0) (ht : s.tripped n = false) :
    let e := m &&& s.rf (Reg.tripTsrc n) 0 21
    ((s.tripBy n m).pulse n).active = false ∧ ((s.tripBy n m).pulse n).deferred = false ∧
      (s.tripBy n m).rd (Reg.tripCause n) = w32 (lowestBit e + e * 32) ∧ (s.tripBy n m).rd (Reg.tripCstmp n) = s.stampNow := by
  obtain ⟨hc, hs⟩ := State.rd_trip_record (s.seeSources n (m &&& s.rf (Reg.tripTsrc n) 0 21)) n
    (lowestBit (m &&& s.rf (Reg.tripTsrc n) 0 21)) (m &&& s.rf (Reg.tripTsrc n) 0 21)
  rw [State.tripBy_fresh h ht]
  simp only
  rw [hc, hs, State.pulse_trip, if_pos rfl]
  exact ⟨PulseSt.ended_active _ _, rfl, rfl, rfl⟩

/-! ### A trip of another channel -/

/-- Channel `n` is as it was: TRIPPED bit, pulse, sources enabled, cause and stamp; and so is the time. -/
structure KeepsChannel (n : Nat) (s u : State) : Prop where
  tripped : u.tripped n = s.tripped n
  pulse : u.pulse n = s.pulse n
  regs : ∀ a ∈ channelRegs n, u.rd a = s.rd a
  time : u.time = s.time

theorem KeepsChannel.refl {n : Nat} {s : State} : KeepsChannel n s s := ⟨rfl, rfl, fun _ _ => rfl, rfl⟩

theorem KeepsChannel.trans {n : Nat} {s t u : State} (h : KeepsChannel n s t) (h' : KeepsChannel n t u) : KeepsChannel n s u :=
  ⟨h'.tripped.trans h.tripped, h'.pulse.trans h.pulse, fun a ha => (h'.regs a ha).trans (h.regs a ha), h'.time.trans h.time⟩

theorem KeepsChannel.enabled {n : Nat} {s u : State} (h : KeepsChannel n s u) :
    u.rf (Reg.tripTsrc n) 0 21 = s.rf (Reg.tripTsrc n) 0 21 := by
  rw [State.rf, h.regs _ (by simp), State.rf]

theorem KeepsChannel.foldl {n : Nat} {f : State → Nat → State} {l : List Nat} {s : State}
    (h : ∀ k ∈ l, ∀ t, KeepsChannel n t (f t k)) : KeepsChannel n s (l.foldl f s) := by
  induction l generalizing s with
  | nil => exact .refl
  | cons k l ih => exact (h k (by simp) s).trans (ih fun j hj => h j (by simp [hj]))

/-- A pass over the channels acts on channel `n` once, on the channel as it was before the pass. -/
theorem foldl_channels {n : Nat} (hn : n < 16) {f : State → Nat → State}
    (h : ∀ k < 16, k ≠ n → ∀ t, KeepsChannel n t (f t k)) (s : State) :
    ∃ a, KeepsChannel n s a ∧ KeepsChannel n (f a n) ((List.range 16).foldl f s) := by
  obtain ⟨l, r, hl⟩ := List.append_of_mem (List.mem_range.mpr hn)
  have hnd : (l ++ n :: r).Nodup := hl ▸ List.nodup_range
  have hnot : n ∉ l ++ r := (List.nodup_middle.mp hnd).notMem
  have hlt : ∀ k ∈ l ++ r, k < 16 := fun k hk => List.mem_range.mp (hl ▸ by
    simp only [List.mem_append, List.mem_cons] at hk ⊢; tauto)
  have hk : ∀ k ∈ l ++ r, ∀ t, KeepsChannel n t (f t k) := fun k hk => h k (hlt k hk) (fun e => hnot (e ▸ hk))
  refine ⟨l.foldl f s, .foldl fun k hkl => hk k (by simp [hkl]), ?_⟩
  rw [hl, List.foldl_append, List.foldl_cons]
  exact .foldl fun k hkr => hk k (by simp [hkr])

theorem State.trip_keepsChannel {k : Fin 16} (hk : k ≠ n) : KeepsChannel k s (s.trip n code seen) where
  tripped := by rw [State.tripped_trip, if_neg hk]
  pulse := by rw [State.pulse_trip, if_neg (fun e => hk (Fin.ext e))]
  regs a ha := State.trip_offRegs s n code seen a (channelRegs_apart n k hk a ha)
  time := (State.trip_only s n code seen).time

theorem State.setPulse_keepsChannel {j k : Nat} (h : k ≠ j) (p : PulseSt) : KeepsChannel k s (s.setPulse j p) where
  tripped := rfl
  pulse := by rw [State.pulse_setPulse, if_neg h]
  regs _ _ := rfl
  time := rfl

/-- A write to a register that is no other channel's. -/
theorem State.wr_keepsChannel {a k : Nat} (h : Reg.tripTripped ≠ a) (h' : a ∉ channelRegs k) (v : Word) :
    KeepsChannel k s (s.wr a v) where
  tripped := by rw [State.tripped, State.rb, State.rd_wr, if_neg h, ← State.rb, ← State.tripped]
  pulse := rfl
  regs c hc := by rw [State.rd_wr, if_neg (by rintro rfl; exact h' hc)]
  time := rfl

theorem KeepsChannel.onlyIf {k : Nat} {s : State} {c : Bool} {f : State → State} (h : c = true → KeepsChannel k s (f s)) :
    KeepsChannel k s (s.onlyIf c f) := by
  cases c with
  | false => exact .refl
  | true => exact h rfl

/-- A source that acts on one channel leaves every other alone. -/
theorem State.tripBy_keepsChannel {k : Fin 16} (hk : k ≠ n) : KeepsChannel k s (s.tripBy n m) := by
  have hp (e : Nat) : KeepsChannel k s (s.seeSources n e) := State.setPulse_keepsChannel s (fun e => hk (Fin.ext e)) _
  have hc : Reg.tripCause n ∉ channelRegs k := fun h => channelRegs_apart n k hk _ h (by simp)
  have ht : Reg.tripTripped ≠ Reg.tripCause n := by simp only [Reg.tripTripped, Reg.tripCause]; omega
  by_cases h : m &&& s.rf (Reg.tripTsrc n) 0 21 = 0
  · rw [State.tripBy_off h]; exact .refl
  · cases htr : s.tripped n with
    | false => rw [State.tripBy_fresh h htr]; exact (hp _).trans (State.trip_keepsChannel _ n _ _ hk)
    | true =>
      rw [State.tripBy_again h htr]
      exact (hp _).trans ((State.wr_keepsChannel _ ht hc _).trans (.onlyIf fun _ => State.wr_keepsChannel _ ht hc _))

/-! ### SEEN (R223) -/

theorem lowestBit_lt (e : Nat) : lowestBit e < 32 := by
  unfold lowestBit
  cases h : (bitsBelow e 22).head? with
  | none => decide
  | some b =>
    have hb : b < 22 := List.mem_range.mp (List.mem_of_mem_filter (List.mem_of_head? h))
    simp only [Option.getD_some]
    omega

/-- A bit of CAUSE from SEEN on. -/
theorem bitOf_cause {x : Nat} (hx : x < 32) (e k : Nat) (hk : k < 27) : bitOf (w32 (x + e * 32)) (5 + k) = e.testBit k := by
  have h := Nat.testBit_two_pow_mul_add (i := 5) e hx (5 + k)
  rw [if_neg (by omega), Nat.add_sub_cancel_left] at h
  rw [bitOf, w32, BitVec.getLsbD_ofNat, decide_eq_true (by omega), Bool.true_and, ← h]
  congr 1
  omega

/-- SEEN takes every enabled source that acts on the channel. -/
theorem State.tripBy_seen {k : Nat} (hk : k < 27) (he : (m &&& s.rf (Reg.tripTsrc n) 0 21).testBit k = true) :
    (s.tripBy n m).rb (Reg.tripCause n) (5 + k) = true := by
  have h : m &&& s.rf (Reg.tripTsrc n) 0 21 ≠ 0 := fun e => by simp [e] at he
  cases ht : s.tripped n with
  | false =>
    obtain ⟨-, -, hc, -⟩ := State.tripBy_records s n m h ht
    rw [State.rb, hc, bitOf_cause (lowestBit_lt _) _ _ hk, he]
  | true =>
    have hw : bitOf (w32 ((m &&& s.rf (Reg.tripTsrc n) 0 21) * 32)) (5 + k) = true := by
      have := bitOf_cause (x := 0) (by decide) (m &&& s.rf (Reg.tripTsrc n) 0 21) k hk
      rwa [he, Nat.zero_add] at this
    have hor (t : State) (v : Word) (hv : bitOf v (5 + k) = true) :
        (t.orReg (Reg.tripCause n) v).rb (Reg.tripCause n) (5 + k) = true := by
      rw [State.orReg, State.rb, State.rd_wr, if_pos rfl, bitOf, BitVec.getLsbD_or, ← bitOf, ← bitOf, hv, Bool.or_true]
    rw [State.tripBy_again h ht, State.onlyIf]
    split
    · rw [State.rb, State.rd_setf, if_pos rfl, bitOf_putField _ _ _ _ _ (by omega), if_neg (by omega)]
      exact hor _ _ hw
    · exact hor _ _ hw

end Trip

/-! ### Every channel against the sources (R221, R222) -/

section Sources
variable (s : State) (n : Fin 16)

theorem State.checkTrips_eq : s.checkTrips =
    if s.sources = 0 then s else (List.range 16).foldl (fun t k => t.tripBy k s.sources) s := rfl

theorem State.checkTrips_only : SluiceOnly sluicePages s s.checkTrips := by
  rw [State.checkTrips_eq]
  split
  · exact .refl
  · exact .foldl _ fun k hk t => State.tripBy_only t ⟨k, List.mem_range.mp hk⟩ _

/-- An asserted source that the channel enables acts on it, as it was before. -/
theorem State.checkTrips_channel (h : s.sources &&& s.rf (Reg.tripTsrc n) 0 21 ≠ 0) :
    ∃ a, KeepsChannel n s a ∧ KeepsChannel n (a.tripBy n s.sources) s.checkTrips := by
  rw [State.checkTrips_eq, if_neg (fun e => h (by rw [e, Nat.zero_and]))]
  exact foldl_channels n.isLt (f := fun t k => t.tripBy k s.sources)
    (fun k hk hkn t => State.tripBy_keepsChannel t ⟨k, hk⟩ _ (fun e => hkn (congrArg Fin.val e).symm)) s

/-- The trip signals of the first `N` weirs lie below bit `N` of the sources. -/
theorem weirSources_lt (f : Nat → Bool) :
    ∀ N, ((List.range N).map (fun w => b2n (f w) * 2 ^ w)).foldl (· + ·) 0 < 2 ^ N
  | 0 => Nat.one_pos
  | N + 1 => by
    have hb : b2n (f N) * 2 ^ N ≤ 2 ^ N := by cases f N <;> simp [b2n]
    rw [List.range_succ, List.map_append, List.foldl_append, Nat.pow_succ, Nat.mul_two]
    exact Nat.add_lt_add_of_lt_of_le (weirSources_lt f N) hb

/-- The source of a TRIP ball is asserted at its active level. -/
theorem State.sources_ball (b : Fin 2) (h : s.tripBallOn b = true) : s.sources.testBit (16 + b) = true := by
  have hw := weirSources_lt s.weirTrip 16
  have h0 : b2n (s.tripBallOn 0) ≤ 1 := by cases s.tripBallOn 0 <;> decide
  have h1 : b2n (s.tripBallOn 1) ≤ 1 := by cases s.tripBallOn 1 <;> decide
  rw [State.sources, Nat.testBit_eq_decide_div_mod_eq, decide_eq_true_eq]
  fin_cases b
  · have hb : b2n (s.tripBallOn 0) = 1 := by simp [b2n, show s.tripBallOn 0 = true from h]
    rw [hb]
    simp only
    omega
  · have hb : b2n (s.tripBallOn 1) = 1 := by simp [b2n, show s.tripBallOn 1 = true from h]
    rw [hb]
    simp only
    omega

/-- An SW or LEAT event acts on the channels of its mask. -/
theorem State.tripEvent_only (code mask : Nat) : SluiceOnly sluicePages s (s.tripEvent code mask) :=
  .foldl _ fun k hk t => .onlyIf fun _ => State.tripBy_only t ⟨k, List.mem_range.mp hk⟩ _

theorem State.tripEvent_channel (code mask : Nat) :
    ∃ a, KeepsChannel n s a ∧
      KeepsChannel n (a.onlyIf (mask.testBit n) (·.tripBy n (2 ^ code))) (s.tripEvent code mask) :=
  foldl_channels n.isLt (f := fun t k => t.onlyIf (mask.testBit k) (·.tripBy k (2 ^ code))) (fun k hk hkn t => .onlyIf fun _ =>
    State.tripBy_keepsChannel t ⟨k, hk⟩ _ (fun e => hkn (congrArg Fin.val e).symm)) s

end Sources

end Sys2Proof.Machine
end

section
/-! The TRIP page's commands: TRIP balls, SWTRIP, REARM and the end of a FAB cycle for a rearm (06 R222-R227). -/

namespace Sys2Proof.Machine

/-! ### TRIP balls (R222, R227) -/

section Ball
variable (s : State) (b : Fin 2) (level : Bool)

/-- A TRIP ball takes a level after its filter. -/
def State.takeBall (s : State) (b : Nat) (level : Bool) : State :=
  { s with tripBall := (s.tripBall &&& 2 ^ (1 - b)) ||| (b2n level * 2 ^ b), tripSince := setNum s.tripSince b s.time.fab }

theorem State.setTripBall_takes (h : s.tripBall.testBit b ≠ level)
    (hf : 8 * s.rf Reg.tripTincfg (8 + 8 * b) 6 ≤ 5 * (s.time.fab - numAt s.tripSince b)) :
    s.setTripBall b level = (s.takeBall b level).checkTrips := by
  have hc : (s.tripBall.testBit b == level ||
      decide (5 * (s.time.fab - numAt s.tripSince b) < 8 * s.rf Reg.tripTincfg (8 + 8 * b) 6)) = false := by
    simp only [Bool.or_eq_false_iff, beq_eq_false_iff_ne, ne_eq, decide_eq_false_iff_not]
    exact ⟨h, by omega⟩
  rw [State.setTripBall, hc]
  rfl

/-- A level that the ball has, or that it has held for less than its filter, changes nothing. -/
theorem State.setTripBall_same (h : s.tripBall.testBit b = level ∨
    5 * (s.time.fab - numAt s.tripSince b) < 8 * s.rf Reg.tripTincfg (8 + 8 * b) 6) : s.setTripBall b level = s := by
  have hc : (s.tripBall.testBit b == level ||
      decide (5 * (s.time.fab - numAt s.tripSince b) < 8 * s.rf Reg.tripTincfg (8 + 8 * b) 6)) = true := by
    simpa only [Bool.or_eq_true, beq_iff_eq, decide_eq_true_eq] using h
  rw [State.setTripBall, hc]
  rfl

theorem testBit_b2n_shift (l : Bool) (b i : Nat) : (b2n l * 2 ^ b).testBit i = (l && decide (b = i)) := by
  cases l <;> simp [b2n, Nat.testBit_two_pow]

theorem State.takeBall_testBit : (s.takeBall b level).tripBall.testBit b = level ∧
    (s.takeBall b level).tripBall.testBit (1 - b) = s.tripBall.testBit (1 - b) := by
  have hb : 1 - b.val ≠ b.val := by omega
  simp only [State.takeBall, Nat.testBit_or, Nat.testBit_and, Nat.testBit_two_pow, testBit_b2n_shift, decide_true,
    decide_eq_false hb, decide_eq_false hb.symm, Bool.and_false, Bool.and_true, Bool.or_false, Bool.false_or, and_self]

theorem State.takeBall_since : numAt (s.takeBall b level).tripSince b = s.time.fab := Sparse.get_set_same ..

/-- At its active level the ball trips every channel that enables it. -/
theorem State.takeBall_trips (hl : level ≠ s.rb Reg.tripTincfg b) (n : Fin 16)
    (hn : (s.rf (Reg.tripTsrc n) 0 21).testBit (16 + b) = true) {u : State} (hu : (s.takeBall b level).checkTrips = u) :
    u.tripped n = true ∧ (s.tripped n = false → (u.pulse n).active = false ∧ (u.pulse n).deferred = false ∧
      u.rd (Reg.tripCstmp n) = s.stampNow) := by
  subst hu
  have hon : (s.takeBall b level).tripBallOn b = true := by
    rw [State.tripBallOn, (State.takeBall_testBit s b level).1]
    exact bne_iff_ne.mpr hl
  have hsrc : (s.takeBall b level).sources &&& s.rf (Reg.tripTsrc n) 0 21 ≠ 0 := fun e => by
    have ht := congrArg (·.testBit (16 + b)) e
    simp [Nat.testBit_and, State.sources_ball _ b hon, hn] at ht
  obtain ⟨a, ha, hu⟩ := State.checkTrips_channel (s.takeBall b level) n hsrc
  have he : (s.takeBall b level).sources &&& a.rf (Reg.tripTsrc n) 0 21 ≠ 0 := by rw [ha.enabled]; exact hsrc
  refine ⟨hu.tripped.trans (State.tripBy_trips a n _ he), fun ht => ?_⟩
  obtain ⟨hact, hdef, -, hst⟩ := State.tripBy_records a n _ he (ha.tripped.trans ht)
  rw [hu.pulse, hu.regs _ (by simp)]
  exact ⟨hact, hdef, hst.trans (congrArg (fun t : TimeSt => w32 t.w0) ha.time)⟩

theorem tripBall_completes (h : s.tripBall.testBit b ≠ level)
    (hf : 8 * s.rf Reg.tripTincfg (8 + 8 * b) 6 ≤ 5 * (s.time.fab - numAt s.tripSince b)) :
    Completes (.tripBall b level) s (fun u =>
      u.tripBall.testBit b = level ∧ u.tripBall.testBit (1 - b) = s.tripBall.testBit (1 - b) ∧
      (level ≠ s.rb Reg.tripTincfg b → ∀ n : Fin 16, (s.rf (Reg.tripTsrc n) 0 21).testBit (16 + b) = true →
        u.tripped n = true ∧
        (s.tripped n = false → (u.pulse n).active = false ∧ (u.pulse n).deferred = false ∧
          u.rd (Reg.tripCstmp n) = s.stampNow)) ∧
      numAt u.tripSince b = s.time.fab ∧ OffPages [Page.trip, Page.pls] s u ∧
      u = { s with regs := u.regs, w1set := u.w1set, pulses := u.pulses, tripBall := u.tripBall, tripSince := u.tripSince,
                   evq := u.evq }) := by
  have ho := State.checkTrips_only (s.takeBall b level)
  obtain ⟨hb, hb'⟩ := State.takeBall_testBit s b level
  refine ⟨_, congrArg finish (State.setTripBall_takes s b level h hf), ?_, ?_,
    fun hl n hn => State.takeBall_trips s b level hl n hn rfl, ?_, ho.regs, ?_⟩
  · rw [ho.tripBall, hb]
  · rw [ho.tripBall, hb']
  · rw [ho.tripSince, State.takeBall_since]
  · rw [ho.tripBall, ho.tripSince]
    exact ho.rest

end Ball

/-! ### SWTRIP and REARM (R222, R225) -/

section Writes
variable {s : State} {req : Req} (v : Word)

theorem writableAt_swtrip : writableAt Reg.tripSwtrip Page.trip 0x088 .trip 0 0 0xFFFF = true := by decide
theorem writableAt_rearm : writableAt Reg.tripRearm Page.trip 0x08C .trip 0 0 0xFFFF = true := by decide

/-- The channels that a write to SWTRIP or REARM names. -/
theorem channelMask_testBit (n : Fin 16) : (field (v &&& 0xFFFF) 0 16).testBit n = bitOf v n := by
  rw [field_and_mask _ _ _ _ (by decide), testBit_field, decide_eq_true n.isLt, Bool.true_and, Nat.zero_add]

/-- An SW event acts where TSRC enables code 19. -/
theorem swEvent_enabled (t : State) (n : Nat) :
    2 ^ 19 &&& t.rf (Reg.tripTsrc n) 0 21 = if t.rb (Reg.tripTsrc n) 19 then 2 ^ 19 else 0 := by
  refine Nat.eq_of_testBit_eq fun i => ?_
  rw [Nat.testBit_and, Nat.testBit_two_pow]
  by_cases hi : 19 = i
  · subst hi
    rw [State.rf, testBit_field, Nat.zero_add, ← State.rb]
    cases t.rb (Reg.tripTsrc n) 19 <;> decide
  · rw [decide_eq_false hi, Bool.false_and]
    split
    · rw [Nat.testBit_two_pow, decide_eq_false hi]
    · rw [Nat.zero_testBit]

theorem State.tripEvent_acts (s : State) (mask : Nat) (n : Fin 16) (hm : mask.testBit n = true)
    (he : s.rb (Reg.tripTsrc n) 19 = true) {u : State} (hu : s.tripEvent 19 mask = u) :
    u.tripped n = true ∧ u.rb (Reg.tripCause n) 24 = true ∧
      (s.tripped n = false → u.rd (Reg.tripCause n) = w32 (19 + 2 ^ 19 * 32) ∧ u.rd (Reg.tripCstmp n) = s.stampNow ∧
        (u.pulse n).active = false ∧ (u.pulse n).deferred = false) := by
  subst hu
  obtain ⟨a, ha, hu⟩ := State.tripEvent_channel s n 19 mask
  rw [hm, State.onlyIf_true] at hu
  have hae : 2 ^ 19 &&& a.rf (Reg.tripTsrc n) 0 21 = 2 ^ 19 := by
    rw [swEvent_enabled, State.rb, ha.regs _ (by simp), ← State.rb, he, if_pos rfl]
  have hne : 2 ^ 19 &&& a.rf (Reg.tripTsrc n) 0 21 ≠ 0 := by rw [hae]; decide
  have hc := hu.regs (Reg.tripCause n) (by simp)
  refine ⟨hu.tripped.trans (State.tripBy_trips a n _ hne), ?_, fun ht => ?_⟩
  · rw [State.rb, hc]
    exact State.tripBy_seen a n _ (k := 19) (by decide) (by rw [hae]; decide)
  · obtain ⟨hact, hdef, hca, hst⟩ := State.tripBy_records a n _ hne (ha.tripped.trans ht)
    rw [hc, hu.regs (Reg.tripCstmp n) (by simp), hu.pulse, hca, hst, hae]
    exact ⟨by decide, congrArg (fun t : TimeSt => w32 t.w0) ha.time, hact, hdef⟩

theorem State.tripEvent_ignored (s : State) (mask : Nat) (n : Fin 16)
    (h : mask.testBit n = false ∨ s.rb (Reg.tripTsrc n) 19 = false) :
    (s.tripEvent 19 mask).tripped n = s.tripped n ∧ (s.tripEvent 19 mask).pulse n = s.pulse n := by
  obtain ⟨a, ha, hu⟩ := State.tripEvent_channel s n 19 mask
  have hs : a.onlyIf (mask.testBit n) (·.tripBy n (2 ^ 19)) = a := by
    rcases h with h | h
    · rw [h, State.onlyIf_false]
    · have he : a.tripBy n (2 ^ 19) = a := State.tripBy_off (by
        rw [swEvent_enabled, State.rb, ha.regs _ (by simp), ← State.rb, h]; rfl)
      cases mask.testBit n with
      | false => rfl
      | true => exact he
  rw [hs] at hu
  exact ⟨hu.tripped.trans ha.tripped, hu.pulse.trans ha.pulse⟩

theorem swtrip_completes (hr : s.reaches req Page.trip = true) :
    Completes (.swtrip req v) s (fun u =>
      (∀ n : Fin 16, bitOf v n = true → s.rb (Reg.tripTsrc n) 19 = true →
        u.tripped n = true ∧ u.rb (Reg.tripCause n) 24 = true ∧
        (s.tripped n = false → u.rd (Reg.tripCause n) = w32 (19 + 2 ^ 19 * 32) ∧ u.rd (Reg.tripCstmp n) = s.stampNow ∧
          (u.pulse n).active = false ∧ (u.pulse n).deferred = false)) ∧
      (∀ n : Fin 16, bitOf v n = false ∨ s.rb (Reg.tripTsrc n) 19 = false →
        u.tripped n = s.tripped n ∧ u.pulse n = s.pulse n) ∧
      OffPages [Page.trip, Page.pls] s u ∧ u = { s with regs := u.regs, w1set := u.w1set, pulses := u.pulses, evq := u.evq }) := by
  have ho := State.tripEvent_only s 19 (field (v &&& 0xFFFF) 0 16)
  refine ⟨_, congrArg finish (State.reqWrite_writable writableAt_swtrip hr rfl ho.pwr ho.host), fun n hb he => ?_,
    fun n h => ?_, ho.regs, ho.rest⟩
  · exact State.tripEvent_acts s _ n ((channelMask_testBit v n).trans hb) he rfl
  · exact State.tripEvent_ignored s _ n (h.imp_left (channelMask_testBit v n).trans)

theorem State.rearm_only (s : State) (mask : Nat) :
    s.rearm mask = { s with pulses := (s.rearm mask).pulses } := by
  have ho : SluiceOnly [] s (s.rearm mask) := .foldl _ fun _ _ _ => .onlyIf fun _ => .setPulse _
  have hk {α : Type} (p : State → α) (h : ∀ t j c, p (t.setPulse j c) = p t) : p (s.rearm mask) = p s :=
    State.foldl_keeps p (fun t j => by
      cases hc : mask.testBit j && t.tripped j with
      | false => rfl
      | true => exact h ..) _ s
  have e := ho.rest
  rw [hk State.regs (fun _ _ _ => rfl), hk State.w1set (fun _ _ _ => rfl), hk State.evq (fun _ _ _ => rfl)] at e
  exact e

/-- A REARM write asks for the tripped channels it names. -/
theorem State.rearm_pulse (s : State) (mask : Nat) (n : Fin 16) : (s.rearm mask).pulse n =
    if mask.testBit n && s.tripped n then { s.pulse n with rearm := true } else s.pulse n := by
  obtain ⟨a, ha, hu⟩ := foldl_channels n.isLt (f := fun t k => t.onlyIf (mask.testBit k && t.tripped k)
    (fun t => t.setPulse k { t.pulse k with rearm := true }))
    (fun k _ hkn t => .onlyIf fun _ => State.setPulse_keepsChannel t (Ne.symm hkn) _) s
  refine hu.pulse.trans ?_
  simp only [ha.tripped]
  cases mask.testBit n && s.tripped n with
  | false => exact ha.pulse
  | true => rw [State.onlyIf_true, State.pulse_setPulse, if_pos rfl, ha.pulse, if_pos rfl]

theorem rearm_completes (hr : s.reaches req Page.trip = true) :
    Completes (.rearm req v) s (fun u =>
      (∀ n : Fin 16, u.pulse n = if bitOf v n && s.tripped n then { s.pulse n with rearm := true } else s.pulse n) ∧
      u = { s with pulses := u.pulses }) := by
  have ho := State.rearm_only s (field (v &&& 0xFFFF) 0 16)
  refine ⟨s.rearm (field (v &&& 0xFFFF) 0 16), congrArg finish (State.reqWrite_writable writableAt_rearm hr rfl
    (congrArg State.pwr ho :) (congrArg State.host ho :)), fun n => ?_, ho⟩
  rw [State.rearm_pulse, channelMask_testBit]

end Writes

/-! ### The end of a FAB cycle for a rearm asked for (R225, R226) -/

section Rearm
variable (s : State) (n : Fin 16)

/-- A rearm of channel `n` is refused. -/
def State.rearmRefused (s : State) (n : Nat) : Bool :=
  let enabled := s.rf (Reg.tripTsrc n) 0 21
  s.pwr.cfgdef || (s.sources ||| (s.pulse n).seen) &&& enabled != 0 ||
    (List.range 16).any (fun w => enabled.testBit w && (s.weir w).st == 0)

theorem State.rearmRefused_iff : s.rearmRefused n = true ↔
    s.pwr.cfgdef = true ∨ (s.sources ||| (s.pulse n).seen) &&& s.rf (Reg.tripTsrc n) 0 21 ≠ 0 ∨
      ∃ w : Fin 16, (s.rf (Reg.tripTsrc n) 0 21).testBit w = true ∧ (s.weir w).st = 0 := by
  simp only [State.rearmRefused, Bool.or_eq_true, bne_iff_ne, List.any_eq_true, List.mem_range, Bool.and_eq_true, beq_iff_eq,
    Fin.exists_iff, or_assoc, exists_prop]

/-- The request of a rearm is taken up, and the sources seen in the FAB cycle are forgotten. -/
abbrev State.endRequest (s : State) (n : Nat) : State := s.setPulse n { s.pulse n with rearm := false, seen := 0 }

theorem State.endRearm_eq : s.endRearm n =
    let t := s.endRequest n
    if !(s.pulse n).rearm then t
    else if s.rearmRefused n then (t.bump Reg.tripRjcnt).raise Page.trip 1
    else
      let t := (t.setb Reg.tripTripped n false).raise Page.trip 2
      t.onlyIf (t.safeActive n) (fun t => t.setPulse n { t.pulse n with inactSince := t.time.fab }) := rfl

theorem State.endRearm_only : SluiceOnly [Page.trip] s (s.endRearm n) := by
  rw [State.endRearm_eq]
  simp only
  split_ifs
  · exact .setPulse _
  · exact (SluiceOnly.setPulse _).trans ((SluiceOnly.bumpBy (by decide)).trans (.raise (by decide)))
  · exact (SluiceOnly.setPulse _).trans ((SluiceOnly.setb (by decide) _).trans ((SluiceOnly.raise (by decide)).trans
      (.onlyIf fun _ => .setPulse _)))

theorem State.endRearm_refused (hr : (s.pulse n).rearm = true) (h : s.rearmRefused n = true) :
    s.endRearm n = ((s.endRequest n).bump Reg.tripRjcnt).raise Page.trip 1 := by
  rw [State.endRearm_eq, hr, h]; rfl

/-- The channel is no longer tripped; its off time starts again where SAFE drove the active level (R222). -/
theorem State.endRearm_rearms (hr : (s.pulse n).rearm = true) (h : s.rearmRefused n = false) :
    s.endRearm n = (((s.endRequest n).setb Reg.tripTripped n false).raise Page.trip 2).onlyIf
      ((((s.endRequest n).setb Reg.tripTripped n false).raise Page.trip 2).safeActive n)
      (fun t => t.setPulse n { t.pulse n with inactSince := t.time.fab }) := by
  rw [State.endRearm_eq, hr, h]; rfl

theorem plsPcfg_apart (n : Fin 16) : Reg.plsPcfg n ≠ Reg.tripTripped ∧ Reg.plsPcfg n ≠ Reg.hdrIraw Page.trip := by
  decide +revert

theorem State.onlyIf_rd_setPulse (s : State) (c : Bool) (x : State → PulseSt) (n a : Nat) :
    (s.onlyIf c (fun t => t.setPulse n (x t))).rd a = s.rd a := by
  cases c <;> rfl

theorem State.onlyIf_evq_setPulse (s : State) (c : Bool) (x : State → PulseSt) (n : Nat) :
    (s.onlyIf c (fun t => t.setPulse n (x t))).evq = s.evq := by
  cases c <;> rfl

/-- What a refused rearm does (R225). -/
theorem State.endRearm_refused_effect (hr : (s.pulse n).rearm = true) (h : s.rearmRefused n = true) :
    (s.endRearm n).tripped n = s.tripped n ∧ (s.endRearm n).rb (Reg.hdrIraw Page.trip) 1 = true ∧
      (s.endRearm n).rd Reg.tripRjcnt = s.rd Reg.tripRjcnt + 1 := by
  rw [State.endRearm_refused s n hr h]
  refine ⟨?_, State.rb_raise_same _ _ _ (by decide), ?_⟩
  · rw [State.tripped, State.rb, State.rd_raise, if_neg (by decide), State.bump_eq, State.rd_bumpBy, if_neg (by decide),
      State.rd_setPulse]
    rfl
  · rw [State.rd_raise, if_neg (by decide), State.bump_eq, State.rd_bumpBy, if_pos rfl, State.rd_setPulse]
    rfl

/-- What a rearm does (R225). -/
theorem State.endRearm_rearms_effect (hr : (s.pulse n).rearm = true) (h : s.rearmRefused n = false) :
    (s.endRearm n).tripped n = false ∧ (s.endRearm n).rb (Reg.hdrIraw Page.trip) 2 = true ∧
      (s.safeActive n = true → ((s.endRearm n).pulse n).inactSince = s.time.fab) := by
  obtain ⟨hp, hp'⟩ := plsPcfg_apart n
  have hb := State.rb_setb (s.endRequest n) Reg.tripTripped n false Reg.tripTripped n (by omega)
  rw [State.endRearm_rearms s n hr h]
  refine ⟨?_, ?_, fun hs => ?_⟩
  · rw [State.tripped, State.rb, State.onlyIf_rd_setPulse, State.rd_raise, if_neg (by decide), ← State.rb, hb,
      if_pos ⟨rfl, rfl⟩]
  · rw [State.rb, State.onlyIf_rd_setPulse]
    exact State.rb_raise_same _ _ _ (by decide)
  · have hsafe : (((s.endRequest n).setb Reg.tripTripped n false).raise Page.trip 2).safeActive n = true := by
      rw [State.safeActive, State.rd_raise, if_neg hp', State.rd_setb, if_neg hp]
      exact hs
    rw [hsafe, State.onlyIf_true, State.pulse_setPulse, if_pos rfl]
    rfl

/-- Whether refused or not, the request is over. -/
theorem State.endRearm_pulse : ((s.endRearm n).pulse n).rearm = false := by
  rw [State.endRearm_eq]
  simp only
  split_ifs
  · simp
  · simp
  · cases (((s.endRequest n).setb Reg.tripTripped n false).raise Page.trip 2).safeActive n <;> simp

theorem State.endRearm_evq : (s.endRearm n).evq = s.evq := by
  rw [State.endRearm_eq]
  simp only
  split_ifs
  · rfl
  · simp
  · rw [State.onlyIf_evq_setPulse]
    simp

theorem State.raiseTrip_keepsChannel (k b : Nat) (h : Reg.hdrIraw Page.trip ∉ channelRegs k) :
    KeepsChannel k s (s.raise Page.trip b) :=
  (State.wr_keepsChannel s (by decide) h _).trans ⟨rfl, rfl, fun _ _ => rfl, rfl⟩

theorem State.setTripped_keepsChannel {k : Fin 16} (hk : k ≠ n) (v : Bool) :
    KeepsChannel k s (s.setb Reg.tripTripped n v) where
  tripped := by
    rw [State.tripped, State.rb_setb _ _ _ _ _ _ (by omega), if_neg (fun h => hk (Fin.ext h.2)), ← State.tripped]
  pulse := rfl
  regs a ha := by
    have := channelRegs_apart n k hk a ha
    rw [State.rd_setb, if_neg (fun e => this (by simp [e]))]
  time := rfl

theorem tripPage_apart (k : Fin 16) : Reg.hdrIraw Page.trip ∉ channelRegs k ∧ Reg.tripRjcnt ∉ channelRegs k := by
  decide +revert

/-- A rearm of one channel leaves every other alone. -/
theorem State.endRearm_keepsChannel {k : Fin 16} (hk : k ≠ n) : KeepsChannel k s (s.endRearm n) := by
  obtain ⟨hi, hj⟩ := tripPage_apart k
  have hp (t : State) (p : PulseSt) : KeepsChannel k t (t.setPulse n p) :=
    State.setPulse_keepsChannel t (fun e => hk (Fin.ext e)) p
  rw [State.endRearm_eq]
  simp only
  split_ifs
  · exact hp _ _
  · exact (hp _ _).trans ((State.wr_keepsChannel _ (by decide) hj _).trans (State.raiseTrip_keepsChannel _ k _ hi))
  · exact (hp _ _).trans ((State.setTripped_keepsChannel _ n hk _).trans ((State.raiseTrip_keepsChannel _ k _ hi).trans
      (.onlyIf fun _ => hp _ _)))

end Rearm

/-- Settles O13: the TRIP balls, the writes of the TRIP page, and the end of the FAB cycle for a rearm. -/
theorem trips : Obligations.Trips := by
  unfold Obligations.Trips
  intro s
  refine ⟨fun b level => ⟨fun h hf => tripBall_completes s b level h hf,
      fun h => ⟨s, congrArg finish (State.setTripBall_same s b level h), rfl⟩⟩,
    fun req v hr => ⟨swtrip_completes v hr, rearm_completes v hr⟩, fun n hr => ?_⟩
  simp only [← State.rearmRefused_iff, Bool.not_eq_true]
  exact ⟨State.endRearm_refused_effect s n hr, State.endRearm_rearms_effect s n hr, State.endRearm_pulse s n,
    fun k hk => ⟨(State.endRearm_keepsChannel s n hk).tripped, (State.endRearm_keepsChannel s n hk).pulse⟩,
    (State.endRearm_only s n).regs, (State.endRearm_only s n).rest_noEvents (State.endRearm_evq s n)⟩

end Sys2Proof.Machine
end

section
/-! Pulse channels: the requests of a FAB cycle and its end, PCFG, and the ball (06 R213-R219). -/

namespace Sys2Proof.Machine

/-! ### One request (R214-R217) -/

section Requests
variable {s : State} {ch : Nat}

/-- A pulse at MAXW ends; it counts unless an inactive edge request came (R215). -/
theorem State.clipWidth_ends (ha : (s.pulse ch).active = true)
    (hd : usCycles (s.rf (Reg.plsMaxw ch) 0 24) ≤ s.time.fab - (s.pulse ch).actSince) :
    s.clipWidth ch =
      (s.endPulse ch).onlyIf (!(s.pulse ch).reqs.any (fun r => r.level? == some false)) (·.limit ch 0 0) := by
  simp only [State.clipWidth, ha, decide_eq_true hd, Bool.and_self, if_true]

/-- A pulse whose duty credit is used up ends (R217). -/
theorem State.clipDuty_ends (ha : (s.pulse ch).active = true) (hc : (s.pulse ch).credit ≤ 0) (hm : s.maxDuty ch ≠ 256) :
    s.clipDuty ch = (s.endPulse ch).limit ch 1 1 := by
  simp only [State.clipDuty, ha, decide_eq_true hc, bne_iff_ne.mpr hm, Bool.and_self, if_true]

/-- A deferred edge that may start does (R216). -/
theorem State.admitDeferred_starts (hd : (s.pulse ch).deferred = true) (ho : s.mayAdmit ch = true) :
    s.admitDeferred ch = s.startPulse ch := by
  simp [State.admitDeferred, hd, ho]

variable (hen : s.rb (Reg.plsPcfg ch) 0 = true) (ht : s.tripped ch = false)
include hen ht

/-- An active edge that may start does (R216). -/
theorem State.edge_admitted (ha : (s.pulse ch).active = false) (hd : (s.pulse ch).deferred = false)
    (ho : s.mayAdmit ch = true) : s.edge ch true = s.startPulse ch := by
  simp [State.edge, hen, ht, ha, hd, ho]

/-- An active edge that may not start is deferred or dropped, as OFFPOL says (R216). -/
theorem State.edge_refused (ha : (s.pulse ch).active = false) (hd : (s.pulse ch).deferred = false)
    (ho : s.mayAdmit ch = false) : s.edge ch true =
      if s.rb (Reg.plsPcfg ch) 4 then s.setPulse ch { s.pulse ch with deferred := true } else s.limit ch 2 2 := by
  simp [State.edge, hen, ht, ha, hd, ho]

/-- An inactive edge ends the pulse (R214). -/
theorem State.edge_inactive (hd : (s.pulse ch).deferred = false) : s.edge ch false = s.endPulse ch := by
  have hd' : ((s.endPulse ch).pulse ch).deferred = false := by
    rw [State.pulse_endPulse, if_pos rfl, PulseSt.ended]
    split
    · exact hd
    · exact hd
  rw [← State.cancelDeferred_none (s.endPulse ch) ch hd']
  simp [State.edge, hen, ht]

end Requests

/-! ### The credit of a FAB cycle (R217) -/

section Credit
variable (s : State) (ch : Nat)

/-- The duty credit of a channel after the FAB cycle. -/
def State.nextCredit (s : State) (ch : Nat) : Int :=
  min (s.creditCap ch) ((s.pulse ch).credit + (s.maxDuty ch : Nat)) - (if (s.pulse ch).active then 256 else 0)

theorem State.tickCredit_eq :
    s.tickCredit ch = s.setPulse ch { s.pulse ch with credit := s.nextCredit ch } := by
  unfold State.tickCredit State.nextCredit
  cases ha : (s.pulse ch).active <;> simp [ha]

@[simp] theorem State.rd_tickCredit (a : Nat) : (s.tickCredit ch).rd a = s.rd a := rfl
@[simp] theorem State.time_tickCredit : (s.tickCredit ch).time = s.time := rfl
@[simp] theorem State.pulse_tickCredit :
    (s.tickCredit ch).pulse ch = { s.pulse ch with credit := s.nextCredit ch } := by
  rw [State.tickCredit_eq, State.pulse_setPulse, if_pos rfl]

/-- Both tests of R216 pass at the end of the FAB cycle. -/
def State.edgeAllowed (s : State) (ch : Nat) : Prop :=
  400 * s.rf (Reg.plsMinoff ch) 0 24 ≤ s.time.fab - (s.pulse ch).inactSince ∧ (0 < s.nextCredit ch ∨ s.maxDuty ch = 256)

theorem State.mayAdmit_tickCredit : (s.tickCredit ch).mayAdmit ch = true ↔ s.edgeAllowed ch := by
  simp [State.mayAdmit, State.edgeAllowed, State.maxDuty, State.rf, usCycles]

end Credit

/-! ### The end of the FAB cycle (R214) -/

section Close
variable (s : State) (ch : Fin 16)

/-- What follows the requests of the cycle: the ball, and a rearm. -/
def State.closePulse (s : State) (ch : Nat) : State := (s.showPulse ch).endRearm ch

theorem State.pulse_showPulse : (s.showPulse ch).pulse ch = { s.pulse ch with ball := (s.pulse ch).active, reqs := [] } := by
  unfold State.showPulse State.onlyIf
  simp only
  split <;> simp

theorem State.rd_showPulse (a : Nat) : (s.showPulse ch).rd a =
    if a = Reg.plsEdgcnt ch ∧ (s.pulse ch).active = true ∧ (s.pulse ch).ball = false then s.rd a + 1 else s.rd a := by
  unfold State.showPulse
  cases ha : (s.pulse ch).active with
  | false => simp [ha]
  | true =>
    cases hb : (s.pulse ch).ball with
    | true => simp [ha, hb]
    | false =>
      simp only [ha, hb, Bool.not_false, Bool.and_self, State.onlyIf_true, State.bump_eq, State.rd_bumpBy, State.rd_setPulse,
        and_true]
      split
      · next e => rw [e]; rfl
      · rfl

variable {s} (h : (s.pulse ch).rearm = false)
include h

theorem State.closePulse_eq : s.closePulse ch = (s.showPulse ch).endRequest ch := by
  have hr : ((s.showPulse ch).pulse ch).rearm = false := by rw [State.pulse_showPulse]; exact h
  rw [State.closePulse, State.endRearm_eq, hr]
  rfl

/-- The channel at the end of the cycle, with no rearm asked for. -/
theorem State.pulse_closePulse :
    (s.closePulse ch).pulse ch = { s.pulse ch with ball := (s.pulse ch).active, reqs := [], seen := 0 } := by
  rw [State.closePulse_eq ch h, State.pulse_setPulse, if_pos rfl, State.pulse_showPulse, ← h]

theorem State.rd_closePulse (a : Nat) : (s.closePulse ch).rd a =
    if a = Reg.plsEdgcnt ch ∧ (s.pulse ch).active = true ∧ (s.pulse ch).ball = false then s.rd a + 1 else s.rd a := by
  rw [State.closePulse_eq ch h, State.rd_setPulse, State.rd_showPulse]

theorem State.rd_closePulse_off {a : Nat} (ha : a ≠ Reg.plsEdgcnt ch ∨ (s.pulse ch).active = false) :
    (s.closePulse ch).rd a = s.rd a := by
  rw [State.rd_closePulse ch h, if_neg]
  rintro ⟨hc, hact, -⟩
  rcases ha with ha | ha
  · exact ha hc
  · simp [hact] at ha

omit h

/-- A cycle of one request. -/
theorem State.tickPulse_one {r : PulseReq} (hq : (s.pulse ch).reqs = [r]) :
    s.tickPulse ch = ((s.tickCredit ch).doPulse ch r).closePulse ch := by
  have hq' : ((s.tickCredit ch).pulse ch).reqs = [r] := by rw [State.pulse_tickCredit]; exact hq
  rw [State.tickPulse, hq']
  cases r <;> simp [PulseReq.rank, PulseReq.level?, List.range_succ, State.closePulse]

/-- An expiry of MAXW, then the CLR task. -/
theorem State.tickPulse_wclip_clr (hq : (s.pulse ch).reqs = [.wclip, .clr]) :
    s.tickPulse ch = (((s.tickCredit ch).doPulse ch .wclip).doPulse ch .clr).closePulse ch := by
  have hq' : ((s.tickCredit ch).pulse ch).reqs = [.wclip, .clr] := by rw [State.pulse_tickCredit]; exact hq
  rw [State.tickPulse, hq']
  simp [PulseReq.rank, PulseReq.level?, List.range_succ, State.closePulse]

/-- The SET task comes before the CLR task, and two edge requests set COLL. -/
theorem State.tickPulse_clr_set (hq : (s.pulse ch).reqs = [.clr, .set]) (hen : s.rb (Reg.plsPcfg ch) 0 = true) :
    s.tickPulse ch =
      ((((s.tickCredit ch).raise Page.pls 3).doPulse ch .set).doPulse ch .clr).closePulse ch := by
  have hq' : ((s.tickCredit ch).pulse ch).reqs = [.clr, .set] := by rw [State.pulse_tickCredit]; exact hq
  have hen' : (s.tickCredit ch).rb (Reg.plsPcfg ch) 0 = true := hen
  rw [State.tickPulse, hq']
  simp [PulseReq.rank, PulseReq.level?, List.range_succ, State.closePulse, hen']

end Close
end Sys2Proof.Machine
end

section
/-! What a FAB cycle does to a pulse channel, request by request; PCFG, and the ball (06 R213-R222). -/

namespace Sys2Proof.Machine

/-! ### A pulse that ends or starts in the cycle -/

section Cycle
variable (s : State) (ch : Fin 16)

/-- The channel when its pulse ends in the FAB cycle. -/
def State.pulseEnded (s : State) (ch : Nat) : PulseSt :=
  { s.pulse ch with active := false, inactSince := s.time.fab, ball := false, reqs := [], credit := s.nextCredit ch, seen := 0 }

/-- The channel when its pulse starts in the FAB cycle. -/
def State.pulseStarted (s : State) (ch : Nat) : PulseSt :=
  { s.pulse ch with active := true, deferred := false, actSince := s.time.fab, ball := true, reqs := [],
                    credit := s.nextCredit ch, seen := 0 }

theorem plsRegs_apart (ch : Fin 16) :
    Reg.plsEdgcnt ch ≠ Reg.hdrIraw Page.pls ∧
      ∀ a ∈ [Reg.plsPcfg ch, Reg.plsMinoff ch, Reg.plsDuty ch, Reg.tripTripped],
        a ∉ [Reg.plsLimcnt ch, Reg.hdrIraw Page.pls] := by decide +revert

variable {s ch} {t : State} (hr : (s.pulse ch).rearm = false)

theorem State.endPulse_tickCredit (ha : (s.pulse ch).active = true) : ((s.tickCredit ch).endPulse ch).pulse ch =
    { s.pulse ch with active := false, inactSince := s.time.fab, credit := s.nextCredit ch } := by
  rw [State.pulse_endPulse, if_pos rfl, State.pulse_tickCredit]
  exact PulseSt.ended_of_active _ ha

include hr

/-- A cycle at whose end the pulse is over. -/
theorem State.closePulse_ends (ht : t.pulse ch =
    { s.pulse ch with active := false, inactSince := s.time.fab, credit := s.nextCredit ch }) :
    (t.closePulse ch).pulse ch = s.pulseEnded ch ∧ ∀ a, (t.closePulse ch).rd a = t.rd a := by
  have hr' : (t.pulse ch).rearm = false := by rw [ht]; exact hr
  refine ⟨?_, fun a => State.rd_closePulse_off ch hr' (.inr (by rw [ht]))⟩
  rw [State.pulse_closePulse ch hr', ht]
  rfl

/-- A cycle in which the pulse starts; the ball's active edge counts. -/
theorem State.closePulse_starts :
    (((s.tickCredit ch).startPulse ch).closePulse ch).pulse ch = s.pulseStarted ch ∧
      ((s.pulse ch).ball = false →
        (((s.tickCredit ch).startPulse ch).closePulse ch).rd (Reg.plsEdgcnt ch) = s.rd (Reg.plsEdgcnt ch) + 1) := by
  have hp : ((s.tickCredit ch).startPulse ch).pulse ch = { s.pulse ch with
      active := true, deferred := false, actSince := s.time.fab, credit := s.nextCredit ch } := by
    rw [State.startPulse, State.pulse_setPulse, if_pos rfl, State.pulse_tickCredit]
    rfl
  have hr' : (((s.tickCredit ch).startPulse ch).pulse ch).rearm = false := by rw [hp]; exact hr
  refine ⟨?_, fun hb => ?_⟩
  · rw [State.pulse_closePulse ch hr', hp]
    rfl
  · rw [State.rd_closePulse ch hr', if_pos ⟨rfl, by rw [hp], by rw [hp]; exact hb⟩]
    rfl

/-! ### The cycles of O12 -/

/-- A pulse at MAXW (R215). -/
theorem State.tickPulse_clipWidth (hq : (s.pulse ch).reqs = [.wclip]) (ha : (s.pulse ch).active = true)
    (hd : 400 * s.rf (Reg.plsMaxw ch) 0 24 ≤ s.time.fab - (s.pulse ch).actSince) :
    (s.tickPulse ch).pulse ch = s.pulseEnded ch ∧
      (s.tickPulse ch).rf (Reg.plsLimcnt ch) 0 8 = min 255 (s.rf (Reg.plsLimcnt ch) 0 8 + 1) ∧
      (s.tickPulse ch).rb (Reg.hdrIraw Page.pls) 0 = true := by
  have he : (s.tickCredit ch).doPulse ch .wclip = ((s.tickCredit ch).endPulse ch).limit ch 0 0 := by
    rw [State.doPulse, State.clipWidth_ends (by rw [State.pulse_tickCredit]; exact ha)
      (by rw [State.pulse_tickCredit]; exact hd), State.pulse_tickCredit, hq]
    rfl
  obtain ⟨hp, hrd⟩ := State.closePulse_ends hr (t := ((s.tickCredit ch).endPulse ch).limit ch 0 0)
    (by rw [State.pulse_limit, State.endPulse_tickCredit ha])
  have hc := State.limit_counts ((s.tickCredit ch).endPulse ch) ch 0 (i := 0) (by decide)
  rw [State.tickPulse_one ch hq, he]
  refine ⟨hp, ?_, ?_⟩
  · rw [State.rf, hrd]
    simpa [State.rf] using hc
  · rw [State.rb, hrd]
    exact State.limit_raises _ _ _ (by decide)

/-- In the cycle of a CLR task the end at MAXW does not count as a clip (R215). -/
theorem State.tickPulse_clipWidth_clr (hq : (s.pulse ch).reqs = [.wclip, .clr]) (ha : (s.pulse ch).active = true)
    (hen : s.rb (Reg.plsPcfg ch) 0 = true) (ht : s.tripped ch = false) (hd : (s.pulse ch).deferred = false)
    (hm : 400 * s.rf (Reg.plsMaxw ch) 0 24 ≤ s.time.fab - (s.pulse ch).actSince) :
    (s.tickPulse ch).pulse ch = s.pulseEnded ch ∧ (s.tickPulse ch).rd (Reg.plsLimcnt ch) = s.rd (Reg.plsLimcnt ch) := by
  have he : (s.tickCredit ch).doPulse ch .wclip = (s.tickCredit ch).endPulse ch := by
    rw [State.doPulse, State.clipWidth_ends (by rw [State.pulse_tickCredit]; exact ha)
      (by rw [State.pulse_tickCredit]; exact hm), State.pulse_tickCredit, hq]
    rfl
  have hp := State.endPulse_tickCredit ha
  have hover : ((s.tickCredit ch).endPulse ch).endPulse ch = (s.tickCredit ch).endPulse ch := by
    rw [State.endPulse, hp]
    rfl
  have hclr : ((s.tickCredit ch).endPulse ch).doPulse ch .clr = (s.tickCredit ch).endPulse ch := by
    rw [State.doPulse, State.edge_inactive (by rw [State.rb, State.rd_endPulse]; exact hen)
      (by rw [State.tripped, State.rb, State.rd_endPulse]; exact ht) (by rw [hp]; exact hd), hover]
  obtain ⟨hpulse, hrd⟩ := State.closePulse_ends hr hp
  rw [State.tickPulse_wclip_clr ch hq, he, hclr]
  exact ⟨hpulse, by rw [hrd, State.rd_endPulse, State.rd_tickCredit]⟩

/-- The duty credit is used up (R217). -/
theorem State.tickPulse_clipDuty (hq : (s.pulse ch).reqs = [.dclip]) (ha : (s.pulse ch).active = true)
    (hc : s.nextCredit ch ≤ 0) (hm : s.maxDuty ch ≠ 256) :
    (s.tickPulse ch).pulse ch = s.pulseEnded ch ∧
      (s.tickPulse ch).rf (Reg.plsLimcnt ch) 8 8 = min 255 (s.rf (Reg.plsLimcnt ch) 8 8 + 1) ∧
      (s.tickPulse ch).rb (Reg.hdrIraw Page.pls) 1 = true := by
  have he : (s.tickCredit ch).doPulse ch .dclip = ((s.tickCredit ch).endPulse ch).limit ch 1 1 :=
    State.clipDuty_ends (by rw [State.pulse_tickCredit]; exact ha) (by rw [State.pulse_tickCredit]; exact hc) hm
  obtain ⟨hp, hrd⟩ := State.closePulse_ends hr (t := ((s.tickCredit ch).endPulse ch).limit ch 1 1)
    (by rw [State.pulse_limit, State.endPulse_tickCredit ha])
  have hcnt := State.limit_counts ((s.tickCredit ch).endPulse ch) ch 1 (i := 1) (by decide)
  rw [State.tickPulse_one ch hq, he]
  refine ⟨hp, ?_, ?_⟩
  · rw [State.rf, hrd]
    simpa [State.rf] using hcnt
  · rw [State.rb, hrd]
    exact State.limit_raises _ _ _ (by decide)

/-- A deferred edge is admitted (R216). -/
theorem State.tickPulse_release (hq : (s.pulse ch).reqs = [.release]) (hd : (s.pulse ch).deferred = true)
    (ho : s.edgeAllowed ch) :
    (s.tickPulse ch).pulse ch = s.pulseStarted ch ∧ ((s.pulse ch).ball = false →
      (s.tickPulse ch).rd (Reg.plsEdgcnt ch) = s.rd (Reg.plsEdgcnt ch) + 1) := by
  have he : (s.tickCredit ch).doPulse ch .release = (s.tickCredit ch).startPulse ch :=
    State.admitDeferred_starts (by rw [State.pulse_tickCredit]; exact hd) ((State.mayAdmit_tickCredit s ch).mpr ho)
  rw [State.tickPulse_one ch hq, he]
  exact State.closePulse_starts hr

variable (hen : s.rb (Reg.plsPcfg ch) 0 = true) (ht : s.tripped ch = false)
include hen ht

/-- An active edge that may start (R216). -/
theorem State.tickPulse_admits {r : PulseReq} (hq : (s.pulse ch).reqs = [r]) (hl : r = .set ∨ r = .ticket true)
    (ha : (s.pulse ch).active = false) (hd : (s.pulse ch).deferred = false) (ho : s.edgeAllowed ch) :
    (s.tickPulse ch).pulse ch = s.pulseStarted ch ∧ ((s.pulse ch).ball = false →
      (s.tickPulse ch).rd (Reg.plsEdgcnt ch) = s.rd (Reg.plsEdgcnt ch) + 1) := by
  have he : (s.tickCredit ch).doPulse ch r = (s.tickCredit ch).startPulse ch := by
    rw [show (s.tickCredit ch).doPulse ch r = (s.tickCredit ch).edge ch true by rcases hl with rfl | rfl <;> rfl]
    exact State.edge_admitted hen ht (by rw [State.pulse_tickCredit]; exact ha) (by rw [State.pulse_tickCredit]; exact hd)
      ((State.mayAdmit_tickCredit s ch).mpr ho)
  rw [State.tickPulse_one ch hq, he]
  exact State.closePulse_starts hr

/-- An active edge that may not start is deferred or dropped under OFFPOL (R216). -/
theorem State.tickPulse_refuses {r : PulseReq} (hq : (s.pulse ch).reqs = [r]) (hl : r = .set ∨ r = .ticket true)
    (ha : (s.pulse ch).active = false) (hd : (s.pulse ch).deferred = false) (ho : ¬ s.edgeAllowed ch) :
    ((s.tickPulse ch).pulse ch).active = false ∧ ((s.tickPulse ch).pulse ch).deferred = s.rb (Reg.plsPcfg ch) 4 ∧
      (s.rb (Reg.plsPcfg ch) 4 = false →
        (s.tickPulse ch).rf (Reg.plsLimcnt ch) 16 8 = min 255 (s.rf (Reg.plsLimcnt ch) 16 8 + 1) ∧
        (s.tickPulse ch).rb (Reg.hdrIraw Page.pls) 2 = true) := by
  have hp := State.pulse_tickCredit s ch
  have he : (s.tickCredit ch).doPulse ch r = if s.rb (Reg.plsPcfg ch) 4 then
      (s.tickCredit ch).setPulse ch { (s.tickCredit ch).pulse ch with deferred := true }
      else (s.tickCredit ch).limit ch 2 2 := by
    rw [show (s.tickCredit ch).doPulse ch r = (s.tickCredit ch).edge ch true by rcases hl with rfl | rfl <;> rfl]
    exact State.edge_refused hen ht (by rw [hp]; exact ha) (by rw [hp]; exact hd)
      (Bool.eq_false_iff.mpr (fun h => ho ((State.mayAdmit_tickCredit s ch).mp h)))
  rw [State.tickPulse_one ch hq, he]
  cases hoff : s.rb (Reg.plsPcfg ch) 4 with
  | true =>
    have hpd : ((s.tickCredit ch).setPulse ch { (s.tickCredit ch).pulse ch with deferred := true }).pulse ch =
        { s.pulse ch with deferred := true, credit := s.nextCredit ch } := by
      rw [State.pulse_setPulse, if_pos rfl, hp]
    rw [if_pos rfl, State.pulse_closePulse ch (by rw [hpd]; exact hr), hpd]
    exact ⟨ha, rfl, fun h => by cases h⟩
  | false =>
    have hr' : (((s.tickCredit ch).limit ch 2 2).pulse ch).rearm = false := by rw [State.pulse_limit, hp]; exact hr
    have ha' : (((s.tickCredit ch).limit ch 2 2).pulse ch).active = false := by rw [State.pulse_limit, hp]; exact ha
    have hc := State.limit_counts (s.tickCredit ch) ch 2 (i := 2) (by decide)
    rw [if_neg (by decide), State.pulse_closePulse ch hr', State.pulse_limit, hp]
    refine ⟨ha, hd, fun _ => ⟨?_, ?_⟩⟩
    · rw [State.rf, State.rd_closePulse_off ch hr' (.inr ha')]
      simpa [State.rf] using hc
    · rw [State.rb, State.rd_closePulse_off ch hr' (.inr ha')]
      exact State.limit_raises _ _ _ (by decide)

/-- An inactive edge ends the pulse (R214). -/
theorem State.tickPulse_clears {r : PulseReq} (hq : (s.pulse ch).reqs = [r]) (hl : r = .clr ∨ r = .ticket false)
    (ha : (s.pulse ch).active = true) (hd : (s.pulse ch).deferred = false) :
    (s.tickPulse ch).pulse ch = s.pulseEnded ch := by
  have he : (s.tickCredit ch).doPulse ch r = (s.tickCredit ch).endPulse ch := by
    rw [show (s.tickCredit ch).doPulse ch r = (s.tickCredit ch).edge ch false by rcases hl with rfl | rfl <;> rfl]
    exact State.edge_inactive hen ht (by rw [State.pulse_tickCredit]; exact hd)
  rw [State.tickPulse_one ch hq, he]
  exact (State.closePulse_ends hr (State.endPulse_tickCredit ha)).1

/-- A level set and cleared in one cycle is no edge of the ball, and sets COLL (R214). -/
theorem State.tickPulse_collides (hq : (s.pulse ch).reqs = [.clr, .set]) (ha : (s.pulse ch).active = false)
    (hd : (s.pulse ch).deferred = false) (ho : s.edgeAllowed ch) :
    (s.tickPulse ch).pulse ch = { s.pulseEnded ch with actSince := s.time.fab } ∧
      (s.tickPulse ch).rd (Reg.plsEdgcnt ch) = s.rd (Reg.plsEdgcnt ch) ∧
      (s.tickPulse ch).rb (Reg.hdrIraw Page.pls) 3 = true := by
  obtain ⟨hiraw, hoff⟩ := plsRegs_apart ch
  have hrd (a : Nat) (h : a ∈ [Reg.plsPcfg ch, Reg.plsMinoff ch, Reg.plsDuty ch, Reg.tripTripped]) :
      ((s.tickCredit ch).raise Page.pls 3).rd a = s.rd a := by
    have hne : a ≠ Reg.hdrIraw Page.pls := fun e => hoff a h (by simp [e])
    rw [State.rd_raise, if_neg hne, State.rd_tickCredit]
  have hp : ((s.tickCredit ch).raise Page.pls 3).pulse ch = { s.pulse ch with credit := s.nextCredit ch } := by
    rw [State.pulse_raise, State.pulse_tickCredit]
  have hen' : ((s.tickCredit ch).raise Page.pls 3).rb (Reg.plsPcfg ch) 0 = true := by
    rw [State.rb, hrd _ (by simp)]; exact hen
  have ht' : ((s.tickCredit ch).raise Page.pls 3).tripped ch = false := by
    rw [State.tripped, State.rb, hrd _ (by simp)]; exact ht
  have ho' : ((s.tickCredit ch).raise Page.pls 3).mayAdmit ch = true := by
    rw [← State.mayAdmit_tickCredit, State.mayAdmit] at ho
    rw [State.mayAdmit, hp, State.rf, hrd _ (by simp), State.maxDuty, State.rf, hrd _ (by simp), State.time_raise]
    rwa [State.pulse_tickCredit] at ho
  have hset : ((s.tickCredit ch).raise Page.pls 3).doPulse ch .set = ((s.tickCredit ch).raise Page.pls 3).startPulse ch :=
    State.edge_admitted hen' ht' (by rw [hp]; exact ha) (by rw [hp]; exact hd) ho'
  have hps : (((s.tickCredit ch).raise Page.pls 3).startPulse ch).pulse ch = { s.pulse ch with
      active := true, deferred := false, actSince := s.time.fab, credit := s.nextCredit ch } := by
    rw [State.startPulse, State.pulse_setPulse, if_pos rfl, hp]
    rfl
  have hclr : (((s.tickCredit ch).raise Page.pls 3).startPulse ch).doPulse ch .clr =
      (((s.tickCredit ch).raise Page.pls 3).startPulse ch).endPulse ch :=
    State.edge_inactive hen' ht' (by rw [hps])
  have hpe : ((((s.tickCredit ch).raise Page.pls 3).startPulse ch).endPulse ch).pulse ch = { s.pulse ch with
      active := false, deferred := false, actSince := s.time.fab, inactSince := s.time.fab, credit := s.nextCredit ch } := by
    rw [State.pulse_endPulse, if_pos rfl, hps, PulseSt.ended_of_active _ rfl]
    rfl
  have hr' : (((((s.tickCredit ch).raise Page.pls 3).startPulse ch).endPulse ch).pulse ch).rearm = false := by
    rw [hpe]; exact hr
  have hclose (a : Nat) : (((((s.tickCredit ch).raise Page.pls 3).startPulse ch).endPulse ch).closePulse ch).rd a =
      ((s.tickCredit ch).raise Page.pls 3).rd a := by
    rw [State.rd_closePulse_off ch hr' (.inr (by rw [hpe])), State.rd_endPulse]
    rfl
  rw [State.tickPulse_clr_set ch hq hen, hset, hclr]
  refine ⟨?_, ?_, ?_⟩
  · rw [State.pulse_closePulse ch hr', hpe, State.pulseEnded, ← hd]
  · rw [hclose, State.rd_raise, if_neg hiraw, State.rd_tickCredit]
  · rw [State.rb, hclose]
    exact State.rb_raise_same _ _ _ (by decide)

end Cycle

/-! ### PCFG (R213) -/

section Pcfg
variable {s : State} {req : Req} (ch : Fin 16) (v : Word)

/-- The register at `addr`, number `n` of its row at offset `off` of `page`, takes the bits `m` of a write unless the page is
locked (R446, R450). -/
def lockableAt (addr page off : Nat) (cls : PageClass) (i n : Nat) (m : Word) : Bool :=
  addr / 1024 == page && addr % 1024 == off &&
    match busTarget addr with
    | some (c, j, r, k) => c == cls && j == i && k == n && r.mask == m && r.access == .rwl
    | none => false

/-- A write of a register of an unlocked page acts at its block. -/
theorem State.reqWrite_lockable {addr page off i n : Nat} {cls : PageClass} {m : Word}
    (hw : lockableAt addr page off cls i n m = true) (h : s.reaches req page = true) (hl : s.lockedFor page = false) {u : State}
    (hu : s.writeBlock req.index cls i off n addr (v &&& m) = u) (hp : u.pwr = s.pwr) (hh : u.host = s.host) :
    s.reqWrite req addr v = u := by
  unfold lockableAt at hw
  split at hw
  · next c j r k ht =>
    simp only [Bool.and_eq_true, beq_iff_eq] at hw
    obtain ⟨⟨rfl, rfl⟩, ⟨⟨⟨rfl, rfl⟩, rfl⟩, rfl⟩, ha⟩ := hw
    obtain ⟨-, -, -, hg, hc⟩ := State.reaches_iff h
    exact State.reqWrite_block ht h (.inr (.inr ⟨ha, hl⟩)) hu (by rw [hp, hg]) (by rw [hh, hc])
  · simp at hw

/-- A page that is not locked for its RWL registers is not locked. -/
theorem State.locked_of_lockedFor {page : Nat} (h : s.lockedFor page = false) : s.locked page = false :=
  (Bool.or_eq_false_iff.mp h).1

theorem lockableAt_pcfg : lockableAt (Reg.plsPcfg ch) Page.pls (0x040 + 32 * ch) .pls 0 ch 0x1F = true := by
  decide +revert

theorem State.writeBlock_pcfg (r a : Nat) (x : Word) :
    s.writeBlock r .pls 0 (0x040 + 32 * ch) ch a x = s.writePcfg ch x := by fin_cases ch <;> rfl

/-- The value PCFG takes: a reserved SAFE keeps the old one. -/
def pcfgValue (old v : Word) : Word :=
  if field v 2 2 = 3 then putField (v &&& 0x1F) 2 2 (field old 2 2) else v &&& 0x1F

theorem bitOf_pcfgValue (old : Word) {i : Nat} (hi : i ∈ [0, 1, 4]) : bitOf (pcfgValue old v) i = bitOf v i := by
  simp only [List.mem_cons, List.not_mem_nil, or_false] at hi
  have hm : (0x1F : Word).getLsbD i = true := by rcases hi with rfl | rfl | rfl <;> decide
  unfold pcfgValue
  split
  · rw [bitOf_putField _ _ _ _ _ (by omega), if_neg (by omega), bitOf_and_mask _ _ _ hm]
  · exact bitOf_and_mask _ _ _ hm

theorem safe_pcfgValue (old : Word) :
    field (pcfgValue old v) 2 2 = if field v 2 2 = 3 then field old 2 2 else field v 2 2 := by
  unfold pcfgValue
  split
  · rw [field_putField_same _ _ (by decide), Nat.mod_eq_of_lt (field_lt ..)]
  · exact field_and_mask _ _ _ _ (by decide)

/-- A PCFG write, on a page that is not locked. -/
theorem State.writePcfg_eq (hl : s.locked Page.pls = false) :
    s.writePcfg ch (v &&& 0x1F) = (s.wr (Reg.plsPcfg ch) (pcfgValue (s.rd (Reg.plsPcfg ch)) v)).onlyIf (!bitOf v 0)
      (fun t => (t.endPulse ch).cancelDeferred ch) := by
  have hv : (if field (v &&& 0x1F &&& 0x1F) 2 2 = 3 then
      putField (v &&& 0x1F &&& 0x1F) 2 2 (field (s.rd (Reg.plsPcfg ch)) 2 2) else v &&& 0x1F &&& 0x1F) =
      pcfgValue (s.rd (Reg.plsPcfg ch)) v := by
    rw [BitVec.and_assoc, BitVec.and_self, field_and_mask _ _ _ _ (by decide), pcfgValue]
  unfold State.writePcfg
  rw [hl]
  simp only [Bool.false_eq_true, if_false, hv]
  rw [bitOf_pcfgValue _ _ (by simp)]

theorem plsPcfg_page (ch : Fin 16) : Reg.plsPcfg ch / 1024 ∈ [Page.pls] := by decide +revert

/-- An update of a pulse that leaves PCFG. -/
theorem State.rd_stopPulse (t : State) :
    ((t.endPulse ch).cancelDeferred ch).rd (Reg.plsPcfg ch) = t.rd (Reg.plsPcfg ch) := by
  obtain ⟨-, hoff⟩ := plsRegs_apart ch
  rw [State.rd_cancelDeferred_off _ _ (hoff _ (by simp)), State.rd_endPulse]

theorem State.pulse_stopPulse (t : State) : (((t.endPulse ch).cancelDeferred ch).pulse ch).active = false ∧
    (((t.endPulse ch).cancelDeferred ch).pulse ch).deferred = false := by
  rw [State.pulse_cancelDeferred, if_pos rfl, State.pulse_endPulse, if_pos rfl]
  exact ⟨PulseSt.ended_active _ _, rfl⟩

theorem PulseSt.ended_deferred (p : PulseSt) (t : Nat) : (p.ended t).deferred = p.deferred := by
  unfold PulseSt.ended
  split <;> rfl

theorem pcfgWrite_completes (hr : s.reaches req Page.pls = true) (hl : s.lockedFor Page.pls = false) :
    Completes (.pcfgWrite req ch v) s (fun u =>
      u.rb (Reg.plsPcfg ch) 0 = bitOf v 0 ∧ u.rb (Reg.plsPcfg ch) 1 = bitOf v 1 ∧ u.rb (Reg.plsPcfg ch) 4 = bitOf v 4 ∧
      u.rf (Reg.plsPcfg ch) 2 2 = (if field v 2 2 = 3 then s.rf (Reg.plsPcfg ch) 2 2 else field v 2 2) ∧
      (bitOf v 0 = true → u.pulses = s.pulses ∧ OffRegs [Reg.plsPcfg ch] s u) ∧
      (bitOf v 0 = false → (u.pulse ch).active = false ∧ (u.pulse ch).deferred = false ∧
        ((s.pulse ch).deferred = true → u.rb (Reg.hdrIraw Page.pls) 2 = true)) ∧
      OffPages [Page.pls] s u ∧ u = { s with regs := u.regs, w1set := u.w1set, pulses := u.pulses, evq := u.evq }) := by
  have he := State.writePcfg_eq ch v (State.locked_of_lockedFor hl)
  have ho : SluiceOnly [Page.pls] s (s.writePcfg ch (v &&& 0x1F)) := by
    rw [he]
    exact (SluiceOnly.wr (plsPcfg_page ch) _).trans (.onlyIf fun _ =>
      (State.endPulse_only ..).trans (State.cancelDeferred_only _ ch.isLt (by simp)))
  have hrd : (s.writePcfg ch (v &&& 0x1F)).rd (Reg.plsPcfg ch) = pcfgValue (s.rd (Reg.plsPcfg ch)) v := by
    rw [he, State.onlyIf]
    split
    · rw [State.rd_stopPulse, State.rd_wr, if_pos rfl]
    · rw [State.rd_wr, if_pos rfl]
  refine ⟨_, congrArg finish (State.reqWrite_lockable v (lockableAt_pcfg ch) hr hl (State.writeBlock_pcfg ch _ _ _)
    ho.pwr ho.host), ?_, ?_, ?_, ?_, fun hv => ?_, fun hv => ?_, ho.regs, ho.rest⟩
  · rw [State.rb, hrd, bitOf_pcfgValue _ _ (by simp)]
  · rw [State.rb, hrd, bitOf_pcfgValue _ _ (by simp)]
  · rw [State.rb, hrd, bitOf_pcfgValue _ _ (by simp)]
  · rw [State.rf, hrd, safe_pcfgValue, State.rf]
  · rw [he, hv, Bool.not_true, State.onlyIf_false]
    refine ⟨rfl, fun a ha => ?_⟩
    rw [State.rd_wr, if_neg (fun e => ha (by simp [e]))]
  · rw [he, hv, Bool.not_false, State.onlyIf_true]
    obtain ⟨hact, hdef⟩ := State.pulse_stopPulse ch (s.wr (Reg.plsPcfg ch) (pcfgValue (s.rd (Reg.plsPcfg ch)) v))
    refine ⟨hact, hdef, fun hd => State.cancelDeferred_raises _ _ ?_⟩
    rw [State.pulse_endPulse, if_pos rfl, PulseSt.ended_deferred, State.pulse_wr, hd]

end Pcfg

/-! ### The ball (R213, R222) -/

section BallLevel
variable {s : State} {ch : Fin 16} (hh : s.pwr.state ≠ .hibernate)
include hh

theorem State.plsBall_eq : s.plsBall ch =
    if s.tripped ch then
      (match s.rf (Reg.plsPcfg ch) 2 2 with
       | 0 => .low
       | 1 => .high
       | _ => .highZ)
    else if (s.pulse ch).ball != s.rb (Reg.plsPcfg ch) 1 then .high else .low := by
  unfold State.plsBall
  rw [beq_eq_false_iff_ne.mpr hh]
  rfl

/-- A tripped channel's ball shows SAFE. -/
theorem State.plsBall_tripped (ht : s.tripped ch = true) :
    (s.rf (Reg.plsPcfg ch) 2 2 = 0 → s.plsBall ch = .low) ∧ (s.rf (Reg.plsPcfg ch) 2 2 = 1 → s.plsBall ch = .high) ∧
      (s.rf (Reg.plsPcfg ch) 2 2 = 2 → s.plsBall ch = .highZ) := by
  rw [State.plsBall_eq hh, ht]
  refine ⟨fun h => ?_, fun h => ?_, fun h => ?_⟩ <;> rw [h] <;> rfl

/-- A channel that is not tripped shows its level by POL. -/
theorem State.plsBall_level (ht : s.tripped ch = false) :
    s.plsBall ch = if (s.pulse ch).ball = s.rb (Reg.plsPcfg ch) 1 then .low else .high := by
  rw [State.plsBall_eq hh, ht]
  by_cases h : (s.pulse ch).ball = s.rb (Reg.plsPcfg ch) 1 <;> simp [h]

end BallLevel

/-- A request told to the pulse unit waits for the end of the FAB cycle. -/
theorem askPulse_completes (s : State) (ch : Fin 16) (c : Instr × PulseReq)
    (hc : c ∈ [(.wclip ch, .wclip), (.deferredEdgeAdmit ch, .release), (.dclip ch, .dclip)]) :
    Completes c.1 s (fun u =>
      (s.pulsesOn = true → u = s.setPulse ch { s.pulse ch with reqs := (s.pulse ch).reqs ++ [c.2] }) ∧
      (s.pulsesOn = false → u = s)) := by
  have hx : exec c.1 s = finish (s.askPulse ch c.2) := by
    simp only [List.mem_cons, List.not_mem_nil, or_false] at hc
    rcases hc with rfl | rfl | rfl <;> rfl
  exact ⟨_, hx, fun h => by rw [State.askPulse, h, State.onlyIf_true], fun h => by rw [State.askPulse, h, State.onlyIf_false]⟩

/-- Settles O12: a cycle's requests and its end, PCFG, and the ball. -/
theorem pulseChannels : Obligations.PulseChannels := by
  unfold Obligations.PulseChannels
  intro s ch
  refine ⟨askPulse_completes s ch, fun hr => ⟨State.tickPulse_clipWidth hr, State.tickPulse_clipWidth_clr hr,
      State.tickPulse_clipDuty hr, State.tickPulse_release hr, fun hq hen ht ha hd => ?_, fun hq hen ht ha hd => ?_,
      fun hq hen ht ha hd ho => State.tickPulse_collides hr hen ht hq ha hd ho⟩,
    fun req v hr hl => pcfgWrite_completes ch v hr hl,
    fun hh => ⟨State.plsBall_tripped hh, State.plsBall_level hh⟩⟩
  · rcases hq with hq | hq
    · exact ⟨State.tickPulse_admits hr hen ht hq (.inl rfl) ha hd, State.tickPulse_refuses hr hen ht hq (.inl rfl) ha hd⟩
    · exact ⟨State.tickPulse_admits hr hen ht hq (.inr rfl) ha hd, State.tickPulse_refuses hr hen ht hq (.inr rfl) ha hd⟩
  · rcases hq with hq | hq
    · exact State.tickPulse_clears hr hen ht hq (.inl rfl) ha hd
    · exact State.tickPulse_clears hr hen ht hq (.inr rfl) ha hd

end Sys2Proof.Machine
end

section
/-! Weirs: input crossings, samples, the end of the enable time and of a hold, and the writes of WCFG, WTHR and WHYS (06
R198-R207). -/

namespace Sys2Proof.Machine

/-! ### What an update of a weir leaves as it was -/

/-- `u` is `s` but for weir `w`, registers of the pages `ps`, the notes of IRAW bits set, pulse channels and the events under
way. -/
structure WeirOnly (w : Nat) (ps : List Nat) (s u : State) : Prop where
  unit : OffUnit State.weir w s u
  regs : OffPages ps s u
  rest : u = { s with regs := u.regs, w1set := u.w1set, weirs := u.weirs, pulses := u.pulses, evq := u.evq }

namespace WeirOnly
variable {w : Nat} {ps ps' : List Nat} {s t u : State}

theorem trans (h : WeirOnly w ps s t) (h' : WeirOnly w ps t u) : WeirOnly w ps s u := by
  refine ⟨fun j hj => (h'.unit j hj).trans (h.unit j hj), fun a ha => (h'.regs a ha).trans (h.regs a ha), ?_⟩
  have e := h'.rest
  rw [h.rest] at e
  exact e

theorem mono (h : WeirOnly w ps s u) (hp : ps ⊆ ps') : WeirOnly w ps' s u :=
  ⟨h.unit, fun a ha => h.regs a (fun h' => ha (hp h')), h.rest⟩

theorem of_sluice (h : SluiceOnly ps s u) : WeirOnly w ps s u := by
  refine ⟨fun j _ => h.weir j, h.regs, ?_⟩
  rw [h.weirs]
  exact h.rest

theorem refl : WeirOnly w ps s s := of_sluice .refl

theorem setWeir (c : WeirSt) : WeirOnly w ps s (s.setWeir w c) :=
  ⟨fun j hj => by rw [State.weir_setWeir, if_neg hj], fun _ _ => rfl, rfl⟩

theorem onlyIf {c : Bool} {f : State → State} (h : c = true → WeirOnly w ps s (f s)) : WeirOnly w ps s (s.onlyIf c f) := by
  cases c with
  | false => exact refl
  | true => exact h rfl

theorem pwr (h : WeirOnly w ps s u) : u.pwr = s.pwr := by rw [h.rest]
theorem host (h : WeirOnly w ps s u) : u.host = s.host := by rw [h.rest]

/-- No pulse channel and no event: registers, notes and weirs alone. -/
theorem rest_local (h : WeirOnly w ps s u) (hp : u.pulses = s.pulses) (he : u.evq = s.evq) :
    u = { s with regs := u.regs, w1set := u.w1set, weirs := u.weirs } := by
  have e := h.rest
  rw [hp, he] at e
  exact e

end WeirOnly

/-! ### A weir takes a state (R200, R203) -/

section Enter
variable (s : State) (w st : Nat)

theorem State.weir_checkTrips (j : Nat) : s.checkTrips.weir j = s.weir j := (State.checkTrips_only s).weir j

theorem State.enterWeir_weir : (s.enterWeir w st).weir w = { s.weir w with st := st } := by
  unfold State.enterWeir
  simp only
  split
  · next h => rw [← h]
  · rw [State.weir_checkTrips, State.onlyIf]
    split <;> simp

theorem State.pushEv_only (ps : List Nat) (ev : LeatEv) : SluiceOnly ps s (s.pushEv ev) := ⟨rfl, fun _ _ => rfl⟩

theorem State.enterWeir_only : WeirOnly w sluicePages s (s.enterWeir w st) := by
  unfold State.enterWeir
  simp only
  split
  · exact .refl
  · exact (WeirOnly.setWeir _).trans (.of_sluice ((SluiceOnly.onlyIf fun _ => State.pushEv_only ..).trans
      (State.checkTrips_only _)))

variable {s w}

/-- After updates of the weir alone, the weir takes a state, and trips may follow. -/
theorem WeirOnly.enters {t : State} (h : WeirOnly w sluicePages s t) {y : WeirSt} (hy : t.weir w = y) :
    (t.enterWeir w st).weir w = { y with st := st } ∧ OffUnit State.weir w s (t.enterWeir w st) ∧
      OffPages [Page.trip, Page.pls] s (t.enterWeir w st) ∧
      t.enterWeir w st = { s with regs := (t.enterWeir w st).regs, w1set := (t.enterWeir w st).w1set,
                                  weirs := (t.enterWeir w st).weirs, pulses := (t.enterWeir w st).pulses,
                                  evq := (t.enterWeir w st).evq } := by
  have ho := h.trans (State.enterWeir_only t w st)
  exact ⟨by rw [State.enterWeir_weir, hy], ho.unit, ho.regs, ho.rest⟩

end Enter

/-! ### The input moves the weir (R200, R201, R202, R206) -/

section Moves
variable (s : State) (w : Fin 16) (x : Int)

theorem State.weirFree_iff (n : Nat) : s.weirFree n = true ↔
    s.weirPowered n = true ∧ (s.weir n).st ≠ 0 ∧ (s.weir n).hold = false ∧ (s.weir n).test = none := by
  simp only [State.weirFree, Bool.and_eq_true, bne_iff_ne, Bool.not_eq_true', Option.isNone_iff_eq_none, and_assoc]

/-- The conditions of a weir look at its state, hold and test, not at its input. -/
theorem State.weirFree_setWeir (n : Nat) (c : WeirSt) : (s.setWeir n c).weirFree n = true ↔
    s.weirPowered n = true ∧ c.st ≠ 0 ∧ c.hold = false ∧ c.test = none := by
  rw [State.weirFree_iff, State.weir_setWeir, if_pos rfl]
  rfl

theorem weirCrossing_completes (hf : s.weirFree w = true) (hm : field (s.wcfg w) 10 2 ≠ 3) :
    Completes (.weirCrossing w x) s (fun u =>
      u.weir w = { s.weir w with x := x, st := moveWeir (s.wlo w) (s.whi w) (s.whys w) (s.weir w).st x } ∧
      OffUnit State.weir w s u ∧ OffPages [Page.trip, Page.pls] s u ∧
      u = { s with regs := u.regs, w1set := u.w1set, weirs := u.weirs, pulses := u.pulses, evq := u.evq }) := by
  have hfree : (s.setWeirX w x).weirFree w = true := (State.weirFree_setWeir s w _).mpr ((State.weirFree_iff s w).mp hf)
  have hmode : (field ((s.setWeirX w x).wcfg w) 10 2 != 3) = true := bne_iff_ne.mpr hm
  have hy : (s.setWeirX w x).weir w = { s.weir w with x := x } := by rw [State.setWeirX, State.weir_setWeir, if_pos rfl]
  have he : s.crossWeir w x =
      (s.setWeirX w x).enterWeir w (moveWeir (s.wlo w) (s.whi w) (s.whys w) (s.weir w).st x) := by
    rw [State.crossWeir, hfree, hmode, Bool.and_self, State.onlyIf_true, State.evalWeir, hy]
    rfl
  exact ⟨_, congrArg finish he, WeirOnly.enters _ (.setWeir _) hy⟩

theorem weirValid_completes (hp : s.weirPowered w = true) (hen : bitOf (s.wcfg w) 0 = true) (hst : (s.weir w).st = 0)
    (ht : (s.weir w).test = none) :
    Completes (.weirValid w x) s (fun u =>
      u.weir w = { s.weir w with x := x, st := if x < s.wlo w then 1 else if s.whi w ≤ x then 3 else 2 } ∧
      OffUnit State.weir w s u ∧ OffPages [Page.trip, Page.pls] s u ∧
      u = { s with regs := u.regs, w1set := u.w1set, weirs := u.weirs, pulses := u.pulses, evq := u.evq }) := by
  have hy : (s.setWeirX w x).weir w = { s.weir w with x := x } := by rw [State.setWeirX, State.weir_setWeir, if_pos rfl]
  have hc : ((s.setWeirX w x).weirPowered w && bitOf ((s.setWeirX w x).wcfg w) 0 && ((s.setWeirX w x).weir w).st == 0 &&
      ((s.setWeirX w x).weir w).test.isNone) = true := by
    rw [hy, hst, ht, show (s.setWeirX w x).weirPowered w = true from hp, show bitOf ((s.setWeirX w x).wcfg w) 0 = true from hen]
    rfl
  have he : s.validWeir w x = (s.setWeirX w x).enterWeir w (if x < s.wlo w then 1 else if s.whi w ≤ x then 3 else 2) := by
    rw [State.validWeir, hc]
    rfl
  exact ⟨_, congrArg finish he, WeirOnly.enters _ (.setWeir _) hy⟩

theorem weirSample_completes (hf : s.weirFree w = true) (hm : field (s.wcfg w) 10 2 = 3) (hfab : 1600 ≤ s.time.fab)
    (hs : ∀ t ∈ (s.weir w).sampled, t < s.sampleTick) :
    Completes (.weirSample w x) s (fun u =>
      u.weir w = { s.weir w with x := x, sampled := some s.sampleTick,
                                 st := moveWeir (s.wlo w) (s.whi w) (s.whys w) (s.weir w).st x } ∧
      OffUnit State.weir w s u ∧ OffPages [Page.trip, Page.pls] s u ∧
      u = { s with regs := u.regs, w1set := u.w1set, weirs := u.weirs, pulses := u.pulses, evq := u.evq }) := by
  have hlate : decide (s.time.fab < usCycles 4) = false := decide_eq_false (by unfold usCycles; omega)
  have hnew : (s.weir w).sampled.any (fun t => decide (s.sampleTick ≤ t)) = false := by
    cases h : (s.weir w).sampled with
    | none => rfl
    | some t => exact decide_eq_false (Nat.not_le.mpr (hs t h))
  have hy : (s.setWeir w { s.weir w with x := x, sampled := some s.sampleTick }).weir w =
      { s.weir w with x := x, sampled := some s.sampleTick } := by rw [State.weir_setWeir, if_pos rfl]
  have he : s.sampleWeir w x = (s.setWeir w { s.weir w with x := x, sampled := some s.sampleTick }).enterWeir w
      (moveWeir (s.wlo w) (s.whi w) (s.whys w) (s.weir w).st x) := by
    rw [State.sampleWeir]
    simp only [hf, hm, hlate, hnew, bne_self_eq_false, Bool.not_true, Bool.or_self, Bool.false_eq_true, if_false]
    rw [State.evalWeir, hy]
    rfl
  exact ⟨_, congrArg finish he, WeirOnly.enters _ (.setWeir _) hy⟩

theorem thresholdHoldEnd_completes (hh : (s.weir w).hold = true) (hp : s.weirPowered w = true) (hst : (s.weir w).st ≠ 0)
    (ht : (s.weir w).test = none) (hm : field (s.wcfg w) 10 2 ≠ 3) :
    Completes (.thresholdHoldEnd w x) s (fun u =>
      u.weir w = { s.weir w with x := x, hold := false,
                                 st := moveWeir (s.wlo w) (s.whi w) (s.whys w) (s.weir w).st x } ∧
      OffUnit State.weir w s u ∧ OffPages [Page.trip, Page.pls] s u ∧
      u = { s with regs := u.regs, w1set := u.w1set, weirs := u.weirs, pulses := u.pulses, evq := u.evq }) := by
  have hx : (s.setWeirX w x).weir w = { s.weir w with x := x } := by rw [State.setWeirX, State.weir_setWeir, if_pos rfl]
  have hy : ((s.setWeirX w x).setWeir w { (s.setWeirX w x).weir w with hold := false }).weir w =
      { s.weir w with x := x, hold := false } := by rw [State.weir_setWeir, if_pos rfl, hx]
  have hfree : ((s.setWeirX w x).setWeir w { (s.setWeirX w x).weir w with hold := false }).weirFree w = true :=
    (State.weirFree_setWeir (s.setWeirX w x) w _).mpr ⟨hp, by rw [hx]; exact hst, rfl, by rw [hx]; exact ht⟩
  have hmode : (field (((s.setWeirX w x).setWeir w { (s.setWeirX w x).weir w with hold := false }).wcfg w) 10 2 != 3) = true :=
    bne_iff_ne.mpr hm
  have hheld : (!((s.setWeirX w x).weir w).hold) = false := by rw [hx, hh]; rfl
  have he : s.endHold w x = ((s.setWeirX w x).setWeir w { (s.setWeirX w x).weir w with hold := false }).enterWeir w
      (moveWeir (s.wlo w) (s.whi w) (s.whys w) (s.weir w).st x) := by
    rw [State.endHold, hheld]
    simp only [Bool.false_eq_true, if_false]
    rw [hfree, hmode, Bool.and_self, State.onlyIf_true, State.evalWeir, hy]
    rfl
  exact ⟨_, congrArg finish he, WeirOnly.enters _ ((WeirOnly.setWeir _).trans (.setWeir _)) hy⟩

end Moves

/-! ### Writes of WCFG, WTHR and WHYS (R199, R201, R202) -/

section Writes
variable {s : State} {req : Req} {w : Fin 16} (v : Word)

theorem lockableAt_wcfg (w : Fin 16) : lockableAt (Reg.weirWcfg (w / 8) (w % 8)) (Page.weir (w / 8)) (0x040 + 32 * (w % 8))
    .weir (w / 8) (w % 8) 0x7FFF = true := by decide +revert
theorem lockableAt_wthr (w : Fin 16) : lockableAt (Reg.weirWthr (w / 8) (w % 8)) (Page.weir (w / 8)) (0x044 + 32 * (w % 8))
    .weir (w / 8) (w % 8) 0xFFF0FFF = true := by decide +revert
theorem lockableAt_whys (w : Fin 16) : lockableAt (Reg.weirWhys (w / 8) (w % 8)) (Page.weir (w / 8)) (0x048 + 32 * (w % 8))
    .weir (w / 8) (w % 8) 0xFF = true := by decide +revert

theorem State.writeBlock_wcfg (s : State) (r a : Nat) (w : Fin 16) (x : Word) :
    s.writeBlock r .weir (w / 8) (0x040 + 32 * (w % 8)) (w % 8) a x = s.writeWcfg w x := by fin_cases w <;> rfl
theorem State.writeBlock_wthr (s : State) (r a : Nat) (w : Fin 16) (x : Word) :
    s.writeBlock r .weir (w / 8) (0x044 + 32 * (w % 8)) (w % 8) a x = s.writeWthr w false x := by fin_cases w <;> rfl
theorem State.writeBlock_whys (s : State) (r a : Nat) (w : Fin 16) (x : Word) :
    s.writeBlock r .weir (w / 8) (0x048 + 32 * (w % 8)) (w % 8) a x = s.writeWthr w true x := by fin_cases w <;> rfl

theorem weirWcfg_page (w : Fin 16) : Reg.weirWcfg (w / 8) (w % 8) / 1024 ∈ [Page.weir (w / 8), Page.trip, Page.pls] := by
  decide +revert
theorem weirPage_apart (w : Fin 16) :
    ∀ a ∈ [Reg.weirWcfg (w / 8) (w % 8), Reg.weirPtres (w / 8) (w % 8), Reg.hdrIraw (Page.weir (w / 8))],
      a / 1024 ∉ sluicePages := by decide +revert

/-! WCFG -/

theorem State.invalidWeir_weir (s : State) (w : Nat) : (s.invalidWeir w).weir w = { s.weir w with
    st := 0, hold := false, test := (s.weir w).test.map (fun t => { t with aborted := true }) } := by
  rw [State.invalidWeir, State.weir_setWeir, if_pos rfl, State.enterWeir_weir]

theorem State.invalidWeir_only (s : State) (w : Nat) : WeirOnly w sluicePages s (s.invalidWeir w) :=
  (State.enterWeir_only s w 0).trans (.setWeir _)

theorem State.writeWcfg_takes (hl : s.locked (Page.weir (w / 8)) = false) (ht : field v 7 3 ≤ 4) :
    s.writeWcfg w (v &&& 0x7FFF) = ((s.wr (Reg.weirWcfg (w / 8) (w % 8)) (v &&& 0x7FFF)).onlyIf
      (field (s.wcfg w) 0 12 != field v 0 12) (·.invalidWeir w)).checkTrips := by
  have hv : v &&& 0x7FFF &&& 0x7FFF = v &&& 0x7FFF := by rw [BitVec.and_assoc, BitVec.and_self]
  have ht' : ¬ 4 < field (v &&& 0x7FFF) 7 3 := by rw [field_and_mask _ _ _ _ (by decide)]; omega
  have hf : field (v &&& 0x7FFF) 0 12 = field v 0 12 := field_and_mask _ _ _ _ (by decide)
  simp only [State.writeWcfg, hl, hv, hf, if_neg ht', Bool.false_eq_true, if_false]

theorem State.writeWcfg_refused (hl : s.locked (Page.weir (w / 8)) = false) (ht : 4 < field v 7 3) :
    s.writeWcfg w (v &&& 0x7FFF) = s.raise (Page.weir (w / 8)) 24 := by
  have hv : v &&& 0x7FFF &&& 0x7FFF = v &&& 0x7FFF := by rw [BitVec.and_assoc, BitVec.and_self]
  have ht' : 4 < field (v &&& 0x7FFF) 7 3 := by rwa [field_and_mask _ _ _ _ (by decide)]
  simp only [State.writeWcfg, hl, hv, if_pos ht', Bool.false_eq_true, if_false, State.weirRefuse]

variable (hr : s.reaches req (Page.weir (w / 8)) = true) (hl : s.lockedFor (Page.weir (w / 8)) = false)
include hr hl

theorem wcfgWrite_completes (ht : field v 7 3 ≤ 4) :
    Completes (.wcfgWrite req w v) s (fun u =>
      u.wcfg w = v &&& 0x7FFF ∧
      (field (s.wcfg w) 0 12 ≠ field v 0 12 → (u.weir w).st = 0 ∧ (u.weir w).hold = false ∧
        (∀ t ∈ (u.weir w).test, t.aborted = true)) ∧
      (field (s.wcfg w) 0 12 = field v 0 12 → u.weirs = s.weirs) ∧
      OffUnit State.weir w s u ∧ OffPages [Page.weir (w / 8), Page.trip, Page.pls] s u ∧
      u = { s with regs := u.regs, w1set := u.w1set, weirs := u.weirs, pulses := u.pulses, evq := u.evq }) := by
  have he := State.writeWcfg_takes v (State.locked_of_lockedFor hl) ht
  have hi : WeirOnly w sluicePages (s.wr (Reg.weirWcfg (w / 8) (w % 8)) (v &&& 0x7FFF)) (s.writeWcfg w (v &&& 0x7FFF)) := by
    rw [he]
    exact (WeirOnly.onlyIf fun _ => State.invalidWeir_only ..).trans (.of_sluice (State.checkTrips_only _))
  have ho : WeirOnly w [Page.weir (w / 8), Page.trip, Page.pls] s (s.writeWcfg w (v &&& 0x7FFF)) :=
    (WeirOnly.of_sluice (.wr (weirWcfg_page w) _)).trans (hi.mono (List.subset_cons_self _ _))
  refine ⟨_, congrArg finish (State.reqWrite_lockable v (lockableAt_wcfg w) hr hl (State.writeBlock_wcfg ..)
    ho.pwr ho.host), ?_, fun hc => ?_, fun hc => ?_, ho.unit, ho.regs, ho.rest⟩
  · rw [State.wcfg, hi.regs _ (weirPage_apart w _ (by simp)), State.rd_wr, if_pos rfl]
  · rw [he, bne_iff_ne.mpr hc, State.onlyIf_true, State.weir_checkTrips, State.invalidWeir_weir]
    refine ⟨rfl, rfl, fun t ht => ?_⟩
    obtain ⟨t', -, rfl⟩ := Option.mem_map.mp ht
    rfl
  · rw [he, hc, bne_self_eq_false, State.onlyIf_false, (State.checkTrips_only _).weirs, State.wr_weirs]

theorem wcfgWrite_refused (ht : 4 < field v 7 3) :
    Completes (.wcfgWrite req w v) s (fun u => u = s.raise (Page.weir (w / 8)) 24) :=
  ⟨_, congrArg finish (State.reqWrite_lockable v (lockableAt_wcfg w) hr hl ((State.writeBlock_wcfg ..).trans
    (State.writeWcfg_refused v (State.locked_of_lockedFor hl) ht)) rfl rfl), rfl⟩

/-! WTHR and WHYS -/

omit hr hl in
theorem sfield_and_mask (m : Word) (lo n : Nat) (h : ∀ i < n, m.getLsbD (lo + i) = true) :
    sfield (v &&& m) lo n = sfield v lo n := by rw [sfield, field_and_mask _ _ _ _ h, sfield]

omit hr in
/-- The thresholds of a WTHR write are ordered, with room for the hysteresis. -/
theorem State.writeWthr_takes (h : s.whys w < sfield v 16 12 - sfield v 0 12) :
    s.writeWthr w false (v &&& 0xFFF0FFF) =
      (s.wr (Reg.weirWthr (w / 8) (w % 8)) (v &&& 0x0FFF0FFF)).holdWeir w := by
  have hlo : sfield (v &&& 0xFFF0FFF) 0 12 = sfield v 0 12 := sfield_and_mask _ _ _ _ (by decide)
  have hhi : sfield (v &&& 0xFFF0FFF) 16 12 = sfield v 16 12 := sfield_and_mask _ _ _ _ (by decide)
  have hn : ¬ sfield v 16 12 - sfield v 0 12 ≤ s.whys w := by omega
  simp only [State.writeWthr, hlo, hhi, State.locked_of_lockedFor hl, Bool.false_eq_true, if_false, if_neg hn,
    BitVec.and_assoc, BitVec.and_self]

omit hr in
theorem State.writeWthr_refused (h : sfield v 16 12 - sfield v 0 12 ≤ s.whys w) :
    s.writeWthr w false (v &&& 0xFFF0FFF) = s.raise (Page.weir (w / 8)) 24 := by
  have hlo : sfield (v &&& 0xFFF0FFF) 0 12 = sfield v 0 12 := sfield_and_mask _ _ _ _ (by decide)
  have hhi : sfield (v &&& 0xFFF0FFF) 16 12 = sfield v 16 12 := sfield_and_mask _ _ _ _ (by decide)
  simp only [State.writeWthr, hlo, hhi, State.locked_of_lockedFor hl, Bool.false_eq_true, if_false, if_pos h, State.weirRefuse]

omit hr in
/-- The hysteresis of a WHYS write fits between the thresholds. -/
theorem State.writeWhys_takes (h : (field v 0 8 : Int) < s.whi w - s.wlo w) :
    s.writeWthr w true (v &&& 0xFF) = (s.wr (Reg.weirWhys (w / 8) (w % 8)) (v &&& 0xFF)).holdWeir w := by
  have hf : field (v &&& 0xFF) 0 8 = field v 0 8 := field_and_mask _ _ _ _ (by decide)
  have hn : ¬ s.whi w - s.wlo w ≤ (field v 0 8 : Int) := by omega
  simp only [State.writeWthr, hf, State.locked_of_lockedFor hl, Bool.false_eq_true, if_false, if_true, if_neg hn,
    BitVec.and_assoc, BitVec.and_self]

omit hr hl in
/-- A VALID weir that is not under test holds (R202). -/
theorem State.holdWeir_holds {t : State} (ht : (t.weir w).test = none) (hst : (t.weir w).st ≠ 0) :
    t.holdWeir w = t.setWeir w { t.weir w with hold := true } := by
  simp only [State.holdWeir, ht, if_neg hst]

omit hr hl in
/-- Under test the hold waits for the end (R211). -/
theorem State.holdWeir_waits {t : State} {p : ProofSt} (ht : (t.weir w).test = some p) :
    t.holdWeir w = t.setWeir w { t.weir w with test := some { p with reload := true } } := by
  simp only [State.holdWeir, ht]

theorem wthrWrite_holds (h : s.whys w < sfield v 16 12 - sfield v 0 12) (ht : (s.weir w).test = none)
    (hst : (s.weir w).st ≠ 0) :
    Completes (.wthrWrite req w false v) s (fun u =>
      u = (s.wr (Reg.weirWthr (w / 8) (w % 8)) (v &&& 0x0FFF0FFF)).setWeir w { s.weir w with hold := true }) :=
  ⟨_, congrArg finish (State.reqWrite_lockable v (lockableAt_wthr w) hr hl ((State.writeBlock_wthr ..).trans
    ((State.writeWthr_takes v hl h).trans (State.holdWeir_holds ht hst))) rfl rfl), rfl⟩

theorem wthrWrite_waits {t : ProofSt} (h : s.whys w < sfield v 16 12 - sfield v 0 12) (ht : (s.weir w).test = some t) :
    Completes (.wthrWrite req w false v) s (fun u =>
      u = (s.wr (Reg.weirWthr (w / 8) (w % 8)) (v &&& 0x0FFF0FFF)).setWeir w
            { s.weir w with test := some { t with reload := true } }) :=
  ⟨_, congrArg finish (State.reqWrite_lockable v (lockableAt_wthr w) hr hl ((State.writeBlock_wthr ..).trans
    ((State.writeWthr_takes v hl h).trans (State.holdWeir_waits ht))) rfl rfl), rfl⟩

theorem wthrWrite_refused (h : sfield v 16 12 - sfield v 0 12 ≤ s.whys w) :
    Completes (.wthrWrite req w false v) s (fun u => u = s.raise (Page.weir (w / 8)) 24) :=
  ⟨_, congrArg finish (State.reqWrite_lockable v (lockableAt_wthr w) hr hl ((State.writeBlock_wthr ..).trans
    (State.writeWthr_refused v hl h)) rfl rfl), rfl⟩

theorem whysWrite_holds (h : (field v 0 8 : Int) < s.whi w - s.wlo w) (ht : (s.weir w).test = none)
    (hst : (s.weir w).st ≠ 0) :
    Completes (.wthrWrite req w true v) s (fun u =>
      u = (s.wr (Reg.weirWhys (w / 8) (w % 8)) (v &&& 0xFF)).setWeir w { s.weir w with hold := true }) :=
  ⟨_, congrArg finish (State.reqWrite_lockable v (lockableAt_whys w) hr hl ((State.writeBlock_whys ..).trans
    ((State.writeWhys_takes v hl h).trans (State.holdWeir_holds ht hst))) rfl rfl), rfl⟩

end Writes

/-- Settles O10, command by command. -/
theorem weirs : Obligations.Weirs := by
  unfold Obligations.Weirs
  intro s w x
  refine ⟨weirCrossing_completes s w x, weirValid_completes s w x, weirSample_completes s w x,
    thresholdHoldEnd_completes s w x, fun req v hr hl => ⟨wcfgWrite_completes v hr hl, wcfgWrite_refused v hr hl,
      wthrWrite_holds v hr hl, fun t h ht => wthrWrite_waits v hr hl h ht, wthrWrite_refused v hr hl,
      whysWrite_holds v hr hl⟩⟩

end Sys2Proof.Machine
end

section
/-! Proof tests of weirs: the start, a step's end and the end of the restore (06 R209-R212). -/

namespace Sys2Proof.Machine

/-! ### The result register -/

/-- PTRES of weir `w` of the part. -/
abbrev ptres (w : Nat) : Nat := Reg.weirPtres (w / 8) (w % 8)

/-- Two registers with the same bits in a field have the same field. -/
theorem field_congr {v v' : Word} {lo n : Nat} (h : ∀ i < n, bitOf v (lo + i) = bitOf v' (lo + i)) :
    field v lo n = field v' lo n := by
  refine Nat.eq_of_testBit_eq fun i => ?_
  rw [testBit_field, testBit_field]
  by_cases hi : i < n
  · rw [h i hi]
  · simp [hi]

theorem ptres_page (w : Fin 16) : ptres w / 1024 = Page.weir (w / 8) := by decide +revert
theorem ptres_ne_iraw (w : Fin 16) : ptres w ≠ Reg.hdrIraw (Page.weir (w / 8)) := by decide +revert

/-! ### The next step of a test (R209) -/

/-- The test is at a step from `lo` on; of PTRES only NOTRUN, bits 3 to 6, changed, and nothing else did but the weir's
test. -/
structure TestGoes (w : Nat) (t : ProofSt) (lo : Nat) (s u : State) : Prop where
  weir : ∃ k, lo ≤ k ∧ u.weir w = { s.weir w with test := some { t with step := k, since := s.time.fab } }
  bits : ∀ i < 32, i < 3 ∨ 7 ≤ i → u.rb (ptres w) i = s.rb (ptres w) i
  frame : WeirOnly w [ptres w / 1024] s u
  pulses : u.pulses = s.pulses
  evq : u.evq = s.evq

theorem TestGoes.stops {s : State} {w : Nat} {t : ProofSt} {lo k : Nat} (h : lo ≤ k) :
    TestGoes w t lo s (s.setWeir w { s.weir w with test := some { t with step := k, since := s.time.fab } }) where
  weir := ⟨k, h, by rw [State.weir_setWeir, if_pos rfl]⟩
  bits _ _ _ := rfl
  frame := .setWeir _
  pulses := rfl
  evq := rfl

/-- A step that is not run sets its NOTRUN bit, and the test goes on. -/
theorem TestGoes.skips {s u : State} {w : Nat} {t : ProofSt} {step : Nat} (hs : step < 4)
    (h : TestGoes w t (step + 1) (s.setb (ptres w) (3 + step) true) u) : TestGoes w t step s u where
  weir := by
    obtain ⟨k, hk, e⟩ := h.weir
    exact ⟨k, by omega, e⟩
  bits i hi ho := by rw [h.bits i hi ho, State.rb_setb _ _ _ _ _ _ hi, if_neg (by omega)]
  frame := (WeirOnly.of_sluice (.setb (by simp) true)).trans h.frame
  pulses := h.pulses
  evq := h.evq

theorem State.proofGoto_goes (w : Nat) (t : ProofSt) :
    ∀ (fuel : Nat) (s : State) (step : Nat), step ≤ 4 → TestGoes w t step s (s.proofGoto w t step fuel)
  | 0, _, _, h => .stops h
  | fuel + 1, s, step, h => by
    unfold State.proofGoto
    split
    · exact .stops h
    · next hs =>
      split
      · exact .stops (Nat.le_refl _)
      · have hlt : step < 4 := by
          simp only [Bool.or_eq_true, decide_eq_true_eq, not_or] at hs
          omega
        exact .skips hlt (State.proofGoto_goes w t fuel _ _ hlt)

/-! ### The start of a test (R209, R211) -/

section Start
variable {s : State} {req : Req} {w : Fin 16}

/-- A test as it starts: the state by direct comparison, the thresholds in the DACs, and a hold to be taken up at the end. -/
def State.proofStart (s : State) (w : Nat) (tie : Bool) : ProofSt :=
  { step := 0, tie := tie, start := compareWeir (s.wlo w) (s.whi w) (s.weir w).x, lo := s.wlo w, hi := s.whi w,
    hys := s.whys w, reload := (s.weir w).hold }

theorem State.startTest_runs {swap tie : Bool} (hn : (s.weir w).test = none) (hst : (s.weir w).st ≠ 0)
    (h : (swap || tie) = true) : s.startTest w swap tie =
      ((s.setWeir w { s.weir w with hold := false }).wr (ptres w) 1).proofGoto w (s.proofStart w tie)
        (if swap then 0 else 1) 5 := by
  simp [State.startTest, hn, hst, h, State.proofStart]

/-- A PTEST write to a weir that is not VALID ends ABORTED at once. -/
theorem State.startTest_aborts {swap tie : Bool} (hn : (s.weir w).test = none) (hst : (s.weir w).st = 0)
    (h : (swap || tie) = true) :
    s.startTest w swap tie = (s.wr (ptres w) 6).raise (Page.weir (w / 8)) (8 + w % 8) := by
  simp [State.startTest, hn, hst, h]

/-- A test that starts. -/
theorem State.startTest_effect {swap tie : Bool} (hn : (s.weir w).test = none) (hst : (s.weir w).st ≠ 0)
    (h : (swap || tie) = true) {u : State} (hu : s.startTest w swap tie = u) :
    u.rf (ptres w) 0 3 = 1 ∧ (u.weir w).test.isSome = true ∧ (u.weir w).hold = false ∧
      (∀ t ∈ (u.weir w).test, (if swap then 0 else 1) ≤ t.step ∧ t.tie = tie ∧ t.failed = false ∧
        t.start = compareWeir (s.wlo w) (s.whi w) (s.weir w).x) ∧
      OffUnit State.weir w s u ∧ OffPages [Page.weir (w / 8)] s u ∧
      u = { s with regs := u.regs, w1set := u.w1set, weirs := u.weirs } := by
  have hg := State.proofGoto_goes w (s.proofStart w tie) 5 ((s.setWeir w { s.weir w with hold := false }).wr (ptres w) 1)
    (if swap then 0 else 1) (by split <;> omega)
  rw [← State.startTest_runs hn hst h, hu] at hg
  obtain ⟨k, hk, hw⟩ := hg.weir
  have ho : WeirOnly w [ptres w / 1024] s u :=
    (WeirOnly.setWeir _).trans ((WeirOnly.of_sluice (.wr (by simp) _)).trans hg.frame)
  have hres : u.rf (ptres w) 0 3 = field 1 0 3 := field_congr fun i hi => by
    rw [← State.rb, hg.bits _ (by omega) (by omega), State.rb, State.rd_wr, if_pos rfl]
  rw [ptres_page] at ho
  refine ⟨hres, by rw [hw]; rfl, by rw [hw]; simp, fun t ht => ?_, ho.unit, ho.regs, ho.rest_local hg.pulses hg.evq⟩
  rw [hw, Option.mem_some_iff] at ht
  subst ht
  exact ⟨hk, rfl, rfl, rfl⟩

theorem writableAt_ptest (w : Fin 16) : writableAt (Reg.weirPtest (w / 8) (w % 8)) (Page.weir (w / 8)) (0x054 + 32 * (w % 8))
    .weir (w / 8) (w % 8) 0x3 = true := by decide +revert

theorem State.writeBlock_ptest (s : State) (r a : Nat) (w : Fin 16) (x : Word) :
    s.writeBlock r .weir (w / 8) (0x054 + 32 * (w % 8)) (w % 8) a x = s.startTest w (bitOf x 0) (bitOf x 1) := by
  fin_cases w <;> rfl

variable (hr : s.reaches req (Page.weir (w / 8)) = true) (hn : (s.weir w).test = none)
include hr hn

/-- A PTEST write that starts a test of a VALID weir. -/
theorem State.reqWrite_ptest {v : Word} {swap tie : Bool} (h0 : bitOf (v &&& 0x3) 0 = swap) (h1 : bitOf (v &&& 0x3) 1 = tie)
    (h : (swap || tie) = true) (hst : (s.weir w).st ≠ 0) :
    s.reqWrite req (Reg.weirPtest (w / 8) (w % 8)) v = s.startTest w swap tie := by
  obtain ⟨-, -, -, -, -, -, hrest⟩ := State.startTest_effect hn hst h rfl
  exact State.reqWrite_writable (writableAt_ptest w) hr (by rw [State.writeBlock_ptest, h0, h1])
    (by rw [hrest]) (by rw [hrest])

theorem swap_completes (hst : (s.weir w).st ≠ 0) (tie : Bool) :
    Completes (.swap req w tie) s (fun u =>
      u.rf (Reg.weirPtres (w / 8) (w % 8)) 0 3 = 1 ∧ (u.weir w).test.isSome = true ∧ (u.weir w).hold = false ∧
      (∀ t ∈ (u.weir w).test, t.tie = tie ∧ t.failed = false ∧ t.start = compareWeir (s.wlo w) (s.whi w) (s.weir w).x) ∧
      OffUnit State.weir w s u ∧ OffPages [Page.weir (w / 8)] s u ∧
      u = { s with regs := u.regs, w1set := u.w1set, weirs := u.weirs }) := by
  obtain ⟨hres, hrun, hhold, htest, hrest⟩ := State.startTest_effect (swap := true) (tie := tie) hn hst rfl rfl
  refine ⟨_, congrArg finish (State.reqWrite_ptest hr hn (swap := true) (tie := tie) ?_ ?_ rfl hst), hres, hrun, hhold,
    fun t ht => (htest t ht).2, hrest⟩ <;> cases tie <;> decide

theorem tie_completes (hst : (s.weir w).st ≠ 0) :
    Completes (.tie req w) s (fun u =>
      u.rf (Reg.weirPtres (w / 8) (w % 8)) 0 3 = 1 ∧ (u.weir w).test.isSome = true ∧ (u.weir w).hold = false ∧
      (∀ t ∈ (u.weir w).test, t.tie = true ∧ t.failed = false ∧ 1 ≤ t.step) ∧
      OffUnit State.weir w s u ∧ OffPages [Page.weir (w / 8)] s u ∧
      u = { s with regs := u.regs, w1set := u.w1set, weirs := u.weirs }) := by
  obtain ⟨hres, hrun, hhold, htest, hrest⟩ := State.startTest_effect (swap := false) (tie := true) hn hst rfl rfl
  refine ⟨_, congrArg finish (State.reqWrite_ptest hr hn (swap := false) (tie := true) (by decide) (by decide) rfl hst), hres,
    hrun, hhold, fun t ht => ?_, hrest⟩
  obtain ⟨hstep, htie, hfail, -⟩ := htest t ht
  exact ⟨htie, hfail, hstep⟩

theorem swap_aborts (hst : (s.weir w).st = 0) (tie : Bool) :
    Completes (.swap req w tie) s (fun u =>
      u = (s.wr (Reg.weirPtres (w / 8) (w % 8)) 6).raise (Page.weir (w / 8)) (8 + w % 8)) := by
  have h0 : bitOf ((if tie then 3 else 1) &&& 0x3 : Word) 0 = true := by cases tie <;> decide
  have he : s.writeBlock req.index .weir (w / 8) (0x054 + 32 * (w % 8)) (w % 8) (Reg.weirPtest (w / 8) (w % 8))
      ((if tie then 3 else 1) &&& 0x3) = (s.wr (ptres w) 6).raise (Page.weir (w / 8)) (8 + w % 8) := by
    rw [State.writeBlock_ptest, h0]
    exact State.startTest_aborts hn hst rfl
  have ho : SluiceOnly [Page.weir (w / 8)] s ((s.wr (ptres w) 6).raise (Page.weir (w / 8)) (8 + w % 8)) :=
    (SluiceOnly.wr (by simp [ptres_page]) _).trans (.raise (by simp))
  exact ⟨_, congrArg finish (State.reqWrite_writable (writableAt_ptest w) hr he ho.pwr ho.host), rfl⟩

end Start

/-! ### The end of a step (R209) -/

section Step
variable {s : State} {w : Fin 16} {t : ProofSt}

theorem State.endStep_eq (ht : (s.weir w).test = some t) (hs : t.step < 4) (hd : t.since + s.dwell w ≤ s.time.fab) (obs : Nat) :
    s.endStep w obs = (s.setf (ptres w) (8 + 2 * t.step) 2 obs).proofGoto w
      { t with failed := t.failed || obs != t.expects } (t.step + 1) 5 := by
  have hc : (decide (t.step = 4) || !s.dwelt w t) = false := by
    rw [State.dwelt, decide_eq_true hd, decide_eq_false (by omega)]
    rfl
  simp only [State.endStep, ht]
  rw [if_neg (by simpa using hc)]

theorem proofStepEnd_completes (obs : Fin 3) (ht : (s.weir w).test = some t) (hs : t.step < 4)
    (hd : t.since + s.dwell w ≤ s.time.fab) :
    Completes (.proofStepEnd w obs) s (fun u =>
      u.rf (Reg.weirPtres (w / 8) (w % 8)) (8 + 2 * t.step) 2 = obs + 1 ∧ (u.weir w).test.isSome = true ∧
      (∀ t' ∈ (u.weir w).test, t.step < t'.step ∧ t'.failed = (t.failed || obs.val + 1 != t.expects)) ∧
      (u.weir w).st = (s.weir w).st ∧ OffUnit State.weir w s u ∧ OffPages [Page.weir (w / 8)] s u ∧
      u = { s with regs := u.regs, w1set := u.w1set, weirs := u.weirs }) := by
  have hg := State.proofGoto_goes w { t with failed := t.failed || obs.val + 1 != t.expects } 5
    (s.setf (ptres w) (8 + 2 * t.step) 2 (obs.val + 1)) (t.step + 1) (by omega)
  have he := State.endStep_eq ht hs hd (obs.val + 1)
  rw [← he] at hg
  obtain ⟨k, hk, hw⟩ := hg.weir
  have ho : WeirOnly w [ptres w / 1024] s (s.endStep w (obs.val + 1)) := (WeirOnly.of_sluice (.setf (by simp))).trans hg.frame
  have hres : (s.endStep w (obs.val + 1)).rf (ptres w) (8 + 2 * t.step) 2 = obs.val + 1 := by
    have hf := State.rf_setf_same s (ptres w) (8 + 2 * t.step) 2 (obs.val + 1) (by omega)
    rw [Nat.mod_eq_of_lt (by omega)] at hf
    exact (field_congr fun i hi => hg.bits (8 + 2 * t.step + i) (by omega) (by omega)).trans hf
  have hsame : (s.setf (ptres w) (8 + 2 * t.step) 2 (obs.val + 1)).weir w = s.weir w := State.weir_wr ..
  rw [ptres_page] at ho
  rw [hsame] at hw
  refine ⟨s.endStep w (obs.val + 1), rfl, hres, by rw [hw]; rfl, fun t' ht' => ?_, by rw [hw], ho.unit, ho.regs,
    ho.rest_local hg.pulses hg.evq⟩
  rw [hw, Option.mem_some_iff] at ht'
  subst ht'
  exact ⟨hk, rfl⟩

end Step

/-! ### The end of the restore (R210, R211) -/

section Restore
variable (s : State) (w : Fin 16) (t : ProofSt) (x : Int)

/-- RESULT of a test: passed, failed or aborted. -/
def ProofSt.result (t : ProofSt) : Nat := if t.aborted then 3 else if t.failed then 2 else 1

/-- The result and its interrupts. -/
def State.reportTest (s : State) (w : Nat) (t : ProofSt) : State :=
  ((s.setf (ptres w) 0 3 (2 * t.result)).raise (Page.weir (w / 8)) (8 + w % 8)).onlyIf (t.result == 2)
    (·.raise (Page.weir (w / 8)) (16 + w % 8))

/-- The test is over; a hold asked for during it begins. -/
def State.freeWeir (s : State) (w : Nat) (t : ProofSt) : State :=
  s.setWeir w { s.weir w with test := none, hold := t.reload && (s.weir w).st != 0 }

theorem State.endTest_eq {s : State} {w : Fin 16} {t : ProofSt} (ht : (s.weir w).test = some t) (hs : t.step = 4)
    (hd : t.since + s.dwell w ≤ s.time.fab) : s.endTest w x =
      let u := ((s.setWeirX w x).reportTest w t).freeWeir w t
      u.onlyIf (u.weirFree w && field (u.wcfg w) 10 2 != 3) (·.evalWeir w) := by
  have hx : ((s.setWeirX w x).weir w).test = some t := by rw [State.setWeirX, State.weir_setWeir, if_pos rfl]; exact ht
  have hc : (t.step != 4 || !(s.setWeirX w x).dwelt w t) = false := by
    have hd' : (s.setWeirX w x).dwelt w t = true := decide_eq_true hd
    rw [hd', hs]
    rfl
  simp only [State.endTest, hx]
  rw [if_neg (by rw [hc]; decide)]
  rfl

theorem ProofSt.result_lt (t : ProofSt) : 2 * t.result < 2 ^ 3 := by
  unfold ProofSt.result
  split_ifs <;> decide

theorem State.reportTest_only : SluiceOnly [Page.weir (w / 8)] s (s.reportTest w t) :=
  (SluiceOnly.setf (by simp [ptres_page])).trans ((SluiceOnly.raise (by simp)).trans (.onlyIf fun _ => .raise (by simp)))

/-- PTRES and IRAW of the page are all that a report writes. -/
theorem State.reportTest_offRegs : OffRegs [ptres w, Reg.hdrIraw (Page.weir (w / 8))] s (s.reportTest w t) := by
  intro a ha
  simp only [List.mem_cons, List.not_mem_nil, or_false, not_or] at ha
  rw [State.reportTest, State.onlyIf]
  split
  · rw [State.rd_raise, if_neg ha.2, State.rd_raise, if_neg ha.2, State.rd_setf, if_neg ha.1]
  · rw [State.rd_raise, if_neg ha.2, State.rd_setf, if_neg ha.1]

theorem State.reportTest_result : (s.reportTest w t).rf (ptres w) 0 3 = 2 * t.result := by
  have hne := ptres_ne_iraw w
  have hf := State.rf_setf_same s (ptres w) 0 3 (2 * t.result) (by decide)
  rw [Nat.mod_eq_of_lt t.result_lt] at hf
  rw [← hf, State.rf, State.reportTest, State.onlyIf]
  split
  · rw [State.rd_raise, if_neg hne, State.rd_raise, if_neg hne, State.rf]
  · rw [State.rd_raise, if_neg hne, State.rf]

theorem State.rb_raise (s : State) (page b i : Nat) (hi : i < 32) :
    (s.raise page b).rb (Reg.hdrIraw page) i = if i = b then true else s.rb (Reg.hdrIraw page) i := by
  rw [State.rb, State.rd_raise, if_pos rfl, bitOf_putBit _ _ _ _ hi, State.rb]

theorem State.reportTest_raises : (s.reportTest w t).rb (Reg.hdrIraw (Page.weir (w / 8))) (8 + w % 8) = true := by
  rw [State.reportTest, State.onlyIf]
  split
  · rw [State.rb_raise _ _ _ _ (by omega), if_neg (by omega)]
    exact State.rb_raise_same _ _ _ (by omega)
  · exact State.rb_raise_same _ _ _ (by omega)

/-- A test that failed sets PTFAIL. -/
theorem State.reportTest_fails (hf : t.failed = true) (ha : t.aborted = false) :
    (s.reportTest w t).rb (Reg.hdrIraw (Page.weir (w / 8))) (16 + w % 8) = true := by
  have hres : (t.result == 2) = true := by simp [ProofSt.result, hf, ha]
  rw [State.reportTest, hres, State.onlyIf_true]
  exact State.rb_raise_same _ _ _ (by omega)

/-- Registers that set how a weir moves. -/
abbrev weirSettings (w : Nat) : List Nat :=
  [Reg.weirWcfg (w / 8) (w % 8), Reg.weirWthr (w / 8) (w % 8), Reg.weirWhys (w / 8) (w % 8), Reg.weirHibsel 0]

theorem weirSettings_apart (w : Fin 16) :
    ∀ a ∈ weirSettings w, a ∉ [ptres w, Reg.hdrIraw (Page.weir (w / 8))] := by decide +revert

theorem State.weirSettings_congr {s u : State} {w : Nat} (h : ∀ a ∈ weirSettings w, u.rd a = s.rd a) (hp : u.pwr = s.pwr) :
    u.wcfg w = s.wcfg w ∧ u.wlo w = s.wlo w ∧ u.whi w = s.whi w ∧ u.whys w = s.whys w ∧
      u.weirPowered w = s.weirPowered w := by
  obtain ⟨hcfg, hthr, hhys, hhib⟩ :
      u.rd (Reg.weirWcfg (w / 8) (w % 8)) = s.rd (Reg.weirWcfg (w / 8) (w % 8)) ∧
      u.rd (Reg.weirWthr (w / 8) (w % 8)) = s.rd (Reg.weirWthr (w / 8) (w % 8)) ∧
      u.rd (Reg.weirWhys (w / 8) (w % 8)) = s.rd (Reg.weirWhys (w / 8) (w % 8)) ∧
      u.rd (Reg.weirHibsel 0) = s.rd (Reg.weirHibsel 0) := by
    simpa using h
  refine ⟨hcfg, ?_, ?_, ?_, ?_⟩
  · rw [State.wlo, hthr, State.wlo]
  · rw [State.whi, hthr, State.whi]
  · rw [State.whys, State.rf, hhys, State.whys, State.rf]
  · simp only [State.weirPowered, State.wcfg, State.rb, State.rf, hcfg, hhib, hp]

theorem State.weir_freeWeir : (s.freeWeir w t).weir w =
    { s.weir w with test := none, hold := t.reload && (s.weir w).st != 0 } := by
  rw [State.freeWeir, State.weir_setWeir, if_pos rfl]

theorem State.evalWeir_weir : ∃ st, (s.evalWeir w).weir w = { s.weir w with st := st } := ⟨_, State.enterWeir_weir ..⟩

theorem proofTestDone_completes {s : State} {w : Fin 16} {t : ProofSt} (x : Int) (ht : (s.weir w).test = some t)
    (hs : t.step = 4) (hd : t.since + s.dwell w ≤ s.time.fab) :
    Completes (.proofTestDone w x) s (fun u =>
      u.rf (Reg.weirPtres (w / 8) (w % 8)) 0 3 = 2 * (if t.aborted then 3 else if t.failed then 2 else 1) ∧
      u.rb (Reg.hdrIraw (Page.weir (w / 8))) (8 + w % 8) = true ∧
      (t.failed = true → t.aborted = false → u.rb (Reg.hdrIraw (Page.weir (w / 8))) (16 + w % 8) = true) ∧
      (u.weir w).test = none ∧ (u.weir w).x = x ∧
      (s.weirPowered w = true → (s.weir w).st ≠ 0 → t.reload = false → field (s.wcfg w) 10 2 ≠ 3 →
        (u.weir w).st = moveWeir (s.wlo w) (s.whi w) (s.whys w) (s.weir w).st x) ∧
      OffUnit State.weir w s u ∧ OffPages [Page.weir (w / 8), Page.trip, Page.pls] s u ∧
      u = { s with regs := u.regs, w1set := u.w1set, weirs := u.weirs, pulses := u.pulses, evq := u.evq }) := by
  have he := State.endTest_eq x ht hs hd
  have hx : (s.setWeirX w x).weir w = { s.weir w with x := x } := by rw [State.setWeirX, State.weir_setWeir, if_pos rfl]
  have hrep := State.reportTest_only (s.setWeirX w x) w t
  generalize hq : (s.setWeirX w x).reportTest w t = q at he hrep
  have hw : (q.freeWeir w t).weir w = { s.weir w with x := x, test := none, hold := t.reload && (s.weir w).st != 0 } := by
    rw [State.weir_freeWeir, hrep.weir, hx]
  obtain ⟨hcfg, hlo, hhi, hhys, hpow⟩ := State.weirSettings_congr (s := s) (u := q) (w := w)
    (fun a ha => by rw [← hq]; exact State.reportTest_offRegs (s.setWeirX w x) w t a (weirSettings_apart w a ha)) hrep.pwr
  have hlast : WeirOnly w sluicePages (q.freeWeir w t) (s.endTest w x) := by
    rw [he]
    exact .onlyIf fun _ => State.enterWeir_only ..
  have hrd : ∀ a ∈ [Reg.weirWcfg (w / 8) (w % 8), ptres w, Reg.hdrIraw (Page.weir (w / 8))],
      (s.endTest w x).rd a = q.rd a := fun a ha => hlast.regs a (weirPage_apart w a ha)
  have ho : WeirOnly w [Page.weir (w / 8), Page.trip, Page.pls] s (s.endTest w x) :=
    (WeirOnly.setWeir _).trans ((WeirOnly.of_sluice (hrep.mono (by simp))).trans
      ((WeirOnly.setWeir _).trans (hlast.mono (List.subset_cons_self _ _))))
  obtain ⟨st, hst⟩ : ∃ st, (s.endTest w x).weir w = { (q.freeWeir w t).weir w with st := st } := by
    rw [he]
    simp only
    cases (q.freeWeir w t).weirFree w && field ((q.freeWeir w t).wcfg w) 10 2 != 3 with
    | false => exact ⟨((q.freeWeir w t).weir w).st, rfl⟩
    | true => exact State.evalWeir_weir ..
  refine ⟨_, rfl, ?_, ?_, fun hf ha => ?_, ?_, ?_, fun hp hv hr hm => ?_, ho.unit, ho.regs, ho.rest⟩
  · rw [State.rf, hrd _ (by simp), ← hq]
    exact State.reportTest_result ..
  · rw [State.rb, hrd _ (by simp), ← hq]
    exact State.reportTest_raises ..
  · rw [State.rb, hrd _ (by simp), ← hq]
    exact State.reportTest_fails _ _ _ hf ha
  · rw [hst, hw]
  · rw [hst, hw]
  · have hfree : (q.freeWeir w t).weirFree w = true := by
      rw [State.weirFree_iff, hw, hr]
      exact ⟨hpow.trans hp, hv, rfl, rfl⟩
    have hmode : (field ((q.freeWeir w t).wcfg w) 10 2 != 3) = true :=
      bne_iff_ne.mpr (by rw [show (q.freeWeir w t).wcfg w = s.wcfg w from hcfg]; exact hm)
    have hset : (q.freeWeir w t).wlo w = s.wlo w ∧ (q.freeWeir w t).whi w = s.whi w ∧ (q.freeWeir w t).whys w = s.whys w :=
      ⟨hlo, hhi, hhys⟩
    obtain ⟨hlo', hhi', hhys'⟩ := hset
    rw [he]
    simp only [hfree, hmode, Bool.and_self, State.onlyIf_true]
    rw [State.evalWeir, State.enterWeir_weir, hlo', hhi', hhys', hw]

end Restore

/-- Settles O11: the start of a test, the end of a step, and the end of the restore. -/
theorem proofTests : Obligations.ProofTests := by
  unfold Obligations.ProofTests
  intro s w
  exact ⟨fun req hr hn => ⟨swap_completes hr hn, tie_completes hr hn, swap_aborts hr hn⟩,
    fun t obs ht hs hd => proofStepEnd_completes obs ht hs hd, fun t x ht hs hd => proofTestDone_completes x ht hs hd⟩

end Sys2Proof.Machine
end

section
/-! Poll bursts (07 R261, R262): a state in which the window of a POLL is not the BTMO of its burst's descriptor as the POLL finds it.

The statement speaks of every state, and a state may hold a burst of a descriptor beyond the sixteen that a segment has. BTMO of
descriptor 0x1475 of segment 0 would lie at ELWP of the ECC page, which the error of an uncorrectable word of the POLL moves on
before the window opens. No landing opens a burst of a descriptor above 15 (R260). -/

namespace Sys2Proof.Machine

/-- Settling changes no port of a part in RUN that is not on its way to SLEEP. -/
theorem State.settle_ports {s : State} (hr : s.pwr.state = .run) (ht : s.pwr.target = none) : s.settle.ports = s.ports := by
  have hw : s.monWake = s := by
    simp [State.monWake, hr, ht, show (PwrState.run == PwrState.sleep) = false from rfl]
  rw [State.settle, hw, State.noteWaits]
  split <;> rfl

/-- A burst of a descriptor that no segment has. -/
def strayBurst : BurstSt :=
  { number := 0, desc := 0x1475, mask := 0, landed := 0, align := false, opened := none, close := 0, credited := [] }

/-- The POLL of a burst. -/
def strayPoll : TxEntry := { slot := 14, item := .poll 8 }

/-- Segment 0 is to send the POLL of a stray burst, whose first word is uncorrectable. -/
def strayDesc : State :=
  let s := (State.reset.wr (Reg.segSctl 0) 1).setPort 0 { txq := [strayPoll], burst := some strayBurst }
  s.setRaw (Store.segment 0) (txWord 0 14) (3 * 2 ^ 64)

/-- The window opens for the 1 µs that the moved ELWP says. -/
theorem strayDesc_close : ((strayDesc.pollSent 0 0).port 0).burst = some { strayBurst with opened := some 0, close := 1000 } := by
  decide +kernel

/-- Refutes O15: in `strayDesc` the register that BTMO of the burst's descriptor names is 0 when the POLL goes out, and the window
closes 1,000 ns later. -/
theorem not_bursts : ¬ Obligations.Bursts := by
  intro h
  obtain ⟨hsent, -⟩ := h strayDesc 0
  obtain ⟨u, hu, -, hburst, -, -, -, -, -, -, -, hrest⟩ := hsent 0 strayPoll strayBurst (by decide +kernel) (by decide +kernel)
  have hs : (strayDesc.pollSent 0 0).settle = u.settle := by injection hu
  have hr : u.pwr = strayDesc.pwr := by rw [hrest]
  have hp : u.ports = (strayDesc.pollSent 0 0).ports := by
    rw [← State.settle_ports (s := u) (by rw [hr]; rfl) (by rw [hr]; rfl), ← hs,
      State.settle_ports (by decide +kernel) (by decide +kernel)]
  have hclose : (u.port 0).burst = some { strayBurst with opened := some 0, close := 1000 } := by
    rw [State.port, hp]
    exact strayDesc_close
  rw [show ((0 : Fin 16) : Nat) = 0 from rfl, hclose] at hburst
  exact absurd hburst (by decide +kernel)

end Sys2Proof.Machine
end

section
/-! Ports: what an update at a segment or an uplink leaves as it was (07 R230-R266). -/

namespace Sys2Proof.Machine

/-! ### What an update at a port leaves as it was -/

/-- What an update at a port may change beside registers and ports: the notes of IRAW bits set, words of its store, the log of errors,
events under way, alarms posted, the PTP clock's state, the free values used; `far` tells words whose number may lie beyond the store. -/
structure Touch where
  w1set : Bool := false
  words : Bool := false
  errs : Bool := false
  evq : Bool := false
  alarms : Bool := false
  ptp : Bool := false
  free : Bool := false
  far : Bool := false

/-- `u` is `s` but for port `p`, registers of the pages `ps` and what `e` names. -/
structure PortOnly (e : Touch) (p : Nat) (ps : List Nat) (s u : State) : Prop where
  rest : u = { s with
    regs := u.regs, ports := u.ports, w1set := bif e.w1set then u.w1set else s.w1set,
    words := bif e.words then u.words else s.words, errs := bif e.errs then u.errs else s.errs,
    evq := bif e.evq then u.evq else s.evq, alarmPosts := bif e.alarms then u.alarmPosts else s.alarmPosts,
    ptp := bif e.ptp then u.ptp else s.ptp, freeCtr := bif e.free then u.freeCtr else s.freeCtr }
  port : OffUnit State.port p s u
  regs : OffPages ps s u
  stores : e.far = false → OffStores [portStore p] s u

theorem cond_cond_self {α : Type} (b : Bool) (x y z : α) : (bif b then x else bif b then y else z) = bif b then x else z := by
  cases b <;> rfl

theorem cond_same {α : Type} (b : Bool) (x : α) : (bif b then x else x) = x := by cases b <;> rfl

namespace PortOnly
variable {e : Touch} {p : Nat} {ps : List Nat} {s t u : State} {a b n page : Nat}

/-- An update that changes no word but those of the fields that `e` need not name. -/
theorem of_quiet (hr : u = { s with regs := u.regs, ports := u.ports }) (hp : OffUnit State.port p s u) (ho : OffPages ps s u) :
    PortOnly e p ps s u := by
  refine ⟨?_, hp, ho, fun _ st i _ _ => ?_⟩
  · rw [hr]
    simp only [cond_same]
  · rw [hr]
    rfl

theorem refl : PortOnly e p ps s s := of_quiet rfl (fun _ _ => rfl) (fun _ _ => rfl)

theorem trans (h : PortOnly e p ps s t) (h' : PortOnly e p ps t u) : PortOnly e p ps s u := by
  refine ⟨?_, fun j hj => (h'.port j hj).trans (h.port j hj), fun a ha => (h'.regs a ha).trans (h.regs a ha),
    fun hf st i hst hi => (h'.stores hf st i hst hi).trans (h.stores hf st i hst hi)⟩
  have e' := h'.rest
  rw [h.rest] at e'
  simpa only [cond_cond_self] using e'

theorem time (h : PortOnly e p ps s u) : u.time = s.time := by rw [h.rest]
theorem pwr (h : PortOnly e p ps s u) : u.pwr = s.pwr := by rw [h.rest]
theorem host (h : PortOnly e p ps s u) : u.host = s.host := by rw [h.rest]

theorem mono {ps' : List Nat} (h : PortOnly e p ps s u) (hp : ps ⊆ ps') : PortOnly e p ps' s u :=
  ⟨h.rest, h.port, fun a ha => h.regs a fun h' => ha (hp h'), h.stores⟩

theorem setPort (c : PortSt) : PortOnly e p ps s (s.setPort p c) :=
  of_quiet rfl (fun j hj => by rw [State.port_setPort, if_neg hj]) (fun _ _ => rfl)

theorem wr (ha : a / 1024 ∈ ps) (v : Word) : PortOnly e p ps s (s.wr a v) :=
  of_quiet rfl (fun _ _ => rfl) fun c hc => by rw [State.rd_wr, if_neg (by rintro rfl; exact hc ha)]

theorem setb (ha : a / 1024 ∈ ps) (v : Bool) : PortOnly e p ps s (s.setb a b v) := wr ha _
theorem setf {lo x : Nat} (ha : a / 1024 ∈ ps) : PortOnly e p ps s (s.setf a lo n x) := wr ha _
theorem bumpBy (ha : a / 1024 ∈ ps) : PortOnly e p ps s (s.bumpBy a n) := wr ha _
theorem bump (ha : a / 1024 ∈ ps) : PortOnly e p ps s (s.bump a) := wr ha _

theorem noteSet (he : e.w1set = true) (m : Word) : PortOnly e p ps s (s.noteSet a m) :=
  ⟨by simp only [he, cond_true, cond_same, State.noteSet], fun _ _ => rfl, fun _ _ => rfl, fun _ _ _ _ _ => rfl⟩

theorem raise (he : e.w1set = true) (hp : page ∈ ps) : PortOnly e p ps s (s.raise page b) :=
  (setb (by rwa [show Reg.hdrIraw page / 1024 = page by simp only [Reg.hdrIraw]; omega]) true).trans (noteSet he _)

theorem event (he : e.evq = true) : PortOnly e p ps s (s.event page n) := by
  unfold State.event
  split
  · exact ⟨by simp only [he, cond_true, cond_same, State.pushEv], fun _ _ => rfl, fun _ _ => rfl, fun _ _ _ _ _ => rfl⟩
  · exact refl

theorem portAlarm (he : e.alarms = true) (prio point kind : Nat) : PortOnly e p ps s (s.portAlarm p prio point kind) :=
  ⟨by simp only [he, cond_true, cond_same, State.portAlarm, State.blockAlarm, State.noteAlarm], fun _ _ => rfl, fun _ _ => rfl,
    fun _ _ _ _ _ => rfl⟩

theorem setPtp (he : e.ptp = true) (x : PtpSt) : PortOnly e p ps s { s with ptp := x } :=
  ⟨by simp only [he, cond_true, cond_same], fun _ _ => rfl, fun _ _ => rfl, fun _ _ _ _ _ => rfl⟩

theorem setFree (he : e.free = true) (w : Nat) : PortOnly e p ps s (s.free w).2 :=
  ⟨by simp only [he, cond_true, cond_same, State.free], fun _ _ => rfl, fun _ _ => rfl, fun _ _ _ _ _ => rfl⟩

theorem onlyIf {c : Bool} {f : State → State} (h : c = true → PortOnly e p ps s (f s)) : PortOnly e p ps s (s.onlyIf c f) := by
  cases c with
  | false => exact refl
  | true => exact h rfl

theorem foldl {α : Type} {f : State → α → State} (xs : List α) (h : ∀ x ∈ xs, ∀ t, PortOnly e p ps t (f t x)) :
    PortOnly e p ps s (xs.foldl f s) := by
  induction xs generalizing s with
  | nil => exact refl
  | cons x xs ih => exact (h x (by simp) s).trans (ih fun y hy => h y (by simp [hy]))

end PortOnly

end Sys2Proof.Machine
end

section
/-! The line of a segment: beacons, fallback, collisions and PLCACFG (07 R230-R236). -/

namespace Sys2Proof.Machine

/-! ### Reads after the updates at a port -/

section Reads
variable (s : State) (a b n page e p k : Nat) (v : Bool)

@[simp] theorem State.port_bumpBy : (s.bumpBy a n).port k = s.port k := rfl
@[simp] theorem State.port_setb : (s.setb a b v).port k = s.port k := rfl
@[simp] theorem State.port_raise : (s.raise page b).port k = s.port k := rfl
@[simp] theorem State.port_event : (s.event page e).port k = s.port k := by
  unfold State.event
  split <;> rfl
@[simp] theorem State.port_portAlarm (prio point kind : Nat) : (s.portAlarm p prio point kind).port k = s.port k := rfl
@[simp] theorem State.rd_portAlarm (prio point kind : Nat) : (s.portAlarm p prio point kind).rd a = s.rd a := rfl

end Reads

theorem portPage_seg (n : Fin 16) : portPage n = Page.seg n := if_pos n.isLt
theorem isSeg_seg (n : Fin 16) : isSeg n = true := decide_eq_true n.isLt

/-- Address of IRAW on a segment's page. -/
theorem hdrIraw_seg (n : Nat) : Reg.hdrIraw (Page.seg n) = 0x20010 + 1024 * n := by
  simp only [Reg.hdrIraw, Page.seg]
  omega

section Line
variable {s : State} {n : Fin 16}

/-! ### Roles (R232-R236) -/

/-- A change of role is told: the port as it becomes, its IRAW bit and its alarm. -/
def State.changeRole (s : State) (n : Nat) (x : PortSt) (bit prio kind : Nat) : State :=
  ((s.setPort n x).raise (Page.seg n) bit).portAlarm n prio (64 * n) kind

theorem State.changeRole_effect (x : PortSt) {bit : Nat} (prio kind : Nat) (hb : bit < 32) :
    let u := s.changeRole n x bit prio kind
    u.port n = x ∧ OffUnit State.port n s u ∧ u.rb (Reg.hdrIraw (Page.seg n)) bit = true ∧
      u.alarmPosts = s.alarmPosts ++ [{ req := 256 + Page.seg n, entry := alarmEntry prio (64 * n) kind s.stampNow }] ∧
      OffRegs [Reg.hdrIraw (Page.seg n)] s u ∧
      u = { s with regs := u.regs, w1set := u.w1set, ports := u.ports, alarmPosts := u.alarmPosts } := by
  refine ⟨by simp [State.changeRole], fun j hj => by simp [State.changeRole, hj],
    ?_, ?_, fun a ha => ?_, rfl⟩
  · rw [State.rb, State.changeRole, State.rd_portAlarm]
    exact State.rb_raise_same _ _ _ hb
  · simp only [State.changeRole, State.portAlarm, State.blockAlarm, State.noteAlarm, portPage_seg]
    rfl
  · have hne : a ≠ Reg.hdrIraw (Page.seg n) := by simpa using ha
    simp [State.changeRole, hne]

theorem State.hearBeacon_coordinator (hp : s.plcaOn n = true) (hc : s.coordinates n = true) :
    s.hearBeacon n = s.changeRole n
      { s.port n with lastBeacon := s.time.fab, plcaok := true, fallback := false, coord2 := true } 4
      (s.rf (Reg.segAlprio n) 4 4) 0x24 := by
  simp [State.hearBeacon, hp, hc, State.changeRole, State.rf_eq]

theorem State.hearBeacon_follower (hp : s.plcaOn n = true) (hc : s.coordinates n = false) :
    s.hearBeacon n = s.setPort n { s.port n with lastBeacon := s.time.fab, plcaok := true, fallback := false } := by
  simp [State.hearBeacon, hp, hc]

theorem State.fallBack_falls (hp : s.plcaOn n = true) (hc : s.coordinates n = false) (hf : (s.port n).fallback = false)
    (hl : 400 * s.rf (Reg.segPlcafb n) 0 16 ≤ s.time.fab - (s.port n).lastBeacon) :
    s.fallBack n = s.changeRole n { s.port n with plcaok := false, fallback := true } 5 (s.rf (Reg.segAlprio n) 8 4) 0x25 := by
  have hl' : decide (usCycles (s.rf (Reg.segPlcafb n) 0 16) ≤ s.time.fab - (s.port n).lastBeacon) = true := decide_eq_true hl
  simp only [State.fallBack, hp, hc, hf, hl', Bool.not_false, Bool.and_true, if_true, State.changeRole]

/-- A port whose coordinator's role a beacon has taken does not coordinate. -/
theorem State.coordinates_coord2 (h : (s.port n).coord2 = true) : s.coordinates n = false := by
  simp [State.coordinates, State.coordRole, h]

theorem beacon_completes (hp : s.plcaOn n = true) (hc : s.coordinates n = true) :
    Completes (.beaconReceive n) s (fun u =>
      u.port n = { s.port n with lastBeacon := s.time.fab, plcaok := true, fallback := false, coord2 := true } ∧
      OffUnit State.port n s u ∧ u.coordinates n = false ∧ u.rb (Reg.hdrIraw (Page.seg n)) 4 = true ∧
      u.alarmPosts = s.alarmPosts ++
        [{ req := 256 + Page.seg n, entry := alarmEntry (s.rf (Reg.segAlprio n) 4 4) (64 * n) 0x24 s.stampNow }] ∧
      OffRegs [Reg.hdrIraw (Page.seg n)] s u ∧
      u = { s with regs := u.regs, w1set := u.w1set, ports := u.ports, alarmPosts := u.alarmPosts }) := by
  refine ⟨_, rfl, ?_⟩
  rw [State.hearBeacon_coordinator hp hc]
  obtain ⟨hport, hoff, hbit, halarm, hregs, hrest⟩ := State.changeRole_effect (s := s) (n := n)
    { s.port n with lastBeacon := s.time.fab, plcaok := true, fallback := false, coord2 := true }
    (s.rf (Reg.segAlprio n) 4 4) 0x24 (show 4 < 32 by decide)
  exact ⟨hport, hoff, State.coordinates_coord2 (by rw [hport]), hbit, halarm, hregs, hrest⟩

/-! ### A frame dropped (R234, R263, R265, R281) -/

/-- What tells that a frame was dropped, by what it is. -/
def State.tellDrop (s : State) (n : Nat) (i : TxItem) : State :=
  if isPoll i then (s.bump (Reg.segBurstfail n)).endBurst n
  else if isMail i then s.mailDone n true
  else if isPtpMail i then { s with ptp := { s.ptp with txBusy := false } }
  else s.bump Reg.ptppPtpdrop

theorem State.dropTx_eq (e : TxEntry) : s.dropTx n e =
    (((s.setPort n { s.port n with txq := (s.port n).txq.erase e }).bump (Reg.segColdrop n)).raise (Page.seg n) 12).tellDrop n
      e.item := rfl

theorem isMail_of_isPoll {i : TxItem} (h : isPoll i = true) : isMail i = false := by cases i <;> simp_all [isPoll, isMail]

theorem isPtpEvent_only {i : TxItem} (h : isPtpEvent i = true) : isPoll i = false ∧ isMail i = false ∧ isPtpMail i = false := by
  cases i <;> simp_all [isPtpEvent, isPoll, isMail, isPtpMail]

theorem txsta_seg (n : Fin 16) : portReg n (fun n => Reg.segTxsta n) (fun u => Reg.uplTxsta u) = Reg.segTxsta n := if_pos n.isLt

theorem segTxsta_ne_iraw (n : Nat) : Reg.segTxsta n ≠ Reg.hdrIraw (Page.seg n) := by simp only [Reg.segTxsta, hdrIraw_seg]; omega

theorem State.mailDone_seg (dropped : Bool) : s.mailDone n dropped =
    ((s.setb (Reg.segTxsta n) 0 false).setb (Reg.segTxsta n) 2 dropped).raise (Page.seg n) 8 := by
  simp only [State.mailDone, txsta_seg, portPage_seg, isSeg_seg, if_true]

/-- The registers that the drop of a frame counts in are not those that tell of it. -/
theorem State.rd_tellDrop (i : TxItem) {a : Nat}
    (ha : a ∉ [Reg.segBurstfail n, Reg.segTxsta n, Reg.hdrIraw (Page.seg n), Reg.ptppPtpdrop]) :
    (s.tellDrop n i).rd a = s.rd a := by
  simp only [List.mem_cons, List.not_mem_nil, or_false, not_or] at ha
  obtain ⟨h1, h2, h3, h4⟩ := ha
  unfold State.tellDrop
  split
  · simp [State.endBurst, h1, h3]
  · split
    · simp [State.mailDone_seg, h2, h3]
    · split
      · rfl
      · simp [h4]

theorem State.tellDrop_txq (i : TxItem) : ((s.tellDrop n i).port n).txq = (s.port n).txq := by
  unfold State.tellDrop
  split
  · simp [State.endBurst]
  · split
    · simp [State.mailDone]
    · split <;> rfl

/-- A bit of IRAW that stands goes on standing. -/
theorem State.rb_raise_of (page page' b i : Nat) (hi : i < 32) (h : s.rb (Reg.hdrIraw page) i = true) :
    (s.raise page' b).rb (Reg.hdrIraw page) i = true := by
  simp only [State.rb, State.rd_raise]
  split
  · next hp =>
    rw [bitOf_putBit _ _ _ _ hi, ← hp, show bitOf (s.rd (Reg.hdrIraw page)) i = true from h]
    simp
  · exact h

theorem State.rb_tellDrop (i : TxItem) {b : Nat} (hb : b < 32) (h : s.rb (Reg.hdrIraw (Page.seg n)) b = true) :
    (s.tellDrop n i).rb (Reg.hdrIraw (Page.seg n)) b = true := by
  have ht := segTxsta_ne_iraw n
  unfold State.tellDrop
  split
  · rw [State.rb, State.endBurst, State.rd_event]
    refine State.rb_raise_of _ _ _ _ hb ?_
    simpa [State.rb, hdrIraw_seg] using h
  · split
    · rw [State.mailDone_seg]
      refine State.rb_raise_of _ _ _ _ hb ?_
      simpa [State.rb, ht.symm] using h
    · split
      · exact h
      · simpa [State.rb, hdrIraw_seg, show ¬ 131088 + 1024 * (n : Nat) = 0x2C680 by omega] using h

theorem segTell_page (n : Fin 16) : Reg.segBurstfail n / 1024 = Page.seg n ∧ Reg.segTxsta n / 1024 = Page.seg n := by
  decide +revert

theorem State.tellDrop_only (i : TxItem) :
    PortOnly { w1set := true, evq := true, ptp := true } n [Page.seg n, Page.ptpp] s (s.tellDrop n i) := by
  obtain ⟨hb, ht⟩ := segTell_page n
  unfold State.tellDrop
  split
  · exact (PortOnly.bump (by simp [hb])).trans (((PortOnly.setPort _).trans (.raise rfl (by simp))).trans (.event rfl))
  · split
    · rw [State.mailDone_seg]
      exact ((PortOnly.setb (by simp [ht]) _).trans (.setb (by simp [ht]) _)).trans (.raise rfl (by simp))
    · split
      · exact .setPtp rfl _
      · exact .bump (by simp [Reg.ptppPtpdrop])

theorem State.tellDrop_poll {i : TxItem} (h : isPoll i = true) :
    ((s.tellDrop n i).port n).burst = none ∧
      (s.tellDrop n i).rd (Reg.segBurstfail n) = s.rd (Reg.segBurstfail n) + 1 ∧
      (s.tellDrop n i).rb (Reg.hdrIraw (Page.seg n)) 10 = true := by
  have hne : Reg.segBurstfail n ≠ Reg.hdrIraw (Page.seg n) := by simp only [Reg.segBurstfail, hdrIraw_seg]; omega
  rw [State.tellDrop, if_pos h]
  refine ⟨by simp [State.endBurst], by simp [State.endBurst, hne], ?_⟩
  rw [State.rb, State.endBurst, State.rd_event]
  exact State.rb_raise_same _ _ _ (by decide)

theorem State.tellDrop_mail {i : TxItem} (h : isMail i = true) :
    (s.tellDrop n i).rb (Reg.segTxsta n) 0 = false ∧ (s.tellDrop n i).rb (Reg.segTxsta n) 2 = true := by
  have hp : isPoll i = false := by
    cases hp : isPoll i
    · rfl
    · exact absurd (isMail_of_isPoll hp) (by simp [h])
  have ht := segTxsta_ne_iraw n
  simp [State.tellDrop, hp, h, State.mailDone_seg, State.rb, ht, bitOf_putBit]

theorem State.tellDrop_event {i : TxItem} (h : isPtpEvent i = true) :
    (s.tellDrop n i).rd Reg.ptppPtpdrop = s.rd Reg.ptppPtpdrop + 1 := by
  obtain ⟨hp, hm, hq⟩ := isPtpEvent_only h
  simp [State.tellDrop, hp, hm, hq]

/-! ### Collisions (R233, R234) -/

theorem State.collide_retries {e : TxEntry} (hh : s.lineHead n = some e) (ht : e.tries < 15) :
    s.collide n = (s.bump (Reg.segColcnt n)).setPort n { s.port n with
      txq := (s.port n).txq.map (fun y => if y = e then { y with tries := y.tries + 1 } else y) } := by
  simp only [State.collide, hh, if_neg (show ¬ 16 ≤ e.tries + 1 by omega), State.bump_eq, State.port_bumpBy]

theorem State.collide_drops {e : TxEntry} (hh : s.lineHead n = some e) (ht : 15 ≤ e.tries) :
    s.collide n = (s.bump (Reg.segColcnt n)).dropTx n e := by
  simp only [State.collide, hh, if_pos (show 16 ≤ e.tries + 1 by omega)]

theorem segCol_apart (n : Fin 16) :
    Reg.segColcnt n ∉ [Reg.segBurstfail n, Reg.segTxsta n, Reg.hdrIraw (Page.seg n), Reg.ptppPtpdrop, Reg.segColdrop n] ∧
      Reg.segColdrop n ∉ [Reg.segBurstfail n, Reg.segTxsta n, Reg.hdrIraw (Page.seg n), Reg.ptppPtpdrop, Reg.segColcnt n] ∧
      Reg.ptppPtpdrop ∉ [Reg.hdrIraw (Page.seg n), Reg.segColdrop n, Reg.segColcnt n] ∧
      Reg.segBurstfail n ∉ [Reg.hdrIraw (Page.seg n), Reg.segColdrop n, Reg.segColcnt n] ∧
      Reg.segColcnt n / 1024 = Page.seg n ∧ Reg.segColdrop n / 1024 = Page.seg n := by decide +revert

/-- The sixteenth collision of a frame: the frame leaves the queue and its drop is told (R234). -/
theorem collision_drops {e : TxEntry} (hm : s.maySend n = true) (hh : s.lineHead n = some e) (ht : 15 ≤ e.tries) :
    Completes (.collision n) s (fun u =>
      (u.port n).txq = (s.port n).txq.erase e ∧ OffUnit State.port n s u ∧
      u.rd (Reg.segColcnt n) = s.rd (Reg.segColcnt n) + 1 ∧
      u.rd (Reg.segColdrop n) = s.rd (Reg.segColdrop n) + 1 ∧ u.rb (Reg.hdrIraw (Page.seg n)) 12 = true ∧
      (isPoll e.item = true → (u.port n).burst = none ∧ u.rd (Reg.segBurstfail n) = s.rd (Reg.segBurstfail n) + 1 ∧
        u.rb (Reg.hdrIraw (Page.seg n)) 10 = true) ∧
      (isMail e.item = true → u.rb (Reg.segTxsta n) 0 = false ∧ u.rb (Reg.segTxsta n) 2 = true) ∧
      (isPtpEvent e.item = true → u.rd Reg.ptppPtpdrop = s.rd Reg.ptppPtpdrop + 1) ∧
      OffPages [Page.seg n, Page.ptpp] s u ∧
      u = { s with regs := u.regs, w1set := u.w1set, ports := u.ports, ptp := u.ptp, evq := u.evq }) := by
  refine ⟨_, rfl, ?_⟩
  obtain ⟨hcnt, hdrop, hptp, hburst, hpc, hpd⟩ := segCol_apart n
  simp only [List.mem_cons, List.not_mem_nil, or_false, not_or] at hcnt hdrop hptp hburst
  rw [hm, State.onlyIf_true, State.collide_drops hh ht, State.dropTx_eq]
  set t := (((s.bump (Reg.segColcnt n)).setPort n { (s.bump (Reg.segColcnt n)).port n with
    txq := ((s.bump (Reg.segColcnt n)).port n).txq.erase e }).bump (Reg.segColdrop n)).raise (Page.seg n) 12 with ht
  have hframe : PortOnly { w1set := true, evq := true, ptp := true } n [Page.seg n, Page.ptpp] s (t.tellDrop n e.item) :=
    ((((PortOnly.bump (by simp [hpc])).trans (.setPort _)).trans (.bump (by simp [hpd]))).trans (.raise rfl (by simp))).trans
      (State.tellDrop_only _)
  refine ⟨?_, hframe.port, ?_, ?_, ?_, fun h => ?_, State.tellDrop_mail, fun h => ?_, hframe.regs, hframe.rest⟩
  · rw [State.tellDrop_txq]
    simp [ht]
  · rw [State.rd_tellDrop _ (by simp [hcnt])]
    simp [ht, hcnt]
  · rw [State.rd_tellDrop _ (by simp [hdrop])]
    simp [ht, hdrop]
  · exact State.rb_tellDrop _ (by decide) (State.rb_raise_same _ _ _ (by decide))
  · obtain ⟨hb, hf, hi⟩ := State.tellDrop_poll (s := t) (n := n) h
    refine ⟨hb, hf.trans ?_, hi⟩
    simp [ht, hburst]
  · rw [State.tellDrop_event h]
    simp [ht, hptp]

/-! ### PLCACFG (R232, R236) -/

theorem writableAt_plcacfg (n : Fin 16) : writableAt (Reg.segPlcacfg n) (Page.seg n) 0x044 .seg n 0 0x7F3F03 = true := by
  decide +revert

theorem State.writePlca_takes {v : Word} (h1 : 1 ≤ field v 16 7) (h64 : field v 16 7 ≤ 64)
    (hid : bitOf v 1 = true ∨ field v 8 6 ≠ 0) :
    s.writePlca n (v &&& 0x7F3F03) = (s.wr (Reg.segPlcacfg n) (v &&& 0x7F3F03)).setPort n { s.port n with coord2 := false } := by
  have hc : (((!bitOf v 1 && field v 8 6 == 0) || field v 16 7 == 0) || decide (64 < field v 16 7)) = false := by
    rcases hid with hid | hid <;> simp [hid] <;> omega
  simp only [State.writePlca, bitOf_and_mask v 0x7F3F03 1 (by decide), field_and_mask v 0x7F3F03 8 6 (by decide),
    field_and_mask v 0x7F3F03 16 7 (by decide), hc, BitVec.and_assoc, BitVec.and_self]
  rfl

theorem State.writePlca_refused {v : Word}
    (h : field v 16 7 = 0 ∨ 64 < field v 16 7 ∨ (bitOf v 1 = false ∧ field v 8 6 = 0)) :
    s.writePlca n (v &&& 0x7F3F03) = s.raise (Page.seg n) 14 := by
  have hc : (((!bitOf v 1 && field v 8 6 == 0) || field v 16 7 == 0) || decide (64 < field v 16 7)) = true := by
    rcases h with h | h | ⟨h, h'⟩
    · simp [h]
    · simp [h]
    · simp [h, h']
  simp only [State.writePlca, bitOf_and_mask v 0x7F3F03 1 (by decide), field_and_mask v 0x7F3F03 8 6 (by decide),
    field_and_mask v 0x7F3F03 16 7 (by decide), hc, if_true]

theorem plcacfg_completes {req : Req} {v : Word} (hr : s.reaches req (Page.seg n) = true) {u : State}
    (hu : s.writePlca n (v &&& 0x7F3F03) = u) (hp : u.pwr = s.pwr) (hh : u.host = s.host) :
    Completes (.plcacfgWrite req n v) s (fun t => t = u) :=
  ⟨_, rfl, State.reqWrite_writable (writableAt_plcacfg n) hr hu hp hh⟩

end Line

/-- Settles O14: each event is the role or the queue as the rule says, and what tells of it. -/
theorem segmentLine : Obligations.SegmentLine := by
  unfold Obligations.SegmentLine
  intro s n alarm
  refine ⟨fun hp => ⟨fun hc => ⟨⟨_, rfl, by simp [State.sendBeacon, hc]⟩, beacon_completes hp hc⟩, fun hc => ⟨?_, fun hf hl => ?_⟩⟩,
    fun e hm hh => ⟨fun ht => ?_, fun ht => collision_drops hm hh ht⟩, fun req v hr => ⟨fun h1 h64 hid => ?_, fun h => ?_⟩⟩
  · exact ⟨_, rfl, State.hearBeacon_follower hp hc⟩
  · refine ⟨_, rfl, ?_⟩
    rw [State.fallBack_falls hp hc hf hl]
    exact State.changeRole_effect _ _ _ (by decide)
  · exact ⟨_, rfl, by rw [hm, State.onlyIf_true, State.collide_retries hh ht]⟩
  · exact plcacfg_completes hr (State.writePlca_takes h1 h64 hid) rfl rfl
  · exact plcacfg_completes hr (State.writePlca_refused h) rfl rfl

end Sys2Proof.Machine
end

section
/-! Fields of a 64-bit number, the words of a port's store and the records of its node table (07 R247-R253, 12 R396-R406). -/

namespace Sys2Proof.Machine

/-! ### Fields of a number -/

theorem testBit_natField (x lo n i : Nat) : (natField x lo n).testBit i = (decide (i < n) && x.testBit (lo + i)) := by
  simp [natField, Nat.testBit_mod_two_pow, Nat.testBit_shiftRight]

/-- A number with a field replaced, by its parts below, in and above the field. -/
theorem putNat_eq (x lo n v : Nat) : putNat x lo n v = 2 ^ lo * (2 ^ n * (x >>> (lo + n)) + v % 2 ^ n) + x % 2 ^ lo := by
  have h1 := Nat.div_add_mod x (2 ^ lo)
  have h2 := Nat.div_add_mod (x / 2 ^ lo) (2 ^ n)
  have h3 : x >>> (lo + n) = x / 2 ^ lo / 2 ^ n := by rw [Nat.shiftRight_add, Nat.shiftRight_eq_div_pow, Nat.shiftRight_eq_div_pow]
  rw [putNat, natField, Nat.shiftRight_eq_div_pow, h3]
  rw [← h2, Nat.mul_add] at h1
  rw [Nat.mul_add, Nat.mul_comm (x / 2 ^ lo % 2 ^ n), Nat.mul_comm (v % 2 ^ n)]
  omega

theorem testBit_putNat (x lo n v i : Nat) :
    (putNat x lo n v).testBit i = if lo ≤ i ∧ i < lo + n then v.testBit (i - lo) else x.testBit i := by
  rw [putNat_eq, Nat.testBit_two_pow_mul_add _ (Nat.mod_lt _ (Nat.two_pow_pos lo))]
  by_cases h : i < lo
  · rw [if_pos h, if_neg (by omega), Nat.testBit_mod_two_pow]
    simp [h]
  · rw [if_neg h, Nat.testBit_two_pow_mul_add _ (Nat.mod_lt _ (Nat.two_pow_pos n))]
    by_cases h' : i - lo < n
    · rw [if_pos h', if_pos (by omega), Nat.testBit_mod_two_pow]
      simp [h']
    · rw [if_neg h', if_neg (by omega), Nat.testBit_shiftRight]
      congr 1
      omega

theorem natField_putNat_same (x lo n v : Nat) : natField (putNat x lo n v) lo n = v % 2 ^ n := by
  refine Nat.eq_of_testBit_eq fun i => ?_
  rw [testBit_natField, testBit_putNat, Nat.testBit_mod_two_pow]
  by_cases h : i < n
  · simp [h]
  · simp [h]

theorem natField_putNat_other (x v : Nat) {lo n lo' n' : Nat} (h : lo' + n' ≤ lo ∨ lo + n ≤ lo') :
    natField (putNat x lo n v) lo' n' = natField x lo' n' := by
  refine Nat.eq_of_testBit_eq fun i => ?_
  rw [testBit_natField, testBit_natField, testBit_putNat]
  by_cases hi : i < n'
  · rw [if_neg (by omega)]
  · simp [hi]

theorem putNat_lt {x lo n m : Nat} (v : Nat) (hx : x < 2 ^ m) (h : lo + n ≤ m) : putNat x lo n v < 2 ^ m := by
  refine Nat.lt_pow_two_of_testBit _ fun i hi => ?_
  rw [testBit_putNat, if_neg (by omega)]
  exact Nat.testBit_lt_two_pow (Nat.lt_of_lt_of_le hx (Nat.pow_le_pow_right (by decide) hi))

theorem natField_mod (x n : Nat) : natField x 0 n = x % 2 ^ n := by simp [natField]

/-! ### The words of a port's store -/

section Store
variable {p : Nat} (hp : p < 18)
include hp

/-- The stores of the eighteen ports lie in a row. -/
theorem portStore_eq : portStore p = 1028 + p := by
  unfold portStore
  split
  · rfl
  · exact show 1044 + (p - 16) = 1028 + p by omega

theorem isInstr_port : isInstr (portStore p) = false := by
  have h : ¬ 1028 + p < 1024 := by omega
  simp [isInstr, portStore_eq hp, h]

theorem checkAt_port (w : CWord) : checkAt (portStore p) w = checkWord w := by simp [checkAt, isInstr_port hp]

theorem isFlash_port : isFlash (portStore p) = false := by
  have h : 1028 + p ≠ 1049 ∧ 1028 + p ≠ 1050 := by omega
  simp [isFlash, portStore_eq hp, h.1, h.2]

theorem portStore_ne_journal : portStore p ≠ Store.journal := by
  rw [portStore_eq hp]
  exact show 1028 + p ≠ 1048 by omega

theorem storePage_port : storePage (portStore p) = (portPage p, 0) := by
  have h : ¬ 1028 + p < 1024 ∧ 1028 + p ≠ 1024 ∧ 1028 + p ≠ 1025 ∧ ¬ 1028 + p < 1028 := by omega
  obtain ⟨h1, h2, h3, h4⟩ := h
  rw [portStore_eq hp, storePage, if_neg h1, if_neg h2, if_neg h3, if_neg h4]
  by_cases hs : p < 16
  · rw [if_pos (show 1028 + p < 1044 by omega), portPage, if_pos hs, Nat.add_sub_cancel_left]
  · rw [if_neg (show ¬ 1028 + p < 1044 by omega), if_pos (show 1028 + p < 1046 by omega), portPage, if_neg hs,
      show 1028 + p - 1044 = p - 16 by omega]

variable {s u : State}

/-- A word a port writes lands as written while no injection is armed (R406). -/
theorem State.writeWord_port (h : s.unarmed = true) (i : Nat) (d : DWord) :
    s.writeWord (portStore p) i d = s.setRaw (portStore p) i (encodeWord d) := by
  have hb : bitOf (s.rd Reg.eccEinj0) 20 = false := by simpa [State.unarmed, State.rb] using h
  have hj := portStore_ne_journal hp
  simp [State.writeWord, State.putWord, hj, hb, encodeAt, fitWord, isInstr_port hp]

theorem State.rawWord_setRaw_port (i j : Nat) (w : CWord) :
    (s.setRaw (portStore p) i w).rawWord (portStore p) j = if j = i then w else s.rawWord (portStore p) j := by
  simp [State.setRaw, State.rawWord, isFlash_port hp, Sparse.get_set, wordKey]

theorem State.setRaw_port_words (i : Nat) (w : CWord) : WordsOnly s (s.setRaw (portStore p) i w) := by
  simp [WordsOnly, State.setRaw, isFlash_port hp]

theorem State.writeWords_port (h : s.unarmed = true) (i : Nat) (d : DWord) (ds : List DWord) :
    s.writeWords (portStore p) i (d :: ds) =
      (s.setRaw (portStore p) i (encodeWord d)).writeWords (portStore p) (i + 1) ds := by
  rw [State.writeWords, State.writeWord_port hp h]

theorem State.writeWords_port_words (h : s.unarmed = true) (i : Nat) (ds : List DWord) :
    WordsOnly s (s.writeWords (portStore p) i ds) := by
  induction ds generalizing s i with
  | nil => exact rfl
  | cons d ds ih =>
    rw [State.writeWords_port hp h]
    have hw := State.setRaw_port_words hp (s := s) i (encodeWord d)
    exact hw.trans (ih (hw.unarmed.trans h) _)

theorem State.unarmed_writeWords (h : s.unarmed = true) (i : Nat) (ds : List DWord) :
    (s.writeWords (portStore p) i ds).unarmed = true := (State.writeWords_port_words hp h i ds).unarmed.trans h

/-- The words of a port's store after words were written: the written ones with their check bytes, the others as they were. -/
theorem State.rawWord_writeWords_port (h : s.unarmed = true) (i j : Nat) (ds : List DWord) :
    (s.writeWords (portStore p) i ds).rawWord (portStore p) j =
      if i ≤ j ∧ j < i + ds.length then encodeWord (ds.getD (j - i) 0) else s.rawWord (portStore p) j := by
  induction ds generalizing s i with
  | nil => rw [if_neg (by simp only [List.length_nil]; omega)]; rfl
  | cons d ds ih =>
    rw [State.writeWords_port hp h, ih ((State.setRaw_port_words hp ..).unarmed.trans h), State.rawWord_setRaw_port hp]
    simp only [List.length_cons]
    by_cases h0 : j = i
    · rw [if_neg (by omega), if_pos h0, if_pos (by omega), h0, Nat.sub_self, List.getD_cons_zero]
    · by_cases h1 : i + 1 ≤ j ∧ j < i + 1 + ds.length
      · rw [if_pos h1, if_pos (by omega), show j - i = j - (i + 1) + 1 by omega, List.getD_cons_succ]
      · rw [if_neg h1, if_neg h0, if_neg (by omega)]

theorem State.peekWord_encoded {i : Nat} {d : DWord} (h : s.rawWord (portStore p) i = encodeWord d) :
    s.peekWord (portStore p) i = d := by
  simp only [State.peekWord, h, checkAt_port hp, checkWord_encodeWord]

end Store

theorem State.peekWord_good {s : State} {st : Store} {i : Nat} {d : DWord} (h : checkAt st (s.rawWord st i) = .good d) :
    s.peekWord st i = d := by simp only [State.peekWord, h]

theorem State.peekWord_congr {s u : State} {st : Store} {i : Nat} (h : u.rawWord st i = s.rawWord st i) :
    u.peekWord st i = s.peekWord st i := by simp only [State.peekWord, h]

/-- A good word among those of a clean stretch. -/
theorem State.clean_good {s : State} {st : Store} {i n j : Nat} (h : s.clean st i n = true) (hj : j < n) :
    checkAt st (s.rawWord st (i + j)) = .good (wordData (s.rawWord st (i + j))) := by
  simpa using List.all_eq_true.mp h j (List.mem_range.mpr hj)

/-! ### Words written or read at a port: what stays -/

namespace PortOnly
variable {e : Touch} {p : Nat} {ps : List Nat} {s u : State}

/-- Words of the port's store alone, those of the numbers below `2 ^ 40` in it. -/
theorem of_words (hw : e.words = true) (h : WordsOnly s u) (ho : e.far = false → OffStores [portStore p] s u) :
    PortOnly e p ps s u := by
  refine ⟨?_, fun _ _ => by rw [h]; rfl, fun _ _ => by rw [h]; rfl, ho⟩
  rw [h]
  simp only [hw, cond_true, cond_same]

theorem setRaw (hp : p < 18) (hw : e.words = true) {i : Nat} (hi : e.far = false → i < 2 ^ 40) (w : CWord) :
    PortOnly e p ps s (s.setRaw (portStore p) i w) :=
  of_words hw (State.setRaw_port_words hp i w) fun hf st j hst hj => by
    rw [State.rawWord_setRaw _ _ _ _ _ _ (hi hf) hj, if_neg (by simp only [List.mem_singleton] at hst; exact fun h => hst h.1)]

theorem writeWords_unarmed (hp : p < 18) (hw : e.words = true) (ha : s.unarmed = true) {i : Nat} (ds : List DWord)
    (hi : e.far = false → i + ds.length ≤ 2 ^ 40) : PortOnly e p ps s (s.writeWords (portStore p) i ds) := by
  induction ds generalizing s i with
  | nil => exact refl
  | cons d ds ih =>
    rw [State.writeWords_port hp ha]
    simp only [List.length_cons] at hi
    exact (setRaw hp hw (fun hf => by have := hi hf; omega) _).trans
      (ih ((State.setRaw_port_words hp ..).unarmed.trans ha) fun hf => by have := hi hf; omega)

theorem putWord (hp : p < 18) (hw : e.words = true) (h1 : e.w1set = true) (hecc : Page.ecc ∈ ps) {i : Nat}
    (hi : e.far = false → i < 2 ^ 40) (w : CWord) : PortOnly e p ps s (s.putWord (portStore p) i w) := by
  have hj := portStore_ne_journal hp
  unfold State.putWord
  rw [if_neg (by simp [hj])]
  simp only
  split
  · exact ((setb (a := Reg.eccEinj0) hecc _).trans (raise h1 hecc)).trans (setRaw hp hw hi _)
  · exact setRaw hp hw hi _

theorem writeWords (hp : p < 18) (hw : e.words = true) (h1 : e.w1set = true) (hecc : Page.ecc ∈ ps) {i : Nat} (ds : List DWord)
    (hi : e.far = false → i + ds.length ≤ 2 ^ 40) : PortOnly e p ps s (s.writeWords (portStore p) i ds) := by
  induction ds generalizing s i with
  | nil => exact refl
  | cons d ds ih =>
    simp only [List.length_cons] at hi
    exact (putWord hp hw h1 hecc (fun hf => by have := hi hf; omega) _).trans (ih fun hf => by have := hi hf; omega)

end PortOnly

/-! ### Records of the node table (R247-R250) -/

/-- The four words of a record fit their places. -/
def NodeRec.fits (r : NodeRec) : Prop := r.w0 < 2 ^ 64 ∧ r.w1 < 2 ^ 64 ∧ r.w2 < 2 ^ 64 ∧ r.w3 < 2 ^ 64

section Records
variable {s u : State} {p : Nat}

theorem State.node_fits (s : State) (p k : Nat) : (s.node p k).fits := ⟨BitVec.isLt _, BitVec.isLt _, BitVec.isLt _, BitVec.isLt _⟩

theorem State.node_congr {k : Nat}
    (h : ∀ j < 4, u.rawWord (portStore p) (recIndex p k + j) = s.rawWord (portStore p) (recIndex p k + j)) :
    u.node p k = s.node p k := by
  simp only [State.node, State.peekWord_congr (h 0 (by decide)), State.peekWord_congr (h 1 (by decide)),
    State.peekWord_congr (h 2 (by decide)), State.peekWord_congr (h 3 (by decide))]

theorem State.readNode_clean {k : Nat} (h : s.clean (portStore p) (recIndex p k) 4 = true) :
    s.readNode p k = (some (s.node p k), s) := by
  have hw : ∀ j < 4, s.peekWord (portStore p) (recIndex p k + j) = wordData (s.rawWord (portStore p) (recIndex p k + j)) :=
    fun j hj => State.peekWord_good (State.clean_good h hj)
  simp only [State.readNode, State.readWords_clean h, show List.range 4 = [0, 1, 2, 3] from rfl, List.map_cons, List.map_nil,
    State.node, hw 0 (by decide), hw 1 (by decide), hw 2 (by decide), hw 3 (by decide)]

section Unarmed
variable (hp : p < 18) (ha : s.unarmed = true)
include hp ha

/-- Words written elsewhere leave a record as it was. -/
theorem State.node_writeWords {i k : Nat} (ds : List DWord) (h : i + ds.length ≤ recIndex p k ∨ recIndex p k + 4 ≤ i) :
    (s.writeWords (portStore p) i ds).node p k = s.node p k :=
  State.node_congr fun j hj => by rw [State.rawWord_writeWords_port hp ha, if_neg (by omega)]

theorem State.node_putNode_other {j k : Nat} (r : NodeRec) (h : j ≠ k) : (s.putNode p k r).node p j = s.node p j :=
  State.node_writeWords hp ha _ (by simp only [recIndex, List.length_cons, List.length_nil]; omega)

theorem State.node_putNode_same {r : NodeRec} (k : Nat) (hr : r.fits) : (s.putNode p k r).node p k = r := by
  obtain ⟨h0, h1, h2, h3⟩ := hr
  have hw : ∀ j (hj : j < 4), (s.putNode p k r).peekWord (portStore p) (recIndex p k + j) =
      [BitVec.ofNat 64 r.w0, BitVec.ofNat 64 r.w1, BitVec.ofNat 64 r.w2, BitVec.ofNat 64 r.w3].getD j 0 := fun j hj =>
    State.peekWord_encoded hp (by
      rw [State.putNode, State.rawWord_writeWords_port hp ha, if_pos (by simp only [List.length_cons, List.length_nil]; omega),
        Nat.add_sub_cancel_left])
  simp only [State.node, hw 0 (by decide), hw 1 (by decide), hw 2 (by decide), hw 3 (by decide), List.getD_cons_zero,
    List.getD_cons_succ, BitVec.toNat_ofNat, Nat.mod_eq_of_lt h0, Nat.mod_eq_of_lt h1, Nat.mod_eq_of_lt h2, Nat.mod_eq_of_lt h3]

theorem State.putNode_words (k : Nat) (r : NodeRec) : WordsOnly s (s.putNode p k r) := State.writeWords_port_words hp ha _ _

end Unarmed

theorem recIndex_lt {k : Nat} (p : Nat) (h : k < 64) : recIndex p k + 4 ≤ 2 ^ 40 := by
  simp only [recIndex]
  split <;> omega

end Records

end Sys2Proof.Machine
end

section
/-! The node table, keys and the value cache as a requester reaches them (07 R246-R253, 08 R294). -/

namespace Sys2Proof.Machine

/-! ### Segments and uplinks alike -/

/-- What holds of every segment and of both uplinks holds of every port. -/
theorem port_cases {P : Nat → Prop} (hs : ∀ n : Fin 16, P n) (hu : ∀ u : Fin 2, P (16 + u)) (p : Fin 18) : P p := by
  by_cases h : p.val < 16
  · exact hs ⟨p, h⟩
  · have hp : 16 + (p.val - 16) = p := by omega
    have := hu ⟨p - 16, by omega⟩
    rwa [hp] at this

@[simp] theorem portReg_seg (n : Fin 16) (f g : Nat → Nat) : portReg n f g = f n := if_pos n.isLt
@[simp] theorem portReg_upl (u : Fin 2) (f g : Nat → Nat) : portReg (16 + u) f g = g u := by
  rw [portReg, if_neg (by omega), Nat.add_sub_cancel_left]

theorem upl_notSeg (u : Fin 2) : ¬ (16 + u.val < 16) := by omega

/-- The page of a port's record and key commands: NODE of a segment, UPL of an uplink. -/
abbrev recPage (p : Nat) : Nat := if p < 16 then Page.node p else Page.upl (p - 16)

theorem recPage_seg (n : Fin 16) : recPage n = Page.node n := if_pos n.isLt
theorem recPage_upl (u : Fin 2) : recPage (16 + u) = Page.upl u := by
  rw [recPage, if_neg (upl_notSeg u), Nat.add_sub_cancel_left]

/-! ### Commands that reach a record or a key -/

/-- NCMD of a segment, SCMD of an uplink. -/
abbrev ncmdReg (p : Nat) : Nat := portReg p (fun n => Reg.nodeNcmd n) (fun u => Reg.uplScmd u)

theorem writableAt_ncmd (n : Fin 16) : writableAt (Reg.nodeNcmd n) (Page.node n) 0x064 .node n 0 0x3 = true := by decide +revert
theorem writableAt_scmd (u : Fin 2) : writableAt (Reg.uplScmd u) (Page.upl u) 0x088 .upl u 0 0x3 = true := by decide +revert
theorem writableAt_nodeKcmd (n : Fin 16) : writableAt (Reg.nodeKcmd n) (Page.node n) 0x080 .node n 0 0x3 = true := by decide +revert
theorem writableAt_uplKcmd (u : Fin 2) : writableAt (Reg.uplKcmd u) (Page.upl u) 0x0A4 .upl u 0 0x3 = true := by decide +revert

section Commands
variable {s u : State} {req : Req} {p : Fin 18} {v : Word} (hr : s.reaches req (recPage p) = true)
include hr

theorem State.reqWrite_ncmd (hu : s.ncmd p (v &&& 0x3) = u) (hp : u.pwr = s.pwr) (hh : u.host = s.host) :
    s.reqWrite req (ncmdReg p) v = u := by
  revert hr hu
  refine port_cases (P := fun p => s.reaches req (recPage p) = true → s.ncmd p (v &&& 0x3) = u →
    s.reqWrite req (ncmdReg p) v = u) (fun n hr hu => ?_) (fun k hr hu => ?_) p
  · rw [ncmdReg, portReg_seg]
    exact State.reqWrite_writable (writableAt_ncmd n) (by rwa [recPage_seg] at hr) hu hp hh
  · rw [ncmdReg, portReg_upl]
    exact State.reqWrite_writable (writableAt_scmd k) (by rwa [recPage_upl] at hr) hu hp hh

theorem State.reqWrite_kcmd (hu : s.kcmd p (v &&& 0x3) = u) (hp : u.pwr = s.pwr) (hh : u.host = s.host) :
    s.reqWrite req (kcmdReg p) v = u := by
  revert hr hu
  refine port_cases (P := fun p => s.reaches req (recPage p) = true → s.kcmd p (v &&& 0x3) = u →
    s.reqWrite req (kcmdReg p) v = u) (fun n hr hu => ?_) (fun k hr hu => ?_) p
  · rw [kcmdReg, portReg_seg]
    exact State.reqWrite_writable (writableAt_nodeKcmd n) (by rwa [recPage_seg] at hr) hu hp hh
  · rw [kcmdReg, portReg_upl]
    exact State.reqWrite_writable (writableAt_uplKcmd k) (by rwa [recPage_upl] at hr) hu hp hh

end Commands

/-! ### A record read (R248) -/

theorem join64_lo_hi (x : Nat) : join64 (lo32 x) (hi32 x) = x % 2 ^ 64 := by
  simp only [join64, lo32, hi32, BitVec.toNat_ofNat, Nat.shiftRight_eq_div_pow]
  omega

/-- Four 64-bit values into eight registers in a row. -/
def State.showWords (s : State) (b : Nat) (r : NodeRec) : State :=
  (((s.wr64 b (b + 4) r.w0).wr64 (b + 8) (b + 12) r.w1).wr64 (b + 16) (b + 20) r.w2).wr64 (b + 24) (b + 28) r.w3

/-- The registers that show a record, and nothing else. -/
structure Shows (s u : State) (r : NodeRec) (b : Nat) : Prop where
  w0 : u.rd64 b (b + 4) = r.w0
  w1 : u.rd64 (b + 8) (b + 12) = r.w1
  w2 : u.rd64 (b + 16) (b + 20) = r.w2
  w3 : u.rd64 (b + 24) (b + 28) = r.w3
  regs : OffRegs [b, b + 4, b + 8, b + 12, b + 16, b + 20, b + 24, b + 28] s u
  rest : u = { s with regs := u.regs }

theorem Shows.pwr {s u : State} {r : NodeRec} {b : Nat} (h : Shows s u r b) : u.pwr = s.pwr := by rw [h.rest]
theorem Shows.host {s u : State} {r : NodeRec} {b : Nat} (h : Shows s u r b) : u.host = s.host := by rw [h.rest]

theorem State.showWords_rest (s : State) (b : Nat) (r : NodeRec) : s.showWords b r = { s with regs := (s.showWords b r).regs } := by
  simp only [State.showWords, State.wr64, State.wr]

theorem State.showWords_shows (s : State) (b : Nat) {r : NodeRec} (hr : r.fits) : Shows s (s.showWords b r) r b := by
  obtain ⟨h0, h1, h2, h3⟩ := hr
  refine ⟨?_, ?_, ?_, ?_, fun a ha => ?_, s.showWords_rest b r⟩
  · simpa [State.showWords, State.rd64, State.wr64, join64_lo_hi] using h0
  · simpa [State.showWords, State.rd64, State.wr64, join64_lo_hi] using h1
  · simpa [State.showWords, State.rd64, State.wr64, join64_lo_hi] using h2
  · simpa [State.showWords, State.rd64, State.wr64, join64_lo_hi] using h3
  · simp only [List.mem_cons, List.not_mem_nil, or_false, not_or] at ha
    simp [State.showWords, State.wr64, ha]

/-- ND0 of a segment, SD0 of an uplink; the others follow. -/
abbrev ndReg (p i : Nat) : Nat := portReg p (fun n => Reg.nodeNd n i) (fun u => Reg.uplSd u i)

theorem ndReg_eq (p i : Nat) : ndReg p i = ndReg p 0 + 4 * i := by
  simp only [ndReg, portReg, Reg.nodeNd, Reg.uplSd]
  split <;> omega

@[simp] theorem State.raise_pwr (s : State) (page b : Nat) : (s.raise page b).pwr = s.pwr := rfl
@[simp] theorem State.raise_host (s : State) (page b : Nat) : (s.raise page b).host = s.host := rfl

section Table
variable {s : State} {p : Nat}

theorem State.nodeRead_clean (h : s.clean (portStore p) (recIndex p (s.nodeIndex p)) 4 = true) :
    s.nodeRead p = s.showWords (ndReg p 0) (s.node p (s.nodeIndex p)) := by
  have hw : ∀ j < 4, s.peekWord (portStore p) (recIndex p (s.nodeIndex p) + j) =
      wordData (s.rawWord (portStore p) (recIndex p (s.nodeIndex p) + j)) :=
    fun j hj => State.peekWord_good (State.clean_good h hj)
  have hn := ndReg_eq p
  simp only [ndReg] at hn
  simp only [State.nodeRead, State.readWords_clean h, show List.range 4 = [0, 1, 2, 3] from rfl, List.map_cons, List.map_nil,
    List.zip_cons_cons, List.zip_nil_right, List.foldl_cons, List.foldl_nil, Option.getD_some, State.showWords, State.node,
    hw 0 (by decide), hw 1 (by decide), hw 2 (by decide), hw 3 (by decide), ndReg]
  rw [hn (2 * 0 + 1), hn (2 * 1), hn (2 * 1 + 1), hn (2 * 2), hn (2 * 2 + 1), hn (2 * 3), hn (2 * 3 + 1)]

theorem State.nodeRead_shows (h : s.clean (portStore p) (recIndex p (s.nodeIndex p)) 4 = true) :
    Shows s (s.nodeRead p) (s.node p (s.nodeIndex p)) (ndReg p 0) := by
  rw [State.nodeRead_clean h]
  exact State.showWords_shows s (ndReg p 0) (State.node_fits s p _)

/-! ### A record written (R248, R294) -/

theorem State.ndWords_fit (s : State) (p : Nat) : (s.ndWords p).1 < 2 ^ 64 ∧ (s.ndWords p).2 < 2 ^ 64 := by
  have hj : ∀ a b : Word, join64 a b < 2 ^ 64 := fun a b => by
    have := a.isLt
    have := b.isLt
    simp only [join64]
    omega
  refine ⟨hj _ _, ?_⟩
  have h1 := putNat_lt 0 (hj (s.rd (ndReg p 2)) (s.rd (ndReg p 3))) (show 53 + 3 ≤ 64 by decide)
  simp only [State.ndWords]
  split
  · exact putNat_lt 1 h1 (by decide)
  · exact h1

/-- The record that a WRITE stores. -/
def State.newNode (s : State) (p : Nat) : NodeRec := { w0 := (s.ndWords p).1, w1 := (s.ndWords p).2, w2 := 0, w3 := 0 }

theorem State.newNode_fits (s : State) (p : Nat) : (s.newNode p).fits :=
  ⟨(s.ndWords_fit p).1, (s.ndWords_fit p).2, Nat.two_pow_pos 64, Nat.two_pow_pos 64⟩

theorem State.nodeWrite_takes (h : s.badNode p (s.nodeIndex p) (s.ndWords p).1 (s.ndWords p).2 = false) :
    s.nodeWrite p = (s.putNode p (s.nodeIndex p) (s.newNode p)).setPubFrom p (s.nodeIndex p) := by
  simp only [State.nodeWrite, h, Bool.false_eq_true, if_false, State.newNode]

theorem State.nodeIndex_lt (s : State) (p : Nat) : s.nodeIndex p < 64 := field_lt _ _ _

theorem PortOnly.rest_words {p : Nat} {ps : List Nat} {s u : State} (h : PortOnly { w1set := true, words := true } p ps s u) :
    u = { s with regs := u.regs, w1set := u.w1set, words := u.words, ports := u.ports } := h.rest

theorem State.nodeWrite_only (hp : p < 18) (h : s.badNode p (s.nodeIndex p) (s.ndWords p).1 (s.ndWords p).2 = false) :
    PortOnly { w1set := true, words := true } p [Page.ecc] s (s.nodeWrite p) := by
  rw [State.nodeWrite_takes h]
  exact (PortOnly.writeWords hp rfl rfl (by simp) _ fun _ => recIndex_lt p (s.nodeIndex_lt p)).trans (.setPort _)

theorem State.node_setPubFrom (s : State) (p k q j : Nat) : (s.setPubFrom p k).node q j = s.node q j :=
  State.node_congr fun _ _ => State.rawWord_setPort ..

/-- A record written while no injection is armed is the record read, and no other changes. -/
theorem State.nodeWrite_stores (hp : p < 18) (ha : s.unarmed = true)
    (h : s.badNode p (s.nodeIndex p) (s.ndWords p).1 (s.ndWords p).2 = false) :
    (s.nodeWrite p).node p (s.nodeIndex p) = s.newNode p ∧
      OffUnit (fun s j => s.node p j) (s.nodeIndex p) s (s.nodeWrite p) ∧ (s.nodeWrite p).regs = s.regs := by
  rw [State.nodeWrite_takes h]
  refine ⟨?_, fun j hj => ?_, ?_⟩
  · rw [State.node_setPubFrom, State.node_putNode_same hp ha _ (s.newNode_fits p)]
  · exact (State.node_setPubFrom ..).trans (State.node_putNode_other hp ha _ hj)
  · rw [State.setPubFrom, State.setPort_regs, State.putNode_words hp ha]

theorem State.nodeWrite_refused (h : s.badNode p (s.nodeIndex p) (s.ndWords p).1 (s.ndWords p).2 = true) :
    s.nodeWrite p = if p < 16 then (s.setb (Reg.nodeNsta p) 1 true).raise (Page.node p) 0
      else (s.setb (Reg.uplSsta (p - 16)) 1 true).raise (Page.upl (p - 16)) 11 := by
  simp only [State.nodeWrite, h, if_true, isSeg, decide_eq_true_eq, portPage]
  split <;> rfl

theorem State.nodeWrite_refused_keeps (h : s.badNode p (s.nodeIndex p) (s.ndWords p).1 (s.ndWords p).2 = true) :
    (s.nodeWrite p).pwr = s.pwr ∧ (s.nodeWrite p).host = s.host := by
  rw [State.nodeWrite_refused h]
  split
  · exact ⟨State.raise_pwr .., State.raise_host ..⟩
  · exact ⟨State.raise_pwr .., State.raise_host ..⟩

theorem State.ncmd_eq (s : State) (p : Nat) (v : Word) :
    s.ncmd p v = (s.onlyIf (bitOf v 0) (·.nodeRead p)).onlyIf (bitOf v 1) (·.nodeWrite p) := rfl

theorem State.ncmd_read (s : State) (p : Nat) : s.ncmd p (1 &&& 0x3) = s.nodeRead p := by
  rw [State.ncmd_eq, show bitOf (1 &&& 0x3) 0 = true by decide, show bitOf (1 &&& 0x3) 1 = false by decide,
    State.onlyIf_true, State.onlyIf_false]

theorem State.ncmd_write (s : State) (p : Nat) : s.ncmd p (2 &&& 0x3) = s.nodeWrite p := by
  rw [State.ncmd_eq, show bitOf (2 &&& 0x3) 0 = false by decide, show bitOf (2 &&& 0x3) 1 = true by decide,
    State.onlyIf_true, State.onlyIf_false]

/-! ### Keys (R246) -/

theorem State.key?_setKey (s : State) (p k j : Nat) (key : Option (BitVec 128)) :
    (s.setKey p k key).key? p j = if j = k then key else s.key? p j := by
  have hf : ((s.port p).keys.filter (fun y => y.1 != k)).find? (fun x => x.1 == j) =
      if j = k then none else (s.port p).keys.find? (fun x => x.1 == j) := by
    rw [List.find?_filter]
    split
    · next h => simp [h]
    · next h =>
      congr 1
      funext y
      by_cases hy : y.1 = j
      · simp [hy, h]
      · simp [hy]
  by_cases h : j = k
  · subst h
    cases key <;> simp [State.key?, State.setKey, hf]
  · cases key <;> simp [State.key?, State.setKey, hf, h, Ne.symm h]

theorem State.setKey_only (s : State) (p k : Nat) (key : Option (BitVec 128)) :
    OffUnit (fun s j => s.key? p j) k s (s.setKey p k key) ∧ OffUnit State.port p s (s.setKey p k key) ∧
      s.setKey p k key = { s with ports := (s.setKey p k key).ports } :=
  ⟨fun j hj => (State.key?_setKey ..).trans (if_neg hj), fun j hj => by simp [State.setKey, hj], rfl⟩

theorem State.kcmd_load (s : State) (p : Nat) : s.kcmd p (1 &&& 0x3) = s.setKey p (s.keyIndex p) (some (s.keyWords p)) := rfl
theorem State.kcmd_erase (s : State) (p : Nat) : s.kcmd p (2 &&& 0x3) = s.setKey p (s.keyIndex p) none := rfl

end Table

/-! ### A cache entry read (R253) -/

section Cache
variable {s : State} {req : Req}

theorem busTarget_nodeCd (n : Fin 16) : busTarget (Reg.nodeCd n 0) =
    some (.node, n.val, ⟨0x094, 4, 4, .ro, 0x0, 0xFFFFFFFF, false⟩, 0) := by
  decide +revert
theorem busTarget_uplCd (u : Fin 2) : busTarget (Reg.uplCd u 0) =
    some (.upl, u.val, ⟨0x0B4, 4, 4, .ro, 0x0, 0xFFFFFFFF, false⟩, 0) := by
  decide +revert
theorem nodeCd_page (n : Fin 16) : Reg.nodeCd n 0 / 1024 = Page.node n ∧ Reg.nodeCd n 0 % 1024 = 0x094 := by decide +revert
theorem uplCd_page (u : Fin 2) : Reg.uplCd u 0 / 1024 = Page.upl u ∧ Reg.uplCd u 0 % 1024 = 0x0B4 := by decide +revert

/-- CIDX as the requester sees it. -/
def State.cacheIndex (s : State) (r p : Nat) : Nat :=
  field (s.shadow r (portReg p (fun n => Reg.nodeCidx n) (fun u => Reg.uplCidx u))) 0 10

/-- A read of CD0 returns the first word of the entry and latches the others. -/
theorem State.reqRead_cd0 (p : Fin 18) (hr : s.reaches req (recPage p) = true) :
    let r := s.cacheRead p (s.cacheIndex req.index p)
    s.reqRead req (cdReg p) = { r.2.latchMany req.index (cdReg p + 4) (r.1.drop 1) with rdata := [r.1.headD 0] } := by
  revert hr
  refine port_cases (P := fun p => s.reaches req (recPage p) = true →
    let r := s.cacheRead p (s.cacheIndex req.index p)
    s.reqRead req (cdReg p) = { r.2.latchMany req.index (cdReg p + 4) (r.1.drop 1) with rdata := [r.1.headD 0] })
    (fun n hr => ?_) (fun k hr => ?_) p
  · obtain ⟨hpage, hoff⟩ := nodeCd_page n
    simp only [cdReg, State.cacheIndex, portReg_seg]
    rw [State.reqRead_block (busTarget_nodeCd n) (by rwa [hpage, ← recPage_seg]) (by decide) rfl (by decide) (by rw [hoff]; rfl), hoff]
    rfl
  · obtain ⟨hpage, hoff⟩ := uplCd_page k
    simp only [cdReg, State.cacheIndex, portReg_upl]
    rw [State.reqRead_block (busTarget_uplCd k) (by rwa [hpage, ← recPage_upl]) (by decide) rfl (by decide) (by rw [hoff]; rfl), hoff]
    rfl

theorem State.shadow_latch (s : State) (r a b : Nat) (v : Word) :
    (s.latch r a v).shadow r b = if b = a then v else s.shadow r b := by
  simp only [State.shadow, State.latch, Sparse.get_set, Nat.add_left_cancel_iff]

theorem State.cacheRead_clean {p c : Nat} (h : (s.takeFrames p).clean (portStore p) (2 * c) 2 = true) :
    let t := s.takeFrames p
    let x := (t.peekWord (portStore p) (2 * c)).toNat
    let y := (t.peekWord (portStore p) (2 * c + 1)).toNat
    s.cacheRead p c = ([lo32 x, hi32 x, lo32 y, hi32 y], t) := by
  have hw : ∀ j < 2, (s.takeFrames p).peekWord (portStore p) (2 * c + j) =
      wordData ((s.takeFrames p).rawWord (portStore p) (2 * c + j)) := fun j hj => State.peekWord_good (State.clean_good h hj)
  have h0 := hw 0 (by decide)
  rw [Nat.add_zero] at h0
  simp only [State.cacheRead, cacheWord, State.readWords_clean h, show List.range 2 = [0, 1] from rfl, List.map_cons, List.map_nil,
    List.flatMap_cons, List.flatMap_nil, Option.getD_some, h0, hw 1 (by decide), Nat.add_zero, List.cons_append, List.nil_append]

/-- Three shadows in a row. -/
theorem State.latchMany_shadow (s : State) (r a : Nat) (x y z : Word) :
    (s.latchMany r a [x, y, z]).shadow r a = x ∧ (s.latchMany r a [x, y, z]).shadow r (a + 4) = y ∧
      (s.latchMany r a [x, y, z]).shadow r (a + 8) = z := by
  simp [State.latchMany, State.shadow_latch, show ¬ a = a + 4 + 4 by omega]

theorem State.latchMany_rest (s : State) (r a : Nat) (x y z : Word) :
    s.latchMany r a [x, y, z] = { s with shadows := (s.latchMany r a [x, y, z]).shadows } := by
  simp only [State.latchMany, State.latch]

end Cache

theorem cdReg_add (p i : Nat) : portReg p (fun n => Reg.nodeCd n i) (fun u => Reg.uplCd u i) = cdReg p + 4 * i := by
  simp only [portReg, Reg.nodeCd, Reg.uplCd, cdReg]
  split <;> omega

/-! ### The commands -/

theorem Completes.of_finish {c : Instr} {s u : State} {P : State → Prop} (hc : exec c s = finish u) (h : P u) : Completes c s P :=
  ⟨u, hc, h⟩

theorem exec_cd0Read (s : State) (req : Req) (p : Fin 18) : exec (.cd0Read req p) s = finish (s.reqRead req (cdReg p)) := rfl

section Settle
variable {s : State} {req : Req} {c : Instr}

section Records
variable {p : Fin 18} (hr : s.reaches req (recPage p) = true)
include hr

theorem ncmdRead_completes (hc : exec c s = finish (s.reqWrite req (ncmdReg p) 1))
    (h : s.clean (portStore p) (recIndex p (s.nodeIndex p)) 4 = true) :
    Completes c s (fun u => Shows s u (s.node p (s.nodeIndex p)) (ndReg p 0)) := by
  have hs := State.nodeRead_shows h
  have hw : s.reqWrite req (ncmdReg p) 1 = s.nodeRead p :=
    State.reqWrite_ncmd hr (s.ncmd_read p) hs.pwr hs.host
  exact .of_finish (hw ▸ hc) hs

theorem ncmdWrite_completes (hc : exec c s = finish (s.reqWrite req (ncmdReg p) 2))
    (h : s.badNode p (s.nodeIndex p) (s.ndWords p).1 (s.ndWords p).2 = false) :
    Completes c s (fun u =>
      (s.unarmed = true → u.node p (s.nodeIndex p) = s.newNode p ∧ OffUnit (fun s j => s.node p j) (s.nodeIndex p) s u ∧
        u.regs = s.regs) ∧
      OffPages [Page.ecc] s u ∧ OffStores [portStore p] s u ∧ OffUnit State.port p s u ∧
      u = { s with regs := u.regs, w1set := u.w1set, words := u.words, ports := u.ports }) := by
  have hf := State.nodeWrite_only p.isLt h
  have hw : s.reqWrite req (ncmdReg p) 2 = s.nodeWrite p := State.reqWrite_ncmd hr (s.ncmd_write p) hf.pwr hf.host
  have hst := fun ha => State.nodeWrite_stores p.isLt ha h
  generalize s.nodeWrite p = u at hf hw hst
  exact .of_finish (hw ▸ hc) ⟨hst, hf.regs, hf.stores rfl, hf.port, hf.rest_words⟩

theorem ncmdWrite_refused (hc : exec c s = finish (s.reqWrite req (ncmdReg p) 2))
    (h : s.badNode p (s.nodeIndex p) (s.ndWords p).1 (s.ndWords p).2 = true) :
    Completes c s (fun u =>
      u = if p.val < 16 then (s.setb (Reg.nodeNsta p) 1 true).raise (Page.node p) 0
        else (s.setb (Reg.uplSsta (p - 16)) 1 true).raise (Page.upl (p - 16)) 11) := by
  have hk := State.nodeWrite_refused_keeps h
  have hw : s.reqWrite req (ncmdReg p) 2 = s.nodeWrite p := State.reqWrite_ncmd hr (s.ncmd_write p) hk.1 hk.2
  exact .of_finish (hw ▸ hc) (State.nodeWrite_refused h)

end Records

theorem ncmd_record {c d : Instr} {q page : Nat} (hq : q < 18) (hpage : recPage q = page)
    (hc : exec c s = finish (s.reqWrite req (ncmdReg q) 1)) (hd : exec d s = finish (s.reqWrite req (ncmdReg q) 2))
    (hr : s.reaches req page = true) :
    let k := s.nodeIndex q
    (s.clean (portStore q) (recIndex q k) 4 = true → Completes c s (fun u => Shows s u (s.node q k) (ndReg q 0))) ∧
    (s.badNode q k (s.ndWords q).1 (s.ndWords q).2 = false →
      Completes d s (fun u =>
        (s.unarmed = true → u.node q k = s.newNode q ∧ OffUnit (fun s j => s.node q j) k s u ∧ u.regs = s.regs) ∧
        OffPages [Page.ecc] s u ∧ OffStores [portStore q] s u ∧ OffUnit State.port q s u ∧
        u = { s with regs := u.regs, w1set := u.w1set, words := u.words, ports := u.ports })) ∧
    (s.badNode q k (s.ndWords q).1 (s.ndWords q).2 = true →
      Completes d s (fun u =>
        u = if q < 16 then (s.setb (Reg.nodeNsta q) 1 true).raise (Page.node q) 0
            else (s.setb (Reg.uplSsta (q - 16)) 1 true).raise (Page.upl (q - 16)) 11)) :=
  have hr' : s.reaches req (recPage q) = true := hpage ▸ hr
  ⟨ncmdRead_completes (p := ⟨q, hq⟩) hr' hc, ncmdWrite_completes (p := ⟨q, hq⟩) hr' hd, ncmdWrite_refused (p := ⟨q, hq⟩) hr' hd⟩

theorem cd0Read_completes (p : Fin 18) (hr : s.reaches req (recPage p) = true)
    (h : (s.takeFrames p).clean (portStore p) (2 * s.cacheIndex req.index p) 2 = true) :
    let t := s.takeFrames p
    let i := 2 * s.cacheIndex req.index p
    Completes (.cd0Read req p) s (fun u =>
      u.rdata = [lo32 (t.peekWord (portStore p) i).toNat] ∧
      u.shadow req.index (cdReg p + 4 * 1) = hi32 (t.peekWord (portStore p) i).toNat ∧
      u.shadow req.index (cdReg p + 4 * 2) = lo32 (t.peekWord (portStore p) (i + 1)).toNat ∧
      u.shadow req.index (cdReg p + 4 * 3) = hi32 (t.peekWord (portStore p) (i + 1)).toNat ∧
      u = { t with rdata := u.rdata, shadows := u.shadows }) := by
  have hread := State.reqRead_cd0 (s := s) (req := req) p hr
  simp only [State.cacheRead_clean h, List.drop_succ_cons, List.drop_zero, List.headD_cons] at hread
  obtain ⟨h1, h2, h3⟩ := State.latchMany_shadow (s.takeFrames p) req.index (cdReg p + 4)
    (hi32 ((s.takeFrames p).peekWord (portStore p) (2 * s.cacheIndex req.index p)).toNat)
    (lo32 ((s.takeFrames p).peekWord (portStore p) (2 * s.cacheIndex req.index p + 1)).toNat)
    (hi32 ((s.takeFrames p).peekWord (portStore p) (2 * s.cacheIndex req.index p + 1)).toNat)
  have hrest := State.latchMany_rest (s.takeFrames p) req.index (cdReg p + 4)
    (hi32 ((s.takeFrames p).peekWord (portStore p) (2 * s.cacheIndex req.index p)).toNat)
    (lo32 ((s.takeFrames p).peekWord (portStore p) (2 * s.cacheIndex req.index p + 1)).toNat)
    (hi32 ((s.takeFrames p).peekWord (portStore p) (2 * s.cacheIndex req.index p + 1)).toNat)
  have hc := exec_cd0Read s req p
  rw [hread] at hc
  generalize State.latchMany _ _ _ _ = l at hc h1 h2 h3 hrest
  exact .of_finish hc ⟨rfl, h1, h2, h3, by rw [hrest]⟩

theorem kcmdLoad_completes (p : Fin 18) (hr : s.reaches req (recPage p) = true) :
    Completes (.kcmdLoad req p) s (fun u =>
      u.key? p (s.keyIndex p) = some (s.keyWords p) ∧ OffUnit (fun s j => s.key? p j) (s.keyIndex p) s u ∧
      OffUnit State.port p s u ∧ u = { s with ports := u.ports }) :=
  ⟨s.setKey p (s.keyIndex p) (some (s.keyWords p)), congrArg finish (State.reqWrite_kcmd hr (s.kcmd_load p) rfl rfl),
    (State.key?_setKey ..).trans (if_pos rfl), State.setKey_only ..⟩

theorem kcmdErase_completes (p : Fin 18) (hr : s.reaches req (recPage p) = true) :
    Completes (.kcmdErase req p) s (fun u =>
      u.key? p (s.keyIndex p) = none ∧ OffUnit (fun s j => s.key? p j) (s.keyIndex p) s u ∧
      OffUnit State.port p s u ∧ u = { s with ports := u.ports }) :=
  ⟨s.setKey p (s.keyIndex p) none, congrArg finish (State.reqWrite_kcmd hr (s.kcmd_erase p) rfl rfl),
    (State.key?_setKey ..).trans (if_pos rfl), State.setKey_only ..⟩

end Settle

/-- What `Shows` says, in the registers as the table names them. -/
theorem Shows.stated {s u : State} {r : NodeRec} {q : Nat} (h : Shows s u r (ndReg q 0)) :
    let nd := fun i => portReg q (fun n => Reg.nodeNd n i) (fun u => Reg.uplSd u i)
    u.rd64 (nd 0) (nd 1) = r.w0 ∧ u.rd64 (nd 2) (nd 3) = r.w1 ∧ u.rd64 (nd 4) (nd 5) = r.w2 ∧ u.rd64 (nd 6) (nd 7) = r.w3 ∧
      OffRegs [nd 0, nd 1, nd 2, nd 3, nd 4, nd 5, nd 6, nd 7] s u ∧ u = { s with regs := u.regs, w1set := u.w1set } := by
  have hnd := ndReg_eq q
  have hmore : u = { s with regs := u.regs, w1set := u.w1set } := by
    have hw : u.w1set = s.w1set := by rw [h.rest]
    rw [hw]
    exact h.rest
  simp only [ndReg] at h hnd
  simp only [hnd 1, hnd 2, hnd 3, hnd 4, hnd 5, hnd 6, hnd 7]
  exact ⟨h.w0, h.w1, h.w2, h.w3, h.regs, hmore⟩

theorem Completes.mono {c : Instr} {s : State} {P Q : State → Prop} (h : Completes c s P) (hPQ : ∀ u, P u → Q u) : Completes c s Q :=
  h.imp fun u ⟨he, hp⟩ => ⟨he, hPQ u hp⟩

/-- Settles O17: the commands of a record, of a key and the read of the cache, each the same on segments and uplinks. -/
theorem nodeTable : Obligations.NodeTable := by
  unfold Obligations.NodeTable
  intro s req
  refine ⟨fun n u c hc hr => ?_, fun p hr => ⟨fun _ => ⟨kcmdLoad_completes p hr, kcmdErase_completes p hr⟩, ?_⟩⟩
  · simp only [List.mem_cons, List.not_mem_nil, or_false] at hc
    rcases hc with rfl | rfl
    · obtain ⟨hread, hwrite⟩ := ncmd_record (c := .ncmdRead req n) (d := .ncmdWrite req n) (by omega) (recPage_seg n)
        (by rw [ncmdReg, portReg_seg]; rfl) (by rw [ncmdReg, portReg_seg]; rfl) hr
      exact ⟨fun h => (hread h).mono fun _ => Shows.stated, hwrite⟩
    · obtain ⟨hread, hwrite⟩ := ncmd_record (c := .scmdRead req u) (d := .scmdWrite req u) (by omega) (recPage_upl u)
        (by rw [ncmdReg, portReg_upl]; rfl) (by rw [ncmdReg, portReg_upl]; rfl) hr
      exact ⟨fun h => (hread h).mono fun _ => Shows.stated, hwrite⟩
  · intro t cd i h
    simp only [cd, cdReg_add]
    exact cd0Read_completes p hr h

end Sys2Proof.Machine
end

section
/-! Bytes in words, and what reading and writing words at a port leaves as it was (07 R257-R266, 12 R397-R406). -/

namespace Sys2Proof.Machine

/-! ### Bytes of words -/

@[simp] theorem length_bytesOf (n x : Nat) : (bytesOf n x).length = n := by
  induction n generalizing x with
  | zero => rfl
  | succ n ih => rw [bytesOf, List.length_cons, ih]

theorem ofBytes_lt (l : List Byte) : ofBytes l < 256 ^ l.length := by
  induction l with
  | nil => exact Nat.one_pos
  | cons b l ih =>
    have hb := b.isLt
    rw [ofBytes, List.length_cons, Nat.pow_succ]
    omega

theorem bytesOf_zero (n : Nat) : bytesOf n 0 = List.replicate n 0 := by
  induction n with
  | zero => rfl
  | succ n ih => rw [bytesOf, Nat.zero_shiftRight, ih, List.replicate_succ]; rfl

/-- The bytes of the number of a list are the list, with zeros behind it. -/
theorem bytesOf_ofBytes (l : List Byte) {n : Nat} (h : l.length ≤ n) : bytesOf n (ofBytes l) = l ++ List.replicate (n - l.length) 0 := by
  induction l generalizing n with
  | nil => simp [ofBytes, bytesOf_zero]
  | cons b l ih =>
    obtain ⟨m, rfl⟩ : ∃ m, n = m + 1 := ⟨n - 1, by simp only [List.length_cons] at h; omega⟩
    have hb := b.isLt
    have hlow : BitVec.ofNat 8 (b.toNat + 256 * ofBytes l) = b := BitVec.eq_of_toNat_eq (by simpa using hb)
    have hhigh : (b.toNat + 256 * ofBytes l) >>> 8 = ofBytes l := by rw [Nat.shiftRight_eq_div_pow]; omega
    rw [ofBytes, bytesOf, hlow, hhigh, ih (by simpa using h), List.length_cons, Nat.add_sub_add_right, List.cons_append]

/-- The words of a list of bytes hold it, with zeros behind it. -/
theorem bytesWords_bytes {m : Nat} {bs : List Byte} (h : bs.length ≤ 8 * m) :
    (bytesWords m bs).length = wordsFor bs.length ∧
      ∃ k, (bytesWords m bs).flatMap (fun d => bytesOf 8 d.toNat) = bs ++ List.replicate k 0 := by
  induction m generalizing bs with
  | zero =>
    obtain rfl := List.eq_nil_of_length_eq_zero (show bs.length = 0 by omega)
    exact ⟨rfl, 0, rfl⟩
  | succ m ih =>
    cases bs with
    | nil => exact ⟨rfl, 0, rfl⟩
    | cons b bs =>
      set l := b :: bs with hl
      have hlen : 0 < l.length := by simp [hl]
      obtain ⟨hn, k, hk⟩ := ih (bs := l.drop 8) (by simp only [List.length_drop]; omega)
      have hw : bytesWords (m + 1) l = BitVec.ofNat 64 (ofBytes (l.take 8)) :: bytesWords m (l.drop 8) := by
        rw [bytesWords, hl, List.isEmpty_cons]; rfl
      have hlt : ofBytes (l.take 8) < 2 ^ 64 :=
        Nat.lt_of_lt_of_le (ofBytes_lt _) (Nat.pow_le_pow_right (n := 256) (by decide) (List.length_take_le 8 l))
      rw [hw, List.length_cons, hn, List.flatMap_cons, hk, BitVec.toNat_ofNat, Nat.mod_eq_of_lt hlt,
        bytesOf_ofBytes _ (List.length_take_le 8 l)]
      refine ⟨by simp only [wordsFor, List.length_drop]; omega, ?_⟩
      by_cases h8 : 8 ≤ l.length
      · refine ⟨k, ?_⟩
        rw [List.length_take, Nat.min_eq_left h8, Nat.sub_self, List.replicate_zero, List.append_nil, ← List.append_assoc,
          List.take_append_drop]
      · rw [List.drop_of_length_le (by omega), List.nil_append, List.take_of_length_le (by omega), List.append_assoc,
          List.replicate_append_replicate]
        exact ⟨_, rfl⟩

theorem wordBytes_bytesWords {m : Nat} {bs : List Byte} (h : bs.length ≤ 8 * m) :
    wordBytes bs.length ((bytesWords m bs).map some) = bs := by
  obtain ⟨-, k, hk⟩ := bytesWords_bytes h
  rw [wordBytes, List.flatMap_map]
  simp only [Option.getD_some, hk, List.take_left]

theorem wordsFor_le {n m : Nat} (h : n ≤ 8 * m) : wordsFor n ≤ m := by simp only [wordsFor]; omega

section Store
variable {s u : State} {p i : Nat}

/-! ### Ports stay while words are written or read -/

theorem State.port_putWord (s : State) (st : Store) (i : Nat) (w : CWord) (k : Nat) : (s.putWord st i w).port k = s.port k := by
  have hraw : ∀ (t : State) w, (t.setRaw st i w).port k = t.port k := fun t w => by
    unfold State.setRaw
    split <;> rfl
  unfold State.putWord
  split
  · rfl
  · simp only
    split
    · rw [hraw]; rfl
    · exact hraw ..

@[simp] theorem State.port_writeWords (s : State) (st : Store) (i : Nat) (ds : List DWord) (k : Nat) :
    (s.writeWords st i ds).port k = s.port k := by
  induction ds generalizing s i with
  | nil => rfl
  | cons d ds ih => exact (ih ..).trans (State.port_putWord ..)

/-! ### Words written -/

/-- Bytes written at a port stand in its words. -/
theorem State.writeWords_bytes (hp : p < 18) (ha : s.unarmed = true) {m : Nat} {bs : List Byte} (h : bs.length ≤ 8 * m) :
    wordBytes bs.length ((List.range (wordsFor bs.length)).map (fun j =>
      some (wordData ((s.writeWords (portStore p) i (bytesWords m bs)).rawWord (portStore p) (i + j))))) = bs := by
  obtain ⟨hlen, -⟩ := bytesWords_bytes h
  have hw : (List.range (wordsFor bs.length)).map (fun j =>
      some (wordData ((s.writeWords (portStore p) i (bytesWords m bs)).rawWord (portStore p) (i + j)))) =
      (bytesWords m bs).map some := by
    refine List.ext_getElem (by simp [hlen]) fun j hj _ => ?_
    have hj' : j < wordsFor bs.length := by simpa using hj
    rw [List.getElem_map, List.getElem_range, State.rawWord_writeWords_port hp ha, if_pos (by omega), wordData_encodeWord,
      Nat.add_sub_cancel_left, List.getElem_map, List.getD_eq_getElem]
  rw [hw, wordBytes_bytesWords h]

/-! ### Words read -/

/-- `u` has the ports and the words of `s`. -/
def SameStores (s u : State) : Prop := u.ports = s.ports ∧ u.words = s.words

theorem SameStores.trans {s t u : State} (h : SameStores s t) (h' : SameStores t u) : SameStores s u :=
  ⟨h'.1.trans h.1, h'.2.trans h.2⟩

theorem SameStores.wr (s : State) (a : Nat) (v : Word) : SameStores s (s.wr a v) := ⟨rfl, rfl⟩
theorem SameStores.raise (s : State) (page b : Nat) : SameStores s (s.raise page b) := ⟨rfl, rfl⟩
theorem SameStores.setErrs (s : State) (l : List (Nat × Word)) : SameStores s { s with errs := l } := ⟨rfl, rfl⟩

theorem State.logError_sameStores (st : Store) (i : Nat) (scrub : Bool) : SameStores s (s.logError st i scrub) := by
  unfold State.logError
  refine SameStores.trans ?_ (.raise ..)
  refine SameStores.trans ?_ (.wr ..)
  refine SameStores.trans ?_ (.wr ..)
  refine SameStores.trans ?_ (.wr ..)
  refine SameStores.trans ?_ (.wr ..)
  refine SameStores.trans ?_ (.wr ..)
  refine SameStores.trans ?_ (.setErrs ..)
  split
  · exact .wr ..
  · exact .wr ..

/-- The ring of the error log lies on the page of ECC. -/
theorem eccRing_page (t : State) : Reg.eccEla (t.rf Reg.eccElwp 0 4) / 1024 = Page.ecc ∧
    Reg.eccElw (t.rf Reg.eccElwp 0 4) / 1024 = Page.ecc ∧ Reg.eccElstmp (t.rf Reg.eccElwp 0 4) / 1024 = Page.ecc := by
  have h : t.rf Reg.eccElwp 0 4 < 16 := field_lt _ _ 4
  simp only [Reg.eccEla, Reg.eccElw, Reg.eccElstmp, Page.ecc]
  omega

theorem State.noteTileError_port (hp : p < 18) (s : State) : s.noteTileError (portStore p) = s := by
  rw [State.noteTileError, if_neg]
  simp [portStore_eq hp, show ¬ 1028 + p < 1024 by omega]

namespace PortOnly
variable {e : Touch} {ps : List Nat}

theorem setErrs (he : e.errs = true) (l : List (Nat × Word)) : PortOnly e p ps s { s with errs := l } :=
  ⟨by simp only [he, cond_true, cond_same], fun _ _ => rfl, fun _ _ => rfl, fun _ _ _ _ _ => rfl⟩

theorem logError (h1 : e.w1set = true) (he : e.errs = true) (hecc : Page.ecc ∈ ps) {st : Store} (hpage : (storePage st).1 ∈ ps)
    (scrub : Bool) : PortOnly e p ps s (s.logError st i scrub) := by
  have hlog : Reg.hdrErrlog (storePage st).1 / 1024 ∈ ps := by
    rwa [show Reg.hdrErrlog (storePage st).1 / 1024 = (storePage st).1 by simp only [Reg.hdrErrlog]; omega]
  unfold State.logError
  refine PortOnly.trans ?_ (.raise h1 hecc)
  refine PortOnly.trans ?_ (.wr hecc _)
  refine PortOnly.trans ?_ (.wr hecc _)
  refine PortOnly.trans ?_ (.wr ((eccRing_page _).2.2 ▸ hecc) _)
  refine PortOnly.trans ?_ (.wr ((eccRing_page _).2.1 ▸ hecc) _)
  refine PortOnly.trans ?_ (.wr ((eccRing_page _).1 ▸ hecc) _)
  refine PortOnly.trans ?_ (.setErrs he _)
  split
  · exact .wr hlog _
  · exact .wr hlog _

theorem readWord (hp : p < 18) (hw : e.words = true) (h1 : e.w1set = true) (he : e.errs = true) (hecc : Page.ecc ∈ ps)
    (hpage : portPage p ∈ ps) (hi : e.far = false → i < 2 ^ 40) : PortOnly e p ps s (s.readWord (portStore p) i).2 := by
  have hst : (storePage (portStore p)).1 ∈ ps := by rwa [storePage_port hp]
  unfold State.readWord
  split
  · exact refl
  · exact .bump (by rwa [show Reg.hdrErrcnt (storePage (portStore p)).1 / 1024 = (storePage (portStore p)).1 by
      simp only [Reg.hdrErrcnt]; omega])
  · exact .bump hecc
  · simp only [isFlash_port hp, Bool.false_eq_true, if_false, State.noteTileError_port hp]
    exact (setRaw hp hw hi _).trans (.logError h1 he hecc hst _)

theorem readWords (hp : p < 18) (hw : e.words = true) (h1 : e.w1set = true) (he : e.errs = true) (hecc : Page.ecc ∈ ps)
    (hpage : portPage p ∈ ps) (n : Nat) (hi : e.far = false → i + n ≤ 2 ^ 40) :
    PortOnly e p ps s (s.readWords (portStore p) i n).2 := by
  induction n generalizing s i with
  | zero => exact refl
  | succ n ih =>
    exact (readWord hp hw h1 he hecc hpage fun hf => by have := hi hf; omega).trans (ih fun hf => by have := hi hf; omega)

end PortOnly

/-- Every good word of the port's store is as it was. -/
def KeepsGood (p : Nat) (s u : State) : Prop :=
  ∀ j d, checkAt (portStore p) (s.rawWord (portStore p) j) = .good d → u.rawWord (portStore p) j = s.rawWord (portStore p) j

theorem KeepsGood.trans {t : State} (h : KeepsGood p s t) (h' : KeepsGood p t u) : KeepsGood p s u :=
  fun j d hd => (h' j d (by rwa [h j d hd])).trans (h j d hd)

theorem KeepsGood.of_words (h : ∀ j, u.rawWord (portStore p) j = s.rawWord (portStore p) j) : KeepsGood p s u := fun j _ _ => h j

theorem KeepsGood.clean (h : KeepsGood p s u) {n : Nat} (hc : s.clean (portStore p) i n = true) :
    u.clean (portStore p) i n = true ∧ ∀ j < n, u.rawWord (portStore p) (i + j) = s.rawWord (portStore p) (i + j) := by
  have hw := fun j (hj : j < n) => h (i + j) _ (State.clean_good hc hj)
  refine ⟨List.all_eq_true.mpr fun j hj => ?_, hw⟩
  rw [hw j (List.mem_range.mp hj)]
  exact List.all_eq_true.mp hc j hj

/-- What reading keeps: the ports and every good word of the store. -/
structure ReadKeeps (p : Nat) (s u : State) : Prop where
  port : ∀ k, u.port k = s.port k
  good : KeepsGood p s u

namespace ReadKeeps
variable {t : State}

theorem refl : ReadKeeps p s s := ⟨fun _ => rfl, fun _ _ _ => rfl⟩

theorem trans (h : ReadKeeps p s t) (h' : ReadKeeps p t u) : ReadKeeps p s u :=
  ⟨fun k => (h'.port k).trans (h.port k), h.good.trans h'.good⟩

theorem of_same (hp : p < 18) (h : SameStores s u) : ReadKeeps p s u :=
  ⟨fun k => by simp only [State.port, h.1], .of_words fun j => by simp [State.rawWord, isFlash_port hp, h.2]⟩

end ReadKeeps

theorem State.readWord_keeps (hp : p < 18) : ReadKeeps p s (s.readWord (portStore p) i).2 := by
  unfold State.readWord
  split
  · exact .refl
  · exact .of_same hp (.wr ..)
  · exact .of_same hp (.wr ..)
  · next hu =>
    simp only [isFlash_port hp, Bool.false_eq_true, if_false, State.noteTileError_port hp]
    refine ReadKeeps.trans ⟨fun k => by rw [State.setRaw_port_words hp i _]; rfl, fun j d hd => ?_⟩
      (.of_same hp (State.logError_sameStores ..))
    rw [State.rawWord_setRaw_port hp, if_neg]
    rintro rfl
    rw [hu] at hd
    cases hd

theorem State.readWords_keeps (hp : p < 18) (n : Nat) : ReadKeeps p s (s.readWords (portStore p) i n).2 := by
  induction n generalizing s i with
  | zero => exact .refl
  | succ n ih => exact (State.readWord_keeps hp).trans ih

end Store

end Sys2Proof.Machine
end

section
/-! Frames of the mailboxes sent, and the receive mailbox shown (07 R265, R266). -/

namespace Sys2Proof.Machine

/-! ### Registers of a port -/

/-- TXSTA of a port. -/
abbrev txstaReg (p : Nat) : Nat := portReg p (fun n => Reg.segTxsta n) (fun u => Reg.uplTxsta u)

section Registers
variable (p : Nat)

theorem txsta_page : txstaReg p / 1024 = portPage p := by
  simp only [txstaReg, portReg, portPage, Reg.segTxsta, Reg.uplTxsta, Page.seg, Page.upl]
  split <;> omega

theorem txsta_ne_iraw : txstaReg p ≠ Reg.hdrIraw (portPage p) := by
  simp only [txstaReg, portReg, portPage, Reg.segTxsta, Reg.uplTxsta, Page.seg, Page.upl, Reg.hdrIraw]
  split <;> omega

theorem txfrm_page : portReg p (fun n => Reg.segTxfrm n) (fun u => Reg.uplTxfrm u) / 1024 = portPage p := by
  simp only [portReg, portPage, Reg.segTxfrm, Reg.uplTxfrm, Page.seg, Page.upl]
  split <;> omega

end Registers

section Send
variable {s u : State} {p : Nat} {e : TxEntry}

/-! ### The mailbox frame finished (R265) -/

theorem State.mailDone_only {x : Touch} (h1 : x.w1set = true) {ps : List Nat} (hps : portPage p ∈ ps) (dropped : Bool) :
    PortOnly x p ps s (s.mailDone p dropped) :=
  ((PortOnly.setb (by rwa [txsta_page p]) _).trans (.setb (by rwa [txsta_page p]) _)).trans (.raise h1 hps)

theorem State.mailDone_tells (dropped : Bool) :
    (s.mailDone p dropped).rb (txstaReg p) 0 = false ∧ (s.mailDone p dropped).rb (txstaReg p) 2 = dropped ∧
      (s.mailDone p dropped).rb (Reg.hdrIraw (portPage p)) (if p < 16 then 8 else 4) = true := by
  have ht := txsta_ne_iraw p
  have hb : (if isSeg p then 8 else 4) = if p < 16 then 8 else 4 := by simp [isSeg]
  refine ⟨by simp [State.mailDone, State.rb, ht, bitOf_putBit], by simp [State.mailDone, State.rb, ht, bitOf_putBit], ?_⟩
  rw [State.mailDone, hb]
  exact State.rb_raise_same _ _ _ (by split <;> decide)

@[simp] theorem State.port_mailDone (dropped : Bool) (k : Nat) : (s.mailDone p dropped).port k = s.port k := by
  simp [State.mailDone]

/-! ### The frame on the line -/

theorem State.lineHead_mem (h : s.lineHead p = some e) : e ∈ (s.port p).txq := by
  simp only [State.lineHead, Option.or_eq_some_iff] at h
  rcases h with ((h | ⟨-, h⟩) | ⟨-, h⟩) | ⟨-, h | ⟨-, h⟩⟩
  all_goals exact List.mem_of_find?_eq_some h

theorem State.lineFrame_some {f : TxItem → Bool} (h : s.lineFrame p f = some e) :
    s.maySend p = true ∧ s.lineHead p = some e ∧ f e.item = true := by
  unfold State.lineFrame at h
  split at h
  · next hm =>
    obtain ⟨hh, hf⟩ := Option.filter_eq_some_iff.mp h
    exact ⟨hm, hh, hf⟩
  · cases h

/-! ### An entry goes out (R280) -/

/-- What sending may change beside registers and ports; `far` where a slot may lie beyond the queue. -/
def Touch.sending (far : Bool) : Touch := { w1set := true, words := true, errs := true, far := far }

/-- An entry of the queue that stands in it: its slot and its words. -/
def TxEntry.inQueue (e : TxEntry) : Prop := e.slot < 16 ∧ txLen e.item ≤ 1024

theorem TxEntry.inQueue.words (h : e.inQueue) (p : Nat) : txWord p e.slot + wordsFor (txLen e.item) ≤ 2 ^ 40 := by
  obtain ⟨hs, hl⟩ := h
  simp only [txWord, wordsFor]
  split <;> omega

/-- The entry leaves the queue and its words are read. -/
def State.fetchTx (s : State) (p : Nat) (e : TxEntry) : List (Option DWord) × State :=
  (s.setPort p { s.port p with txq := (s.port p).txq.erase e }).readWords (portStore p) (txWord p e.slot) (wordsFor (txLen e.item))

/-- A frame joins those sent and is counted. -/
def State.lineTx (s : State) (p : Nat) (frame : TxFrame) (bad : Bool) : State :=
  ((s.setPort p { s.port p with lastTx := (s.port p).lastTx ++ [frame] }).onlyIf bad (·.bump Reg.ptppTxpois)).countTx p

theorem State.sendTx_eq (s : State) (p : Nat) (e : TxEntry) (t : Int) :
    ∃ frame bad, s.sendTx p e t = (s.fetchTx p e).2.lineTx p frame bad := ⟨_, _, rfl⟩

section LineTx
variable (frame : TxFrame) (bad : Bool)

theorem State.lineTx_only {x : Touch} : PortOnly x p [portPage p, Page.ptpp, Page.ecc] s (s.lineTx p frame bad) :=
  ((PortOnly.setPort _).trans (.onlyIf fun _ => .bump (by simp [Reg.ptppTxpois]))).trans (.bump (by simp [txfrm_page p]))

theorem State.lineTx_words (st : Store) (j : Nat) : (s.lineTx p frame bad).rawWord st j = s.rawWord st j := by
  cases bad <;> rfl

theorem State.lineTx_port : (s.lineTx p frame bad).port p = { s.port p with lastTx := (s.port p).lastTx ++ [frame] } := by
  cases bad <;> simp [State.lineTx, State.countTx, State.bump_eq]

end LineTx

theorem State.fetchTx_only (hp : p < 18) {far : Bool} (hq : far = false → e.inQueue) :
    PortOnly (.sending far) p [portPage p, Page.ptpp, Page.ecc] s (s.fetchTx p e).2 :=
  PortOnly.trans (.setPort _) (.readWords hp rfl rfl rfl (by simp) (by simp) _ fun hf => (hq hf).words p)

theorem State.fetchTx_keeps (hp : p < 18) :
    (s.fetchTx p e).2.port p = { s.port p with txq := (s.port p).txq.erase e } ∧ KeepsGood p s (s.fetchTx p e).2 := by
  obtain ⟨hport, hgood⟩ := State.readWords_keeps (s := s.setPort p { s.port p with txq := (s.port p).txq.erase e })
    (i := txWord p e.slot) hp (wordsFor (txLen e.item))
  exact ⟨(hport p).trans (by simp), KeepsGood.trans (.of_words fun _ => State.rawWord_setPort ..) hgood⟩

theorem State.sendTx_only (hp : p < 18) {far : Bool} (hq : far = false → e.inQueue) (t : Int) :
    PortOnly (.sending far) p [portPage p, Page.ptpp, Page.ecc] s (s.sendTx p e t) := by
  obtain ⟨frame, bad, h⟩ := s.sendTx_eq p e t
  rw [h]
  exact (State.fetchTx_only hp hq).trans (State.lineTx_only ..)

theorem State.sendTx_keeps (hp : p < 18) (t : Int) :
    ((s.sendTx p e t).port p).txq = (s.port p).txq.erase e ∧ KeepsGood p s (s.sendTx p e t) := by
  obtain ⟨frame, bad, h⟩ := s.sendTx_eq p e t
  obtain ⟨hport, hgood⟩ := State.fetchTx_keeps (s := s) (e := e) hp
  rw [h]
  exact ⟨by rw [State.lineTx_port, hport], hgood.trans (.of_words fun _ => State.lineTx_words ..)⟩

/-- The bytes of a stretch of words of the port's store. -/
def State.slotBytes (s : State) (p i len : Nat) : List Byte :=
  wordBytes len ((List.range (wordsFor len)).map (fun j => some (wordData (s.rawWord (portStore p) (i + j)))))

theorem State.sendTx_mail (hm : isMail e.item = true) (t : Int)
    (hc : s.clean (portStore p) (txWord p e.slot) (wordsFor (txLen e.item)) = true) :
    s.sendTx p e t = (s.fetchTx p e).2.lineTx p (.bytes (s.slotBytes p (txWord p e.slot) (txLen e.item)) false) false := by
  have hout : ∀ x : State, x.ptpOut p e.item t = none := fun x => by
    cases hi : e.item <;> simp_all [isMail, State.ptpOut]
  have hread : (s.fetchTx p e).1 = (List.range (wordsFor (txLen e.item))).map (fun j => some (wordData (s.rawWord (portStore p)
      (txWord p e.slot + j)))) :=
    congrArg Prod.fst (State.readWords_clean (s := s.setPort p { s.port p with txq := (s.port p).txq.erase e }) hc)
  have hgood : (s.fetchTx p e).1.any (·.isNone) = false := by rw [hread]; simp
  have hsend : s.sendTx p e t = (s.fetchTx p e).2.lineTx p
      (match (s.fetchTx p e).2.ptpOut p e.item t with
        | some m => .ptp m ((s.fetchTx p e).1.any (·.isNone))
        | none => .bytes (wordBytes (txLen e.item) (s.fetchTx p e).1) ((s.fetchTx p e).1.any (·.isNone)))
      ((s.fetchTx p e).1.any (·.isNone)) := rfl
  rw [hsend, hout, hgood, hread]
  rfl

/-- The follow-ups ahead of the frame have gone: the others wait. -/
theorem diff_filter {α : Type} [DecidableEq α] (f : α → Bool) (l : List α) : l.diff (l.filter f) = l.filter (fun x => !f x) := by
  induction l with
  | nil => rfl
  | cons x xs ih =>
    by_cases hx : f x
    · rw [List.filter_cons_of_pos hx, List.filter_cons_of_neg (by simp [hx]), List.diff_cons, List.erase_cons_head, ih]
    · rw [List.filter_cons_of_neg hx, List.filter_cons_of_pos (by simp [hx]), List.cons_diff_of_not_mem, ih]
      exact fun h => hx (List.mem_filter.mp h).2

theorem State.sendTxs_effect (hp : p < 18) (l : List TxEntry) {far : Bool} (hq : far = false → ∀ e ∈ l, e.inQueue) :
    let u := l.foldl (fun s e => s.sendTx p e) s
    (u.port p).txq = (s.port p).txq.diff l ∧ KeepsGood p s u ∧
      PortOnly (.sending far) p [portPage p, Page.ptpp, Page.ecc] s u := by
  induction l generalizing s with
  | nil => exact ⟨rfl, ReadKeeps.refl.good, .refl⟩
  | cons e l ih =>
    obtain ⟨htxq, hgood, honly⟩ := ih (s := s.sendTx p e) fun hf x hx => hq hf x (by simp [hx])
    refine ⟨?_, (State.sendTx_keeps hp _).2.trans hgood, (State.sendTx_only hp (fun hf => hq hf e (by simp)) _).trans honly⟩
    rw [List.foldl_cons, htxq, (State.sendTx_keeps hp _).1, List.diff_cons]

theorem State.sendFollows_effect (hp : p < 18) {far : Bool} (hq : far = false → ∀ x ∈ (s.port p).txq, x.inQueue) :
    let u := s.sendFollows p
    (u.port p).txq = (s.port p).txq.filter (fun x => !isPtpFollow x.item) ∧ KeepsGood p s u ∧
      PortOnly (.sending far) p [portPage p, Page.ptpp, Page.ecc] s u := by
  obtain ⟨htxq, hgood, honly⟩ := State.sendTxs_effect (s := s.setPort p { s.port p with lastTx := [] }) hp
    ((s.port p).txq.filter (fun e => isPtpFollow e.item)) (far := far) fun hf x hx => hq hf x (List.mem_filter.mp hx).1
  refine ⟨?_, KeepsGood.trans (.of_words fun _ => State.rawWord_setPort ..) hgood, (PortOnly.setPort _).trans honly⟩
  rw [State.sendFollows, htxq, State.port_setPort, if_pos rfl]
  exact diff_filter (fun e : TxEntry => isPtpFollow e.item) _

theorem State.endMail_sends (h : s.lineFrame p isMail = some e) :
    s.endMail p false = ((s.sendFollows p).sendTx p e).mailDone p false := by
  simp only [State.endMail, h, Bool.false_eq_true, if_false]

theorem State.endMail_only (hp : p < 18) (h : s.lineFrame p isMail = some e) {far : Bool}
    (hq : far = false → ∀ x ∈ (s.port p).txq, x.inQueue) :
    PortOnly (.sending far) p [portPage p, Page.ptpp, Page.ecc] s (s.endMail p false) := by
  rw [State.endMail_sends h]
  exact ((State.sendFollows_effect hp hq).2.2.trans (State.sendTx_only hp (fun hf => hq hf e (State.lineHead_mem
    (State.lineFrame_some h).2.1)) _)).trans (State.mailDone_only rfl (by simp) _)

theorem State.endMail_lastTx (hp : p < 18) (h : s.lineFrame p isMail = some e)
    (hc : s.clean (portStore p) (txWord p e.slot) (wordsFor (txLen e.item)) = true) :
    ((s.endMail p false).port p).lastTx.getLast? =
      some (TxFrame.bytes (s.slotBytes p (txWord p e.slot) (txLen e.item)) false) := by
  obtain ⟨-, hgood, -⟩ := State.sendFollows_effect (s := s) hp (far := true) (by simp)
  obtain ⟨hclean, hsame⟩ := hgood.clean hc
  have hb : (s.sendFollows p).slotBytes p (txWord p e.slot) (txLen e.item) = s.slotBytes p (txWord p e.slot) (txLen e.item) := by
    unfold State.slotBytes
    congr 1
    exact List.map_congr_left fun j hj => by rw [hsame j (List.mem_range.mp hj)]
  rw [State.endMail_sends h, State.port_mailDone, State.sendTx_mail (State.lineFrame_some h).2.2 _ hclean, State.lineTx_port, hb]
  simp

end Send

end Sys2Proof.Machine
end

section
/-! The commands of the mailboxes: TXDONE and MBXPOP (07 R234, R265, R266). -/

namespace Sys2Proof.Machine

@[simp] theorem State.port_bump (s : State) (a k : Nat) : (s.bump a).port k = s.port k := rfl

section Done
variable {s u : State} {e : TxEntry}

theorem PortOnly.rest_sending {p : Nat} {ps : List Nat} {far : Bool} (h : PortOnly (.sending far) p ps s u) :
    u = { s with regs := u.regs, w1set := u.w1set, ports := u.ports, words := u.words, errs := u.errs } := h.rest

theorem PortOnly.rest_raised {p : Nat} {ps : List Nat} (h : PortOnly { w1set := true } p ps s u) :
    u = { s with regs := u.regs, w1set := u.w1set, ports := u.ports } := h.rest

theorem txdone_sends (p : Fin 18) (h : s.lineFrame p isMail = some e) :
    Completes (.txdone p false) s (fun u =>
      u.rb (txstaReg p) 0 = false ∧ u.rb (txstaReg p) 2 = false ∧
      u.rb (Reg.hdrIraw (portPage p)) (if p.val < 16 then 8 else 4) = true ∧
      (u.port p).txq = ((s.port p).txq.filter (fun x => !isPtpFollow x.item)).erase e ∧ OffUnit State.port p s u ∧
      (s.clean (portStore p) (txWord p e.slot) (wordsFor (txLen e.item)) = true →
        (u.port p).lastTx.getLast? = some (TxFrame.bytes (s.slotBytes p (txWord p e.slot) (txLen e.item)) false)) ∧
      OffPages [portPage p, Page.ptpp, Page.ecc] s u ∧
      ((∀ x ∈ (s.port p).txq, x.slot < 16 ∧ txLen x.item ≤ 1024) → OffStores [portStore p] s u) ∧
      u = { s with regs := u.regs, w1set := u.w1set, ports := u.ports, words := u.words, errs := u.errs }) := by
  have hany := State.endMail_only (far := true) p.isLt h (by simp)
  have hin := fun hq => (State.endMail_only (far := false) p.isLt h fun _ => hq).stores rfl
  have hlast := State.endMail_lastTx p.isLt h
  obtain ⟨hbusy, hdrop, hiraw⟩ := State.mailDone_tells (s := (s.sendFollows p).sendTx p e) (p := p) false
  have htxq : ((s.endMail p false).port p).txq = ((s.port p).txq.filter (fun x => !isPtpFollow x.item)).erase e := by
    rw [State.endMail_sends h, State.port_mailDone, (State.sendTx_keeps p.isLt _).1,
      (State.sendFollows_effect (far := true) p.isLt (by simp)).1]
  rw [← State.endMail_sends h] at hbusy hdrop hiraw
  have hc : exec (.txdone p false) s = finish (s.endMail p false) := rfl
  generalize s.endMail p false = u at *
  exact .of_finish hc ⟨hbusy, hdrop, hiraw, htxq, hany.port, hlast, hany.regs, hin, hany.rest_sending⟩

/-- The sixteenth collision of the mailbox's frame on a segment tells the drop. -/
theorem State.endMail_drops {n : Fin 16} (h : s.lineFrame n isMail = some e) (ht : e.tries = 15) :
    s.endMail n true = ((((s.bump (Reg.segColcnt n)).setPort n { s.port n with txq := (s.port n).txq.erase e }).bump
      (Reg.segColdrop n)).raise (Page.seg n) 12).mailDone n true := by
  obtain ⟨-, hh, hm⟩ := State.lineFrame_some h
  have hp : isPoll e.item = false := by
    cases hi : e.item <;> simp_all [isMail, isPoll]
  have hcol : s.endMail n true = s.collide n := by
    simp only [State.endMail, h, if_true, isSeg_seg, ht, beq_self_eq_true, Bool.and_self, State.onlyIf_true]
  rw [hcol, State.collide_drops hh (by omega), State.dropTx_eq, State.tellDrop, if_neg (by simp [hp]), if_pos hm,
    State.port_bump]

theorem txdone_drops (n : Fin 16) (p : Fin 18) (hp : p.val = n) (h : s.lineFrame n isMail = some e) (ht : e.tries = 15) :
    Completes (.txdone p true) s (fun u =>
      u.rb (txstaReg n) 0 = false ∧ u.rb (txstaReg n) 2 = true ∧ (u.port n).txq = (s.port n).txq.erase e ∧
      u.rd (Reg.segColdrop n) = s.rd (Reg.segColdrop n) + 1 ∧
      OffUnit State.port n s u ∧ OffPages [Page.seg n] s u ∧
      u = { s with regs := u.regs, w1set := u.w1set, ports := u.ports }) := by
  obtain ⟨-, hdrop, -, -, hpc, hpd⟩ := segCol_apart n
  simp only [List.mem_cons, List.not_mem_nil, or_false, not_or] at hdrop
  have hu := State.endMail_drops h ht
  set t := (((s.bump (Reg.segColcnt n)).setPort n { s.port n with txq := (s.port n).txq.erase e }).bump
    (Reg.segColdrop n)).raise (Page.seg n) 12 with ht'
  have hframe : PortOnly { w1set := true } n [Page.seg n] s (t.mailDone n true) :=
    ((((PortOnly.bump (by simp [hpc])).trans (.setPort _)).trans (.bump (by simp [hpd]))).trans (.raise rfl (by simp))).trans
      (State.mailDone_only rfl (by simp [portPage_seg]) true)
  obtain ⟨hbusy, hd, -⟩ := State.mailDone_tells (s := t) (p := n) true
  have htxq : ((t.mailDone n true).port n).txq = (s.port n).txq.erase e := by simp [ht']
  have hcnt : (t.mailDone n true).rd (Reg.segColdrop n) = s.rd (Reg.segColdrop n) + 1 := by
    simp [State.mailDone_seg, ht', hdrop]
  have hc : exec (.txdone p true) s = finish (s.endMail p true) := rfl
  rw [hp, hu] at hc
  generalize t.mailDone n true = u at *
  exact .of_finish hc ⟨hbusy, hd, htxq, hcnt, hframe.port, hframe.regs, hframe.rest_raised⟩

end Done

/-! ### The oldest frame held (R266) -/

theorem State.foldl_wr (s : State) (f : Nat → Nat) (hf : Function.Injective f) (g : Nat → Word) (n : Nat) :
    let u := (List.range n).foldl (fun s i => s.wr (f i) (g i)) s
    (∀ i < n, u.rd (f i) = g i) ∧ ∀ a, (∀ i < n, a ≠ f i) → u.rd a = s.rd a := by
  induction n with
  | zero => exact ⟨fun i hi => absurd hi (by omega), fun _ _ => rfl⟩
  | succ n ih =>
    obtain ⟨hin, hout⟩ := ih
    simp only [List.range_succ, List.foldl_append, List.foldl_cons, List.foldl_nil, State.rd_wr, hf.eq_iff]
    refine ⟨fun i hi => ?_, fun a ha => ?_⟩
    · split
      · next h => rw [h]
      · exact hin i (by omega)
    · rw [if_neg (ha n (by omega)), hout a fun i hi => ha i (by omega)]

/-- MBXHDR and the words of MBXRX. -/
abbrev mbxhdrReg (p : Nat) : Nat := portReg p (fun n => Reg.segMbxhdr n) (fun u => Reg.uplMbxhdr u)
abbrev mbxrxReg (p i : Nat) : Nat := portReg p (fun n => Reg.segMbxrx n i) (fun u => Reg.uplMbxrx u i)

theorem mbxrx_injective (p : Nat) : Function.Injective (mbxrxReg p) := by
  intro i j h
  simp only [mbxrxReg, portReg, Reg.segMbxrx, Reg.uplMbxrx] at h
  split at h <;> omega

theorem mbxhdr_ne_mbxrx (p i : Nat) : mbxhdrReg p ≠ mbxrxReg p i := by
  simp only [mbxhdrReg, mbxrxReg, portReg, Reg.segMbxhdr, Reg.segMbxrx, Reg.uplMbxhdr, Reg.uplMbxrx]
  split <;> omega

theorem mbx_page (p i : Nat) (hi : i < 32) : mbxhdrReg p / 1024 = portPage p ∧ mbxrxReg p i / 1024 = portPage p := by
  simp only [mbxhdrReg, mbxrxReg, portReg, portPage, Reg.segMbxhdr, Reg.segMbxrx, Reg.uplMbxhdr, Reg.uplMbxrx, Page.seg, Page.upl]
  split <;> omega

section Show
variable {s : State} {p : Nat}

/-- MBXHDR of a frame. -/
def MailRx.header (m : MailRx) : Word :=
  w32 (m.plca + m.ty * 256 + m.len % 256 * 2 ^ 12 + b2n m.auth * 2 ^ 20 + b2n m.stranger * 2 ^ 21)

/-- The registers show a body behind its header. -/
def State.showMail (s : State) (p : Nat) (hdr : Word) (body : List Byte) : State :=
  (List.range 32).foldl (fun s i => s.wr (mbxrxReg p i) (w32 (ofBytes ((body.drop (4 * i)).take 4)))) (s.wr (mbxhdrReg p) hdr)

theorem State.showMail_shows (hdr : Word) (body : List Byte) :
    let u := s.showMail p hdr body
    u.rd (mbxhdrReg p) = hdr ∧ (∀ i < 32, u.rd (mbxrxReg p i) = w32 (ofBytes ((body.drop (4 * i)).take 4))) := by
  obtain ⟨hin, hout⟩ := State.foldl_wr (s.wr (mbxhdrReg p) hdr) (mbxrxReg p) (mbxrx_injective p)
    (fun i => w32 (ofBytes ((body.drop (4 * i)).take 4))) 32
  exact ⟨(hout _ fun i _ => mbxhdr_ne_mbxrx p i).trans (by simp), hin⟩

theorem State.showMail_only {x : Touch} {ps : List Nat} (hps : portPage p ∈ ps) (hdr : Word) (body : List Byte) :
    PortOnly x p ps s (s.showMail p hdr body) :=
  (PortOnly.wr (by rwa [(mbx_page p 0 (by decide)).1]) hdr).trans
    (.foldl _ fun i hi t => .wr (by rwa [(mbx_page p i (List.mem_range.mp hi)).2]) _)

theorem State.port_foldl_wr {α : Type} (l : List α) (f : α → Nat) (g : α → Word) (k : Nat) :
    (l.foldl (fun s i => s.wr (f i) (g i)) s).port k = s.port k := by
  induction l generalizing s with
  | nil => rfl
  | cons x l ih => exact ih

theorem State.showOldest_clean (m : MailRx) (rest : List MailRx)
    (h : s.clean (portStore p) (mailWord p m.slot) (wordsFor m.len) = true) :
    s.showOldest p (m :: rest) = (s.setPort p { s.port p with mail := m :: rest }).showMail p m.header
      (s.slotBytes p (mailWord p m.slot) m.len) := by
  simp only [State.showOldest, State.readWords_clean h]
  rw [if_neg (by simp)]
  rfl

/-- The oldest frame of `l` shown, where its words are clean. -/
theorem State.showOldest_shows (l : List MailRx)
    (h : ∀ m ∈ l.head?, s.clean (portStore p) (mailWord p m.slot) (wordsFor m.len) = true) :
    let u := s.showOldest p l
    (u.port p).mail = l ∧
      (∀ m ∈ l.head?, u.rd (mbxhdrReg p) = m.header ∧ ∀ i < 32, u.rd (mbxrxReg p i) =
        w32 (ofBytes (((s.slotBytes p (mailWord p m.slot) m.len).drop (4 * i)).take 4))) ∧
      PortOnly {} p [portPage p] s u := by
  cases l with
  | nil => exact ⟨by simp [State.showOldest], by simp, .setPort _⟩
  | cons m rest =>
    simp only [List.head?_cons, Option.mem_def, Option.some.injEq, forall_eq'] at h ⊢
    rw [State.showOldest_clean m rest h]
    exact ⟨by rw [State.showMail, State.port_foldl_wr]; simp, State.showMail_shows .., (PortOnly.setPort _).trans
      (State.showMail_only (by simp) _ _)⟩

end Show

/-! ### MBXPOP (R266) -/

section Pop
variable {s u : State} {req : Req}

theorem writableAt_segMbxpop (n : Fin 16) : writableAt (Reg.segMbxpop n) (Page.seg n) 0x080 .seg n 0 0x1 = true := by decide +revert
theorem writableAt_uplMbxpop (u : Fin 2) : writableAt (Reg.uplMbxpop u) (Page.upl u) 0x0DC .upl u 0 0x1 = true := by decide +revert
theorem portPage_upl (u : Fin 2) : portPage (16 + u) = Page.upl u := by
  rw [portPage, if_neg (upl_notSeg u), Nat.add_sub_cancel_left]

theorem State.strobe_one (s : State) (f : State → State) : s.strobe (1 &&& 0x1) f = f s := by
  rw [State.strobe, show bitOf (1 &&& 0x1) 0 = true by decide, State.onlyIf_true]

theorem State.reqWrite_mbxpop (p : Fin 18) (hr : s.reaches req (portPage p) = true) (hu : s.popMail p = u) (hp : u.pwr = s.pwr)
    (hh : u.host = s.host) : s.reqWrite req (mbxpopReg p) 1 = u := by
  revert hr hu
  refine port_cases (P := fun p => s.reaches req (portPage p) = true → s.popMail p = u → s.reqWrite req (mbxpopReg p) 1 = u)
    (fun n hr hu => ?_) (fun k hr hu => ?_) p
  · rw [mbxpopReg, portReg_seg]
    rw [portPage_seg] at hr
    exact State.reqWrite_writable (writableAt_segMbxpop n) hr ((State.strobe_one s _).trans hu) hp hh
  · rw [mbxpopReg, portReg_upl]
    rw [portPage_upl] at hr
    exact State.reqWrite_writable (writableAt_uplMbxpop k) hr ((State.strobe_one s _).trans hu) hp hh

theorem exec_mbxpop (s : State) (req : Req) (p : Fin 18) : exec (.mbxpop req p) s = finish (s.reqWrite req (mbxpopReg p) 1) := rfl

theorem mbxpop_shows (p : Fin 18) (hr : s.reaches req (portPage p) = true) {m : MailRx} {rest : List MailRx}
    (hm : (s.port p).mail = m :: rest)
    (h : ∀ m' ∈ rest.head?, s.clean (portStore p) (mailWord p m'.slot) (wordsFor m'.len) = true) :
    Completes (.mbxpop req p) s (fun u =>
      (u.port p).mail = rest ∧
      (∀ m' ∈ rest.head?, u.rd (mbxhdrReg p) = m'.header ∧ ∀ i : Fin 32, u.rd (mbxrxReg p i) =
        w32 (ofBytes (((s.slotBytes p (mailWord p m'.slot) m'.len).drop (4 * i)).take 4))) ∧
      OffUnit State.port p s u ∧ OffPages [portPage p] s u ∧ u = { s with regs := u.regs, ports := u.ports }) := by
  obtain ⟨hmail, hshow, honly⟩ := State.showOldest_shows rest h
  have hpop : s.popMail p = s.showOldest p rest := by simp only [State.popMail, hm]
  have hc := exec_mbxpop s req p
  rw [State.reqWrite_mbxpop p hr hpop honly.pwr honly.host] at hc
  exact .of_finish hc ⟨hmail, fun m' hm' => ⟨(hshow m' hm').1, fun i => (hshow m' hm').2 i i.isLt⟩, honly.port, honly.regs,
    honly.rest⟩

theorem mbxpop_empty (p : Fin 18) (hr : s.reaches req (portPage p) = true) (hm : (s.port p).mail = []) :
    Completes (.mbxpop req p) s (fun u =>
      u = (s.setb (portReg p (fun n => Reg.segMbxsta n) (fun u => Reg.uplMbxsta u)) 6 true).raise (portPage p)
        (if p.val < 16 then 7 else 3)) := by
  have hpop : s.popMail p = s.mailError p 6 := by simp only [State.popMail, hm]
  have hc := exec_mbxpop s req p
  rw [State.reqWrite_mbxpop p hr hpop (State.raise_pwr ..) (State.raise_host ..)] at hc
  refine .of_finish hc ?_
  simp only [State.mailError, isSeg, decide_eq_true_eq]

end Pop

end Sys2Proof.Machine
end

section
/-! The bytes of a frame of the hub, and the registers they rest on (07 R240, R244, 08 R296). -/

namespace Sys2Proof.Machine

/-! ### The bytes of a frame (R240, R244) -/

section Bytes
variable {s u : State} {q : Nat}

theorem State.length_mailBody_le (s : State) (q len : Nat) : (s.mailBody q len).length ≤ len := List.length_take_le _ _

theorem State.length_hppBytes_le (s : State) (q dst ty seq ctr : Nat) (key : Option (BitVec 128)) (body : List Byte) :
    (s.hppBytes q dst ty seq ctr key body).length ≤ 42 + body.length := by
  have htag : ∀ msg, ((key.map (fun k => authTag k msg)).getD []).length ≤ 8 := fun msg => by
    cases key with
    | none => simp
    | some k => exact List.length_take_le 8 _
  simp only [State.hppBytes, State.etherHead, List.length_append, List.length_reverse, length_bytesOf]
  have := htag (bytesOf 1 (16 + ty) ++ bytesOf 1 (b2n key.isSome) ++ bytesOf 2 body.length ++ bytesOf 8 s.hubIdentity
    ++ bytesOf 1 (if isSeg q then s.plcaId q else 0) ++ bytesOf 1 0 ++ bytesOf 2 seq ++ bytesOf 4 ctr ++ body)
  omega

/-- Two states show a frame's headers and the words of MBXTX alike: the registers of the port but TXSTA, and its role. -/
structure SameHead (q : Nat) (s u : State) : Prop where
  regs : ∀ a, a / 1024 ≠ Page.ecc → a ≠ txstaReg q → u.rd a = s.rd a
  role : (u.port q).coord2 = (s.port q).coord2

section Head
variable (hq : q < 18) (h : SameHead q s u)
include hq h

/-- A register that segments have at offset `a` of their page and uplinks at offset `b`, other than TXSTA. -/
theorem SameHead.ofPort {f g : Nat → Nat} {a b : Nat} (hf : ∀ n, f n = 0x20000 + a + 1024 * n) (ha : a < 1024 ∧ a ≠ 0x74)
    (hg : ∀ k, g k = 0x2E000 + b + 1024 * k) (hb : b < 1024 ∧ b ≠ 0xD0) : u.rd (portReg q f g) = s.rd (portReg q f g) := by
  refine h.regs _ ?_ ?_
  · simp only [portReg, hf, hg, Page.ecc]
    split <;> omega
  · simp only [txstaReg, portReg, hf, hg, Reg.segTxsta, Reg.uplTxsta]
    split <;> omega

theorem SameHead.seg {a : Nat} (hs : q < 16) (ha : a / 1024 = Page.seg q) (hne : a ≠ Reg.segTxsta q) : u.rd a = s.rd a := by
  refine h.regs a ?_ ?_
  · rw [ha]
    simp only [Page.seg, Page.ecc]
    omega
  · rwa [txstaReg, portReg, if_pos hs]

theorem SameHead.plcaId (hs : q < 16) : u.plcaId q = s.plcaId q := by
  have h1 := h.seg hq hs (a := Reg.segPlcacfg q) (by simp only [Reg.segPlcacfg, Page.seg]; omega)
    (by simp only [Reg.segPlcacfg, Reg.segTxsta]; omega)
  have h2 := h.seg hq hs (a := Reg.segPlcafb q) (by simp only [Reg.segPlcafb, Page.seg]; omega)
    (by simp only [Reg.segPlcafb, Reg.segTxsta]; omega)
  have h3 := h.seg hq hs (a := Reg.segSctl q) (by simp only [Reg.segSctl, Page.seg]; omega)
    (by simp only [Reg.segSctl, Reg.segTxsta]; omega)
  unfold State.plcaId State.coordRole State.rb State.rf
  rw [h1, h2, h3, h.role]

theorem SameHead.hppType : u.hppType q = s.hppType q := by
  unfold State.hppType
  split
  · next hs =>
    rw [State.rf, State.rf, h.seg hq hs (by simp only [Reg.segEtype, Page.seg]; omega)
      (by simp only [Reg.segEtype, Reg.segTxsta]; omega)]
  · rfl

theorem SameHead.stationAddr : u.stationAddr q = s.stationAddr q := by
  unfold State.stationAddr State.rn State.rf
  rw [h.ofPort hq (a := 0x54) (b := 0x44) (fun _ => rfl) (by decide) (fun _ => rfl) (by decide),
    h.ofPort hq (a := 0x58) (b := 0x48) (fun _ => rfl) (by decide) (fun _ => rfl) (by decide)]

theorem SameHead.mcastAddr : u.mcastAddr q = s.mcastAddr q := by
  unfold State.mcastAddr State.rn State.rf
  rw [h.ofPort hq (a := 0x5C) (b := 0x4C) (fun _ => rfl) (by decide) (fun _ => rfl) (by decide),
    h.ofPort hq (a := 0x60) (b := 0x50) (fun _ => rfl) (by decide) (fun _ => rfl) (by decide)]

theorem SameHead.uplDest (hu : ¬ q < 16) : u.rd (Reg.uplDmacl (q - 16)) = s.rd (Reg.uplDmacl (q - 16)) ∧
    u.rd (Reg.uplDmach (q - 16)) = s.rd (Reg.uplDmach (q - 16)) := by
  have hreg : ∀ a, 0x2E0C8 + 1024 * (q - 16) ≤ a → a < 0x2E0D0 + 1024 * (q - 16) → u.rd a = s.rd a := fun a hlo hhi => by
    refine h.regs a (by simp only [Page.ecc]; omega) ?_
    simp only [txstaReg, portReg, if_neg hu, Reg.uplTxsta]
    omega
  exact ⟨hreg _ (by simp only [Reg.uplDmacl]; omega) (by simp only [Reg.uplDmacl]; omega),
    hreg _ (by simp only [Reg.uplDmach]; omega) (by simp only [Reg.uplDmach]; omega)⟩

theorem SameHead.hubIdentity : u.hubIdentity = s.hubIdentity := by
  have hne : ∀ a, 188000 < a → a < 189000 → a ≠ Reg.uplTxsta 0 → u.rd a = s.rd a := fun a hl hu hne => by
    refine h.regs a (by simp only [Page.ecc]; omega) ?_
    simp only [txstaReg, portReg, Reg.segTxsta, Reg.uplTxsta] at hne ⊢
    split <;> omega
  unfold State.hubIdentity State.rd64
  rw [hne _ (by decide) (by decide) (by decide), hne _ (by decide) (by decide) (by decide)]

theorem SameHead.mailBody (len : Nat) : u.mailBody q len = s.mailBody q len := by
  unfold State.mailBody
  congr 1
  refine List.flatMap_congr fun i hi => ?_
  have hi' := List.mem_range.mp hi
  congr 1
  refine congrArg BitVec.toNat (h.regs _ ?_ ?_)
  · simp only [portReg, Reg.segMbxtx, Reg.uplMbxtx, Page.ecc]
    split at hi' <;> split <;> omega
  · simp only [txstaReg, portReg, Reg.segMbxtx, Reg.uplMbxtx, Reg.segTxsta, Reg.uplTxsta]
    split <;> omega

theorem SameHead.hppBytes (dst ty seq ctr : Nat) (key : Option (BitVec 128)) (body : List Byte) :
    u.hppBytes q dst ty seq ctr key body = s.hppBytes q dst ty seq ctr key body := by
  have hid : (if isSeg q then u.plcaId q else 0) = if isSeg q then s.plcaId q else 0 := by
    split
    · next hs => exact h.plcaId hq (by simpa [isSeg] using hs)
    · rfl
  simp only [State.hppBytes, State.etherHead, h.stationAddr hq, h.hppType hq, h.hubIdentity hq, hid]

end Head
end Bytes

end Sys2Proof.Machine
end

section
/-! TXCMD: the frames of the hub queued, discarded or refused, and the mailboxes settled (07 R240-R245, R265, 08 R296, R298). -/

namespace Sys2Proof.Machine

/-! ### A frame queued (R238, R293) -/

section Queue
variable {s d : State} {q : Nat}

theorem State.queueTx_mail (s : State) (q n : Nat) (bs : List Byte) :
    s.queueTx q (.mail n) bs = (s.writeWords (portStore q) (txWord q 15) (bytesWords 128 bs)).setPort q
      { s.port q with txq := (s.port q).txq ++ [{ slot := 15, item := .mail n }] } := by
  have hslot : s.txSlot q (.mail n) = some 15 := rfl
  simp only [State.queueTx, hslot, State.port_writeWords]

/-- BUSY is set, and the frame goes to the mailbox's slot, or is discarded without link (R265, R298). -/
def State.sendHpp (s : State) (p dst ty seq ctr : Nat) (key : Option (BitVec 128)) (len : Nat) : State :=
  let s := s.setb (txstaReg p) 0 true
  let bs := s.hppBytes p dst ty seq ctr key (s.mailBody p len)
  if isSeg p || (s.port p).link then s.queueTx p (.mail bs.length) bs
  else (s.bump (Reg.uplDropbuf (p - 16))).mailDone p true

/-- What making the frame leaves: the next SEQ and, of the state, the counters and free values it took. -/
structure Made (q : Nat) (s d : State) : Prop where
  only : PortOnly { w1set := true, words := true, free := true } q [Page.ecc] s d
  port : d.port q = { s.port q with hppSeq := ((s.port q).hppSeq + 1) % 65536 }
  unarmed : s.unarmed = true → d.unarmed = true

theorem Made.takeSeq (s : State) (q : Nat) : Made q s (s.takeSeq q).2 :=
  ⟨.setPort _, by simp [State.takeSeq], id⟩

theorem Made.free (h : Made q s d) (w : Nat) : Made q s (d.free w).2 := ⟨h.only.trans (.setFree rfl w), h.port, h.unarmed⟩

theorem Made.putNode (hq : q < 18) (h : Made q s d) {k : Nat} (hk : k < 64) (r : NodeRec) : Made q s (d.putNode q k r) :=
  ⟨h.only.trans (.writeWords hq rfl rfl (by simp) _ fun _ => recIndex_lt q hk), (State.port_writeWords ..).trans h.port,
    fun ha => State.unarmed_writeWords hq (h.unarmed ha) _ _⟩

theorem Made.txDest (h : Made q s d) (c : TxCmd) : Made q s (d.txDest q c).2 := by
  unfold State.txDest
  split
  · exact h
  · split
    · exact h
    · exact h.free 48

/-- The states share a frame's headers, BUSY aside. -/
theorem Made.sameHead (h : Made q s d) (b : Nat) (v : Bool) : SameHead q s (d.setb (txstaReg q) b v) :=
  ⟨fun a ha hne => by rw [State.rd_setb, if_neg hne]; exact h.only.regs a (by simpa using ha), by rw [State.port_setb, h.port]⟩

theorem Made.head (h : Made q s d) : SameHead q s d := ⟨fun a ha _ => h.only.regs a (by simpa using ha), by rw [h.port]⟩

/-- The frame `bs` stands in the mailbox's slot and waits. -/
def Sent (q : Nat) (s : State) (bs : List Byte) (u : State) : Prop :=
  u.rb (txstaReg q) 0 = true ∧ (u.port q).hppSeq = ((s.port q).hppSeq + 1) % 65536 ∧
  (u.port q).txq = (s.port q).txq ++ [{ slot := 15, item := .mail bs.length }] ∧
  (s.unarmed = true → u.slotBytes q (txWord q 15) bs.length = bs) ∧
  OffUnit State.port q s u ∧ OffPages [portPage q, Page.ecc] s u ∧ OffStores [portStore q] s u ∧
  u = { s with regs := u.regs, w1set := u.w1set, words := u.words, ports := u.ports, freeCtr := u.freeCtr }

theorem portPage_ne_ecc (hq : q < 18) : portPage q ≠ Page.ecc := by
  simp only [portPage, Page.seg, Page.upl, Page.ecc]
  split <;> omega

theorem txWord_mail_le (q : Nat) {n : Nat} (h : n ≤ 128) : txWord q 15 + n ≤ 2 ^ 40 := by
  simp only [txWord]
  split <;> omega

theorem PortOnly.rest_made {ps : List Nat} {p : Nat} {s u : State} (h : PortOnly { w1set := true, words := true, free := true } p ps s u) :
    u = { s with regs := u.regs, w1set := u.w1set, words := u.words, ports := u.ports, freeCtr := u.freeCtr } := h.rest

theorem Made.queued (hq : q < 18) (h : Made q s d) {bs : List Byte} (hb : bs.length ≤ 1024) :
    Sent q s bs ((d.setb (txstaReg q) 0 true).queueTx q (.mail bs.length) bs) := by
  obtain ⟨hlen, -⟩ := bytesWords_bytes (m := 128) (bs := bs) (by omega)
  have hle : wordsFor bs.length ≤ 128 := wordsFor_le (by omega)
  have hwords : PortOnly { w1set := true, words := true, free := true } q [Page.ecc] (d.setb (txstaReg q) 0 true)
      ((d.setb (txstaReg q) 0 true).writeWords (portStore q) (txWord q 15) (bytesWords 128 bs)) :=
    .writeWords hq rfl rfl (by simp) _ fun _ => by rw [hlen]; exact txWord_mail_le q hle
  have honly : PortOnly { w1set := true, words := true, free := true } q [portPage q, Page.ecc] s
      ((d.setb (txstaReg q) 0 true).queueTx q (.mail bs.length) bs) := by
    rw [State.queueTx_mail]
    exact (((h.only.mono (by simp)).trans (.setb (by simp [txsta_page q]) _)).trans (hwords.mono (by simp))).trans (.setPort _)
  have hbusy : ((d.setb (txstaReg q) 0 true).queueTx q (.mail bs.length) bs).rb (txstaReg q) 0 = true := by
    rw [State.queueTx_mail, State.rb, State.rd_setPort, hwords.regs _ (by simpa [txsta_page q] using portPage_ne_ecc hq)]
    simp [bitOf_putBit]
  unfold Sent
  refine ⟨hbusy, ?_, ?_, fun ha => ?_, honly.port, honly.regs, honly.stores rfl, honly.rest_made⟩
  · rw [State.queueTx_mail, State.port_setPort, if_pos rfl, State.port_setb, h.port]
  · rw [State.queueTx_mail, State.port_setPort, if_pos rfl, State.port_setb, h.port]
  · rw [State.queueTx_mail]
    have ha' : (d.setb (txstaReg q) 0 true).unarmed = true := by
      have hne : Reg.eccEinj0 ≠ txstaReg q := fun he => by
        have := txsta_page q
        rw [← he] at this
        exact portPage_ne_ecc hq this.symm
      simpa [State.unarmed, State.rb, hne] using h.unarmed ha
    exact State.writeWords_bytes hq ha' (by omega)

/-- A frame made is built of the headers and the body that the hub showed when the command came. -/
theorem Made.sendHpp_eq (hq : q < 18) (h : Made q s d) (hl : q < 16 ∨ (s.port q).link = true) (dst ty seq ctr : Nat)
    (key : Option (BitVec 128)) (len : Nat) :
    let bs := s.hppBytes q dst ty seq ctr key (s.mailBody q len)
    d.sendHpp q dst ty seq ctr key len = (d.setb (txstaReg q) 0 true).queueTx q (.mail bs.length) bs := by
  have hhead := h.sameHead 0 true
  have hgo : (isSeg q || ((d.setb (txstaReg q) 0 true).port q).link) = true := by
    rw [State.port_setb, h.port]
    simpa [isSeg] using hl
  simp only [State.sendHpp, hgo, if_true, hhead.mailBody hq, hhead.hppBytes hq]

theorem hpp_fits (s : State) (q dst ty seq ctr : Nat) (key : Option (BitVec 128)) {len : Nat} (hlen : len ≤ 512) :
    (s.hppBytes q dst ty seq ctr key (s.mailBody q len)).length ≤ 554 := by
  have h1 := s.length_hppBytes_le q dst ty seq ctr key (s.mailBody q len)
  have h2 := s.length_mailBody_le q len
  omega

theorem Made.sends (hq : q < 18) (h : Made q s d) (hl : q < 16 ∨ (s.port q).link = true) (dst ty seq ctr : Nat)
    (key : Option (BitVec 128)) {len : Nat} (hlen : len ≤ 512) :
    Sent q s (s.hppBytes q dst ty seq ctr key (s.mailBody q len)) (d.sendHpp q dst ty seq ctr key len) := by
  rw [h.sendHpp_eq hq hl]
  exact h.queued hq (by have := hpp_fits s q dst ty seq ctr key hlen; omega)

/-- The mailbox's slot holds no record: a record stays as the making left it. -/
theorem Made.sends_node (hq : q < 18) (h : Made q s d) (hl : q < 16 ∨ (s.port q).link = true) (dst ty seq ctr : Nat)
    (key : Option (BitVec 128)) {len k : Nat} (hlen : len ≤ if q < 16 then 128 else 512) (ha : d.unarmed = true) (hk : k < 64) :
    (d.sendHpp q dst ty seq ctr key len).node q k = d.node q k := by
  have hlen' : len ≤ 512 := by split at hlen <;> omega
  have hfit := hpp_fits s q dst ty seq ctr key hlen'
  obtain ⟨hn, -⟩ := bytesWords_bytes (m := 128) (bs := s.hppBytes q dst ty seq ctr key (s.mailBody q len)) (by omega)
  have hne : Reg.eccEinj0 ≠ txstaReg q := fun he => by
    have := txsta_page q
    rw [← he] at this
    exact portPage_ne_ecc hq this.symm
  have ha' : (d.setb (txstaReg q) 0 true).unarmed = true := by
    simpa [State.unarmed, State.rb, hne] using ha
  rw [h.sendHpp_eq hq hl, State.queueTx_mail]
  refine (State.node_congr fun j _ => State.rawWord_setPort ..).trans
    ((State.node_writeWords hq ha' _ ?_).trans (State.node_congr fun j _ => rfl))
  have hs := s.length_hppBytes_le q dst ty seq ctr key (s.mailBody q len)
  have hm := s.length_mailBody_le q len
  simp only [hn, wordsFor, txWord, recIndex]
  split at hlen
  · next hp =>
    rw [if_pos hp, if_pos hp]
    omega
  · next hp =>
    rw [if_neg hp, if_neg hp]
    omega

end Queue

/-! ### TXCMD (R265, R296) -/

section Command
variable {s u : State} {req : Req} {q : Nat} {v : Word}

theorem txCmdOf_masked (q : Nat) (v : Word) : txCmdOf q (v &&& if q < 16 then 0xFFFFF else 0x3F7FFF) = txCmdOf q v := by
  unfold txCmdOf
  split
  · rw [field_and_mask v _ 0 4 (by decide), field_and_mask v _ 4 8 (by decide), field_and_mask v _ 12 6 (by decide),
      bitOf_and_mask v _ 18 (by decide), bitOf_and_mask v _ 19 (by decide)]
  · rw [field_and_mask v _ 0 4 (by decide), field_and_mask v _ 4 10 (by decide), field_and_mask v _ 16 6 (by decide),
      bitOf_and_mask v _ 14 (by decide)]

theorem State.txcmd_masked (s : State) (q : Nat) (v : Word) : s.txcmd q (v &&& if q < 16 then 0xFFFFF else 0x3F7FFF) = s.txcmd q v := by
  simp only [State.txcmd, txCmdOf_masked]

theorem txCmdOf_dst_lt (q : Nat) (v : Word) : (txCmdOf q v).dst < 64 := by
  unfold txCmdOf
  split
  · exact field_lt _ _ 6
  · exact field_lt _ _ 6

theorem txCmdOf_ty (q : Nat) (v : Word) : (txCmdOf q v).ty = field v 0 4 := by
  unfold txCmdOf
  split <;> rfl

theorem writableAt_segTxcmd (n : Fin 16) : writableAt (Reg.segTxcmd n) (Page.seg n) 0x070 .seg n 0 0xFFFFF = true := by decide +revert
theorem writableAt_uplTxcmd (u : Fin 2) : writableAt (Reg.uplTxcmd u) (Page.upl u) 0x0C4 .upl u 0 0x3F7FFF = true := by
  decide +revert

theorem State.reqWrite_txcmd (q : Fin 18) (hr : s.reaches req (portPage q) = true) (hu : s.txcmd q v = u) (hp : u.pwr = s.pwr)
    (hh : u.host = s.host) : s.reqWrite req (txcmdReg q) v = u := by
  rw [← State.txcmd_masked] at hu
  revert hr hu
  refine port_cases (P := fun q => s.reaches req (portPage q) = true →
    s.txcmd q (v &&& if q < 16 then 0xFFFFF else 0x3F7FFF) = u → s.reqWrite req (txcmdReg q) v = u)
    (fun n hr hu => ?_) (fun k hr hu => ?_) q
  · rw [txcmdReg, portReg_seg]
    rw [portPage_seg] at hr
    rw [if_pos n.isLt] at hu
    exact State.reqWrite_writable (writableAt_segTxcmd n) hr hu hp hh
  · rw [txcmdReg, portReg_upl]
    rw [portPage_upl] at hr
    rw [if_neg (upl_notSeg k)] at hu
    exact State.reqWrite_writable (writableAt_uplTxcmd k) hr hu hp hh

/-- What R265 forbids. -/
def State.txForbidden (s : State) (q : Nat) (c : TxCmd) : Prop :=
  s.rb (txstaReg q) 0 = true ∨ (if q < 16 then 128 else 512) < c.len ∨ s.listens q = true ∨
    (s.txAuth q c = true ∧ s.txKey q c = none)

theorem State.txRefused_iff {c : TxCmd} (h : txAllowed q c.ty = true) : s.txRefused q c = true ↔ s.txForbidden q c := by
  simp only [State.txRefused, State.txForbidden, h, Bool.not_true, Bool.or_false, Bool.or_eq_true, Bool.and_eq_true,
    decide_eq_true_eq, Option.isNone_iff_eq_none, txstaReg]
  tauto

theorem State.txcmd_refused (h : s.txRefused q (txCmdOf q v) = true) :
    s.txcmd q v = (s.setb (txstaReg q) 1 true).raise (portPage q) (if q < 16 then 9 else 5) := by
  simp only [State.txcmd, h, if_true, isSeg, decide_eq_true_eq]

/-- The frame's destination (R240, R244). -/
def State.destOf (s : State) (q : Nat) (c : TxCmd) : Nat :=
  if 16 ≤ q then s.rn (Reg.uplDmacl (q - 16)) + s.rf (Reg.uplDmach (q - 16)) 0 16 * 2 ^ 32
  else if c.mcast then s.mcastAddr q else (s.free 48).1.toNat

theorem Made.destOf (hq : q < 18) {d : State} (h : Made q s d) (c : TxCmd) (hf : c.mcast = false → d.freeCtr = s.freeCtr) :
    (d.txDest q c).1 = s.destOf q c := by
  unfold State.txDest State.destOf
  by_cases hs : q < 16
  · rw [if_neg (by simp [isSeg, hs]), if_neg (show ¬ 16 ≤ q by omega)]
    cases hm : c.mcast with
    | true => simp [h.head.mcastAddr hq]
    | false => simp [State.free, hf hm]
  · obtain ⟨h1, h2⟩ := h.head.uplDest hq hs
    rw [if_pos (by simp [isSeg, hs]), if_pos (show 16 ≤ q by omega), State.rn, State.rf, h1, h2]
    rfl

/-- TXCMD of a frame without authenticator (R265). -/
theorem State.txcmd_plain (h : s.txRefused q (txCmdOf q v) = false) (ha : s.txAuth q (txCmdOf q v) = false) :
    let d := (s.takeSeq q).2.txDest q (txCmdOf q v)
    s.txcmd q v = d.2.sendHpp q d.1 (txCmdOf q v).ty (s.port q).hppSeq 0 none (txCmdOf q v).len := by
  simp only [State.txcmd, h, ha, Bool.false_eq_true, if_false]
  rfl

theorem State.txcmd_auth (h : s.txRefused q (txCmdOf q v) = false) (ha : s.txAuth q (txCmdOf q v) = true) :
    let ct := (s.takeSeq q).2.takeCtr q (txCmdOf q v)
    let d := ct.2.txDest q (txCmdOf q v)
    s.txcmd q v = d.2.sendHpp q d.1 (txCmdOf q v).ty (s.port q).hppSeq ct.1 (s.txKey q (txCmdOf q v)) (txCmdOf q v).len := by
  simp only [State.txcmd, h, ha, Bool.false_eq_true, if_false, if_true]
  rfl

/-- The record of a frame's destination with the counter it takes. -/
def NodeRec.withTxctr (r : NodeRec) (ctr : Nat) : NodeRec := { r with w3 := putNat r.w3 32 32 ctr }

theorem State.takeCtr_record {k ctr : Nat} (hk : (txCmdOf q v).dst = k) (hmc : (txCmdOf q v).mcast = false)
    (hc : s.clean (portStore q) (recIndex q k) 4 = true) (hctr : ((s.node q k).txctr + 1) % 2 ^ 32 = ctr) :
    (s.takeSeq q).2.takeCtr q (txCmdOf q v) = (ctr, (s.takeSeq q).2.putNode q k ((s.node q k).withTxctr ctr)) := by
  have hread : (s.takeSeq q).2.readNode q k = (some (s.node q k), (s.takeSeq q).2) := by
    rw [State.readNode_clean (s := (s.takeSeq q).2) hc]
    rfl
  simp only [State.takeCtr, hmc, hk, hread, hctr, Bool.false_eq_true, if_false, NodeRec.withTxctr]

theorem PortOnly.freeCtr {x : Touch} {p : Nat} {ps : List Nat} (hx : x.free = false) (h : PortOnly x p ps s u) :
    u.freeCtr = s.freeCtr := by
  simpa [hx] using congrArg State.freeCtr h.rest

theorem State.node_txDest (s : State) (q k : Nat) (c : TxCmd) : (s.txDest q c).2.node q k = s.node q k := by
  refine State.node_congr fun j _ => ?_
  unfold State.txDest
  split
  · rfl
  · split <;> rfl

theorem NodeRec.txctr_withTxctr (r : NodeRec) {ctr : Nat} (h : ctr < 2 ^ 32) : (r.withTxctr ctr).txctr = ctr :=
  (natField_putNat_same r.w3 32 32 ctr).trans (Nat.mod_eq_of_lt h)

/-! ### The frame made in each of the three ways -/

section Ways
variable (hq : q < 18)
include hq

/-- A frame without authenticator. -/
theorem State.txcmd_sends_plain (hr : s.txRefused q (txCmdOf q v) = false) (hl : q < 16 ∨ (s.port q).link = true)
    (hlen : (txCmdOf q v).len ≤ 512) (ha : s.txAuth q (txCmdOf q v) = false) :
    Sent q s (s.hppBytes q (s.destOf q (txCmdOf q v)) (txCmdOf q v).ty (s.port q).hppSeq 0 none (s.mailBody q (txCmdOf q v).len))
      (s.txcmd q v) := by
  have hm := Made.takeSeq s q
  rw [State.txcmd_plain hr ha, hm.destOf hq _ fun _ => rfl]
  exact (hm.txDest _).sends hq hl _ _ _ _ _ hlen

/-- An authenticated multicast frame takes a free value as its counter. -/
theorem State.txcmd_sends_group (hr : s.txRefused q (txCmdOf q v) = false) (hl : q < 16 ∨ (s.port q).link = true)
    (hlen : (txCmdOf q v).len ≤ 512) (ha : s.txAuth q (txCmdOf q v) = true) (hmc : (txCmdOf q v).mcast = true) :
    Sent q s (s.hppBytes q (s.destOf q (txCmdOf q v)) (txCmdOf q v).ty (s.port q).hppSeq (s.free 32).1.toNat
      (s.txKey q (txCmdOf q v)) (s.mailBody q (txCmdOf q v).len)) (s.txcmd q v) := by
  have hm := (Made.takeSeq s q).free 32
  have hct : (s.takeSeq q).2.takeCtr q (txCmdOf q v) = ((s.free 32).1.toNat, ((s.takeSeq q).2.free 32).2) := by
    rw [State.takeCtr, if_pos hmc]
    rfl
  rw [State.txcmd_auth hr ha, hct, hm.destOf hq _ fun h => absurd h (by simp [hmc])]
  exact (hm.txDest _).sends hq hl _ _ _ _ _ hlen

/-- An authenticated frame to a record takes the record's counter, which stands in the record. -/
theorem State.txcmd_sends_record {k ctr : Nat} (hr : s.txRefused q (txCmdOf q v) = false) (hl : q < 16 ∨ (s.port q).link = true)
    (hlen : (txCmdOf q v).len ≤ if q < 16 then 128 else 512) (ha : s.txAuth q (txCmdOf q v) = true)
    (hk : (txCmdOf q v).dst = k) (hmc : (txCmdOf q v).mcast = false)
    (hc : s.clean (portStore q) (recIndex q k) 4 = true) (hctr : ((s.node q k).txctr + 1) % 2 ^ 32 = ctr) :
    Sent q s (s.hppBytes q (s.destOf q (txCmdOf q v)) (txCmdOf q v).ty (s.port q).hppSeq ctr
      (s.txKey q (txCmdOf q v)) (s.mailBody q (txCmdOf q v).len)) (s.txcmd q v) ∧
      (s.unarmed = true → ((s.txcmd q v).node q k).txctr = ctr) := by
  have hlen' : (txCmdOf q v).len ≤ 512 := by split at hlen <;> omega
  have hk' : k < 64 := hk ▸ txCmdOf_dst_lt q v
  have hm := (Made.takeSeq s q).putNode hq hk' ((s.node q k).withTxctr ctr)
  have hfit : ((s.node q k).withTxctr ctr).fits := by
    obtain ⟨h0, h1, h2, h3⟩ := s.node_fits q k
    exact ⟨h0, h1, h2, putNat_lt _ h3 (by decide)⟩
  have hput : PortOnly { w1set := true, words := true } q [Page.ecc] (s.takeSeq q).2
      ((s.takeSeq q).2.putNode q k ((s.node q k).withTxctr ctr)) :=
    .writeWords hq rfl rfl (by simp) _ fun _ => recIndex_lt q hk'
  have hfree : ((s.takeSeq q).2.putNode q k ((s.node q k).withTxctr ctr)).freeCtr = (s.takeSeq q).2.freeCtr := hput.freeCtr rfl
  rw [State.txcmd_auth hr ha, State.takeCtr_record hk hmc hc hctr, hm.destOf hq _ fun _ => hfree]
  refine ⟨(hm.txDest _).sends hq hl _ _ _ _ _ hlen', fun hu => ?_⟩
  rw [(hm.txDest _).sends_node hq hl _ _ _ _ _ hlen ((hm.txDest _).unarmed hu) hk', State.node_txDest,
    State.node_putNode_same hq (s := (s.takeSeq q).2) hu k hfit]
  exact NodeRec.txctr_withTxctr _ (hctr ▸ Nat.mod_lt _ (by decide))

end Ways

/-- Without link the frame is discarded (R298). -/
theorem State.txcmd_discards (hs : ¬ q < 16) (hr : s.txRefused q (txCmdOf q v) = false) (hl : (s.port q).link = false)
    (ha : s.txAuth q (txCmdOf q v) = false) :
    let u := s.txcmd q v
    u.rd (Reg.uplDropbuf (q - 16)) = s.rd (Reg.uplDropbuf (q - 16)) + 1 ∧ u.rb (txstaReg q) 0 = false ∧
      u.rb (txstaReg q) 2 = true ∧ (u.port q).txq = (s.port q).txq ∧ PortOnly { w1set := true } q [portPage q] s u := by
  have hseg : isSeg q = false := by simp [isSeg, hs]
  have hu : s.txcmd q v = ((((s.takeSeq q).2.setb (txstaReg q) 0 true).bump (Reg.uplDropbuf (q - 16)))).mailDone q true := by
    have hlink : (((s.takeSeq q).2.setb (txstaReg q) 0 true).port q).link = false := by simp [State.takeSeq, hl]
    rw [State.txcmd_plain hr ha, State.txDest, hseg]
    simp only [Bool.not_false, if_true, State.sendHpp, hseg, hlink, Bool.or_self, Bool.false_eq_true, if_false]
  have hsta : txstaReg q = Reg.uplTxsta (q - 16) := if_neg hs
  have hpage : Reg.uplDropbuf (q - 16) / 1024 = portPage q := by
    simp only [portPage, if_neg hs, Reg.uplDropbuf, Page.upl]
    omega
  have hne : Reg.uplDropbuf (q - 16) ≠ txstaReg q ∧ Reg.uplDropbuf (q - 16) ≠ Reg.hdrIraw (portPage q) := by
    rw [hsta, portPage, if_neg hs]
    simp only [Reg.uplDropbuf, Reg.uplTxsta, Reg.hdrIraw, Page.upl]
    omega
  obtain ⟨hbusy, hdrop, -⟩ := State.mailDone_tells
    (s := ((s.takeSeq q).2.setb (txstaReg q) 0 true).bump (Reg.uplDropbuf (q - 16))) (p := q) true
  rw [hu]
  refine ⟨?_, hbusy, hdrop, by simp [State.takeSeq], ?_⟩
  · simp [State.mailDone, hne, State.takeSeq]
  · exact (((PortOnly.setPort _).trans (.setb (by simp [txsta_page q]) _)).trans (.bump (by simp [hpage]))).trans
      (State.mailDone_only rfl (by simp) true)

/-! ### The commands -/

/-- A TXCMD write of a type that its command names. -/
theorem txcmd_completes {c : Instr} {p : Fin 18} {ty : Nat} {P : State → Prop} (hc : exec c s = finish (s.writeTxcmd req p ty v))
    (hty : field v 0 4 = ty) (hr : s.reaches req (portPage p) = true) (hp : (s.txcmd p v).pwr = s.pwr)
    (hh : (s.txcmd p v).host = s.host) (h : P (s.txcmd p v)) : Completes c s P := by
  have hw : s.writeTxcmd req p ty v = s.txcmd p v := by
    rw [State.writeTxcmd, beq_iff_eq.mpr hty, State.onlyIf_true, State.reqWrite_txcmd p hr rfl hp hh]
  exact .of_finish (hw ▸ hc) h

theorem Sent.keeps {bs : List Byte} (h : Sent q s bs u) : u.pwr = s.pwr ∧ u.host = s.host := by
  obtain ⟨-, -, -, -, -, -, -, hrest⟩ := h
  rw [hrest]
  exact ⟨rfl, rfl⟩

section Settle
variable {c : Instr} {p : Fin 18} {ty : Nat} (hc : exec c s = finish (s.writeTxcmd req p ty v)) (hty : field v 0 4 = ty)
  (hr : s.reaches req (portPage p) = true)
include hc hty hr

theorem txcmd_sent {bs : List Byte} (h : Sent p s bs (s.txcmd p v)) : Completes c s (Sent p s bs) :=
  txcmd_completes hc hty hr h.keeps.1 h.keeps.2 h

/-- A TXCMD of a type the port sends: the frame queued, discarded without link, or refused. -/
theorem txcmd_settles (hal : txAllowed p ty = true) :
    let t := txCmdOf p v
    let built := fun (ctr : Nat) (k : Option (BitVec 128)) =>
      s.hppBytes p (s.destOf p t) ty (s.port p).hppSeq ctr k (s.mailBody p t.len)
    (¬ s.txForbidden p t → (p.val < 16 ∨ (s.port p).link = true) →
      (s.txAuth p t = false → Completes c s (fun u => Sent p s (built 0 none) u)) ∧
      (s.txAuth p t = true → t.mcast = false → s.clean (portStore p) (recIndex p t.dst) 4 = true →
        let ctr := ((s.node p t.dst).txctr + 1) % 2 ^ 32
        Completes c s (fun u => Sent p s (built ctr (s.txKey p t)) u ∧ (s.unarmed = true → (u.node p t.dst).txctr = ctr))) ∧
      (s.txAuth p t = true → t.mcast = true →
        Completes c s (fun u => Sent p s (built (s.free 32).1.toNat (s.txKey p t)) u))) ∧
    (¬ s.txForbidden p t → 16 ≤ p.val → (s.port p).link = false → s.txAuth p t = false →
      Completes c s (fun u =>
        u.rd (Reg.uplDropbuf (p - 16)) = s.rd (Reg.uplDropbuf (p - 16)) + 1 ∧ u.rb (txstaReg p) 0 = false ∧
        u.rb (txstaReg p) 2 = true ∧ (u.port p).txq = (s.port p).txq ∧ OffUnit State.port p s u ∧ OffPages [portPage p] s u ∧
        u = { s with regs := u.regs, w1set := u.w1set, ports := u.ports })) ∧
    (s.txForbidden p t →
      Completes c s (fun u => u = (s.setb (txstaReg p) 1 true).raise (portPage p) (if p.val < 16 then 9 else 5))) := by
  have hty' : (txCmdOf p v).ty = ty := (txCmdOf_ty p v).trans hty
  have hiff := State.txRefused_iff (s := s) (q := p) (c := txCmdOf p v) (by rwa [hty'])
  have hnot : ¬ s.txForbidden p (txCmdOf p v) → s.txRefused p (txCmdOf p v) = false ∧
      (txCmdOf p v).len ≤ if p.val < 16 then 128 else 512 := fun h => by
    refine ⟨Bool.eq_false_iff.mpr fun h' => h (hiff.mp h'), Nat.le_of_not_lt fun h' => h (.inr (.inl h'))⟩
  have h512 : (if p.val < 16 then 128 else 512) ≤ 512 := by split <;> omega
  refine ⟨fun hf hl => ⟨fun ha => ?_, fun ha hm hcl => ?_, fun ha hm => ?_⟩, fun hf h16 hl ha => ?_, fun hf => ?_⟩
  · have h := State.txcmd_sends_plain p.isLt (hnot hf).1 hl ((hnot hf).2.trans h512) ha
    rw [hty'] at h
    exact txcmd_sent hc hty hr h
  · obtain ⟨h, hctr⟩ := State.txcmd_sends_record p.isLt (hnot hf).1 hl (hnot hf).2 ha rfl hm hcl rfl
    rw [hty'] at h
    exact txcmd_completes hc hty hr h.keeps.1 h.keeps.2 ⟨h, hctr⟩
  · have h := State.txcmd_sends_group p.isLt (hnot hf).1 hl ((hnot hf).2.trans h512) ha hm
    rw [hty'] at h
    exact txcmd_sent hc hty hr h
  · obtain ⟨hcnt, hbusy, hdrop, htxq, honly⟩ := State.txcmd_discards (by omega) (hnot hf).1 hl ha
    exact txcmd_completes hc hty hr honly.pwr honly.host ⟨hcnt, hbusy, hdrop, htxq, honly.port, honly.regs, honly.rest_raised⟩
  · have h := State.txcmd_refused (s := s) (hiff.mpr hf)
    exact txcmd_completes hc hty hr (by rw [h]; exact State.raise_pwr ..) (by rw [h]; exact State.raise_host ..) h

end Settle

end Command

/-- Settles O18: a TXCMD by the way its frame is made, TXDONE and MBXPOP by what they show. -/
theorem mailboxes : Obligations.Mailboxes := by
  unfold Obligations.Mailboxes
  intro s
  refine ⟨fun req v n p u c hc hr hty => ?_, fun p e h => ⟨txdone_sends p h, fun hs ht => ?_⟩,
    fun req p hr => ⟨fun m rest hm h => mbxpop_shows p hr hm h, mbxpop_empty p hr⟩⟩
  · have hn : n.val < 18 := by omega
    simp only [List.mem_cons, List.not_mem_nil, or_false] at hc
    rcases hc with rfl | rfl | rfl | rfl | rfl | rfl
    · exact txcmd_settles (p := ⟨n, hn⟩) rfl hty hr (by simp [txAllowed])
    · exact txcmd_settles (p := ⟨n, hn⟩) rfl hty hr (by simp [txAllowed])
    · exact txcmd_settles (p := p) rfl hty hr (by simp [txAllowed])
    · exact txcmd_settles (p := p) rfl hty hr (by simp [txAllowed])
    · exact txcmd_settles (p := p) rfl hty hr (by simp [txAllowed])
    · exact txcmd_settles (p := ⟨16 + u, by omega⟩) rfl hty hr (by simp [txAllowed])
  · have hp : p.val < 16 := by simpa [isSeg] using hs
    exact txdone_drops ⟨p, hp⟩ p rfl h ht

end Sys2Proof.Machine
end

section
/-! What a frame that takes effect may change at its port, and the receive mailbox it enters (07 R256-R258, R266). -/

namespace Sys2Proof.Machine

/-! ### Updates of a frame that takes effect -/

@[simp] theorem State.rawWord_raise (s : State) (page b : Nat) (st : Store) (j : Nat) :
    (s.raise page b).rawWord st j = s.rawWord st j := rfl
@[simp] theorem State.rawWord_bump (s : State) (a : Nat) (st : Store) (j : Nat) : (s.bump a).rawWord st j = s.rawWord st j := rfl
@[simp] theorem State.rawWord_event (s : State) (page e : Nat) (st : Store) (j : Nat) :
    (s.event page e).rawWord st j = s.rawWord st j := by
  unfold State.event
  split <;> rfl

/-- What a frame that takes effect may change beside registers and ports. -/
def Touch.taking : Touch := { w1set := true, words := true, evq := true }

/-- While no injection is armed, `u` is `s` but for the port, registers of its page, words of its store that no record holds, and
events under way. -/
def Takes (p : Nat) (s u : State) : Prop :=
  s.unarmed = true → PortOnly .taking p [portPage p] s u ∧ ∀ k < 64, u.node p k = s.node p k

theorem PortOnly.unarmed {e : Touch} {p : Nat} {ps : List Nat} {s u : State} (hps : Page.ecc ∉ ps) (h : PortOnly e p ps s u) :
    u.unarmed = s.unarmed := by
  rw [State.unarmed, State.unarmed, State.rb, State.rb, h.regs _ hps]

namespace Takes
variable {p : Nat} {s t u : State}

theorem refl : Takes p s s := fun _ => ⟨.refl, fun _ _ => rfl⟩

theorem unarmed (hp : p < 18) (h : Takes p s u) (ha : s.unarmed = true) : u.unarmed = true :=
  ((h ha).1.unarmed (by simpa using (portPage_ne_ecc hp).symm)).trans ha

theorem trans (hp : p < 18) (h : Takes p s t) (h' : Takes p t u) : Takes p s u := fun ha =>
  have hb := h' (h.unarmed hp ha)
  ⟨(h ha).1.trans hb.1, fun k hk => (hb.2 k hk).trans ((h ha).2 k hk)⟩

theorem of_regs (h : PortOnly .taking p [portPage p] s u) (hw : ∀ j, u.rawWord (portStore p) j = s.rawWord (portStore p) j) :
    Takes p s u := fun _ => ⟨h, fun _ _ => State.node_congr fun _ _ => hw _⟩

theorem setPort (c : PortSt) : Takes p s (s.setPort p c) := of_regs (.setPort c) fun _ => State.rawWord_setPort ..
theorem wr {a : Nat} (ha : a / 1024 = portPage p) (v : Word) : Takes p s (s.wr a v) := of_regs (.wr (by simp [ha]) v) fun _ => rfl
theorem bump {a : Nat} (ha : a / 1024 = portPage p) : Takes p s (s.bump a) := wr ha _
theorem setb {a b : Nat} (ha : a / 1024 = portPage p) (v : Bool) : Takes p s (s.setb a b v) := wr ha _
theorem raise (b : Nat) : Takes p s (s.raise (portPage p) b) := of_regs (.raise rfl (by simp)) fun _ => State.rawWord_raise ..

theorem event (e : Nat) : Takes p s (s.event (portPage p) e) := of_regs (.event rfl) fun _ => State.rawWord_event ..

theorem onlyIf {c : Bool} {f : State → State} (h : Takes p s (f s)) : Takes p s (s.onlyIf c f) := by
  cases c with
  | false => exact refl
  | true => exact h

theorem foldl {α : Type} (hp : p < 18) {f : State → α → State} (xs : List α) (h : ∀ t x, Takes p t (f t x)) :
    Takes p s (xs.foldl f s) := by
  induction xs generalizing s with
  | nil => exact refl
  | cons x xs ih => exact (h s x).trans hp ih

/-- Words written where no record stands: below the records of a segment, or below or behind those of an uplink. -/
theorem writeWords (hp : p < 18) {i : Nat} (ds : List DWord) (hi : i + ds.length ≤ 2048 ∨ 2304 ≤ i ∧ i + ds.length ≤ 2816 ∨
    p < 16 ∧ i + ds.length ≤ 4096) : Takes p s (s.writeWords (portStore p) i ds) := fun ha =>
  ⟨.writeWords_unarmed hp rfl ha ds fun _ => by omega, fun k hk => State.node_writeWords hp ha ds (by
    simp only [recIndex]
    split <;> omega)⟩

end Takes

/-! ### A frame enters the receive mailbox (R266) -/

section Mail
variable {s : State} {p : Nat}

theorem mbxsta_page (p : Nat) : portReg p (fun n => Reg.segMbxsta n) (fun u => Reg.uplMbxsta u) / 1024 = portPage p := by
  simp only [portReg, portPage, Reg.segMbxsta, Reg.uplMbxsta, Page.seg, Page.upl]
  split <;> omega

theorem State.mailError_takes (b : Nat) (hp : p < 18) : Takes p s (s.mailError p b) :=
  (Takes.setb (mbxsta_page p) true).trans hp (.raise _)

/-- The lowest free slot of the receive mailbox. -/
def State.mailSlot (s : State) (p : Nat) : Option Nat := (List.range 16).find? (fun k => (s.port p).mail.all (fun m => m.slot != k))

theorem State.mailSlot_some {k : Nat} (h : s.mailSlot p = some k) : k < 16 ∧ ∀ m ∈ (s.port p).mail, m.slot ≠ k := by
  refine ⟨List.mem_range.mp (List.mem_of_find?_eq_some h), ?_⟩
  simpa using List.find?_some h

theorem State.mailSlot_free (h : ∃ i < 16, ∀ m ∈ (s.port p).mail, m.slot ≠ i) : ∃ k, s.mailSlot p = some k := by
  obtain ⟨i, hi, hf⟩ := h
  refine Option.ne_none_iff_exists'.mp fun hn => ?_
  have := List.find?_eq_none.mp hn i (List.mem_range.mpr hi)
  exact this (by simpa using hf)

/-- A body stands in its slot, and the frame waits behind those held. -/
def State.holdMail (s : State) (p : Nat) (m : MailRx) (body : List Byte) : State :=
  ((s.writeWords (portStore p) (mailWord p m.slot) (bytesWords 16 body)).setPort p
    { s.port p with mail := (s.port p).mail ++ [m] }).raise (portPage p) (if isSeg p then 6 else 2)

theorem State.toMail_full (plca ty : Nat) {body : List Byte} (auth stranger : Bool) (h : s.mailSlot p = none ∨ 128 < body.length) :
    s.toMail p plca ty body auth stranger = s.mailError p 5 := by
  have hnone : s.mailSlot p = none → s.toMail p plca ty body auth stranger = s.mailError p 5 := fun h => by
    unfold State.mailSlot at h
    simp only [State.toMail, h]
  rcases h with h | h
  · exact hnone h
  · cases hs : s.mailSlot p with
    | none => exact hnone hs
    | some k =>
      unfold State.mailSlot at hs
      simp only [State.toMail, hs, if_pos h]

theorem State.toMail_holds (plca ty : Nat) {body : List Byte} (auth stranger : Bool) {k : Nat} (h : s.mailSlot p = some k)
    (hb : body.length ≤ 128) :
    let m : MailRx := { plca := plca, ty := ty, len := body.length, slot := k, auth := auth, stranger := stranger }
    s.toMail p plca ty body auth stranger = (s.holdMail p m body).onlyIf (s.port p).mail.isEmpty (·.showOldest p [m]) := by
  unfold State.mailSlot at h
  simp only [State.toMail, h, if_neg (show ¬ 128 < body.length by omega), State.holdMail, State.port_writeWords]

/-- What `u` shows of the frame that entered. -/
structure Held (p : Nat) (s : State) (m : MailRx) (body : List Byte) (u : State) : Prop where
  takes : PortOnly .taking p [portPage p] s u ∧ ∀ k < 64, u.node p k = s.node p k
  port : u.port p = { s.port p with mail := (s.port p).mail ++ [m] }
  bytes : u.slotBytes p (mailWord p m.slot) body.length = body
  raised : u.rb (Reg.hdrIraw (portPage p)) (if p < 16 then 6 else 2) = true
  regs : ∀ a, a ≠ Reg.hdrIraw (portPage p) → a ≠ mbxhdrReg p → (∀ i < 32, a ≠ mbxrxReg p i) → u.rd a = s.rd a

theorem State.rawWord_holdMail (s : State) (p : Nat) (m : MailRx) (body : List Byte) (st : Store) (j : Nat) :
    (s.holdMail p m body).rawWord st j =
      (s.writeWords (portStore p) (mailWord p m.slot) (bytesWords 16 body)).rawWord st j := by
  rw [State.holdMail, State.rawWord_raise, State.rawWord_setPort]

section Held
variable (hp : p < 18) {m : MailRx} {body : List Byte} (hb : body.length ≤ 128) (hk : m.slot < 16)
include hp hb

/-- The words of a frame held are clean and hold its body. -/
theorem State.holdMail_bytes (hm : m.len = body.length) (ha : s.unarmed = true) :
    (s.holdMail p m body).slotBytes p (mailWord p m.slot) body.length = body ∧
      (s.holdMail p m body).clean (portStore p) (mailWord p m.slot) (wordsFor m.len) = true := by
  obtain ⟨hlen, -⟩ := bytesWords_bytes (m := 16) (bs := body) (by omega)
  refine ⟨?_, List.all_eq_true.mpr fun j hj => ?_⟩
  · unfold State.slotBytes
    simp only [State.rawWord_holdMail]
    exact State.writeWords_bytes hp ha (by omega)
  have hj' : j < wordsFor body.length := hm ▸ List.mem_range.mp hj
  have hraw : (s.holdMail p m body).rawWord (portStore p) (mailWord p m.slot + j) =
      encodeWord ((bytesWords 16 body).getD j 0) := by
    rw [State.rawWord_holdMail, State.rawWord_writeWords_port hp ha, if_pos (by omega), Nat.add_sub_cancel_left]
  rw [hraw, checkAt_port hp, checkWord_encodeWord, wordData_encodeWord, beq_self_eq_true]

include hk

theorem mailWord_takes : Takes p s (s.writeWords (portStore p) (mailWord p m.slot) (bytesWords 16 body)) := by
  obtain ⟨hlen, -⟩ := bytesWords_bytes (m := 16) (bs := body) (by omega)
  have hle : wordsFor body.length ≤ 16 := wordsFor_le (by omega)
  refine .writeWords hp _ ?_
  rw [hlen, mailWord]
  split <;> omega

theorem State.holdMail_takes : Takes p s (s.holdMail p m body) :=
  ((mailWord_takes hp hb hk).trans hp (.setPort _)).trans hp (.raise _)

theorem Held.of_holdMail (hm : m.len = body.length) (ha : s.unarmed = true) : Held p s m body (s.holdMail p m body) := by
  refine ⟨State.holdMail_takes hp hb hk ha, by simp [State.holdMail], (State.holdMail_bytes hp hb hm ha).1, ?_, fun a h1 _ _ => ?_⟩
  · rw [State.holdMail, show (if isSeg p then 6 else 2) = if p < 16 then 6 else 2 by simp [isSeg]]
    exact State.rb_raise_same _ _ _ (by split <;> decide)
  · rw [State.holdMail, State.rd_raise, if_neg h1, State.rd_setPort, State.writeWords_port_words hp ha]
    rfl

end Held

/-! ### The frame that entered shown where none was held -/

theorem PortOnly.rawWord {x : Touch} {ps : List Nat} {u : State} (hx : x.words = false) (h : PortOnly x p ps s u) (st : Store) (j : Nat) :
    u.rawWord st j = s.rawWord st j := by
  have hw : u.words = s.words := by simpa [hx] using congrArg State.words h.rest
  have hf : u.flashWords = s.flashWords := by rw [h.rest]
  simp only [State.rawWord, hw, hf]

theorem State.showMail_off (hdr : Word) (body : List Byte) {a : Nat} (h1 : a ≠ mbxhdrReg p) (h2 : ∀ i < 32, a ≠ mbxrxReg p i) :
    (s.showMail p hdr body).rd a = s.rd a := by
  rw [State.showMail, (State.foldl_wr (s.wr (mbxhdrReg p) hdr) (mbxrxReg p) (mbxrx_injective p)
    (fun i => w32 (ofBytes ((body.drop (4 * i)).take 4))) 32).2 a h2, State.rd_wr, if_neg h1]

theorem iraw_ne_mbx (p i : Nat) : Reg.hdrIraw (portPage p) ≠ mbxhdrReg p ∧ Reg.hdrIraw (portPage p) ≠ mbxrxReg p i := by
  simp only [mbxhdrReg, mbxrxReg, portReg, portPage, Reg.segMbxhdr, Reg.segMbxrx, Reg.uplMbxhdr, Reg.uplMbxrx, Page.seg, Page.upl,
    Reg.hdrIraw]
  split <;> omega

theorem Held.shown {m : MailRx} {body : List Byte} {t : State} (h : Held p s m body t) (he : (s.port p).mail = [])
    (hc : t.clean (portStore p) (mailWord p m.slot) (wordsFor m.len) = true) : Held p s m body (t.showOldest p [m]) := by
  obtain ⟨⟨honly, hnode⟩, hport, hbytes, hraised, hregs⟩ := h
  obtain ⟨-, -, hshow⟩ := State.showOldest_shows (s := t) (p := p) [m] (by simpa using hc)
  have hraw := hshow.rawWord rfl
  have hoff : ∀ a, a ≠ mbxhdrReg p → (∀ i < 32, a ≠ mbxrxReg p i) → (t.showOldest p [m]).rd a = t.rd a := fun a h1 h2 => by
    rw [State.showOldest_clean m [] hc, State.showMail_off _ _ h1 h2, State.rd_setPort]
  have htake : PortOnly .taking p [portPage p] t (t.showOldest p [m]) := .of_quiet hshow.rest hshow.port hshow.regs
  refine ⟨⟨honly.trans htake, fun k hk => (State.node_congr fun j _ => hraw _ _).trans (hnode k hk)⟩, ?_, ?_, ?_, fun a h1 h2 h3 => ?_⟩
  · rw [State.showOldest_clean m [] hc, State.showMail, State.port_foldl_wr]
    simp [hport, he]
  · simpa only [State.slotBytes, hraw] using hbytes
  · rwa [State.rb, hoff _ (iraw_ne_mbx p 0).1 fun i _ => (iraw_ne_mbx p i).2]
  · rw [hoff a h2 h3, hregs a h1 h2 h3]

/-- A frame with a free slot enters (R266). -/
theorem State.toMail_enters (hp : p < 18) (ha : s.unarmed = true) (plca ty : Nat) {body : List Byte} (auth stranger : Bool)
    {k : Nat} (hk : s.mailSlot p = some k) (hb : body.length ≤ 128) :
    Held p s { plca := plca, ty := ty, len := body.length, slot := k, auth := auth, stranger := stranger } body
      (s.toMail p plca ty body auth stranger) := by
  have hk' := (State.mailSlot_some hk).1
  have hheld := Held.of_holdMail (s := s) (m := ⟨plca, ty, body.length, k, auth, stranger⟩) hp hb hk' rfl ha
  rw [State.toMail_holds plca ty auth stranger hk hb]
  cases he : (s.port p).mail with
  | nil => exact hheld.shown he (State.holdMail_bytes (m := ⟨plca, ty, body.length, k, auth, stranger⟩) hp hb rfl ha).2
  | cons x xs => exact hheld

theorem State.toMail_takes (hp : p < 18) (plca ty : Nat) (body : List Byte) (auth stranger : Bool) :
    Takes p s (s.toMail p plca ty body auth stranger) := fun ha => by
  by_cases h : s.mailSlot p = none ∨ 128 < body.length
  · rw [State.toMail_full plca ty auth stranger h]
    exact State.mailError_takes 5 hp ha
  · obtain ⟨hs, hb⟩ := not_or.mp h
    obtain ⟨k, hk⟩ := Option.ne_none_iff_exists'.mp hs
    exact (State.toMail_enters hp ha plca ty auth stranger hk (by omega)).takes

theorem State.arrived_toMail (hp : p < 18) (ha : s.unarmed = true) (plca ty : Nat) (body : List Byte) (auth stranger : Bool) :
    ((s.toMail p plca ty body auth stranger).port p).arrived = (s.port p).arrived := by
  by_cases h : s.mailSlot p = none ∨ 128 < body.length
  · rw [State.toMail_full plca ty auth stranger h, State.mailError, State.port_raise, State.port_setb]
  · obtain ⟨hs, hb⟩ := not_or.mp h
    obtain ⟨k, hk⟩ := Option.ne_none_iff_exists'.mp hs
    rw [(State.toMail_enters hp ha plca ty auth stranger hk (by omega)).port]

/-- Registers of the page that a frame's entry does not write. -/
theorem State.rd_toMail (hp : p < 18) (ha : s.unarmed = true) (plca ty : Nat) (body : List Byte) (auth stranger : Bool) {a : Nat}
    (h1 : a ≠ Reg.hdrIraw (portPage p)) (h2 : a ≠ mbxhdrReg p) (h3 : ∀ i < 32, a ≠ mbxrxReg p i)
    (h4 : a ≠ portReg p (fun n => Reg.segMbxsta n) (fun u => Reg.uplMbxsta u)) :
    (s.toMail p plca ty body auth stranger).rd a = s.rd a := by
  by_cases h : s.mailSlot p = none ∨ 128 < body.length
  · rw [State.toMail_full plca ty auth stranger h, State.mailError, State.rd_raise, if_neg h1, State.rd_setb, if_neg h4]
  · obtain ⟨hs, hb⟩ := not_or.mp h
    obtain ⟨k, hk⟩ := Option.ne_none_iff_exists'.mp hs
    exact (State.toMail_enters hp ha plca ty auth stranger hk (by omega)).regs a h1 h2 h3

end Mail

end Sys2Proof.Machine
end

section
/-! An accepted frame: its record, its cache entries and its credit (07 R245, R250, R252, R256, R257, R262). -/

namespace Sys2Proof.Machine

/-! ### The record of an accepted frame (R245, R250, R256) -/

/-- A record with its second word, or its last two, replaced. -/
def NodeRec.withState (r : NodeRec) (w1 : Nat) : NodeRec := { r with w1 := w1 }
def NodeRec.withCounts (r : NodeRec) (w2 w3 : Nat) : NodeRec := { r with w2 := w2, w3 := w3 }

section Words
variable (r : NodeRec) (w x : Nat)

theorem NodeRec.withState_words :
    (r.withState w).w0 = r.w0 ∧ (r.withState w).w1 = w ∧ (r.withState w).w2 = r.w2 ∧ (r.withState w).w3 = r.w3 :=
  ⟨rfl, rfl, rfl, rfl⟩

theorem NodeRec.withCounts_words :
    (r.withCounts w x).w0 = r.w0 ∧ (r.withCounts w x).w1 = r.w1 ∧ (r.withCounts w x).w2 = w ∧ (r.withCounts w x).w3 = x :=
  ⟨rfl, rfl, rfl, rfl⟩

variable {r w x}

theorem NodeRec.withState_fits (h : r.fits) (hw : w < 2 ^ 64) : (r.withState w).fits := by
  obtain ⟨e0, e1, e2, e3⟩ := r.withState_words w
  obtain ⟨h0, -, h2, h3⟩ := h
  unfold NodeRec.fits
  rw [e0, e1, e2, e3]
  exact ⟨h0, hw, h2, h3⟩

theorem NodeRec.withCounts_fits (h : r.fits) (hw : w < 2 ^ 64) (hx : x < 2 ^ 64) : (r.withCounts w x).fits := by
  obtain ⟨e0, e1, e2, e3⟩ := r.withCounts_words w x
  obtain ⟨h0, h1, -, -⟩ := h
  unfold NodeRec.fits
  rw [e0, e1, e2, e3]
  exact ⟨h0, h1, hw, hx⟩

end Words

/-- The third word of a record after an accepted frame: AUTHF and MISS 0, LASTSEQ, and RXCTR of an authentic one. -/
def heardCounts (w2 : Nat) (f : Hpp) : Nat :=
  putNat (putNat (if f.auth then putNat (putNat w2 52 4 0) 16 32 f.ctr else putNat w2 52 4 0) 0 16 f.seq) 48 4 0

theorem heardCounts_lt {w2 : Nat} (f : Hpp) (h : w2 < 2 ^ 64) : heardCounts w2 f < 2 ^ 64 := by
  unfold heardCounts
  refine putNat_lt _ (putNat_lt _ ?_ (by decide)) (by decide)
  split
  · exact putNat_lt _ (putNat_lt _ h (by decide)) (by decide)
  · exact putNat_lt _ h (by decide)

/-- The fields that acceptance sets. -/
theorem heardCounts_fields (w2 : Nat) {f : Hpp} (hseq : f.seq < 65536) :
    natField (heardCounts w2 f) 48 4 = 0 ∧ natField (heardCounts w2 f) 52 4 = 0 ∧ natField (heardCounts w2 f) 0 16 = f.seq ∧
      natField (heardCounts w2 f) 16 32 = if f.auth then f.ctr % 2 ^ 32 else natField w2 16 32 := by
  unfold heardCounts
  refine ⟨?_, ?_, ?_, ?_⟩
  · rw [natField_putNat_same, Nat.zero_mod]
  · rw [natField_putNat_other _ _ (by decide), natField_putNat_other _ _ (by decide)]
    split
    · rw [natField_putNat_other _ _ (by decide), natField_putNat_same, Nat.zero_mod]
    · rw [natField_putNat_same, Nat.zero_mod]
  · rw [natField_putNat_other _ _ (by decide), natField_putNat_same]
    exact Nat.mod_eq_of_lt hseq
  · rw [natField_putNat_other _ _ (by decide), natField_putNat_other _ _ (by decide)]
    split
    · rw [natField_putNat_same]
    · rw [natField_putNat_other _ _ (by decide)]

/-- The record as an accepted frame leaves its counters and stamp. -/
def NodeRec.heard (r : NodeRec) (f : Hpp) (st : Nat) : NodeRec := r.withCounts (heardCounts r.w2 f) (putNat r.w3 0 32 st)

theorem NodeRec.heard_fits {r : NodeRec} (f : Hpp) (st : Nat) (h : r.fits) : (r.heard f st).fits :=
  NodeRec.withCounts_fits h (heardCounts_lt f h.2.2.1) (putNat_lt st h.2.2.2 (by decide))

/-- The record in a state. -/
def NodeRec.inState (r : NodeRec) (st : Nat) : NodeRec := r.withState (putNat r.w1 50 3 st)

theorem NodeRec.inState_fits {r : NodeRec} (h : r.fits) (st : Nat) : (r.inState st).fits :=
  NodeRec.withState_fits h (putNat_lt st h.2.1 (by decide))

theorem NodeRec.state_of_w1 {r : NodeRec} {w : Nat} (h : r.w1 = w) : r.state = natField w 50 3 := by rw [NodeRec.state, h]

theorem NodeRec.inState_live (r : NodeRec) : (r.inState 2).state = 2 := by
  rw [NodeRec.inState, NodeRec.state_of_w1 (r.withState_words _).2.1, natField_putNat_same, Nat.mod_eq_of_lt (by decide)]

section Heard
variable {s : State} {p k : Nat} {f : Hpp} {st : Nat}

/-- The record of an accepted frame is stored, LIVE (R250). -/
def State.hearNode (s : State) (p k : Nat) (f : Hpp) (st : Nat) : State :=
  (s.putNode p k ((s.node p k).heard f st)).onlyIf ((s.node p k).state == 1 || (s.node p k).state == 3) (·.enterNode p k 2)

theorem State.enterNode_live (s : State) (p k : Nat) :
    s.enterNode p k 2 = (s.putNode p k ((s.node p k).inState 2)).onlyIf (isSeg p) (·.event (portPage p) 2) := by
  simp only [State.enterNode, if_true, NodeRec.inState, NodeRec.withState]

/-- A record stored: it reads so, and no other changes. -/
theorem State.putNode_effect (hp : p < 18) (ha : s.unarmed = true) (hk : k < 64) {r : NodeRec} (hr : r.fits) :
    let u := s.putNode p k r
    u.node p k = r ∧ (∀ j, j ≠ k → u.node p j = s.node p j) ∧ (∀ j, u.port j = s.port j) ∧ (∀ a, u.rd a = s.rd a) ∧
      u.unarmed = true ∧ PortOnly .taking p [portPage p] s u :=
  ⟨State.node_putNode_same hp ha k hr, fun _ hj => State.node_putNode_other hp ha _ hj, fun _ => State.port_writeWords ..,
    (State.putNode_words hp ha k r).rd, State.unarmed_writeWords hp ha _ _,
    .writeWords_unarmed hp rfl ha _ fun _ => recIndex_lt p hk⟩

/-- The record after an accepted frame. -/
structure Hears (p k : Nat) (f : Hpp) (st : Nat) (s u : State) : Prop where
  live : (u.node p k).state = 2
  w2 : (u.node p k).w2 = ((s.node p k).heard f st).w2
  w3 : (u.node p k).w3 = ((s.node p k).heard f st).w3
  others : ∀ j, j ≠ k → u.node p j = s.node p j
  port : ∀ j, u.port j = s.port j
  regs : ∀ a, u.rd a = s.rd a
  unarmed : u.unarmed = true
  only : PortOnly .taking p [portPage p] s u

theorem State.hearNode_hears (hp : p < 18) (ha : s.unarmed = true) (hk : k < 64)
    (hst : (s.node p k).state = 1 ∨ (s.node p k).state = 2 ∨ (s.node p k).state = 3) :
    Hears p k f st s (s.hearNode p k f st) := by
  have hfit := NodeRec.heard_fits f st (s.node_fits p k)
  obtain ⟨hnode, hothers, hport, hregs, ha', honly⟩ := State.putNode_effect hp ha hk hfit
  unfold State.hearNode
  set t := s.putNode p k ((s.node p k).heard f st) with ht
  cases hc : (s.node p k).state == 1 || (s.node p k).state == 3 with
  | false =>
    have h2 : (s.node p k).state = 2 := by
      simp only [Bool.or_eq_false_iff, beq_eq_false_iff_ne] at hc
      tauto
    refine ⟨?_, by rw [State.onlyIf_false, hnode], by rw [State.onlyIf_false, hnode], hothers, hport, hregs, ha', honly⟩
    rw [State.onlyIf_false, hnode]
    rwa [NodeRec.heard, NodeRec.state_of_w1 (NodeRec.withCounts_words ..).2.1]
  | true =>
    obtain ⟨hnode2, hothers2, hport2, hregs2, ha2, honly2⟩ := State.putNode_effect hp ha' hk
      (NodeRec.inState_fits (t.node_fits p k) 2)
    rw [State.onlyIf_true, State.enterNode_live]
    set u := t.putNode p k ((t.node p k).inState 2) with hu
    have hev : ∀ j, (u.onlyIf (isSeg p) (·.event (portPage p) 2)).node p j = u.node p j := fun j => State.node_congr fun i _ => by
      unfold State.onlyIf
      split <;> simp
    have hsel : PortOnly .taking p [portPage p] u (u.onlyIf (isSeg p) (·.event (portPage p) 2)) := .onlyIf fun _ => .event rfl
    refine ⟨?_, ?_, ?_, fun j hj => ?_, fun j => ?_, fun a => ?_, ?_, (honly.trans honly2).trans hsel⟩
    · rw [hev, hnode2]
      exact NodeRec.inState_live _
    · rw [hev, hnode2, hnode]
      exact (NodeRec.withState_words ..).2.2.1
    · rw [hev, hnode2, hnode]
      exact (NodeRec.withState_words ..).2.2.2
    · rw [hev, hothers2 j hj, hothers j hj]
    · rw [← hport, ← hport2]
      unfold State.onlyIf
      split <;> simp
    · rw [← hregs, ← hregs2]
      unfold State.onlyIf
      split <;> simp
    · exact (hsel.unarmed (by simpa using (portPage_ne_ecc hp).symm)).trans ha2

end Heard

/-! ### Cache entries (R257) -/

/-- The channel of an entry, and the first word that it enters. -/
def Hpp.chan (f : Hpp) (i : Nat) : Nat := bytesAt f.body (6 + f.entrySize * i) 1
def Hpp.entryWord (f : Hpp) (i : Nat) : Nat :=
  bytesAt f.body (6 + f.entrySize * i + 2) 4 * 2 ^ 32 +
    (if f.nfault then 5 else bytesAt f.body (6 + f.entrySize * i + 1) 1) * 2 ^ 24 + 2 ^ 22 + f.seq

theorem bytesAt_lt (bs : List Byte) (lo n : Nat) : bytesAt bs lo n < 256 ^ n :=
  Nat.lt_of_lt_of_le (ofBytes_lt _) (Nat.pow_le_pow_right (by decide) (List.length_take_le _ _))

theorem Hpp.entryWord_fields {f : Hpp} (hseq : f.seq < 65536) (i : Nat) :
    f.entryWord i < 2 ^ 64 ∧ natField (f.entryWord i) 32 32 = bytesAt f.body (6 + f.entrySize * i + 2) 4 ∧
      natField (f.entryWord i) 24 8 = if f.nfault then 5 else bytesAt f.body (6 + f.entrySize * i + 1) 1 := by
  have hv := bytesAt_lt f.body (6 + f.entrySize * i + 2) 4
  have hq : (if f.nfault then 5 else bytesAt f.body (6 + f.entrySize * i + 1) 1) < 256 := by
    have := bytesAt_lt f.body (6 + f.entrySize * i + 1) 1
    split <;> omega
  unfold Hpp.entryWord
  generalize (if f.nfault then 5 else bytesAt f.body (6 + f.entrySize * i + 1) 1) = qual at *
  simp only [natField, Nat.shiftRight_eq_div_pow]
  omega

section Cache
variable {s : State} {p k : Nat} {r : NodeRec} {f : Hpp} {st : Nat}

/-- One entry of a REPLY or PUBLISH enters the cache. -/
def State.cacheEntry (s : State) (p : Nat) (r : NodeRec) (f : Hpp) (st i : Nat) : State :=
  if r.nch ≤ f.chan i then s.onlyIf (isSeg p) (·.bump (Reg.segChbad p))
  else s.writeWords (portStore p) (cacheWord ((r.cbase + f.chan i) % 1024))
    [BitVec.ofNat 64 (f.entryWord i),
     BitVec.ofNat 64 ((if f.perstamp then bytesAt f.body (6 + f.entrySize * i + 6) 4 else bytesAt f.body 0 4) * 2 ^ 32 + st % 2 ^ 32)]

theorem State.cacheEntries_eq (s : State) (p : Nat) (r : NodeRec) (f : Hpp) (st : Nat) :
    s.cacheEntries p r f st =
      (List.range ((f.body.length - 6) / f.entrySize)).foldl (fun s i => s.cacheEntry p r f st i) s := rfl

theorem segChbad_page (h : isSeg p = true) : Reg.segChbad p / 1024 = portPage p := by
  have h' : p < 16 := by simpa [isSeg] using h
  simp only [portPage, if_pos h', Reg.segChbad, Page.seg]
  omega

theorem State.cacheEntry_takes (hp : p < 18) (i : Nat) : Takes p s (s.cacheEntry p r f st i) := by
  unfold State.cacheEntry
  split
  · cases hs : isSeg p with
    | false => exact .refl
    | true => exact .bump (segChbad_page hs)
  · exact .writeWords hp _ (.inl (by simp only [cacheWord, List.length_cons, List.length_nil]; omega))

theorem State.port_cacheEntry (i j : Nat) : (s.cacheEntry p r f st i).port j = s.port j := by
  unfold State.cacheEntry
  split
  · unfold State.onlyIf
    split <;> rfl
  · exact State.port_writeWords ..

theorem State.rd_cacheEntry (hp : p < 18) (ha : s.unarmed = true) (i : Nat) {a : Nat} (h : a ≠ Reg.segChbad p) :
    (s.cacheEntry p r f st i).rd a = s.rd a := by
  unfold State.cacheEntry
  split
  · unfold State.onlyIf
    split
    · simp [h]
    · rfl
  · exact (State.writeWords_port_words hp ha _ _).rd a

theorem cacheWord_inj {c i j : Nat} (hi : i < 256) (hj : j < 256) (h : i ≠ j) :
    2 * ((c + i) % 1024) ≠ 2 * ((c + j) % 1024) := by omega

theorem Hpp.chan_lt (f : Hpp) (i : Nat) : f.chan i < 256 := bytesAt_lt _ _ 1

/-- The first word of a channel's entry after one entry was taken. -/
theorem State.cacheEntry_word (hp : p < 18) (ha : s.unarmed = true) (i j : Nat) (hne : f.chan j ≠ f.chan i ∨ r.nch ≤ f.chan i) :
    (s.cacheEntry p r f st i).rawWord (portStore p) (2 * ((r.cbase + f.chan j) % 1024)) =
      s.rawWord (portStore p) (2 * ((r.cbase + f.chan j) % 1024)) := by
  unfold State.cacheEntry
  split
  · unfold State.onlyIf
    split
    · exact State.rawWord_bump ..
    · rfl
  · have hw := cacheWord_inj (c := r.cbase) (f.chan_lt j) (f.chan_lt i) (by tauto)
    rw [State.rawWord_writeWords_port hp ha, if_neg]
    simp only [cacheWord, List.length_cons, List.length_nil]
    omega

theorem State.cacheEntry_word_same (hp : p < 18) (ha : s.unarmed = true) (i : Nat) (h : f.chan i < r.nch) :
    (s.cacheEntry p r f st i).rawWord (portStore p) (2 * ((r.cbase + f.chan i) % 1024)) =
      encodeWord (BitVec.ofNat 64 (f.entryWord i)) := by
  rw [State.cacheEntry, if_neg (by omega), State.rawWord_writeWords_port hp ha, if_pos (by simp [cacheWord])]
  simp [cacheWord]

/-- Entries up to the `n`th entered. -/
structure Cached (p : Nat) (r : NodeRec) (f : Hpp) (n : Nat) (s u : State) : Prop where
  unarmed : u.unarmed = true
  takes : PortOnly .taking p [portPage p] s u ∧ ∀ k < 64, u.node p k = s.node p k
  port : ∀ j, u.port j = s.port j
  regs : ∀ a, a ≠ Reg.segChbad p → u.rd a = s.rd a
  words : ∀ i < n, f.chan i < r.nch → (∀ j < n, i < j → f.chan j ≠ f.chan i) →
    u.rawWord (portStore p) (2 * ((r.cbase + f.chan i) % 1024)) = encodeWord (BitVec.ofNat 64 (f.entryWord i))

theorem State.cacheEntries_cached (hp : p < 18) (ha : s.unarmed = true) (n : Nat) :
    Cached p r f n s ((List.range n).foldl (fun s i => s.cacheEntry p r f st i) s) := by
  induction n with
  | zero => exact ⟨ha, ⟨.refl, fun _ _ => rfl⟩, fun _ => rfl, fun _ _ => rfl, fun i hi => absurd hi (by omega)⟩
  | succ n ih =>
    rw [List.range_succ, List.foldl_append, List.foldl_cons, List.foldl_nil]
    obtain ⟨hu, ⟨honly, hnode⟩, hport, hregs, hwords⟩ := ih
    set u := (List.range n).foldl (fun s i => s.cacheEntry p r f st i) s
    have hstep := State.cacheEntry_takes (s := u) (r := r) (f := f) (st := st) hp n
    refine ⟨hstep.unarmed hp hu, ⟨honly.trans (hstep hu).1, fun k hk => ((hstep hu).2 k hk).trans (hnode k hk)⟩,
      fun j => (State.port_cacheEntry ..).trans (hport j), fun a h => (State.rd_cacheEntry hp hu n h).trans (hregs a h),
      fun i hi hch hlast => ?_⟩
    by_cases hin : i = n
    · subst hin
      exact State.cacheEntry_word_same hp hu i hch
    · rw [State.cacheEntry_word hp hu n i (.inl fun h => hlast n (by omega) (by omega) h.symm)]
      exact hwords i (by omega) hch fun j hj => hlast j (by omega)

end Cache

end Sys2Proof.Machine
end

section
/-! Frames that take effect: an accepted one and an unknown ANNOUNCE (07 R256-R258, R262, R266). -/

namespace Sys2Proof.Machine

/-! ### An accepted frame taken (R256) -/

section Accept
variable {s : State} {p k : Nat} {f : Hpp} {stamp : Int}

/-- A frame accepted of record `k`, by its type. -/
def State.acceptFrame (s : State) (p k : Nat) (f : Hpp) (stamp : Int) : State :=
  ((((s.hearNode p k f (natOf stamp 32)).onlyIf (f.ty == 5 || f.ty == 6) (·.cacheEntries p (s.node p k) f (natOf stamp 32))).onlyIf
    (f.ty == 5) (·.creditReply p k f stamp)).onlyIf (f.ty == 6) (·.setPubFrom p k)).onlyIf
    (f.ty == 2 || f.ty == 7 || f.ty == 8 || f.ty == 9) (·.toMail p (if isSeg p then f.plca else k) f.ty f.body f.auth false)

/-- The record of an accepted frame. -/
structure Accepted (s : State) (p k : Nat) (f : Hpp) : Prop where
  found : s.findNode p f.src = some k
  place : isSeg p = true → k = f.plca
  clean : s.clean (portStore p) (recIndex p k) 4 = true
  state : (s.node p k).state = 1 ∨ (s.node p k).state = 2 ∨ (s.node p k).state = 3
  authentic : (s.authentic p k (s.node p k) f).1 = true
  fresh : (s.node p k).state = 1 ∨
    (decide (1 ≤ (f.seq + 65536 - (s.node p k).lastseq) % 65536) &&
      decide ((f.seq + 65536 - (s.node p k).lastseq) % 65536 ≤ 32767)) = true

theorem State.accepts_accepted (h : s.accepts p k f = true) : Accepted s p k f := by
  simp only [State.accepts, Bool.and_eq_true, Bool.or_eq_true, beq_iff_eq, Bool.not_eq_true'] at h
  obtain ⟨⟨⟨⟨⟨hfound, hplace⟩, hclean⟩, hstate⟩, hauth⟩, hfresh⟩ := h
  refine ⟨hfound, fun hs => ?_, hclean, by tauto, hauth, by simpa using hfresh⟩
  rcases hplace with hp | hp
  · rw [hs] at hp
    cases hp
  · exact hp

theorem Accepted.nodeFrame (h : Accepted s p k f) : s.nodeFrame p k f stamp = s.acceptFrame p k f stamp := by
  obtain ⟨-, -, hclean, hstate, hauth, hfresh⟩ := h
  have hblocked : (decide ((s.node p k).state = 4) || decide ((s.node p k).state = 5)) = false := by
    rw [Bool.or_eq_false_iff, decide_eq_false_iff_not, decide_eq_false_iff_not]
    omega
  have hnew : (decide ((s.node p k).state ≠ 1) && !(decide (1 ≤ (f.seq + 65536 - (s.node p k).lastseq) % 65536) &&
      decide ((f.seq + 65536 - (s.node p k).lastseq) % 65536 ≤ 32767))) = false := by
    rcases hfresh with hf | hf
    · simp [hf]
    · rw [hf]
      simp
  simp only [State.nodeFrame, State.readNode_clean hclean, hblocked, hauth, hnew, Bool.not_true, Bool.false_eq_true, if_false,
    State.acceptFrame, State.hearNode, NodeRec.heard, NodeRec.withCounts, heardCounts]

theorem Accepted.hppFrame (h : Accepted s p k f) : s.hppFrame p f stamp = s.acceptFrame p k f stamp := by
  have hplace : (isSeg p && k != f.plca) = false := by
    cases hs : isSeg p with
    | false => rfl
    | true => simp [h.place hs]
  simp only [State.hppFrame, h.found, hplace, Bool.false_eq_true, if_false, h.nodeFrame]

/-- The frame is taken alone. -/
theorem State.takeFrames_one (h : (s.port p).arrived = [(f, stamp)]) :
    s.takeFrames p = (s.setPort p { s.port p with arrived := [] }).hppFrame p f stamp := by
  simp only [State.takeFrames, h, List.foldl_cons, List.foldl_nil]

theorem State.node_setPort (s : State) (q : Nat) (c : PortSt) (p k : Nat) : (s.setPort q c).node p k = s.node p k :=
  State.node_congr fun _ _ => State.rawWord_setPort ..

theorem State.findNode_setPort (s : State) (q : Nat) (c : PortSt) (p ident : Nat) :
    (s.setPort q c).findNode p ident = s.findNode p ident := by
  simp only [State.findNode, State.node_setPort]

/-- A port's other state is none of what acceptance asks. -/
theorem Accepted.setPort (h : Accepted s p k f) {c : PortSt} (hc : c.keys = (s.port p).keys) : Accepted (s.setPort p c) p k f := by
  obtain ⟨hfound, hplace, hclean, hstate, hauth, hfresh⟩ := h
  have hkey : (s.setPort p c).authentic p k (s.node p k) f = s.authentic p k (s.node p k) f := by
    simp only [State.authentic, State.key?, State.port_setPort, if_true, hc]
  refine ⟨(State.findNode_setPort ..).trans hfound, hplace, hclean, ?_, ?_, ?_⟩
  · rwa [State.node_setPort]
  · rwa [State.node_setPort, hkey]
  · rwa [State.node_setPort]

end Accept

/-! ### The credit of a REPLY (R262) -/

section Credit
variable {s : State} {n k : Nat} {f : Hpp} {stamp : Int}

theorem State.creditReply_credits {b : BurstSt} {o : Nat} (hb : (s.port n).burst = some b) (ho : b.opened = some o)
    (hno : bytesAt f.body 4 2 = b.number) (hlo : (o : Int) ≤ stamp) (hhi : stamp < b.close) :
    s.creditReply n k f stamp = s.setPort n { s.port n with burst := some { b with credited := k :: b.credited } } := by
  simp [State.creditReply, hb, ho, hno, hlo, hhi]

theorem State.creditReply_late (hb : (s.port n).burst = none) : s.creditReply n k f stamp = s.bump (Reg.segLaterep n) := by
  simp only [State.creditReply, hb]

/-- A REPLY is credited or late. -/
theorem State.creditReply_or (s : State) (n k : Nat) (f : Hpp) (stamp : Int) :
    (∃ c, s.creditReply n k f stamp = s.setPort n { s.port n with burst := c }) ∨
      s.creditReply n k f stamp = s.bump (Reg.segLaterep n) := by
  cases hb : (s.port n).burst with
  | none => exact .inr (State.creditReply_late hb)
  | some b =>
    simp only [State.creditReply, hb]
    exact (ite_eq_or_eq _ _ _).imp (fun h => ⟨_, h⟩) id

end Credit

/-! ### What an accepted frame leaves -/

section Taken
variable {s : State} {p k : Nat} {f : Hpp} {stamp : Int}

theorem segLaterep_page (h : p < 16) : Reg.segLaterep p / 1024 = portPage p := by
  simp only [portPage, if_pos h, Reg.segLaterep, Page.seg]
  omega

theorem State.acceptFrame_reply (h : f.ty = 5) : s.acceptFrame p k f stamp =
    ((s.hearNode p k f (natOf stamp 32)).cacheEntries p (s.node p k) f (natOf stamp 32)).creditReply p k f stamp := by
  simp [State.acceptFrame, h]

theorem State.acceptFrame_publish (h : f.ty = 6) : s.acceptFrame p k f stamp =
    ((s.hearNode p k f (natOf stamp 32)).cacheEntries p (s.node p k) f (natOf stamp 32)).setPubFrom p k := by
  simp [State.acceptFrame, h]

theorem State.acceptFrame_mail (hal : rxAllowed p f.ty = true) (h5 : f.ty ≠ 5) (h6 : f.ty ≠ 6) : s.acceptFrame p k f stamp =
    (s.hearNode p k f (natOf stamp 32)).toMail p (if isSeg p then f.plca else k) f.ty f.body f.auth false := by
  have hin : f.ty = 2 ∨ f.ty = 7 ∨ f.ty = 8 ∨ f.ty = 9 := by
    unfold rxAllowed at hal
    split at hal
    · have : f.ty = 2 ∨ f.ty = 5 ∨ f.ty = 6 ∨ f.ty = 8 ∨ f.ty = 9 := by simpa using hal
      omega
    · have : f.ty = 6 ∨ f.ty = 7 ∨ f.ty = 8 ∨ f.ty = 9 := by simpa using hal
      omega
  have hty : (f.ty == 2 || f.ty == 7 || f.ty == 8 || f.ty == 9) = true := by simpa [or_assoc] using hin
  simp only [State.acceptFrame, beq_eq_false_iff_ne.mpr h5, beq_eq_false_iff_ne.mpr h6, Bool.or_self, State.onlyIf_false, hty,
    State.onlyIf_true]

theorem State.creditReply_takes (hp : p < 16) (k : Nat) (f : Hpp) (stamp : Int) : Takes p s (s.creditReply p k f stamp) := by
  rcases State.creditReply_or s p k f stamp with ⟨c, h⟩ | h
  · rw [h]
    exact .setPort _
  · rw [h]
    exact .bump (segLaterep_page hp)

/-- Credit and the start of PUBTMO leave the words of the store. -/
theorem State.rawWord_creditReply (s : State) (p k : Nat) (f : Hpp) (stamp : Int) (st : Store) (j : Nat) :
    (s.creditReply p k f stamp).rawWord st j = s.rawWord st j := by
  rcases State.creditReply_or s p k f stamp with ⟨c, h⟩ | h
  · rw [h, State.rawWord_setPort]
  · rw [h, State.rawWord_bump]

theorem State.acceptFrame_takes (hp : p < 18) (hal : rxAllowed p f.ty = true) :
    Takes p (s.hearNode p k f (natOf stamp 32)) (s.acceptFrame p k f stamp) := by
  have hcache : Takes p (s.hearNode p k f (natOf stamp 32))
      ((s.hearNode p k f (natOf stamp 32)).cacheEntries p (s.node p k) f (natOf stamp 32)) := by
    rw [State.cacheEntries_eq]
    exact .foldl hp _ fun t i => State.cacheEntry_takes hp i
  by_cases h5 : f.ty = 5
  · have hseg : p < 16 := by
      by_contra hn
      simp [rxAllowed, hn, h5] at hal
    rw [State.acceptFrame_reply h5]
    exact hcache.trans hp (State.creditReply_takes hseg k f stamp)
  · by_cases h6 : f.ty = 6
    · rw [State.acceptFrame_publish h6]
      exact hcache.trans hp (.setPort _)
    · rw [State.acceptFrame_mail hal h5 h6]
      exact State.toMail_takes hp _ _ _ _ _

end Taken

end Sys2Proof.Machine
end

section
/-! What an accepted frame and an unknown ANNOUNCE leave at their port (07 R245-R258, R262, R266). -/

namespace Sys2Proof.Machine

/-! ### What an accepted frame leaves -/

theorem natOf_lt (x : Int) (n : Nat) : natOf x n < 2 ^ n := by
  have h := Int.emod_lt_of_pos x (show (0 : Int) < (2 ^ n : Nat) by exact_mod_cast Nat.two_pow_pos n)
  unfold natOf
  omega

section Accept
variable {s : State} {p k : Nat} {f : Hpp} {stamp : Int}
variable (hp : p < 18) (ha : s.unarmed = true) (hk : k < 64) (hacc : Accepted s p k f)
include hp ha hk hacc

/-- The record that accepted the frame, and the others. -/
theorem State.acceptFrame_record (hal : rxAllowed p f.ty = true) (hseq : f.seq < 65536) :
    let u := s.acceptFrame p k f stamp
    (u.node p k).state = 2 ∧ (u.node p k).miss = 0 ∧ (u.node p k).authf = 0 ∧ (u.node p k).lastseq = f.seq ∧
      (u.node p k).rxctr = (if f.auth then f.ctr % 2 ^ 32 else (s.node p k).rxctr) ∧
      natField (u.node p k).w3 0 32 = natOf stamp 32 ∧ ∀ j < 64, j ≠ k → u.node p j = s.node p j := by
  have hh := State.hearNode_hears (f := f) (st := natOf stamp 32) hp ha hk hacc.state
  obtain ⟨-, hnode⟩ := State.acceptFrame_takes (s := s) (k := k) (stamp := stamp) hp hal hh.unarmed
  have hw2 := hh.w2
  have hw3 := hh.w3
  rw [NodeRec.heard, (NodeRec.withCounts_words ..).2.2.1] at hw2
  rw [NodeRec.heard, (NodeRec.withCounts_words ..).2.2.2] at hw3
  obtain ⟨hmiss, hauthf, hlast, hctr⟩ := heardCounts_fields (s.node p k).w2 hseq
  simp only [hnode k hk, NodeRec.miss, NodeRec.authf, NodeRec.lastseq, NodeRec.rxctr, hw2, hw3, hmiss, hauthf, hlast, hctr,
    natField_putNat_same, Nat.mod_eq_of_lt (natOf_lt stamp 32)]
  exact ⟨hh.live, trivial, trivial, trivial, trivial, trivial, fun j hj hne => (hnode j hj).trans (hh.others j hne)⟩

/-- What stays beside the port. -/
theorem State.acceptFrame_only (hal : rxAllowed p f.ty = true) : PortOnly .taking p [portPage p] s (s.acceptFrame p k f stamp) := by
  have hh := State.hearNode_hears (f := f) (st := natOf stamp 32) hp ha hk hacc.state
  exact hh.only.trans (State.acceptFrame_takes (s := s) (k := k) (stamp := stamp) hp hal hh.unarmed).1

/-- The entries of a frame accepted stand in the cache (R257). -/
theorem State.hearNode_cached : Cached p (s.node p k) f ((f.body.length - 6) / f.entrySize) (s.hearNode p k f (natOf stamp 32))
    ((s.hearNode p k f (natOf stamp 32)).cacheEntries p (s.node p k) f (natOf stamp 32)) := by
  have hh := State.hearNode_hears (f := f) (st := natOf stamp 32) hp ha hk hacc.state
  rw [State.cacheEntries_eq]
  exact State.cacheEntries_cached hp hh.unarmed _

theorem State.acceptFrame_word (hty : f.ty = 5 ∨ f.ty = 6) {i : Nat} (hi : i < (f.body.length - 6) / f.entrySize)
    (hch : f.chan i < (s.node p k).nch) (hlast : ∀ j < (f.body.length - 6) / f.entrySize, i < j → f.chan j ≠ f.chan i) :
    (s.acceptFrame p k f stamp).peekWord (portStore p) (2 * (((s.node p k).cbase + f.chan i) % 1024)) =
      BitVec.ofNat 64 (f.entryWord i) := by
  refine State.peekWord_encoded hp ?_
  have hw := (State.hearNode_cached (stamp := stamp) hp ha hk hacc).words i hi hch hlast
  rcases hty with h | h
  · rw [State.acceptFrame_reply h, State.rawWord_creditReply, hw]
  · rw [State.acceptFrame_publish h, State.setPubFrom, State.rawWord_setPort, hw]

/-- A REPLY finds the burst as the frame found it. -/
theorem State.acceptFrame_credit (h : f.ty = 5) :
    (∀ b ∈ (s.port p).burst, ∀ o ∈ b.opened, bytesAt f.body 4 2 = b.number → (o : Int) ≤ stamp → stamp < b.close →
      ((s.acceptFrame p k f stamp).port p).burst = some { b with credited := k :: b.credited }) ∧
    ((s.port p).burst = none → (s.acceptFrame p k f stamp).rd (Reg.segLaterep p) = s.rd (Reg.segLaterep p) + 1) := by
  have hh := State.hearNode_hears (f := f) (st := natOf stamp 32) hp ha hk hacc.state
  have hc := State.hearNode_cached (stamp := stamp) hp ha hk hacc
  have hport := (hc.port p).trans (hh.port p)
  have hlate := (hc.regs (Reg.segLaterep p) (by simp only [Reg.segLaterep, Reg.segChbad]; omega)).trans (hh.regs _)
  rw [State.acceptFrame_reply h]
  refine ⟨fun b hb o ho hno hlo hhi => ?_, fun hb => ?_⟩
  · rw [State.creditReply_credits ((congrArg PortSt.burst hport).trans hb) ho hno hlo hhi]
    simp
  · rw [State.creditReply_late ((congrArg PortSt.burst hport).trans hb), State.bump_eq, State.rd_bumpBy, if_pos rfl, hlate]
    rfl

theorem State.acceptFrame_pubFrom (h : f.ty = 6) : numAt ((s.acceptFrame p k f stamp).port p).pubFrom k = s.time.fab := by
  have htime := (State.hearNode_hears (f := f) (st := natOf stamp 32) hp ha hk hacc.state).only.time
  have hcache := (State.hearNode_cached (stamp := stamp) hp ha hk hacc).takes.1.time
  rw [State.acceptFrame_publish h, State.setPubFrom, State.port_setPort, if_pos rfl, hcache, htime]
  exact Sparse.get_set_same ..

/-- A frame for the mailbox enters it where a slot is free (R266). -/
theorem State.acceptFrame_held (hal : rxAllowed p f.ty = true) (h5 : f.ty ≠ 5) (h6 : f.ty ≠ 6)
    (hfree : ∃ i < 16, ∀ m ∈ (s.port p).mail, m.slot ≠ i) (hb : f.body.length ≤ 128) :
    let u := s.acceptFrame p k f stamp
    ∃ i < 16, (∀ m ∈ (s.port p).mail, m.slot ≠ i) ∧
      (u.port p).mail = (s.port p).mail ++ [⟨if p < 16 then f.plca else k, f.ty, f.body.length, i, f.auth, false⟩] ∧
      u.slotBytes p (mailWord p i) f.body.length = f.body ∧
      u.rb (Reg.hdrIraw (portPage p)) (if p < 16 then 6 else 2) = true := by
  have hh := State.hearNode_hears (f := f) (st := natOf stamp 32) hp ha hk hacc.state
  have hport := hh.port p
  obtain ⟨i, hi⟩ := State.mailSlot_free (s := s.hearNode p k f (natOf stamp 32)) (by rwa [hport])
  obtain ⟨hlt, hfr⟩ := State.mailSlot_some hi
  rw [hport] at hfr
  have hu := State.toMail_enters hp hh.unarmed (if p < 16 then f.plca else k) f.ty f.auth false hi hb
  rw [State.acceptFrame_mail hal h5 h6, show (if isSeg p then f.plca else k) = if p < 16 then f.plca else k by simp [isSeg]]
  refine ⟨i, hlt, hfr, ?_, hu.bytes, hu.raised⟩
  rw [hu.port, hport]

theorem State.acceptFrame_arrived (hal : rxAllowed p f.ty = true) : ((s.acceptFrame p k f stamp).port p).arrived = (s.port p).arrived := by
  have hh := State.hearNode_hears (f := f) (st := natOf stamp 32) hp ha hk hacc.state
  have hc := State.hearNode_cached (stamp := stamp) hp ha hk hacc
  have hport := (hc.port p).trans (hh.port p)
  by_cases h5 : f.ty = 5
  · rw [State.acceptFrame_reply h5, ← hport]
    rcases State.creditReply_or (((s.hearNode p k f (natOf stamp 32)).cacheEntries p (s.node p k) f (natOf stamp 32))) p k f stamp with
      ⟨c, h⟩ | h
    · rw [h]
      simp
    · rw [h, State.port_bump]
  · by_cases h6 : f.ty = 6
    · rw [State.acceptFrame_publish h6, State.setPubFrom, State.port_setPort, if_pos rfl, hport]
    · rw [State.acceptFrame_mail hal h5 h6, State.arrived_toMail hp hh.unarmed, hh.port]

end Accept

/-! ### An ANNOUNCE of an unknown identity (R258) -/

section Stranger
variable {s : State} {n : Fin 16} {f : Hpp} {st : Word}

/-- What entry `k` of the stranger log shows of a frame. -/
structure Logged (n k : Nat) (f : Hpp) (st : Word) (s u : State) : Prop where
  ident : u.rd64 (Reg.segSlidl n k) (Reg.segSlidh n k) = f.src % 2 ^ 64
  info : u.rd (Reg.segSlinfo n k) = w32 (f.plca + f.ty * 256)
  stamp : u.rd (Reg.segSlstamp n k) = st
  next : u.rf (Reg.segSlogwp n) 0 4 = (k + 1) % 16
  others : ∀ a, a < 0x200E0 + 1024 * n → a ≠ Reg.hdrIraw (Page.seg n) → u.rd a = s.rd a
  port : ∀ j, u.port j = s.port j
  takes : Takes n s u

/-- The entry of the log at `k`, and the next one's number. -/
def State.logAt (s : State) (n k : Nat) (f : Hpp) (st : Word) : State :=
  (((s.wr64 (Reg.segSlidl n k) (Reg.segSlidh n k) f.src).wr (Reg.segSlinfo n k) (w32 (f.plca + f.ty * 256))).wr
    (Reg.segSlstamp n k) st).setf (Reg.segSlogwp n) 0 4 (k + 1)

theorem State.logStranger_eq : s.logStranger n f false false st =
    ((s.logAt n (s.rf (Reg.segSlogwp n) 0 4) f st).raise (Page.seg n) 0).event (Page.seg n) 1 := by
  simp [State.logStranger, State.logAt, b2n]

/-- The registers of the log's entry `k`. -/
theorem State.rd_logAt (s : State) (n k : Nat) (f : Hpp) (st : Word) (a : Nat) : (s.logAt n k f st).rd a =
    if a = Reg.segSlogwp n then putField (s.rd (Reg.segSlogwp n)) 0 4 (k + 1)
    else if a = Reg.segSlstamp n k then st
    else if a = Reg.segSlinfo n k then w32 (f.plca + f.ty * 256)
    else if a = Reg.segSlidh n k then hi32 f.src
    else if a = Reg.segSlidl n k then lo32 f.src else s.rd a := by
  have h : ∀ i, Reg.segSlogwp n ≠ Reg.segSlidl n i ∧ Reg.segSlogwp n ≠ Reg.segSlidh n i ∧ Reg.segSlogwp n ≠ Reg.segSlinfo n i ∧
      Reg.segSlogwp n ≠ Reg.segSlstamp n i := fun i => by
    simp only [Reg.segSlogwp, Reg.segSlidl, Reg.segSlidh, Reg.segSlinfo, Reg.segSlstamp]
    omega
  obtain ⟨h1, h2, h3, h4⟩ := h k
  simp only [State.logAt, State.wr64, State.rd_setf, State.rd_wr, if_neg h1, if_neg h2, if_neg h3, if_neg h4]

theorem State.port_logAt (s : State) (n k : Nat) (f : Hpp) (st : Word) (j : Nat) : (s.logAt n k f st).port j = s.port j := by
  simp only [State.port, State.logAt, State.wr64, State.setf, State.wr_ports]

theorem State.logAt_takes {k : Nat} (hk : k < 16) : Takes n s (s.logAt n k f st) := by
  have hn : n.val < 18 := by omega
  have h : Reg.segSlidl n k / 1024 = portPage n ∧ Reg.segSlidh n k / 1024 = portPage n ∧ Reg.segSlinfo n k / 1024 = portPage n ∧
      Reg.segSlstamp n k / 1024 = portPage n ∧ Reg.segSlogwp n / 1024 = portPage n := by
    simp only [portPage_seg, Page.seg, Reg.segSlogwp, Reg.segSlidl, Reg.segSlidh, Reg.segSlinfo, Reg.segSlstamp]
    omega
  obtain ⟨h1, h2, h3, h4, h5⟩ := h
  exact ((((Takes.wr h1 _).trans hn (.wr h2 _)).trans hn (.wr h3 _)).trans hn (.wr h4 _)).trans hn (.wr h5 _)

theorem State.logStranger_logs {k : Nat} (hwp : s.rf (Reg.segSlogwp n) 0 4 = k) :
    Logged n k f st s (s.logStranger n f false false st) := by
  have hk : k < 16 := hwp ▸ field_lt _ _ 4
  have hrd : ∀ a, a ≠ Reg.hdrIraw (Page.seg n) → (s.logStranger n f false false st).rd a =
      (s.logAt n k f st).rd a := fun a ha => by
    rw [State.logStranger_eq, hwp, State.rd_event, State.rd_raise, if_neg ha]
  have hpage := hdrIraw_seg n
  have hport : ∀ j, (s.logStranger n f false false st).port j = s.port j := fun j => by
    rw [State.logStranger_eq, State.port_event, State.port_raise, State.port_logAt]
  have htakes : Takes n s (s.logStranger n f false false st) := by
    have hn : n.val < 18 := by omega
    rw [State.logStranger_eq, hwp, ← portPage_seg]
    exact ((State.logAt_takes hk).trans hn (.raise 0)).trans hn (.event 1)
  generalize s.logStranger n f false false st = u at *
  refine ⟨?_, ?_, ?_, ?_, fun a ha hne => ?_, hport, htakes⟩
  · rw [State.rd64, hrd _ (by simp only [Reg.segSlidl]; omega), hrd _ (by simp only [Reg.segSlidh]; omega), State.rd_logAt,
      State.rd_logAt, ← join64_lo_hi]
    simp (disch := omega) only [Reg.segSlogwp, Reg.segSlidl, Reg.segSlidh, Reg.segSlinfo, Reg.segSlstamp, if_neg, if_true]
  · rw [hrd _ (by simp only [Reg.segSlinfo]; omega), State.rd_logAt]
    simp (disch := omega) only [Reg.segSlogwp, Reg.segSlinfo, Reg.segSlstamp, if_neg, if_true]
  · rw [hrd _ (by simp only [Reg.segSlstamp]; omega), State.rd_logAt]
    simp (disch := omega) only [Reg.segSlogwp, Reg.segSlstamp, if_neg, if_true]
  · rw [State.rf, hrd _ (by simp only [Reg.segSlogwp]; omega), State.rd_logAt, if_pos rfl]
    exact field_putField_same _ _ (by decide)
  · rw [hrd a hne, State.rd_logAt]
    simp (disch := omega) only [Reg.segSlogwp, Reg.segSlidl, Reg.segSlidh, Reg.segSlinfo, Reg.segSlstamp, if_neg]

end Stranger

end Sys2Proof.Machine
end

section
/-! Reception settled: frames counted, those of HPP held for the cycle's end, and what they do there (07 R230-R258). -/

namespace Sys2Proof.Machine

/-! ### A frame at the port (R230, R238, R239, R256, R292) -/

section Receive
variable {s : State} {p : Nat} {f : Frame} {ty : Option Nat}

/-- What becomes of a frame of a class that the port hears. -/
def State.heardAs (s : State) (p : Nat) (f : Frame) : RxClass → State
  | .ptp => s
  | .other => s.onlyIf (isSeg p) (·.bump (Reg.segOther p))
  | .tagged => s.badFrame p
  | .bad => if isSeg p && s.pwr.state != .run then s.bump (Reg.segSlpdrop p) else s.badFrame p
  | .hpp h =>
    if isSeg p && s.pwr.state != .run then s.bump (Reg.segSlpdrop p)
    else s.setPort p { s.port p with
      arrived := (s.port p).arrived ++ [(h, extend f.stamp.toNat s.w0 - s.rf (Reg.ptppRxlat p) 0 16)] }

theorem State.receive_heard (hr : s.receives p = true) (hm : s.macTakes p f.dst.toNat = true)
    (hn : (s.classify p f).named ty = true) :
    s.receive p ty f = if f.ringFull then (s.countRx p).dropFull p else (s.countRx p).heardAs p f (s.classify p f) := by
  simp only [State.receive, hr, hm, hn, Bool.not_true, Bool.or_self, Bool.false_eq_true, if_false]
  cases s.classify p f <;> rfl

theorem State.receive_full (hr : s.receives p = true) (hm : s.macTakes p f.dst.toNat = true)
    (hn : (s.classify p f).named ty = true) (hf : f.ringFull = true) : s.receive p ty f = (s.countRx p).dropFull p := by
  rw [State.receive_heard hr hm hn, if_pos hf]

theorem State.receive_class {c : RxClass} (hr : s.receives p = true) (hm : s.macTakes p f.dst.toNat = true)
    (hc : s.classify p f = c) (hn : c.named ty = true) (hf : f.ringFull = false) :
    s.receive p ty f = (s.countRx p).heardAs p f c := by
  rw [State.receive_heard hr hm (hc ▸ hn), hf, if_neg Bool.false_ne_true, hc]

theorem rxlat_ne_rxfrm (hp : p < 18) : Reg.ptppRxlat p ≠ portReg p (fun n => Reg.segRxfrm n) (fun u => Reg.uplRxfrm u) := by
  simp only [portReg, Reg.ptppRxlat, Reg.segRxfrm, Reg.uplRxfrm]
  split <;> omega

/-- The command of a frame that the port hears, by its HPP type. -/
theorem hppReceive_completes {c : Instr} {h : Hpp} (hp : p < 18) (hx : exec c s = finish (s.receive p (some h.ty) f))
    (hr : s.receives p = true) (hm : s.macTakes p f.dst.toNat = true) (hc : s.classify p f = .hpp h) :
    let count := s.bump (portReg p (fun n => Reg.segRxfrm n) (fun u => Reg.uplRxfrm u))
    (f.ringFull = true →
      Completes c s (fun u => u = count.bump (portReg p (fun n => Reg.segDropbuf n) (fun u => Reg.uplDropbuf u)))) ∧
    (f.ringFull = false → isSeg p = true → s.pwr.state ≠ .run → Completes c s (fun u => u = count.bump (Reg.segSlpdrop p))) ∧
    (f.ringFull = false → isSeg p = false ∨ s.pwr.state = .run →
      Completes c s (fun u =>
        u = count.setPort p { s.port p with
          arrived := (s.port p).arrived ++ [(h, extend f.stamp.toNat s.time.w0 - s.rf (Reg.ptppRxlat p) 0 16)] })) := by
  have hn : (RxClass.hpp h).named (some h.ty) = true := by simp [RxClass.named]
  have hlat : (s.countRx p).rf (Reg.ptppRxlat p) 0 16 = s.rf (Reg.ptppRxlat p) 0 16 := by
    rw [State.rf, State.rf, State.countRx, State.bump_eq, State.rd_bumpBy, if_neg (rxlat_ne_rxfrm hp)]
  refine ⟨fun hf => .of_finish hx (State.receive_full hr hm (hc ▸ hn) hf), fun hf hs hrun => .of_finish hx ?_,
    fun hf hrun => .of_finish hx ?_⟩
  · have hsleep : (isSeg p && (s.countRx p).pwr.state != .run) = true := by
      rw [hs]
      exact bne_iff_ne.mpr hrun
    rw [State.receive_class hr hm hc hn hf]
    exact if_pos hsleep
  · have hwake : (isSeg p && (s.countRx p).pwr.state != .run) = false := by
      rcases hrun with h | h
      · rw [h, Bool.false_and]
      · rw [show (s.countRx p).pwr = s.pwr from rfl, h]
        simp
    rw [State.receive_class hr hm hc hn hf]
    refine (if_neg (by rw [hwake]; exact Bool.false_ne_true)).trans ?_
    rw [hlat]
    rfl

/-- A frame that is no HPP message for the port. -/
theorem frameReceive_completes (p : Fin 18) (hr : s.receives p = true) (hm : s.macTakes p f.dst.toNat = true) :
    let count := s.bump (portReg p (fun n => Reg.segRxfrm n) (fun u => Reg.uplRxfrm u))
    let bad := count.bump (portReg p (fun n => Reg.segBadfrm n) (fun u => Reg.uplBadfrm u))
    (f.ringFull = true → (∀ h, s.classify p f ≠ .hpp h) →
      Completes (.frameReceive p f) s (fun u =>
        u = count.bump (portReg p (fun n => Reg.segDropbuf n) (fun u => Reg.uplDropbuf u)))) ∧
    (f.ringFull = false →
      (s.classify p f = .ptp → Completes (.frameReceive p f) s (fun u => u = count)) ∧
      (s.classify p f = .other →
        Completes (.frameReceive p f) s (fun u => u = if isSeg p then count.bump (Reg.segOther p) else count)) ∧
      (s.classify p f = .tagged → Completes (.frameReceive p f) s (fun u => u = bad)) ∧
      (s.classify p f = .bad →
        Completes (.frameReceive p f) s (fun u =>
          u = if isSeg p && s.pwr.state != .run then count.bump (Reg.segSlpdrop p) else bad))) := by
  have hx : exec (.frameReceive p f) s = finish (s.receive p none f) := rfl
  have hclass : ∀ c : RxClass, f.ringFull = false → s.classify p f = c → c.named none = true →
      s.receive p none f = (s.countRx p).heardAs p f c := fun c hf hc hn => State.receive_class hr hm hc hn hf
  refine ⟨fun hf hno => .of_finish hx (State.receive_full hr hm ?_ hf), fun hf => ⟨fun hc => .of_finish hx (hclass _ hf hc rfl),
    fun hc => .of_finish hx (hclass _ hf hc rfl), fun hc => .of_finish hx (hclass _ hf hc rfl),
    fun hc => .of_finish hx (hclass _ hf hc rfl)⟩⟩
  cases hc : s.classify p f with
  | hpp h => exact absurd hc (hno h)
  | ptp | other | tagged | bad => rfl

end Receive

/-! ### An unknown ANNOUNCE logged (R258) -/

section Announce
variable {s : State} {n : Fin 16} {f : Hpp} {st : Word} {k : Nat}

/-- The frame counted and logged. -/
def State.logAnnounce (s : State) (n : Nat) (f : Hpp) (st : Word) : State :=
  (s.bump (Reg.segStrcnt n)).logStranger n f false false st

theorem State.logAnnounce_logs (hk : s.rf (Reg.segSlogwp n) 0 4 = k) :
    Logged n k f st (s.bump (Reg.segStrcnt n)) (s.logAnnounce n f st) := by
  refine State.logStranger_logs ?_
  rw [← hk, State.rf, State.rf, State.bump_eq, State.rd_bumpBy, if_neg (by simp only [Reg.segSlogwp, Reg.segStrcnt]; omega)]

theorem State.logAnnounce_takes : Takes n s (s.logAnnounce n f st) :=
  (Takes.bump (by simp only [portPage_seg, Reg.segStrcnt, Page.seg]; omega)).trans (by omega) (State.logAnnounce_logs rfl).takes

theorem State.strangerFrame_announce (hty : f.ty = 2) (hst : (s.node n f.plca).state = 0) (hann : s.rb (Reg.segSctl n) 1 = true) :
    s.strangerFrame n f st = (s.logAnnounce n f st).toMail n f.plca f.ty f.body false true := by
  have hctl : (s.logAnnounce n f st).rb (Reg.segSctl n) 1 = true := by
    rw [State.rb, (State.logAnnounce_logs rfl).others _ (by simp only [Reg.segSctl]; omega)
      (by rw [hdrIraw_seg]; simp only [Reg.segSctl]; omega), State.bump_eq, State.rd_bumpBy,
      if_neg (by simp only [Reg.segSctl, Reg.segStrcnt]; omega)]
    exact hann
  rw [State.logAnnounce, State.bump_eq] at hctl ⊢
  simp [State.strangerFrame, isSeg_seg, hst, hty, hctl]

/-- Registers below the log's end are none of the receive mailbox's. -/
theorem State.rd_toMail_log (ha : s.unarmed = true) (plca ty : Nat) (body : List Byte) (auth stranger : Bool) {a : Nat}
    (hlo : 0x20094 + 1024 * n.val ≤ a) (hhi : a < 0x20300 + 1024 * n.val) : (s.toMail n plca ty body auth stranger).rd a = s.rd a := by
  have hpage : Reg.hdrIraw (portPage n) = 0x20010 + 1024 * n.val := by rw [portPage_seg, hdrIraw_seg]
  refine State.rd_toMail (by omega) ha plca ty body auth stranger (by omega) ?_ (fun i _ => ?_) ?_
  · simp only [mbxhdrReg, portReg_seg, Reg.segMbxhdr]
    omega
  · simp only [mbxrxReg, portReg_seg, Reg.segMbxrx]
    omega
  · simp only [portReg_seg, Reg.segMbxsta]
    omega

/-- The log and the mailbox after an unknown ANNOUNCE. -/
theorem State.announce_effect (ha : s.unarmed = true) (hk : s.rf (Reg.segSlogwp n) 0 4 = k) :
    let u := (s.logAnnounce n f st).toMail n f.plca f.ty f.body false true
    u.rd (Reg.segStrcnt n) = s.rd (Reg.segStrcnt n) + 1 ∧
    u.rd64 (Reg.segSlidl n k) (Reg.segSlidh n k) = f.src % 2 ^ 64 ∧ u.rd (Reg.segSlinfo n k) = w32 (f.plca + f.ty * 256) ∧
    u.rd (Reg.segSlstamp n k) = st ∧ u.rf (Reg.segSlogwp n) 0 4 = (k + 1) % 16 := by
  have hk' : k < 16 := hk ▸ field_lt _ _ 4
  have hlog := State.logAnnounce_logs (f := f) (st := st) hk
  have ha' := (State.logAnnounce_takes (s := s) (n := n) (f := f) (st := st)).unarmed (by omega) ha
  have hrd := fun (a : Nat) h1 h2 => State.rd_toMail_log (n := n) (a := a) ha' f.plca f.ty f.body false true h1 h2
  refine ⟨?_, ?_, ?_, ?_, ?_⟩
  · rw [hrd _ (by simp only [Reg.segStrcnt]; omega) (by simp only [Reg.segStrcnt]; omega),
      hlog.others _ (by simp only [Reg.segStrcnt]; omega) (by rw [hdrIraw_seg]; simp only [Reg.segStrcnt]; omega),
      State.bump_eq, State.rd_bumpBy, if_pos rfl]
    rfl
  · rw [State.rd64, hrd _ (by simp only [Reg.segSlidl]; omega) (by simp only [Reg.segSlidl]; omega),
      hrd _ (by simp only [Reg.segSlidh]; omega) (by simp only [Reg.segSlidh]; omega)]
    exact hlog.ident
  · rw [hrd _ (by simp only [Reg.segSlinfo]; omega) (by simp only [Reg.segSlinfo]; omega)]
    exact hlog.info
  · rw [hrd _ (by simp only [Reg.segSlstamp]; omega) (by simp only [Reg.segSlstamp]; omega)]
    exact hlog.stamp
  · rw [State.rf, hrd _ (by simp only [Reg.segSlogwp]; omega) (by simp only [Reg.segSlogwp]; omega)]
    exact hlog.next

/-- It enters the mailbox where a slot is free. -/
theorem State.announce_mail (ha : s.unarmed = true) (hfree : ∃ i < 16, ∀ m ∈ (s.port n).mail, m.slot ≠ i)
    (hb : f.body.length ≤ 128) :
    ∃ i < 16, (∀ m ∈ (s.port n).mail, m.slot ≠ i) ∧
      (((s.logAnnounce n f st).toMail n f.plca f.ty f.body false true).port n).mail =
        (s.port n).mail ++ [⟨f.plca, f.ty, f.body.length, i, false, true⟩] := by
  have hport : (s.logAnnounce n f st).port n = s.port n := (State.logAnnounce_logs rfl).port n
  have ha' := (State.logAnnounce_takes (s := s) (n := n) (f := f) (st := st)).unarmed (by omega) ha
  obtain ⟨i, hi⟩ := State.mailSlot_free (s := s.logAnnounce n f st) (by rwa [hport])
  obtain ⟨hlt, hfr⟩ := State.mailSlot_some hi
  rw [hport] at hfr
  have hu := State.toMail_enters (show n.val < 18 by omega) ha' f.plca f.ty false true hi hb
  refine ⟨i, hlt, hfr, ?_⟩
  rw [hu.port, hport]

theorem State.announce_only (ha : s.unarmed = true) : PortOnly .taking n [Page.seg n] s
    ((s.logAnnounce n f st).toMail n f.plca f.ty f.body false true) := by
  have hn : n.val < 18 := by omega
  rw [← portPage_seg]
  exact (State.logAnnounce_takes.trans hn (State.toMail_takes hn _ _ _ _ _) ha).1

/-- The PLCA ID and the type in SLINFO. -/
theorem field_slinfo {plca ty : Nat} (hp : plca < 64) (ht : ty < 16) : field (w32 (plca + ty * 256)) 0 14 = plca + ty * 256 := by
  have h : (w32 (plca + ty * 256)).toNat = plca + ty * 256 := Nat.mod_eq_of_lt (by omega)
  rw [field, h, natField_mod]
  omega

end Announce

/-! ### The frames of a FAB cycle taken -/

section Taken
variable {s : State}

theorem PortOnly.rest_taking {p : Nat} {ps : List Nat} {u : State} (h : PortOnly .taking p ps s u) :
    u = { s with regs := u.regs, w1set := u.w1set, words := u.words, ports := u.ports, evq := u.evq } := h.rest

/-- The port before the frames that wait at it are taken. -/
def State.clearArrived (s : State) (p : Nat) : State := s.setPort p { s.port p with arrived := [] }

theorem State.clearArrived_only (s : State) (p : Nat) {e : Touch} {ps : List Nat} : PortOnly e p ps s (s.clearArrived p) := .setPort _

theorem State.port_clearArrived (s : State) (p : Nat) : (s.clearArrived p).port p = { s.port p with arrived := [] } := by
  simp [State.clearArrived]

theorem State.node_clearArrived (s : State) (p k : Nat) : (s.clearArrived p).node p k = s.node p k := State.node_setPort ..

/-- A frame accepted is taken as such. -/
theorem State.takeFrames_accepts {p k : Nat} {h : Hpp} {stamp : Int} (harr : (s.port p).arrived = [(h, stamp)])
    (hacc : s.accepts p k h = true) :
    Accepted (s.clearArrived p) p k h ∧ s.takeFrames p = (s.clearArrived p).acceptFrame p k h stamp := by
  have hacc' : Accepted (s.clearArrived p) p k h := (State.accepts_accepted hacc).setPort rfl
  exact ⟨hacc', (State.takeFrames_one harr).trans hacc'.hppFrame⟩

/-- An ANNOUNCE of an identity that no record holds, at a free PLCA ID. -/
theorem State.takeFrames_announce {n : Fin 16} {h : Hpp} {stamp : Int} (harr : (s.port n).arrived = [(h, stamp)]) (hty : h.ty = 2)
    (hno : s.findNode n h.src = none) (hst : (s.node n h.plca).state = 0) (hann : s.rb (Reg.segSctl n) 1 = true) :
    s.takeFrames n =
      ((s.clearArrived n).logAnnounce n h (w32 (natOf stamp 32))).toMail n h.plca h.ty h.body false true := by
  have hno' : (s.clearArrived n).findNode n h.src = none := (State.findNode_setPort ..).trans hno
  have hst' : ((s.clearArrived n).node n h.plca).state = 0 := by rwa [State.node_clearArrived]
  rw [State.takeFrames_one harr]
  change (s.clearArrived n).hppFrame n h stamp = _
  simp only [State.hppFrame, hno']
  exact State.strangerFrame_announce hty hst' hann

end Taken

end Sys2Proof.Machine
end

section
/-! The frames of a FAB cycle settled (07 R256-R258). -/

namespace Sys2Proof.Machine

/-- Settles O16: a frame by its class; one accepted by its record, its cache entries, its credit and its mail; an unknown ANNOUNCE by
its log. -/
theorem reception : Obligations.Reception := by
  unfold Obligations.Reception
  intro s
  refine ⟨fun p f hr hm => frameReceive_completes p hr hm, fun n p v f h c hc hr hm hcl hty => ?_,
    fun q k h stamp harr hal hseq hacc ha => ?_, fun n h stamp harr hty hplca hno hst hann ha => ?_⟩
  · have hn : n.val < 18 := by omega
    simp only [List.mem_cons, List.not_mem_nil, or_false] at hc
    rcases hc with rfl | rfl | rfl | rfl | rfl | rfl
    · exact hppReceive_completes hn (by rw [hty]; rfl) hr hm hcl
    · exact hppReceive_completes hn (by rw [hty]; rfl) hr hm hcl
    · exact hppReceive_completes p.isLt (by rw [hty]; rfl) hr hm hcl
    · exact hppReceive_completes p.isLt (by rw [hty]; rfl) hr hm hcl
    · exact hppReceive_completes p.isLt (by rw [hty]; rfl) hr hm hcl
    · exact hppReceive_completes (show 16 + v.val < 18 by omega) (by rw [hty]; rfl) hr hm hcl
  · obtain ⟨hacc', htake⟩ := State.takeFrames_accepts harr hacc
    have ha' : (s.clearArrived q).unarmed = true := ha
    have hp := q.isLt
    have hk := k.isLt
    have hport := State.port_clearArrived s q
    obtain ⟨hlive, hmiss, hauthf, hlast, hctr, hstamp, hothers⟩ :=
      State.acceptFrame_record (stamp := stamp) hp ha' hk hacc' hal hseq
    have honly := (s.clearArrived_only q).trans
      (State.acceptFrame_only (stamp := stamp) hp ha' hk hacc' hal)
    have harrived := State.acceptFrame_arrived (stamp := stamp) hp ha' hk hacc' hal
    have hword := fun hty i hi => State.acceptFrame_word (stamp := stamp) hp ha' hk hacc' hty (i := i) hi
    have hcredit := State.acceptFrame_credit (stamp := stamp) hp ha' hk hacc'
    have hpub := State.acceptFrame_pubFrom (stamp := stamp) hp ha' hk hacc'
    have hheld := State.acceptFrame_held (stamp := stamp) hp ha' hk hacc' hal
    simp only [State.node_clearArrived, hport] at hctr hothers hword hcredit hheld harrived
    rw [htake]
    generalize (s.clearArrived q).acceptFrame q k h stamp = u at *
    refine ⟨hlive, hmiss, hauthf, hlast, hctr, hstamp, hothers, fun hty i hi hch hdist => ?_, hcredit, hpub,
      fun h5 h6 hfree hb => ?_, harrived, honly.port, honly.regs, honly.stores rfl, honly.rest_taking⟩
    · obtain ⟨hlt, hval, hqual⟩ := Hpp.entryWord_fields hseq i
      have hd := congrArg BitVec.toNat (hword hty i hi hch hdist)
      rw [BitVec.toNat_ofNat, Nat.mod_eq_of_lt hlt] at hd
      exact ⟨(congrArg (natField · 32 32) hd).trans hval, (congrArg (natField · 24 8) hd).trans hqual⟩
    · exact hheld h5 h6 hfree hb
  · have ha' : (s.clearArrived n).unarmed = true := ha
    have hport := State.port_clearArrived s n
    have hstore : portStore n = Store.segment n := if_pos n.isLt
    obtain ⟨hcnt, hident, hinfo, hstamp, hnext⟩ := State.announce_effect (f := h) (st := w32 (natOf stamp 32)) ha'
      (show (s.clearArrived n).rf (Reg.segSlogwp n) 0 4 = s.rf (Reg.segSlogwp n) 0 4 from rfl)
    have honly := (s.clearArrived_only n).trans (State.announce_only (f := h) (st := w32 (natOf stamp 32)) ha')
    have hmail := State.announce_mail (n := n) (f := h) (st := w32 (natOf stamp 32)) ha'
    have hstores := honly.stores rfl
    rw [hport] at hmail
    rw [hstore] at hstores
    rw [hty] at hcnt hident hinfo hstamp hnext honly hmail hstores
    rw [State.takeFrames_announce harr hty hno hst hann, hty]
    refine ⟨hcnt, hident, ?_, hstamp, hnext, hmail, honly.port, honly.regs, hstores, honly.rest_taking⟩
    rw [State.rf, hinfo]
    exact field_slinfo hplca (by decide)

end Sys2Proof.Machine
end
